-- ==== Sys2Proof/Word.lean ====
section
/-! DEFINITION. The word types of the model and their plainest arithmetic. Registers, instruction words, lines of data
and stored bytes are bit vectors; addresses, indices, counts, times and amounts are natural numbers. -/

namespace Sys2Proof

/-- A byte. -/
abbrev Byte := BitVec 8

/-- A 32-bit word of a Walni core (R433). -/
abbrev Word := BitVec 32

/-- A 64 B host line, byte i in bits 8i+7..8i (R9). -/
abbrev Line := BitVec 512

/-- The byte mask of a line: bit i covers byte i. -/
abbrev LineMask := BitVec 64

/-- Saturating addition below `cap`. -/
def satAdd (cap a n : Nat) : Nat := min cap (a + n)

/-- Division rounded up. -/
def ceilDiv (a b : Nat) : Nat := (a + b - 1) / b

/-- The value brought into `lo..hi` at the nearer limit. -/
def clampTo (lo hi v : Nat) : Nat := max lo (min hi v)

end Sys2Proof
end

