-- ==== Sys2Proof/Machine/Args.lean ====
section
/-! DEFINITION. The operand types of the commands: what a measurement, an upset or a read outcome says. -/

namespace Sys2Proof.Machine

/-- The parts of R2, in the codes of DEV_ID.PART (R7). -/
inductive Part where
  | px | pm | ex
  deriving DecidableEq, Repr

def Part.code : Part → Nat
  | .px => 1 | .pm => 2 | .ex => 3

/-- One ADC conversion of a bank (R297, R365): voltage in mV, current in 10 mA (16-bit two's complement), self-check. -/
structure Adc where
  mv : Nat
  cur : Nat
  ok : Bool
  deriving DecidableEq, Repr

/-- Which Walni context executes (R434): core 0 to 7 are the Walni-P cores, core 8 is the Walni-M; and whether its fetch
corrected a memory error (R436). -/
structure Ex where
  core : Nat
  ctx : Nat
  fixed : Bool
  deriving DecidableEq, Repr

/-- How a word of a core's data RAM decodes (R436). -/
inductive Ecc where
  | ok | corrected | uncorrectable
  deriving DecidableEq, Repr

/-- A parity upset met by a lookup: none, the TSC entry of the set (R131), snoop-filter PAR_A or PAR_S (R210), directory
PAR_P or PAR_A (R252). -/
inductive Upset where
  | none | tsc | sfA | sfS | dirP | dirA
  deriving DecidableEq, Repr

/-- What a read of a stored burst finds changed: symbols by number (R407), each with what its value is XORed with. -/
abbrev Flips := List (Nat × Nat)

/-- A burst as the array returns it: the flips in the copy of the channel, or of CH(2p) of a pair, and in that of CH(2p+1). -/
structure BurstErr where
  a : Flips
  b : Flips
  deriving DecidableEq, Repr

/-- The four bursts of a way, by line, as the array returns them where they are read. -/
structure Rd where
  bursts : List BurstErr
  deriving DecidableEq, Repr

/-- What a DRAM response carries back of its tracker entry (R188): the index and the generation. -/
structure Echo where
  id : Nat
  gen : Nat
  deriving DecidableEq, Repr

/-- The session trailer of a mailbox command (R558): session, SEQ, enclave, and whether its MAC and reserved bytes are
right. -/
structure Trailer where
  session : Nat
  seq : Nat
  encl : Nat
  macOk : Bool
  deriving DecidableEq, Repr

/-- What a label says (R68): device serial number and device ID, media-set identifier, namespace index, N, J in GiB, HL, layout
version. -/
structure Label where
  serial : Nat
  dev : Nat
  mset : Nat
  idx : Nat
  n : Nat
  jgib : Nat
  hl : Nat
  ver : Nat
  deriving DecidableEq, Repr

/-- A namespace found behind a media port, as Identify shows it and its controller (R67, R71, R317, R679): its number of blocks, their
size in bytes, whether protection information is enabled; the NVM command set, I/O queue pairs, MQES, MDTS in KiB, support of
Deallocate; and its two label copies, at LBA 0 and LBA 128, none for one that is not valid. -/
structure FoundNs where
  blocks : Nat
  lba : Nat
  pi : Bool
  nvm : Bool
  qps : Nat
  mqes : Nat
  mdts : Nat
  dsm : Bool
  a : Option Label
  b : Option Label
  deriving DecidableEq, Repr

/-- The requirements of R67 and R317, as far as a drive shows them. -/
def FoundNs.ok (n : FoundNs) : Bool :=
  n.nvm && n.lba == 4096 && !n.pi && decide (8 ≤ n.qps) && decide (1023 ≤ n.mqes) && decide (256 ≤ n.mdts)

/-- The label of a namespace: the first of its copies that is valid. -/
def FoundNs.label (n : FoundNs) : Option Label := n.a <|> n.b

/-- A byte of a copy of a slot that is no longer what was written (R601). -/
structure NvHit where
  bank : Nat
  slot : Nat
  copyB : Bool
  byte : Nat
  val : Byte
  deriving DecidableEq, Repr

/-- What a start-up meets outside the core (R62, R345, R400, R406, R601, R602, R621): unreadable MCF slots; the DIMM set, its ranks
per subchannel as ρ, populated channels with the capacity of each in GiB, whether the set obeys R399 and R400, its data rate in
MT/s; whether self-refresh exit and the check after it, or the test of a restored training, succeed; channels that fail full
training; bytes of the NVM banks that have changed, and whether the training record or the device record cannot be resolved;
how many of the newest checkpoint series are unusable, benign divergences between checkpoint copies, and the time of a replay
in ms. -/
structure BootFacts where
  errA : Bool
  errB : Bool
  dimms : List Nat
  rho : Nat
  chans : List Nat
  capGib : List Nat
  dimmsOk : Bool
  rate : Nat
  srOk : Bool
  testOk : Bool
  failed : List Nat
  nvHits : List NvHit
  trainBad : Bool
  devBad : Bool
  skip : Nat
  benign : Nat
  ms : Nat
  deriving DecidableEq, Repr

/-- Why a sideband transaction is discarded (R595): a bad PEC, or an unknown command byte or wrong length. -/
inductive I3cBad where
  | pec | proto
  deriving DecidableEq, Repr

/-- The outcome of an NVMe command: done, failed, or reported as aborted (R318). -/
inductive MOut where
  | ok | err | aborted
  deriving DecidableEq, Repr

end Sys2Proof.Machine
end

