-- ==== Sys2Proof/Machine/Counters.lean ====
section
/-! DEFINITION. The event counters by index, 48 × block + position (R643, R162, R199, R237, R287, R313, R358, R432,
R475, R502, R537). -/

namespace Sys2Proof.Machine

abbrev Ctr.MGT_NONOWNER_WR : Nat := 0
abbrev Ctr.MGT_OWNER_CHANGE : Nat := 1
abbrev Ctr.MGT_CLAIM_REFUSED : Nat := 2
abbrev Ctr.NV_STORE : Nat := 3
abbrev Ctr.NV_RECORD : Nat := 4
abbrev Ctr.NV_SINTER : Nat := 5
abbrev Ctr.I3C_XACT : Nat := 6
abbrev Ctr.CTR_TICK : Nat := 48
abbrev Ctr.CTR_TICK_RECOMPUTE : Nat := 49
abbrev Ctr.SEC_VIOL : Nat := 96
abbrev Ctr.SEC_SPDM_SESSION : Nat := 97
abbrev Ctr.SEC_AUTH_FAIL : Nat := 98
abbrev Ctr.SEC_RNG_FAIL : Nat := 99
abbrev Ctr.SEC_ATTR_FAULT : Nat := 100
abbrev Ctr.EVT_RAISED_CRIT : Nat := 144
abbrev Ctr.EVT_RAISED_ERR : Nat := 145
abbrev Ctr.EVT_RAISED_WARN : Nat := 146
abbrev Ctr.EVT_RAISED_INFO : Nat := 147
abbrev Ctr.EVT_DISPLACED : Nat := 148
abbrev Ctr.EVT_DROP : Nat := 149
abbrev Ctr.EVT_COALESCE : Nat := 150
abbrev Ctr.EVT_MSIX_SENT : Nat := 151
abbrev Ctr.EVT_SAMPLE_REC : Nat := 152
abbrev Ctr.EVT_SAMPLE_LOST : Nat := 153
abbrev Ctr.HPT_REQ_RX : Nat := 192
abbrev Ctr.HPT_RWD_RX : Nat := 193
abbrev Ctr.HPT_CREDIT_STALL : Nat := 194
abbrev Ctr.HPT_LINK_CORR : Nat := 195
abbrev Ctr.HPT_POISON_RX : Nat := 196
abbrev Ctr.HPT_MBOX_CMD : Nat := 197
abbrev Ctr.HPT_FENCE_DONE : Nat := 198
abbrev Ctr.TRK_CONFLICT_WAIT : Nat := 240
abbrev Ctr.TRK_SHARED_RESTART : Nat := 241
abbrev Ctr.TRK_STALE_RSP : Nat := 242
abbrev Ctr.TRK_OFENCE_HOLD : Nat := 243
abbrev Ctr.TAG_LOOKUP : Nat := 288
abbrev Ctr.TAG_TSC_HIT : Nat := 289
abbrev Ctr.TAG_TSC_MISS : Nat := 290
abbrev Ctr.TAG_HIT : Nat := 291
abbrev Ctr.TAG_MISS : Nat := 292
abbrev Ctr.TAG_LINE_MISS : Nat := 293
abbrev Ctr.TAG_WAYPRED_OK : Nat := 294
abbrev Ctr.TAG_WAYPRED_BAD : Nat := 295
abbrev Ctr.TAG_PROBE_ALL : Nat := 296
abbrev Ctr.TAG_SPEC_LAUNCH : Nat := 297
abbrev Ctr.TAG_SPEC_USED : Nat := 298
abbrev Ctr.TAG_SPEC_SQUASH_EARLY : Nat := 299
abbrev Ctr.TAG_SPEC_SQUASH_LATE : Nat := 300
abbrev Ctr.TAG_TSC_FILL : Nat := 301
abbrev Ctr.TAG_HEAT_LOST : Nat := 302
abbrev Ctr.TAG_HEAT_WB_DROP : Nat := 303
abbrev Ctr.TAG_HINT_USED : Nat := 304
abbrev Ctr.TAG_HINT_REJECT : Nat := 305
abbrev Ctr.TAG_VICT_BASELINE : Nat := 306
abbrev Ctr.TAG_VICT_DIRTY : Nat := 307
abbrev Ctr.WBF_WB_COPY : Nat := 336
abbrev Ctr.WBF_WT_COPY : Nat := 337
abbrev Ctr.WBF_EVICT_COPY : Nat := 338
abbrev Ctr.WBF_EVICT_MERGE : Nat := 339
abbrev Ctr.WBF_EVICT_SKIP : Nat := 340
abbrev Ctr.WBF_CLEAN : Nat := 341
abbrev Ctr.WBF_CLEAN_STALE : Nat := 342
abbrev Ctr.WBF_HOT_SKIP : Nat := 343
abbrev Ctr.WBF_NT_ACCEPT : Nat := 344
abbrev Ctr.WBF_NT_MERGE : Nat := 345
abbrev Ctr.WBF_NT_WO_FULL : Nat := 346
abbrev Ctr.WBF_NT_WO_AGE : Nat := 347
abbrev Ctr.WBF_NT_WO_HOLD : Nat := 348
abbrev Ctr.WBF_NT_WO_CAP : Nat := 349
abbrev Ctr.WBF_NT_WO_CONFLICT : Nat := 350
abbrev Ctr.WBF_NT_WO_FENCE : Nat := 351
abbrev Ctr.WBF_NT_PARTIAL_READ : Nat := 352
abbrev Ctr.WBF_ZALLOC_SECT : Nat := 353
abbrev Ctr.COH_BISNP_INV : Nat := 384
abbrev Ctr.COH_BISNP_DATA : Nat := 385
abbrev Ctr.COH_BIRSP_I : Nat := 386
abbrev Ctr.COH_BIRSP_S : Nat := 387
abbrev Ctr.COH_BISNP_STALE : Nat := 388
abbrev Ctr.COH_SNOOP_WB : Nat := 389
abbrev Ctr.COH_BICONFLICT : Nat := 390
abbrev Ctr.COH_SF_ALLOC : Nat := 391
abbrev Ctr.COH_SF_FREE : Nat := 392
abbrev Ctr.COH_SF_EVICT : Nat := 393
abbrev Ctr.COH_SF_WALK_SNOOP : Nat := 394
abbrev Ctr.COH_BUSY_WAIT : Nat := 395
abbrev Ctr.FX_RD_S : Nat := 396
abbrev Ctr.FX_RD_O : Nat := 397
abbrev Ctr.FX_RD_ONA : Nat := 398
abbrev Ctr.FX_RD_NA : Nat := 399
abbrev Ctr.FX_WR_NA : Nat := 400
abbrev Ctr.FX_ATOM : Nat := 401
abbrev Ctr.FX_REQ_SENT : Nat := 402
abbrev Ctr.FX_SNP_SENT : Nat := 403
abbrev Ctr.FX_SNP_BCAST : Nat := 404
abbrev Ctr.FX_SNP_STALE : Nat := 405
abbrev Ctr.FX_FWD_NEAREST : Nat := 406
abbrev Ctr.FX_FWD_OWNER : Nat := 407
abbrev Ctr.FX_HOME_SUPPLY : Nat := 408
abbrev Ctr.FX_HOLD : Nat := 409
abbrev Ctr.FX_REFWD : Nat := 410
abbrev Ctr.FX_WB_RX : Nat := 411
abbrev Ctr.FX_WB_KEEP_RX : Nat := 412
abbrev Ctr.FX_SNPDATA_RX : Nat := 413
abbrev Ctr.FX_REISSUE : Nat := 414
abbrev Ctr.FX_DEDUP : Nat := 415
abbrev Ctr.FX_STALE_DROP : Nat := 416
abbrev Ctr.FX_PEND_SENT : Nat := 417
abbrev Ctr.DIR_ALLOC : Nat := 418
abbrev Ctr.DIR_FREE : Nat := 419
abbrev Ctr.DIR_EVICT : Nat := 420
abbrev Ctr.DIR_OVERFLOW : Nat := 421
abbrev Ctr.FHB_SENT : Nat := 422
abbrev Ctr.FHB_APPLIED : Nat := 423
abbrev Ctr.FHB_REJECTED : Nat := 424
abbrev Ctr.ATM_OP : Nat := 432
abbrev Ctr.ATM_NOCHANGE : Nat := 433
abbrev Ctr.ATM_FILL : Nat := 434
abbrev Ctr.ATM_APPEND_OK : Nat := 435
abbrev Ctr.ATM_APPEND_FULL : Nat := 436
abbrev Ctr.CCH_RD_BURST : Nat := 480
abbrev Ctr.CCH_WR_BURST : Nat := 481
abbrev Ctr.CCH_CORR_SYM : Nat := 482
abbrev Ctr.CCH_CORR_TRIAL : Nat := 483
abbrev Ctr.CCH_CORR_MARKED : Nat := 484
abbrev Ctr.CCH_UNCORR : Nat := 485
abbrev Ctr.CCH_CORR_WB : Nat := 486
abbrev Ctr.CCH_WB_DROP : Nat := 487
abbrev Ctr.CCH_SCRUB_SLOT : Nat := 488
abbrev Ctr.CCH_SCRUB_FIX : Nat := 489
abbrev Ctr.CCH_MIRROR_BENIGN : Nat := 490
abbrev Ctr.CCH_MIRROR_ARB : Nat := 491
abbrev Ctr.CCH_MIRROR_SPLIT : Nat := 492
abbrev Ctr.CCH_REFRESH : Nat := 493
abbrev Ctr.CCH_REF2X_MS : Nat := 494
abbrev Ctr.CCH_FJ2200_REFETCH : Nat := 495
abbrev Ctr.PLC_COMMIT : Nat := 528
abbrev Ctr.PLC_CYCLE_BUSY : Nat := 529
abbrev Ctr.PLC_BR : Nat := 530
abbrev Ctr.PLC_BR_MISPRED : Nat := 531
abbrev Ctr.PLC_PRED_FLUSH_TAG : Nat := 532
abbrev Ctr.PLC_PRED_FLUSH_SW : Nat := 533
abbrev Ctr.PLC_EXC : Nat := 534
abbrev Ctr.PLC_PREEMPT : Nat := 535
abbrev Ctr.PLC_CP_PURE : Nat := 536
abbrev Ctr.PLC_CP_PURE_SQUASH : Nat := 537
abbrev Ctr.PLC_CP3_SENT : Nat := 538
abbrev Ctr.PLC_CP3_SQUASH : Nat := 539
abbrev Ctr.PLC_CP3_REJECT : Nat := 540
abbrev Ctr.PLC_PREFETCH_DROP : Nat := 541
abbrev Ctr.PLC_DECAY_DROP : Nat := 542
abbrev Ctr.PLC_OUTQ_FULL : Nat := 543
abbrev Ctr.HINT_LIVE : Nat := 544
abbrev Ctr.HINT_VOID : Nat := 545
abbrev Ctr.PREFQ_ISSUE : Nat := 546
abbrev Ctr.PREFQ_DISCARD : Nat := 547
abbrev Ctr.SPRING_ENTRY : Nat := 548
abbrev Ctr.SPRING_DROP : Nat := 549
abbrev Ctr.SCHED_ENTRY : Nat := 550
abbrev Ctr.SCHED_DROP : Nat := 551
abbrev Ctr.MED_RD_CMD : Nat := 576
abbrev Ctr.MED_WR_CMD : Nat := 577
abbrev Ctr.MED_RD_RETRY : Nat := 578
abbrev Ctr.MED_ABORT : Nat := 579
abbrev Ctr.MED_CTRL_RESET : Nat := 580
abbrev Ctr.MED_SPEC_CANCEL : Nat := 581
abbrev Ctr.MED_SPEC_DISCARD : Nat := 582
abbrev Ctr.REWARM_FILL : Nat := 583
abbrev Ctr.REWARM_SKIP : Nat := 584
abbrev Ctr.LDG_GRANT_A : Nat := 624
abbrev Ctr.LDG_GRANT_B : Nat := 625
abbrev Ctr.LDG_GRANT_WT : Nat := 626
abbrev Ctr.LDG_WAIT_95 : Nat := 627
abbrev Ctr.LDG_WAIT_WT : Nat := 628
abbrev Ctr.LDG_EVAL : Nat := 629
abbrev Ctr.LDG_EVAL_UNSCHED : Nat := 630
abbrev Ctr.LDG_EVAL_ABANDON : Nat := 631
abbrev Ctr.LDG_TICK_RUNG80 : Nat := 632
abbrev Ctr.LDG_TICK_RUNG95 : Nat := 633
abbrev Ctr.LDG_TICK_OVERDRAWN : Nat := 634
abbrev Ctr.JRNL_PAGE : Nat := 635
abbrev Ctr.JRNL_SUMMARY : Nat := 636
abbrev Ctr.JRNL_REPACK : Nat := 637
abbrev Ctr.JRNL_REC_DATA : Nat := 638
abbrev Ctr.JRNL_REC_ZERO : Nat := 639
abbrev Ctr.JRNL_REC_POISON : Nat := 640
abbrev Ctr.JRNL_REC_FOREIGN : Nat := 641
abbrev Ctr.JRNL_CARRY : Nat := 642
abbrev Ctr.JRNL_IDX_HIT : Nat := 643
abbrev Ctr.JRNL_IDX_MISS : Nat := 644
abbrev Ctr.SINTER_PAGE : Nat := 645
abbrev Ctr.SINTER_STALE_LOC : Nat := 646
abbrev Ctr.JRNL_CKPT : Nat := 647
abbrev Ctr.JRNL_ANCHOR : Nat := 648
abbrev Ctr.JRNL_ROTATE_PAGE : Nat := 649
abbrev Ctr.RSV_FENCE : Nat := 672
abbrev Ctr.RSV_PF_GLITCH : Nat := 673
abbrev Ctr.RSV_ISOLATE : Nat := 674
abbrev Ctr.RSV_CAP_MEAS : Nat := 675
abbrev Ctr.RSV_FENCE_LATE_WR : Nat := 676
abbrev Ctr.SWEEP_SET : Nat := 677
abbrev Ctr.FAB_FLIT_TX : Nat := 720
abbrev Ctr.FAB_FLIT_RX : Nat := 721
abbrev Ctr.FAB_FEC_CORR : Nat := 722
abbrev Ctr.FAB_FEC_UNCORR : Nat := 723
abbrev Ctr.FAB_NAK : Nat := 724
abbrev Ctr.FAB_REPLAY_FLIT : Nat := 725
abbrev Ctr.FAB_DEGRADE : Nat := 726
abbrev Ctr.FAB_LINK_DOWN : Nat := 727
abbrev Ctr.FAB_DATELINE : Nat := 728
abbrev Ctr.FAB_HOP_DROP : Nat := 729
abbrev Ctr.FAB_NOROUTE_DROP : Nat := 730
abbrev Ctr.FAB_HOLD_DROP : Nat := 731
abbrev Ctr.FAB_CREDIT_STALL : Nat := 732
abbrev Ctr.FAB_FMC_RX : Nat := 733
abbrev Ctr.FAB_FMC_DROP : Nat := 734

/-- How many positions of each block are listed; the others read 0 and never count (R643). -/
def ctrCount (blk : Nat) : Nat :=
  [7, 2, 5, 10, 7, 4, 20, 18, 41, 5, 16, 24, 9, 26, 6, 15].getD blk 0

end Sys2Proof.Machine
end

