-- ==== Sys2Proof/Machine/Events.lean ====
section
/-! DEFINITION. The event codes (R18, R19, R642) with their severity and the FORM of their DATA (R631). -/

namespace Sys2Proof.Machine

/-- Severity (R19): the code of STATE.SEV (R630). -/
inductive Sev where
  | critical | error | warning | info
  deriving DecidableEq, Repr

/-- FORM of DATA (R631). -/
inductive Form where
  | none | address | location | count | peer
  deriving DecidableEq, Repr

/-- A code of R642 with its fixed severity and FORM. -/
structure Ev where
  code : Nat
  sev : Sev
  form : Form
  deriving DecidableEq, Repr

/-- `EV_MGT_NONOWNER_WR`. -/
def Ev.mgtNonownerWr : Ev := ⟨0x0001, .warning, .count⟩
/-- `EV_MGT_OWNER_CHANGE`. -/
def Ev.mgtOwnerChange : Ev := ⟨0x0002, .info, .count⟩
/-- `EV_MGT_OWNER_LAPSE`. -/
def Ev.mgtOwnerLapse : Ev := ⟨0x0003, .warning, .none⟩
/-- `EV_MGT_HANDOVER_FAIL`. -/
def Ev.mgtHandoverFail : Ev := ⟨0x0004, .warning, .none⟩
/-- `EV_MGT_CLAIM_REFUSED`. -/
def Ev.mgtClaimRefused : Ev := ⟨0x0005, .info, .none⟩
/-- `EV_MGT_RSV_WR`. -/
def Ev.mgtRsvWr : Ev := ⟨0x0006, .info, .count⟩
/-- `EV_PAGE_ALERT`. -/
def Ev.pageAlert : Ev := ⟨0x0007, .info, .none⟩
/-- `EV_NV_STORED`. -/
def Ev.nvStored : Ev := ⟨0x0010, .info, .none⟩
/-- `EV_NV_SINTER`. -/
def Ev.nvSinter : Ev := ⟨0x0011, .info, .none⟩
/-- `EV_NV_BENIGN`. -/
def Ev.nvBenign : Ev := ⟨0x0012, .info, .none⟩
/-- `EV_NV_SPLIT`. -/
def Ev.nvSplit : Ev := ⟨0x0013, .error, .none⟩
/-- `EV_NV_LOST`. -/
def Ev.nvLost : Ev := ⟨0x0014, .critical, .none⟩
/-- `EV_NV_FACTORY`. -/
def Ev.nvFactory : Ev := ⟨0x0015, .warning, .none⟩
/-- `EV_I3C_ERR`. -/
def Ev.i3cErr : Ev := ⟨0x0020, .warning, .none⟩
/-- `EV_BOOT_RECOVERY`. -/
def Ev.bootRecovery : Ev := ⟨0x0030, .critical, .none⟩
/-- `EV_FW_ACTIVATED`. -/
def Ev.fwActivated : Ev := ⟨0x0031, .info, .none⟩
/-- `EV_FW_ACTIVATE_FAIL`. -/
def Ev.fwActivateFail : Ev := ⟨0x0032, .error, .none⟩
/-- `EV_BOOT_WATCHDOG`. -/
def Ev.bootWatchdog : Ev := ⟨0x0033, .error, .none⟩
/-- `EV_MCF_SLOT_REJECTED`. -/
def Ev.mcfSlotRejected : Ev := ⟨0x0034, .warning, .count⟩
/-- `EV_RESET_DONE`. -/
def Ev.resetDone : Ev := ⟨0x0035, .info, .count⟩
/-- `EV_ENCLAVE_VIOLATION`. -/
def Ev.enclaveViolation : Ev := ⟨0x2001, .error, .address⟩
/-- `EV_RNG_HEALTH`. -/
def Ev.rngHealth : Ev := ⟨0x2002, .critical, .none⟩
/-- `EV_RNG_READY`. -/
def Ev.rngReady : Ev := ⟨0x2003, .info, .none⟩
/-- `EV_TAMPER_QUENCH`. -/
def Ev.tamperQuench : Ev := ⟨0x2004, .critical, .count⟩
/-- `EV_TAMPER_DRAIN_LOST`. -/
def Ev.tamperDrainLost : Ev := ⟨0x2005, .critical, .count⟩
/-- `EV_TAMPER_LOCK`. -/
def Ev.tamperLock : Ev := ⟨0x2006, .warning, .count⟩
/-- `EV_ESCROW_UNLOCK`. -/
def Ev.escrowUnlock : Ev := ⟨0x2007, .info, .none⟩
/-- `EV_ESCROW_MISMATCH`. -/
def Ev.escrowMismatch : Ev := ⟨0x2008, .error, .none⟩
/-- `EV_SEC_ATTR_FAULT`. -/
def Ev.secAttrFault : Ev := ⟨0x200A, .error, .none⟩
/-- `EV_SPDM_AUTH_FAIL`. -/
def Ev.spdmAuthFail : Ev := ⟨0x200B, .warning, .none⟩
/-- `EV_ENCLAVE_CHANGE`. -/
def Ev.enclaveChange : Ev := ⟨0x200D, .info, .none⟩
/-- `EV_ASSIGN_REFUSED`. -/
def Ev.assignRefused : Ev := ⟨0x200E, .warning, .none⟩
/-- `EV_EVT_LOSS`. -/
def Ev.evtLoss : Ev := ⟨0x3001, .warning, .count⟩
/-- `EV_CNT_OVF`. -/
def Ev.cntOvf : Ev := ⟨0x3002, .info, .count⟩
/-- `EV_SAMPLE_FULL`. -/
def Ev.sampleFull : Ev := ⟨0x3003, .warning, .none⟩
/-- `EV_HP_LINK_DOWN`. -/
def Ev.hpLinkDown : Ev := ⟨0x4001, .error, .none⟩
/-- `EV_HP_LINK_DEGRADED`. -/
def Ev.hpLinkDegraded : Ev := ⟨0x4002, .warning, .none⟩
/-- `EV_HP_LINK_CORR`. -/
def Ev.hpLinkCorr : Ev := ⟨0x4003, .info, .none⟩
/-- `EV_HP_IDE_FAIL`. -/
def Ev.hpIdeFail : Ev := ⟨0x4004, .error, .none⟩
/-- `EV_HP_POISON_RX`. -/
def Ev.hpPoisonRx : Ev := ⟨0x4005, .warning, .address⟩
/-- `EV_HP_BAR4_UR`. -/
def Ev.hpBar4Ur : Ev := ⟨0x4007, .warning, .address⟩
/-- `EV_HP_FENCE_OVF`. -/
def Ev.hpFenceOvf : Ev := ⟨0x4008, .warning, .none⟩
/-- `EV_TRK_SHED`. -/
def Ev.trkShed : Ev := ⟨0x5001, .info, .count⟩
/-- `EV_TRK_STALE_RSP`. -/
def Ev.trkStaleRsp : Ev := ⟨0x5002, .info, .count⟩
/-- `EV_TSC_PARITY`. -/
def Ev.tscParity : Ev := ⟨0x6001, .info, .location⟩
/-- `EV_TAG_META_LOST`. -/
def Ev.tagMetaLost : Ev := ⟨0x6002, .critical, .location⟩
/-- `EV_TAG_META_MISMATCH`. -/
def Ev.tagMetaMismatch : Ev := ⟨0x6003, .error, .location⟩
/-- `EV_SPEC_MEDIA_ERR`. -/
def Ev.specMediaErr : Ev := ⟨0x6004, .info, .none⟩
/-- `EV_VICTIM_STALL`. -/
def Ev.victimStall : Ev := ⟨0x6005, .warning, .none⟩
/-- `EV_CACHE_GEOMETRY`. -/
def Ev.cacheGeometry : Ev := ⟨0x6010, .critical, .none⟩
/-- `EV_WBF_FULL`. -/
def Ev.wbfFull : Ev := ⟨0x7001, .info, .none⟩
/-- `EV_NT_FULL`. -/
def Ev.ntFull : Ev := ⟨0x7002, .info, .none⟩
/-- `EV_WB_POISON_COPY`. -/
def Ev.wbPoisonCopy : Ev := ⟨0x7003, .error, .address⟩
/-- `EV_WB_STAGE_STALL`. -/
def Ev.wbStageStall : Ev := ⟨0x7004, .warning, .none⟩
/-- `EV_COH_BISNP_TIMEOUT`. -/
def Ev.cohBisnpTimeout : Ev := ⟨0x8001, .error, .address⟩
/-- `EV_COH_BIRSP_ILLEGAL`. -/
def Ev.cohBirspIllegal : Ev := ⟨0x8002, .error, .address⟩
/-- `EV_COH_SF_PARITY`. -/
def Ev.cohSfParity : Ev := ⟨0x8003, .warning, .location⟩
/-- `EV_COH_SF_SUSPECT`. -/
def Ev.cohSfSuspect : Ev := ⟨0x8004, .warning, .location⟩
/-- `EV_COH_SF_STALL`. -/
def Ev.cohSfStall : Ev := ⟨0x8005, .warning, .none⟩
/-- `EV_HOME_UNMAPPED`. -/
def Ev.homeUnmapped : Ev := ⟨0x8020, .error, .address⟩
/-- `EV_HOME_UNBACKED`. -/
def Ev.homeUnbacked : Ev := ⟨0x8021, .error, .address⟩
/-- `EV_FX_TIMEOUT`. -/
def Ev.fxTimeout : Ev := ⟨0x8040, .warning, .peer⟩
/-- `EV_FX_FAIL`. -/
def Ev.fxFail : Ev := ⟨0x8041, .error, .peer⟩
/-- `EV_FX_HOLDER_LOST`. -/
def Ev.fxHolderLost : Ev := ⟨0x8042, .critical, .peer⟩
/-- `EV_DIR_PARITY`. -/
def Ev.dirParity : Ev := ⟨0x8043, .warning, .location⟩
/-- `EV_DIR_SUSPECT`. -/
def Ev.dirSuspect : Ev := ⟨0x8044, .warning, .location⟩
/-- `EV_DIR_STALL`. -/
def Ev.dirStall : Ev := ⟨0x8045, .warning, .none⟩
/-- `EV_FHB_WAIT`. -/
def Ev.fhbWait : Ev := ⟨0x8046, .warning, .none⟩
/-- `EV_FHB_FORCED`. -/
def Ev.fhbForced : Ev := ⟨0x8047, .error, .none⟩
/-- `EV_FHB_LOST`. -/
def Ev.fhbLost : Ev := ⟨0x8048, .critical, .peer⟩
/-- `EV_FX_STALE`. -/
def Ev.fxStale : Ev := ⟨0x8049, .info, .peer⟩
/-- `EV_PEER_RESTART`. -/
def Ev.peerRestart : Ev := ⟨0x804A, .info, .peer⟩
/-- `EV_ATM_POISON`. -/
def Ev.atmPoison : Ev := ⟨0x9001, .warning, .address⟩
/-- `EV_ATM_APPEND_REJECT`. -/
def Ev.atmAppendReject : Ev := ⟨0x9002, .info, .address⟩
/-- `EV_CCH_CORR`. -/
def Ev.cchCorr : Ev := ⟨0xA001, .info, .location⟩
/-- `EV_CCH_DEV_MARKED`. -/
def Ev.cchDevMarked : Ev := ⟨0xA002, .error, .count⟩
/-- `EV_CCH_UNCORR`. -/
def Ev.cchUncorr : Ev := ⟨0xA003, .error, .location⟩
/-- `EV_MIRROR_BENIGN`. -/
def Ev.mirrorBenign : Ev := ⟨0xA004, .info, .none⟩
/-- `EV_MIRROR_ARBITRATED`. -/
def Ev.mirrorArbitrated : Ev := ⟨0xA005, .warning, .location⟩
/-- `EV_MIRROR_SPLIT`. -/
def Ev.mirrorSplit : Ev := ⟨0xA006, .critical, .location⟩
/-- `EV_MIRROR_FAILOVER`. -/
def Ev.mirrorFailover : Ev := ⟨0xA007, .error, .none⟩
/-- `EV_DIRTY_PARITY_FATAL`. -/
def Ev.dirtyParityFatal : Ev := ⟨0xA008, .critical, .location⟩
/-- `EV_FJ2200_REFETCH`. -/
def Ev.fj2200Refetch : Ev := ⟨0xA009, .info, .location⟩
/-- `EV_CCH_TRAIN_FULL`. -/
def Ev.cchTrainFull : Ev := ⟨0xA00A, .warning, .none⟩
/-- `EV_CCH_TRAIN_FAIL`. -/
def Ev.cchTrainFail : Ev := ⟨0xA00B, .critical, .none⟩
/-- `EV_CCH_DIMM_UNSUPPORTED`. -/
def Ev.cchDimmUnsupported : Ev := ⟨0xA00C, .critical, .none⟩
/-- `EV_CCH_RESILVER_DONE`. -/
def Ev.cchResilverDone : Ev := ⟨0xA00D, .info, .none⟩
/-- `EV_CCH_THERMAL`. -/
def Ev.cchThermal : Ev := ⟨0xA00E, .warning, .none⟩
/-- `EV_CCH_CHANNEL_FAILED`. -/
def Ev.cchChannelFailed : Ev := ⟨0xA00F, .critical, .none⟩
/-- `EV_PCF_REJECTED`. -/
def Ev.pcfRejected : Ev := ⟨0xB001, .warning, .count⟩
/-- `EV_PCF_PROVISIONAL`. -/
def Ev.pcfProvisional : Ev := ⟨0xB002, .warning, .none⟩
/-- `EV_PCF_CAP_LIMITED`. -/
def Ev.pcfCapLimited : Ev := ⟨0xB003, .info, .none⟩
/-- `EV_FRAME_OVERRUN`. -/
def Ev.frameOverrun : Ev := ⟨0xB004, .warning, .none⟩
/-- `EV_PCF_DEMOTED`. -/
def Ev.pcfDemoted : Ev := ⟨0xB005, .error, .none⟩
/-- `EV_SPRING_DROP`. -/
def Ev.springDrop : Ev := ⟨0xB006, .info, .none⟩
/-- `EV_SPRING_GEN_DONE`. -/
def Ev.springGenDone : Ev := ⟨0xB007, .info, .count⟩
/-- `EV_WALNI_DOUBLE`. -/
def Ev.walniDouble : Ev := ⟨0xB010, .error, .count⟩
/-- `EV_WALNI_MEMERR`. -/
def Ev.walniMemerr : Ev := ⟨0xB011, .error, .none⟩
/-- `EV_WALNI_MEMCORR`. -/
def Ev.walniMemcorr : Ev := ⟨0xB012, .info, .none⟩
/-- `EV_MED_READ_ERR`. -/
def Ev.medReadErr : Ev := ⟨0xC001, .error, .address⟩
/-- `EV_MED_WRITE_ERR`. -/
def Ev.medWriteErr : Ev := ⟨0xC002, .warning, .none⟩
/-- `EV_MED_CMD_TIMEOUT`. -/
def Ev.medCmdTimeout : Ev := ⟨0xC003, .warning, .none⟩
/-- `EV_MED_CTRL_RESET`. -/
def Ev.medCtrlReset : Ev := ⟨0xC005, .warning, .none⟩
/-- `EV_MED_PORT_LOST`. -/
def Ev.medPortLost : Ev := ⟨0xC006, .error, .none⟩
/-- `EV_MED_NS_LOST`. -/
def Ev.medNsLost : Ev := ⟨0xC007, .critical, .none⟩
/-- `EV_MED_DRIVE_HEALTH`. -/
def Ev.medDriveHealth : Ev := ⟨0xC008, .warning, .none⟩
/-- `EV_MED_POISON_FULL`. -/
def Ev.medPoisonFull : Ev := ⟨0xC009, .warning, .none⟩
/-- `EV_REWARM_DONE`. -/
def Ev.rewarmDone : Ev := ⟨0xC00A, .info, .none⟩
/-- `EV_MEDIA_LAYOUT_MISMATCH`. -/
def Ev.mediaLayoutMismatch : Ev := ⟨0xC030, .warning, .none⟩
/-- `EV_LDG_ARMED`. -/
def Ev.ldgArmed : Ev := ⟨0xD001, .info, .none⟩
/-- `EV_LDG_UNARMED`. -/
def Ev.ldgUnarmed : Ev := ⟨0xD002, .warning, .none⟩
/-- `EV_LDG_OVERDRAWN`. -/
def Ev.ldgOverdrawn : Ev := ⟨0xD003, .warning, .none⟩
/-- `EV_LDG_DISARMED`. -/
def Ev.ldgDisarmed : Ev := ⟨0xD004, .warning, .count⟩
/-- `EV_LDG_UNCOVERED`. -/
def Ev.ldgUncovered : Ev := ⟨0xD005, .critical, .none⟩
/-- `EV_LDG_CAL_DONE`. -/
def Ev.ldgCalDone : Ev := ⟨0xD006, .info, .none⟩
/-- `EV_LDG_CAL_FAIL`. -/
def Ev.ldgCalFail : Ev := ⟨0xD007, .error, .none⟩
/-- `EV_JRNL_HIGH`. -/
def Ev.jrnlHigh : Ev := ⟨0xD010, .info, .none⟩
/-- `EV_JRNL_RESERVE`. -/
def Ev.jrnlReserve : Ev := ⟨0xD011, .warning, .none⟩
/-- `EV_JRNL_INDEX_FULL`. -/
def Ev.jrnlIndexFull : Ev := ⟨0xD012, .warning, .none⟩
/-- `EV_JRNL_INDEX_REBUILD`. -/
def Ev.jrnlIndexRebuild : Ev := ⟨0xD013, .error, .none⟩
/-- `EV_JRNL_CKPT_BENIGN`. -/
def Ev.jrnlCkptBenign : Ev := ⟨0xD014, .info, .none⟩
/-- `EV_JRNL_CKPT_FALLBACK`. -/
def Ev.jrnlCkptFallback : Ev := ⟨0xD015, .warning, .none⟩
/-- `EV_JRNL_DRAIN_INCOMPLETE`. -/
def Ev.jrnlDrainIncomplete : Ev := ⟨0xD016, .critical, .none⟩
/-- `EV_JRNL_UNRECOVERABLE`. -/
def Ev.jrnlUnrecoverable : Ev := ⟨0xD017, .critical, .none⟩
/-- `EV_JRNL_ROTATE_DONE`. -/
def Ev.jrnlRotateDone : Ev := ⟨0xD018, .info, .none⟩
/-- `EV_RSV_FENCE`. -/
def Ev.rsvFence : Ev := ⟨0xE001, .warning, .count⟩
/-- `EV_RSV_PF_GLITCH`. -/
def Ev.rsvPfGlitch : Ev := ⟨0xE002, .info, .none⟩
/-- `EV_RSV_BANK_ISOLATED`. -/
def Ev.rsvBankIsolated : Ev := ⟨0xE003, .error, .count⟩
/-- `EV_RSV_BANK_READY`. -/
def Ev.rsvBankReady : Ev := ⟨0xE004, .info, .none⟩
/-- `EV_RSV_CAP_CHANGE`. -/
def Ev.rsvCapChange : Ev := ⟨0xE005, .warning, .count⟩
/-- `EV_RSV_DISCHARGE_DONE`. -/
def Ev.rsvDischargeDone : Ev := ⟨0xE006, .info, .none⟩
/-- `EV_RSV_DISCHARGE_FAIL`. -/
def Ev.rsvDischargeFail : Ev := ⟨0xE007, .error, .none⟩
/-- `EV_RSV_FAULT`. -/
def Ev.rsvFault : Ev := ⟨0xE008, .critical, .count⟩
/-- `EV_RSV_DRAIN_ABORT`. -/
def Ev.rsvDrainAbort : Ev := ⟨0xE009, .critical, .none⟩
/-- `EV_RSV_DORMANT_LOST`. -/
def Ev.rsvDormantLost : Ev := ⟨0xE00A, .warning, .none⟩
/-- `EV_RSV_RESTART`. -/
def Ev.rsvRestart : Ev := ⟨0xE00B, .info, .count⟩
/-- `EV_RSV_PF_HELD`. -/
def Ev.rsvPfHeld : Ev := ⟨0xE00C, .warning, .none⟩
/-- `EV_FAB_LINK_UP`. -/
def Ev.fabLinkUp : Ev := ⟨0xF001, .info, .none⟩
/-- `EV_FAB_LINK_DOWN`. -/
def Ev.fabLinkDown : Ev := ⟨0xF002, .error, .none⟩
/-- `EV_FAB_REPLAY`. -/
def Ev.fabReplay : Ev := ⟨0xF003, .info, .none⟩
/-- `EV_FAB_LANE_DEGRADED`. -/
def Ev.fabLaneDegraded : Ev := ⟨0xF004, .warning, .count⟩
/-- `EV_FAB_FEC_HIGH`. -/
def Ev.fabFecHigh : Ev := ⟨0xF005, .warning, .count⟩
/-- `EV_FAB_FM_ELECTED`. -/
def Ev.fabFmElected : Ev := ⟨0xF006, .info, .peer⟩
/-- `EV_FAB_FM_LOST`. -/
def Ev.fabFmLost : Ev := ⟨0xF007, .warning, .peer⟩
/-- `EV_FAB_ID_CONFLICT`. -/
def Ev.fabIdConflict : Ev := ⟨0xF008, .error, .peer⟩
/-- `EV_FAB_ID_PENDING`. -/
def Ev.fabIdPending : Ev := ⟨0xF009, .warning, .peer⟩
/-- `EV_FAB_ROUTE_UPDATE`. -/
def Ev.fabRouteUpdate : Ev := ⟨0xF00A, .info, .peer⟩
/-- `EV_FAB_HOP_DROP`. -/
def Ev.fabHopDrop : Ev := ⟨0xF00B, .warning, .peer⟩
/-- `EV_FAB_NOROUTE_DROP`. -/
def Ev.fabNorouteDrop : Ev := ⟨0xF00C, .warning, .peer⟩
/-- `EV_FAB_SYNC_LOST`. -/
def Ev.fabSyncLost : Ev := ⟨0xF00D, .warning, .none⟩
/-- `EV_FAB_SYNC_LOCKED`. -/
def Ev.fabSyncLocked : Ev := ⟨0xF00E, .info, .none⟩
/-- `EV_FAB_FMC_DROP`. -/
def Ev.fabFmcDrop : Ev := ⟨0xF00F, .info, .none⟩

end Sys2Proof.Machine
end

