-- ==== Sys2Proof/Machine/RegMap.lean ====
section
/-! DEFINITION. The BAR0 register map (register index, R653 to R658) with the field maps of the chapters:
absolute BAR0 offset, repeat, what resets it, and per field its bits, access type, reset or factory value and the
limits to which a written value is brought. -/

namespace Sys2Proof.Machine

/-- Access types of R12. -/
inductive Acc where
  | rw | ro | rc | rwm | wo | lk | rsv
  deriving DecidableEq, Repr

/-- What the Reset column gives (R16, R653): a constant, a retained setting, the device record, POR only, or the part. -/
inductive Ret where
  | const | nv | sys | por | hw
  deriving DecidableEq, Repr

/-- One field of a register: bits hi..lo, access type, reset or factory value, least and greatest stored value. -/
structure Fld where
  hi : Nat
  lo : Nat
  acc : Acc
  rst : Nat
  mn : Nat
  mx : Nat
  deriving DecidableEq, Repr

/-- A register, or a row of `count` registers `stride` bytes apart. -/
structure RegDef where
  base : Nat
  stride : Nat
  count : Nat
  ret : Ret
  flds : List Fld
  deriving DecidableEq, Repr

/-- A reserved field (R12, R13). -/
def rsv (hi lo : Nat) : Fld := ⟨hi, lo, .rsv, 0, 0, 0⟩

/-- Part and stepping (R7). -/
abbrev Reg.MGT_DEV_ID : Nat := 0x000040
/-- Refused and discarded writes (R585). -/
abbrev Reg.MGT_RSV_STS : Nat := 0x000044
/-- Non-owner writes (R585). -/
abbrev Reg.MGT_NONOWNER_WR : Nat := 0x000048
/-- Claim ownership (R592). -/
abbrev Reg.MGT_OWN_CLAIM : Nat := 0x001040
/-- Owner heartbeat (R592). -/
abbrev Reg.MGT_OWN_HB : Nat := 0x001044
/-- Handover or release (R592). -/
abbrev Reg.MGT_OWN_YIELD : Nat := 0x001048
/-- Owner, handover, heartbeat age (R592). -/
abbrev Reg.MGT_OWN_STS : Nat := 0x00104C
/-- Claim permission, preemption; lockable (R592). -/
abbrev Reg.MGT_OWN_CFG : Nat := 0x001050
/-- Pages relocked at start-up; lockable (R592). -/
abbrev Reg.MGT_BOOT_LOCK : Nat := 0x001054
/-- STORE and FACTORY (R592). -/
abbrev Reg.MGT_CFG_CMD : Nat := 0x001058
/-- Configuration NVM state (R592). -/
abbrev Reg.MGT_CFG_STS : Nat := 0x00105C
/-- NVM compare results (R592). -/
abbrev Reg.MGT_NV_STS : Nat := 0x001060
/-- Warm reset, block reset (R627). -/
abbrev Reg.MGT_RESET_CMD : Nat := 0x002040
/-- Strict PCF check, trial boot (R627). -/
abbrev Reg.MGT_BOOT_CFG : Nat := 0x002044
/-- Boot mode, slots, last reset (R627). -/
abbrev Reg.MGT_FW_STS : Nat := 0x002048
/-- Election priority (R520). -/
abbrev Reg.MGT_FAB_PRI : Nat := 0x002060
/-- Sideband address, PEC, alert (R597). -/
abbrev Reg.MGT_I3C_CFG : Nat := 0x003040
/-- Sideband mode and errors (R597). -/
abbrev Reg.MGT_I3C_STS : Nat := 0x003044
/-- Time base. -/
abbrev Reg.CTR_TB_LO : Nat := 0x040040
/-- Time base. -/
abbrev Reg.CTR_TB_HI : Nat := 0x040044
/-- Tick period, phase lock (R35). -/
abbrev Reg.CTR_EPOCH : Nat := 0x040048
/-- Ticks since POR or Cold reset. -/
abbrev Reg.CTR_EPOCH_CNT_LO : Nat := 0x040050
/-- Ticks since POR or Cold reset. -/
abbrev Reg.CTR_EPOCH_CNT_HI : Nat := 0x040054
/-- TB of the last tick. -/
abbrev Reg.CTR_TICK_LAST_LO : Nat := 0x040058
/-- TB of the last tick. -/
abbrev Reg.CTR_TICK_LAST_HI : Nat := 0x04005C
/-- Tamper inputs, drain policy; lockable (R574). -/
abbrev Reg.SEC_TAMPER_CFG : Nat := 0x081040
/-- Assignment index (R574). -/
abbrev Reg.SEC_ASSIGN_SEL : Nat := 0x081044
/-- Selected assignment entry (R574). -/
abbrev Reg.SEC_ASSIGN_DATA : Nat := 0x081048
/-- Assignment lock (R574). -/
abbrev Reg.SEC_ASSIGN_LOCK : Nat := 0x08104C
/-- Enclave set and member (R574). -/
abbrev Reg.SEC_ESET_SEL : Nat := 0x081050
/-- Selected member (R574). -/
abbrev Reg.SEC_ESET_DATA : Nat := 0x081054
/-- GPIO secure attributes (R574). -/
abbrev Reg.SEC_PIN_ATTR : Nat := 0x081058
/-- DMA secure attributes (R574). -/
abbrev Reg.SEC_DMA_ATTR : Nat := 0x08105C
/-- Debug lock (R574). -/
abbrev Reg.SEC_DEBUG_CTL : Nat := 0x081060
/-- Revoke signing keys (R574). -/
abbrev Reg.SEC_FW_KEY_REVOKE : Nat := 0x081064
/-- TRNG readiness (R574). -/
abbrev Reg.SEC_RNG_STS : Nat := 0x082040
/-- Random bits [31:0] (R574). -/
abbrev Reg.SEC_RNG_DATA_LO : Nat := 0x082044
/-- Random bits [47:32], VALID (R574). -/
abbrev Reg.SEC_RNG_DATA_HI : Nat := 0x082048
/-- Keys present, Tamper-Lock (R574). -/
abbrev Reg.SEC_KEY_STS : Nat := 0x08204C
/-- Tamper record (R574). -/
abbrev Reg.SEC_TAMPER_STS : Nat := 0x082050
/-- Data lost to Quench (R574). -/
abbrev Reg.SEC_TAMPER_LOST : Nat := 0x082054
/-- Enclave violations (R574). -/
abbrev Reg.SEC_VIOL_STS : Nat := 0x082058
/-- HO of the last violation (R574). -/
abbrev Reg.SEC_VIOL_HO_LO : Nat := 0x08205C
/-- HO of the last violation (R574). -/
abbrev Reg.SEC_VIOL_HO_HI : Nat := 0x082060
/-- Debug state (R574). -/
abbrev Reg.SEC_DEBUG_STS : Nat := 0x082064
/-- Revoked and used signing keys (R574). -/
abbrev Reg.SEC_FW_KEY_STS : Nat := 0x082068
/-- Escrow mismatches and wait (R574). -/
abbrev Reg.SEC_ESCROW_STS : Nat := 0x08206C
/-- Range-table index (R574). -/
abbrev Reg.SEC_RANGE_SEL : Nat := 0x083040
/-- Selected range entry. -/
abbrev Reg.SEC_RANGE_DATA : Nat := 0x083044
/-- Queue occupancy, command error (R651). -/
abbrev Reg.EVT_Q_STS : Nat := 0x0C1040
/-- RELEASE argument (R651). -/
abbrev Reg.EVT_Q_SEQ : Nat := 0x0C1044
/-- Queue command (R651). -/
abbrev Reg.EVT_Q_CMD : Nat := 0x0C1048
/-- Dropped and displaced events (R651). -/
abbrev Reg.EVT_DROP : Nat := 0x0C104C
/-- Merged Critical events (R651). -/
abbrev Reg.EVT_CRIT_LATCH : Nat := 0x0C1050
/-- Head entry (R651). -/
abbrev Reg.EVT_Q_ENTRY : Nat := 0x0C1060
/-- Snapshot hold (R651). -/
abbrev Reg.EVT_SNAP_CTL : Nat := 0x0C2040
/-- Tick of the last snapshot (R651). -/
abbrev Reg.EVT_SNAP_SEQ : Nat := 0x0C2044
/-- Skipped snapshots (R651). -/
abbrev Reg.EVT_SNAP_STS : Nat := 0x0C2048
/-- Counter wrap bits (R651). -/
abbrev Reg.EVT_OVF : Nat := 0x0C2080
/-- Sampling mode (R651). -/
abbrev Reg.EVT_SAMPLE_CFG : Nat := 0x0C3040
/-- Class, source, core selection (R651). -/
abbrev Reg.EVT_SAMPLE_SEL : Nat := 0x0C3044
/-- Counter for SKID (R651). -/
abbrev Reg.EVT_SAMPLE_EVT : Nat := 0x0C3048
/-- Sampling period (R651). -/
abbrev Reg.EVT_SAMPLE_PERIOD : Nat := 0x0C304C
/-- Latency floor (R651). -/
abbrev Reg.EVT_SAMPLE_LAT : Nat := 0x0C3050
/-- Buffer threshold (R651). -/
abbrev Reg.EVT_SAMPLE_THRESH : Nat := 0x0C3054
/-- Buffer state (R651). -/
abbrev Reg.EVT_SAMPLE_STS : Nat := 0x0C3058
/-- Oldest record (R651). -/
abbrev Reg.EVT_SAMPLE_REC : Nat := 0x0C3060
/-- Vector moderation (R651). -/
abbrev Reg.EVT_MSIX_CFG : Nat := 0x0C4040
/-- Sampling and wrap vectors (R651). -/
abbrev Reg.EVT_VFIX : Nat := 0x0C4044
/-- Event routes (R651). -/
abbrev Reg.EVT_VMAP : Nat := 0x0C4100
/-- Occupancy high-water marks (R93). -/
abbrev Reg.TRK_PEAK : Nat := 0x141040
/-- Occupancy now (R93). -/
abbrev Reg.TRK_ALLOC : Nat := 0x141044
/-- Give-way step (R93). -/
abbrev Reg.TRK_SHED_STS : Nat := 0x141048
/-- Cache geometry (R66). -/
abbrev Reg.TAG_GEOM : Nat := 0x181040
/-- Fill width (R159). -/
abbrev Reg.TAG_FILL_CFG : Nat := 0x181044
/-- Run-ahead fetch (R159). -/
abbrev Reg.TAG_SPEC_CFG : Nat := 0x181048
/-- Miss predictor (R159). -/
abbrev Reg.TAG_MISSPRED_CFG : Nat := 0x18104C
/-- Way predictor (R159). -/
abbrev Reg.TAG_WAYPRED_CFG : Nat := 0x181050
/-- Victim selection (R159). -/
abbrev Reg.TAG_VICT_CFG : Nat := 0x181054
/-- TSC fill on hit (R159). -/
abbrev Reg.TAG_TSC_CFG : Nat := 0x181058
/-- Clear predictors (R159). -/
abbrev Reg.TAG_PRED_FLUSH : Nat := 0x18105C
/-- TSC parity, quarantine flag (R159). -/
abbrev Reg.TAG_TSC_STS : Nat := 0x182040
/-- Last quarantined set (R159). -/
abbrev Reg.TAG_META_ERR_SET : Nat := 0x182044
/-- Run-ahead fetches in flight (R159). -/
abbrev Reg.TAG_SPEC_STS : Nat := 0x182048
/-- Write-back scheduler (R196). -/
abbrev Reg.WBF_WB_CFG : Nat := 0x1C1040
/-- Combining write-out (R196). -/
abbrev Reg.WBF_NT_CFG : Nat := 0x1C1044
/-- Buffer occupancy (R196). -/
abbrev Reg.WBF_OCC : Nat := 0x1C2040
/-- Occupancy high-water marks (R196). -/
abbrev Reg.WBF_PEAK : Nat := 0x1C2044
/-- Scheduler mode (R196). -/
abbrev Reg.WBF_SCHED_STS : Nat := 0x1C2048
/-- BISnp timeout, limit, retries (R234). -/
abbrev Reg.COH_BI_CFG : Nat := 0x201040
/-- Snoop-filter victim preference (R234). -/
abbrev Reg.COH_SF_CFG : Nat := 0x201044
/-- Valid snoop-filter entries (R234). -/
abbrev Reg.COH_SF_OCC : Nat := 0x202040
/-- Parity, walk, snoop failure (R234). -/
abbrev Reg.COH_SF_STS : Nat := 0x202044
/-- Suspect walk (R234). -/
abbrev Reg.COH_SF_WALK : Nat := 0x202048
/-- Outstanding BISnps per port (R234). -/
abbrev Reg.COH_BI_OUT : Nat := 0x202050
/-- Home-map index (R60). -/
abbrev Reg.COH_HMAP_SEL : Nat := 0x203040
/-- Selected home-map entry (R60). -/
abbrev Reg.COH_HMAP_DATA : Nat := 0x203044
/-- Change progress, refusal (R61). -/
abbrev Reg.COH_HMAP_STS : Nat := 0x203048
/-- Last unmapped DA. -/
abbrev Reg.COH_UNMAP_DA_LO : Nat := 0x203050
/-- Last unmapped DA. -/
abbrev Reg.COH_UNMAP_DA_HI : Nat := 0x203054
/-- Fabric timeout, re-issue, forwarding (R284). -/
abbrev Reg.COH_FX_CFG : Nat := 0x204040
/-- Grant and eviction notice (R284). -/
abbrev Reg.COH_DIR_CFG : Nat := 0x204044
/-- Handback wait (R284). -/
abbrev Reg.COH_FHB_CFG : Nat := 0x204048
/-- End a handback wait (R284). -/
abbrev Reg.COH_FHB_CMD : Nat := 0x20404C
/-- Incarnation (R284). -/
abbrev Reg.COH_INCARN : Nat := 0x204050
/-- Domain-table index (R284). -/
abbrev Reg.COH_DOM_SEL : Nat := 0x204054
/-- Selected domain entry (R284). -/
abbrev Reg.COH_DOM_DATA : Nat := 0x204058
/-- Hop-table row and group (R284). -/
abbrev Reg.COH_HOP_SEL : Nat := 0x20405C
/-- Selected hop counts (R284). -/
abbrev Reg.COH_HOP_DATA : Nat := 0x204060
/-- Valid directory entries (R284). -/
abbrev Reg.COH_DIR_OCC : Nat := 0x205040
/-- Parity, suspect sets, handback (R284). -/
abbrev Reg.COH_DIR_STS : Nat := 0x205044
/-- Handback wait state (R284). -/
abbrev Reg.COH_FHB_STS : Nat := 0x205048
/-- Last failed transaction (R284). -/
abbrev Reg.COH_FX_FAIL : Nat := 0x20504C
/-- Append enable (R234). -/
abbrev Reg.ATM_ATM_CFG : Nat := 0x241040
/-- Atomics in progress (R234). -/
abbrev Reg.ATM_ATM_STS : Nat := 0x241044
/-- Array error mode; lockable (R429). -/
abbrev Reg.CCH_ARRAY_MODE : Nat := 0x281040
/-- Lockstep pairs; lockable (R429). -/
abbrev Reg.CCH_MIRROR_CFG : Nat := 0x281044
/-- Patrol scrub (R429). -/
abbrev Reg.CCH_SCRUB_CFG : Nat := 0x281048
/-- Correction write-back, marking (R429). -/
abbrev Reg.CCH_ECC_CFG : Nat := 0x28104C
/-- Force full training (R429). -/
abbrev Reg.CCH_TRAIN_CMD : Nat := 0x281050
/-- Mode, mirroring, rate in force (R429). -/
abbrev Reg.CCH_ARRAY_STS : Nat := 0x282040
/-- Broken and resilvering pairs (R429). -/
abbrev Reg.CCH_PAIR_STS : Nat := 0x282044
/-- Benign divergences (R429). -/
abbrev Reg.CCH_MIRROR_BENIGN : Nat := 0x282048
/-- Corrections, uncorrectable bursts (R429). -/
abbrev Reg.CCH_ERR_CNT : Nat := 0x28204C
/-- Set of the last uncorrectable burst (R429). -/
abbrev Reg.CCH_ERR_SET : Nat := 0x282050
/-- Location of that burst (R429). -/
abbrev Reg.CCH_ERR_LOC : Nat := 0x282054
/-- Scrub progress (R429). -/
abbrev Reg.CCH_SCRUB_STS : Nat := 0x282058
/-- Channel state (R429). -/
abbrev Reg.CCH_CH_STS : Nat := 0x282080
/-- Rank for MARK_DATA (R429). -/
abbrev Reg.CCH_MARK_SEL : Nat := 0x2820C0
/-- Device mark of that rank (R429). -/
abbrev Reg.CCH_MARK_DATA : Nat := 0x2820C4
/-- Schedule source, demotion limit (R500). -/
abbrev Reg.PLC_POLICY_CFG : Nat := 0x2C1040
/-- Spring threshold, pass, snapshot (R500). -/
abbrev Reg.PLC_SPRING_CFG : Nat := 0x2C1044
/-- PCF outcome, demoted cores (R500). -/
abbrev Reg.PLC_PCF_STS : Nat := 0x2C2040
/-- PCF major, minor (R500). -/
abbrev Reg.PLC_PCF_VER0 : Nat := 0x2C2044
/-- PCF patch, MPI minor (R500). -/
abbrev Reg.PLC_PCF_VER1 : Nat := 0x2C2048
/-- Effective capabilities (R500). -/
abbrev Reg.PLC_CAPS_EFF : Nat := 0x2C204C
/-- Longest frame (R500). -/
abbrev Reg.PLC_FRAME_PEAK : Nat := 0x2C2050
/-- Spring generation, ring (R500). -/
abbrev Reg.PLC_SPRING_STS : Nat := 0x2C2054
/-- Core and context state (R473). -/
abbrev Reg.PLC_CORE_STS : Nat := 0x2C5040
/-- Last double fault or memory error (R473). -/
abbrev Reg.PLC_EXC_LOG : Nat := 0x2C5060
/-- Core memory errors (R473). -/
abbrev Reg.PLC_MEM_ERR : Nat := 0x2C5080
/-- Timeout, write reservation, retry (R354). -/
abbrev Reg.MED_CMD_CFG : Nat := 0x301040
/-- Media port enable (R354). -/
abbrev Reg.MED_PORT_EN : Nat := 0x301044
/-- SMART polling (R354). -/
abbrev Reg.MED_HEALTH_CFG : Nat := 0x301048
/-- Rewarm pacing (R394). -/
abbrev Reg.MED_REWARM_CFG : Nat := 0x30104C
/-- Layout for a new media set (R73). -/
abbrev Reg.MED_LAYOUT : Nat := 0x302040
/-- Home capacity. -/
abbrev Reg.MED_HOME_CAP_LO : Nat := 0x302048
/-- Home capacity. -/
abbrev Reg.MED_HOME_CAP_HI : Nat := 0x30204C
/-- Namespaces admitted, labels. -/
abbrev Reg.MED_SET_STS : Nat := 0x302050
/-- Links, drain ports (R354). -/
abbrev Reg.MED_PORT_STS : Nat := 0x303040
/-- Media error counts (R354). -/
abbrev Reg.MED_ERR_STS : Nat := 0x303044
/-- Command-slot peak (R354). -/
abbrev Reg.MED_SLOT_PEAK : Nat := 0x303048
/-- Lost namespaces (R354). -/
abbrev Reg.MED_LOST_NS : Nat := 0x30304C
/-- Arm request (R310). -/
abbrev Reg.LDG_CTL : Nat := 0x341040
/-- Owner cap, arming minimum (R310). -/
abbrev Reg.LDG_CAP : Nat := 0x341044
/-- Energy margin (R310). -/
abbrev Reg.LDG_MARGIN : Nat := 0x341048
/-- Conversion efficiency (R310). -/
abbrev Reg.LDG_CONV_EFF : Nat := 0x34104C
/-- Fixed drain energy (R310). -/
abbrev Reg.LDG_E_FIXED : Nat := 0x341050
/-- Drain time limit (R310). -/
abbrev Reg.LDG_DRAIN_MAX : Nat := 0x341054
/-- Write-through allowance (R310). -/
abbrev Reg.LDG_WT_ALLOW : Nat := 0x341058
/-- Leakage and idle load (R310). -/
abbrev Reg.LDG_LEAK : Nat := 0x34105C
/-- Calibrated drain bandwidth (R310). -/
abbrev Reg.LDG_CAL_BW : Nat := 0x341060
/-- Calibrated drain power (R310). -/
abbrev Reg.LDG_CAL_PWR : Nat := 0x341064
/-- Test size, calibrated ports (R310). -/
abbrev Reg.LDG_CAL_CFG : Nat := 0x341068
/-- Start or abort calibration (R310). -/
abbrev Reg.LDG_CAL_CMD : Nat := 0x34106C
/-- Reserve state, rung, cause (R310). -/
abbrev Reg.LDG_STATE : Nat := 0x342040
/-- D_dirty (R310). -/
abbrev Reg.LDG_DIRTY_LO : Nat := 0x342048
/-- D_dirty (R310). -/
abbrev Reg.LDG_DIRTY_HI : Nat := 0x34204C
/-- D_meta (R310). -/
abbrev Reg.LDG_META_LO : Nat := 0x342050
/-- D_meta (R310). -/
abbrev Reg.LDG_META_HI : Nat := 0x342054
/-- cap, cap_model (R310). -/
abbrev Reg.LDG_CAP_EFF : Nat := 0x342058
/-- Drain estimate (R310). -/
abbrev Reg.LDG_DRAIN_EST : Nat := 0x34205C
/-- Available energy (R310). -/
abbrev Reg.LDG_E_AVAIL : Nat := 0x342060
/-- Needed energy (R310). -/
abbrev Reg.LDG_E_NEED : Nat := 0x342064
/-- Cache and buffer terms (R310). -/
abbrev Reg.LDG_BREAK0 : Nat := 0x342068
/-- Staged and reserved terms (R310). -/
abbrev Reg.LDG_BREAK1 : Nat := 0x34206C
/-- Write-through bytes (R310). -/
abbrev Reg.LDG_WT : Nat := 0x342070
/-- Highest D (R310). -/
abbrev Reg.LDG_PEAK : Nat := 0x342074
/-- Calibration state (R310). -/
abbrev Reg.LDG_CAL_STS : Nat := 0x342078
/-- Watermarks, checkpoint interval (R355). -/
abbrev Reg.LDG_JRNL_CFG : Nat := 0x343040
/-- Sinter rate, concurrency (R355). -/
abbrev Reg.LDG_SINTER_CFG : Nat := 0x343044
/-- Used journal space (R355). -/
abbrev Reg.LDG_USED : Nat := 0x344040
/-- Drain reserve (R355). -/
abbrev Reg.LDG_RESERVE : Nat := 0x344044
/-- Sinter, watermark, index (R355). -/
abbrev Reg.LDG_JSTS : Nat := 0x344048
/-- Next PSEQ (R355). -/
abbrev Reg.LDG_PSEQ_LO : Nat := 0x34404C
/-- Next PSEQ (R355). -/
abbrev Reg.LDG_PSEQ_HI : Nat := 0x344050
/-- Checkpoint state (R355). -/
abbrev Reg.LDG_CKPT_STS : Nat := 0x344054
/-- Rotation progress (R355). -/
abbrev Reg.LDG_ROT_STS : Nat := 0x344058
/-- Last replay (R355). -/
abbrev Reg.LDG_REPLAY_STS : Nat := 0x34405C
/-- Carried records (R355). -/
abbrev Reg.LDG_CARRY : Nat := 0x344060
/-- Enable, floor, current, voltage limit (R394). -/
abbrev Reg.RSV_BANK : Nat := 0x381040
/-- Stored-energy ceiling (R394). -/
abbrev Reg.RSV_BANK_ECEIL : Nat := 0x381044
/-- Bus trip, charging (R394). -/
abbrev Reg.RSV_PF_CFG : Nat := 0x381060
/-- Dormant control (R394). -/
abbrev Reg.RSV_DORM_CFG : Nat := 0x381064
/-- Service discharge, recharge (R394). -/
abbrev Reg.RSV_SVC_CMD : Nat := 0x381068
/-- Voltage and current (R394). -/
abbrev Reg.RSV_BANK_V : Nat := 0x382040
/-- Capacitance (R394). -/
abbrev Reg.RSV_BANK_C : Nat := 0x382044
/-- Bank state, fault (R394). -/
abbrev Reg.RSV_BANK_STS : Nat := 0x382048
/-- Stored energy (R394). -/
abbrev Reg.RSV_BANK_E : Nat := 0x38204C
/-- Power state, device fault (R394). -/
abbrev Reg.RSV_RSV_STS : Nat := 0x382080
/-- Restart class, sweep, rewarm (R394). -/
abbrev Reg.RSV_RESTART_STS : Nat := 0x382084
/-- Last power event (R394). -/
abbrev Reg.RSV_LAST_EVT : Nat := 0x383040
/-- Last Fence duration (R394). -/
abbrev Reg.RSV_FENCE_NS : Nat := 0x383044
/-- Last Geyser duration (R394). -/
abbrev Reg.RSV_DRAIN_US : Nat := 0x383048
/-- Last Dormant duration (R394). -/
abbrev Reg.RSV_DORM_MS : Nat := 0x38304C
/-- Seal flags (R394). -/
abbrev Reg.RSV_SEAL : Nat := 0x383050
/-- Sealed checkpoint series (R394). -/
abbrev Reg.RSV_SEAL_SERIES : Nat := 0x383054
/-- PSEQ after CLOSE (R394). -/
abbrev Reg.RSV_SEAL_PSEQ_LO : Nat := 0x383058
/-- PSEQ after CLOSE (R394). -/
abbrev Reg.RSV_SEAL_PSEQ_HI : Nat := 0x38305C
/-- Port enable, minimum width (R534). -/
abbrev Reg.FAB_LINK_CFG : Nat := 0x3C1040
/-- Replay budget (R534). -/
abbrev Reg.FAB_REPLAY_CFG : Nat := 0x3C1044
/-- Correction warning threshold (R534). -/
abbrev Reg.FAB_FEC_CFG : Nat := 0x3C1048
/-- Time synchronisation (R534). -/
abbrev Reg.FAB_SYNC_CFG : Nat := 0x3C104C
/-- Hold time without a route (R534). -/
abbrev Reg.FAB_ROUTE_CFG : Nat := 0x3C1050
/-- Stored device ID (R534). -/
abbrev Reg.FAB_DEV_ID : Nat := 0x3C1054
/-- Retrain or take down ports (R534). -/
abbrev Reg.FAB_LINK_CMD : Nat := 0x3C1058
/-- Port state, width, neighbour (R534). -/
abbrev Reg.FAB_PORT_STS : Nat := 0x3C2040
/-- FEC, replay, degrade counts (R534). -/
abbrev Reg.FAB_ERR_CNT : Nat := 0x3C2050
/-- Fabric manager (R534). -/
abbrev Reg.FAB_FM_STS : Nat := 0x3C2060
/-- Device ID in force, pending (R534). -/
abbrev Reg.FAB_ID_STS : Nat := 0x3C2064
/-- Time-base lock (R534). -/
abbrev Reg.FAB_SYNC_STS : Nat := 0x3C2068
/-- Route-table index (R534). -/
abbrev Reg.FAB_ROUTE_SEL : Nat := 0x3C3040
/-- Selected route entry (R534). -/
abbrev Reg.FAB_ROUTE_DATA : Nat := 0x3C3044

/-- The registers of MGT beyond the page headers. -/
def regsMGT : List RegDef := [
  ⟨Reg.MGT_DEV_ID, 4, 1, .hw, [⟨7, 0, .ro, 177, 0, 255⟩, ⟨11, 8, .ro, 0, 0, 15⟩, ⟨12, 12, .ro, 0, 0, 1⟩, rsv 31 13]⟩,
  ⟨Reg.MGT_RSV_STS, 4, 1, .const, [⟨0, 0, .rc, 0, 0, 1⟩, ⟨1, 1, .rc, 0, 0, 1⟩, ⟨2, 2, .rc, 0, 0, 1⟩, ⟨23, 3, .ro, 0, 0, 2097151⟩, ⟨26, 24, .ro, 0, 0, 7⟩, rsv 31 27]⟩,
  ⟨Reg.MGT_NONOWNER_WR, 4, 1, .const, [⟨15, 0, .rc, 0, 0, 65535⟩, ⟨18, 16, .ro, 0, 0, 7⟩, rsv 31 19]⟩,
  ⟨Reg.MGT_OWN_CLAIM, 4, 1, .const, [⟨2, 0, .wo, 0, 0, 7⟩, rsv 7 3, ⟨15, 8, .wo, 0, 0, 255⟩, rsv 31 16]⟩,
  ⟨Reg.MGT_OWN_HB, 4, 1, .const, [⟨31, 0, .wo, 0, 0, 4294967295⟩]⟩,
  ⟨Reg.MGT_OWN_YIELD, 4, 1, .const, [⟨2, 0, .wo, 0, 0, 7⟩, ⟨3, 3, .wo, 0, 0, 1⟩, rsv 31 4]⟩,
  ⟨Reg.MGT_OWN_STS, 4, 1, .const, [⟨0, 0, .ro, 0, 0, 1⟩, ⟨3, 1, .ro, 0, 0, 7⟩, ⟨11, 4, .ro, 0, 0, 255⟩, ⟨12, 12, .ro, 0, 0, 1⟩, ⟨15, 13, .ro, 0, 0, 7⟩, ⟨24, 16, .ro, 0, 0, 511⟩, ⟨25, 25, .rc, 0, 0, 1⟩, ⟨31, 26, .ro, 0, 0, 63⟩]⟩,
  ⟨Reg.MGT_OWN_CFG, 4, 1, .nv, [⟨5, 0, .rw, 63, 0, 63⟩, ⟨6, 6, .rw, 1, 0, 1⟩, rsv 31 7]⟩,
  ⟨Reg.MGT_BOOT_LOCK, 4, 1, .nv, [⟨15, 0, .rw, 0, 0, 65535⟩, rsv 31 16]⟩,
  ⟨Reg.MGT_CFG_CMD, 4, 1, .const, [⟨0, 0, .wo, 0, 0, 1⟩, ⟨1, 1, .wo, 0, 0, 1⟩, rsv 31 2]⟩,
  ⟨Reg.MGT_CFG_STS, 4, 1, .const, [⟨0, 0, .ro, 0, 0, 1⟩, ⟨1, 1, .ro, 0, 0, 1⟩, ⟨2, 2, .ro, 0, 0, 1⟩, ⟨3, 3, .ro, 0, 0, 1⟩, ⟨4, 4, .ro, 0, 0, 1⟩, ⟨5, 5, .ro, 0, 0, 1⟩, ⟨18, 6, .ro, 0, 0, 8191⟩, ⟨31, 19, .ro, 0, 0, 8191⟩]⟩,
  ⟨Reg.MGT_NV_STS, 4, 1, .const, [⟨7, 0, .rc, 0, 0, 255⟩, ⟨8, 8, .rc, 0, 0, 1⟩, ⟨9, 9, .rc, 0, 0, 1⟩, rsv 31 10]⟩,
  ⟨Reg.MGT_RESET_CMD, 4, 1, .const, [⟨1, 0, .wo, 0, 0, 3⟩, ⟨2, 2, .wo, 0, 0, 1⟩, rsv 3 3, ⟨7, 4, .wo, 0, 0, 15⟩, rsv 15 8, ⟨31, 16, .wo, 0, 0, 65535⟩]⟩,
  ⟨Reg.MGT_BOOT_CFG, 4, 1, .nv, [⟨0, 0, .rw, 0, 0, 1⟩, ⟨1, 1, .rw, 1, 0, 1⟩, rsv 7 2, ⟨13, 8, .rw, 10, 1, 60⟩, rsv 31 14]⟩,
  ⟨Reg.MGT_FW_STS, 4, 1, .const, [⟨1, 0, .ro, 0, 0, 3⟩, ⟨2, 2, .ro, 0, 0, 1⟩, ⟨3, 3, .ro, 0, 0, 1⟩, ⟨4, 4, .ro, 0, 0, 1⟩, ⟨5, 5, .ro, 0, 0, 1⟩, ⟨6, 6, .ro, 0, 0, 1⟩, ⟨7, 7, .rc, 0, 0, 1⟩, ⟨10, 8, .ro, 0, 0, 7⟩, ⟨11, 11, .rc, 0, 0, 1⟩, ⟨15, 12, .ro, 0, 0, 15⟩, rsv 31 16]⟩,
  ⟨Reg.MGT_FAB_PRI, 4, 1, .nv, [⟨7, 0, .rw, 128, 0, 255⟩, rsv 31 8]⟩,
  ⟨Reg.MGT_I3C_CFG, 4, 1, .nv, [⟨6, 0, .rw, 90, 0, 127⟩, ⟨7, 7, .rw, 0, 0, 1⟩, ⟨8, 8, .rw, 1, 0, 1⟩, ⟨10, 9, .rw, 1, 0, 3⟩, ⟨11, 11, .rw, 1, 0, 1⟩, rsv 31 12]⟩,
  ⟨Reg.MGT_I3C_STS, 4, 1, .const, [⟨6, 0, .ro, 0, 0, 127⟩, ⟨7, 7, .ro, 0, 0, 1⟩, ⟨15, 8, .rc, 0, 0, 255⟩, ⟨23, 16, .rc, 0, 0, 255⟩, rsv 31 24]⟩]

/-- The registers of CTR beyond the page headers. -/
def regsCTR : List RegDef := [
  ⟨Reg.CTR_TB_LO, 4, 1, .por, [⟨31, 0, .ro, 0, 0, 4294967295⟩]⟩,
  ⟨Reg.CTR_TB_HI, 4, 1, .por, [⟨31, 0, .ro, 0, 0, 4294967295⟩]⟩,
  ⟨Reg.CTR_EPOCH, 4, 1, .nv, [⟨13, 0, .rw, 1000, 250, 10000⟩, rsv 15 14, ⟨16, 16, .rw, 0, 0, 1⟩, rsv 31 17]⟩,
  ⟨Reg.CTR_EPOCH_CNT_LO, 4, 1, .const, [⟨31, 0, .ro, 0, 0, 4294967295⟩]⟩,
  ⟨Reg.CTR_EPOCH_CNT_HI, 4, 1, .const, [⟨31, 0, .ro, 0, 0, 4294967295⟩]⟩,
  ⟨Reg.CTR_TICK_LAST_LO, 4, 1, .const, [⟨31, 0, .ro, 0, 0, 4294967295⟩]⟩,
  ⟨Reg.CTR_TICK_LAST_HI, 4, 1, .const, [⟨31, 0, .ro, 0, 0, 4294967295⟩]⟩]

/-- The registers of SEC beyond the page headers. -/
def regsSEC : List RegDef := [
  ⟨Reg.SEC_TAMPER_CFG, 4, 1, .nv, [⟨0, 0, .rw, 1, 0, 1⟩, ⟨1, 1, .rw, 0, 0, 1⟩, ⟨2, 2, .rw, 0, 0, 1⟩, rsv 31 3]⟩,
  ⟨Reg.SEC_ASSIGN_SEL, 4, 1, .const, [⟨5, 0, .rw, 0, 0, 59⟩, rsv 31 6]⟩,
  ⟨Reg.SEC_ASSIGN_DATA, 4, 1, .nv, [⟨1, 0, .rw, 0, 0, 3⟩, ⟨5, 2, .rw, 0, 0, 15⟩, rsv 31 6]⟩,
  ⟨Reg.SEC_ASSIGN_LOCK, 4, 1, .const, [⟨0, 0, .lk, 0, 0, 1⟩, rsv 31 1]⟩,
  ⟨Reg.SEC_ESET_SEL, 4, 1, .const, [⟨3, 0, .rw, 0, 0, 15⟩, ⟨7, 4, .rw, 0, 0, 15⟩, rsv 31 8]⟩,
  ⟨Reg.SEC_ESET_DATA, 4, 1, .nv, [⟨9, 0, .rw, 0, 0, 1023⟩, ⟨10, 10, .rw, 0, 0, 1⟩, rsv 31 11]⟩,
  ⟨Reg.SEC_PIN_ATTR, 4, 1, .const, [⟨15, 0, .rw, 0, 0, 65535⟩, rsv 31 16]⟩,
  ⟨Reg.SEC_DMA_ATTR, 4, 1, .const, [⟨31, 0, .rw, 983040, 0, 4294967295⟩]⟩,
  ⟨Reg.SEC_DEBUG_CTL, 4, 1, .const, [⟨0, 0, .lk, 0, 0, 1⟩, rsv 31 1]⟩,
  ⟨Reg.SEC_FW_KEY_REVOKE, 4, 1, .const, [⟨3, 0, .wo, 0, 0, 15⟩, rsv 31 4]⟩,
  ⟨Reg.SEC_RNG_STS, 4, 1, .const, [⟨0, 0, .ro, 0, 0, 1⟩, ⟨1, 1, .rc, 0, 0, 1⟩, ⟨9, 2, .ro, 0, 0, 255⟩, rsv 31 10]⟩,
  ⟨Reg.SEC_RNG_DATA_LO, 4, 1, .const, [⟨31, 0, .ro, 0, 0, 4294967295⟩]⟩,
  ⟨Reg.SEC_RNG_DATA_HI, 4, 1, .const, [⟨15, 0, .ro, 0, 0, 65535⟩, rsv 30 16, ⟨31, 31, .ro, 0, 0, 1⟩]⟩,
  ⟨Reg.SEC_KEY_STS, 4, 1, .const, [⟨0, 0, .ro, 0, 0, 1⟩, ⟨1, 1, .ro, 0, 0, 1⟩, ⟨2, 2, .ro, 0, 0, 1⟩, ⟨3, 3, .ro, 0, 0, 1⟩, ⟨5, 4, .ro, 0, 0, 3⟩, ⟨15, 6, .ro, 0, 0, 1023⟩, rsv 31 16]⟩,
  ⟨Reg.SEC_TAMPER_STS, 4, 1, .por, [⟨5, 0, .ro, 0, 0, 63⟩, ⟨6, 6, .ro, 0, 0, 1⟩, ⟨7, 7, .ro, 0, 0, 1⟩, rsv 31 8]⟩,
  ⟨Reg.SEC_TAMPER_LOST, 4, 1, .por, [⟨19, 0, .ro, 0, 0, 1048575⟩, rsv 31 20]⟩,
  ⟨Reg.SEC_VIOL_STS, 4, 1, .const, [⟨15, 0, .rc, 0, 0, 65535⟩, ⟨25, 16, .ro, 0, 0, 1023⟩, ⟨29, 26, .ro, 0, 0, 15⟩, rsv 31 30]⟩,
  ⟨Reg.SEC_VIOL_HO_LO, 4, 1, .const, [⟨31, 0, .ro, 0, 0, 4294967295⟩]⟩,
  ⟨Reg.SEC_VIOL_HO_HI, 4, 1, .const, [⟨15, 0, .ro, 0, 0, 65535⟩, rsv 31 16]⟩,
  ⟨Reg.SEC_DEBUG_STS, 4, 1, .hw, [⟨0, 0, .ro, 0, 0, 1⟩, ⟨1, 1, .ro, 0, 0, 1⟩, rsv 31 2]⟩,
  ⟨Reg.SEC_FW_KEY_STS, 4, 1, .hw, [⟨3, 0, .ro, 0, 0, 15⟩, ⟨5, 4, .ro, 0, 0, 3⟩, rsv 31 6]⟩,
  ⟨Reg.SEC_ESCROW_STS, 4, 1, .sys, [⟨7, 0, .ro, 0, 0, 255⟩, ⟨19, 8, .ro, 0, 0, 4095⟩, rsv 31 20]⟩,
  ⟨Reg.SEC_RANGE_SEL, 4, 1, .const, [⟨11, 0, .rw, 0, 0, 4095⟩, rsv 31 12]⟩,
  ⟨Reg.SEC_RANGE_DATA, 4, 4, .const, [⟨31, 0, .ro, 0, 0, 4294967295⟩]⟩]

/-- The registers of EVT beyond the page headers. -/
def regsEVT : List RegDef := [
  ⟨Reg.EVT_Q_STS, 4, 1, .const, [⟨12, 0, .ro, 0, 0, 8191⟩, ⟨25, 13, .ro, 0, 0, 8191⟩, ⟨26, 26, .ro, 0, 0, 1⟩, ⟨27, 27, .ro, 0, 0, 1⟩, ⟨28, 28, .rc, 0, 0, 1⟩, rsv 31 29]⟩,
  ⟨Reg.EVT_Q_SEQ, 4, 1, .const, [⟨31, 0, .rw, 0, 0, 4294967295⟩]⟩,
  ⟨Reg.EVT_Q_CMD, 4, 1, .const, [⟨2, 0, .wo, 0, 0, 7⟩, rsv 31 3]⟩,
  ⟨Reg.EVT_DROP, 4, 1, .const, [⟨7, 0, .rc, 0, 0, 255⟩, ⟨15, 8, .rc, 0, 0, 255⟩, ⟨23, 16, .rc, 0, 0, 255⟩, ⟨31, 24, .rc, 0, 0, 255⟩]⟩,
  ⟨Reg.EVT_CRIT_LATCH, 4, 1, .const, [⟨15, 0, .ro, 0, 0, 65535⟩, ⟨31, 16, .rc, 0, 0, 65535⟩]⟩,
  ⟨Reg.EVT_Q_ENTRY, 4, 8, .const, [⟨31, 0, .ro, 0, 0, 4294967295⟩]⟩,
  ⟨Reg.EVT_SNAP_CTL, 4, 1, .const, [⟨0, 0, .rw, 0, 0, 1⟩, rsv 31 1]⟩,
  ⟨Reg.EVT_SNAP_SEQ, 4, 1, .const, [⟨31, 0, .ro, 0, 0, 4294967295⟩]⟩,
  ⟨Reg.EVT_SNAP_STS, 4, 1, .const, [⟨15, 0, .rc, 0, 0, 65535⟩, rsv 31 16]⟩,
  ⟨Reg.EVT_OVF, 4, 24, .const, [⟨31, 0, .rc, 0, 0, 4294967295⟩]⟩,
  ⟨Reg.EVT_SAMPLE_CFG, 4, 1, .const, [⟨1, 0, .rw, 0, 0, 3⟩, ⟨2, 2, .rw, 0, 0, 1⟩, rsv 31 3]⟩,
  ⟨Reg.EVT_SAMPLE_SEL, 4, 1, .const, [⟨9, 0, .rw, 0, 0, 1023⟩, ⟨17, 10, .rw, 0, 0, 255⟩, ⟨25, 18, .rw, 0, 0, 255⟩, rsv 31 26]⟩,
  ⟨Reg.EVT_SAMPLE_EVT, 4, 1, .const, [⟨9, 0, .rw, 0, 0, 767⟩, rsv 31 10]⟩,
  ⟨Reg.EVT_SAMPLE_PERIOD, 4, 1, .const, [⟨23, 0, .rw, 1, 1, 16777215⟩, rsv 31 24]⟩,
  ⟨Reg.EVT_SAMPLE_LAT, 4, 1, .const, [⟨23, 0, .rw, 0, 0, 16777215⟩, rsv 31 24]⟩,
  ⟨Reg.EVT_SAMPLE_THRESH, 4, 1, .const, [⟨12, 0, .rw, 2048, 1, 4096⟩, rsv 31 13]⟩,
  ⟨Reg.EVT_SAMPLE_STS, 4, 1, .const, [⟨12, 0, .ro, 0, 0, 8191⟩, rsv 15 13, ⟨31, 16, .rc, 0, 0, 65535⟩]⟩,
  ⟨Reg.EVT_SAMPLE_REC, 4, 8, .const, [⟨31, 0, .ro, 0, 0, 4294967295⟩]⟩,
  ⟨Reg.EVT_MSIX_CFG, 4, 1, .nv, [⟨9, 0, .rw, 10, 0, 1023⟩, rsv 31 10]⟩,
  ⟨Reg.EVT_VFIX, 4, 1, .nv, [⟨7, 0, .rw, 6, 2, 255⟩, ⟨15, 8, .rw, 7, 2, 255⟩, ⟨19, 16, .rw, 15, 0, 15⟩, ⟨23, 20, .rw, 15, 0, 15⟩, rsv 31 24]⟩,
  ⟨Reg.EVT_VMAP, 4, 64, .nv, [⟨7, 0, .rw, 0, 2, 255⟩, ⟨11, 8, .rw, 15, 0, 15⟩, ⟨12, 12, .rw, 0, 0, 1⟩, rsv 31 13]⟩]

/-- The registers of TRK beyond the page headers. -/
def regsTRK : List RegDef := [
  ⟨Reg.TRK_PEAK, 4, 1, .const, [⟨14, 0, .rc, 0, 0, 32767⟩, rsv 15 15, ⟨29, 16, .rc, 0, 0, 16383⟩, rsv 31 30]⟩,
  ⟨Reg.TRK_ALLOC, 4, 1, .const, [⟨14, 0, .ro, 0, 0, 32767⟩, rsv 15 15, ⟨29, 16, .ro, 0, 0, 16383⟩, rsv 31 30]⟩,
  ⟨Reg.TRK_SHED_STS, 4, 1, .const, [⟨2, 0, .ro, 0, 0, 7⟩, ⟨3, 3, .ro, 0, 0, 1⟩, rsv 31 4]⟩]

/-- The registers of TAG beyond the page headers. -/
def regsTAG : List RegDef := [
  ⟨Reg.TAG_GEOM, 4, 1, .const, [⟨5, 0, .ro, 0, 0, 63⟩, ⟨8, 6, .ro, 0, 0, 7⟩, ⟨9, 9, .ro, 0, 0, 1⟩, rsv 31 10]⟩,
  ⟨Reg.TAG_FILL_CFG, 4, 1, .nv, [⟨1, 0, .rw, 1, 0, 3⟩, rsv 31 2]⟩,
  ⟨Reg.TAG_SPEC_CFG, 4, 1, .nv, [⟨0, 0, .rw, 1, 0, 1⟩, ⟨10, 1, .rw, 128, 0, 1023⟩, ⟨22, 11, .rw, 1024, 0, 4095⟩, rsv 31 23]⟩,
  ⟨Reg.TAG_MISSPRED_CFG, 4, 1, .nv, [⟨2, 0, .rw, 5, 0, 7⟩, ⟨3, 3, .rw, 1, 0, 1⟩, rsv 31 4]⟩,
  ⟨Reg.TAG_WAYPRED_CFG, 4, 1, .nv, [⟨0, 0, .rw, 1, 0, 1⟩, rsv 31 1]⟩,
  ⟨Reg.TAG_VICT_CFG, 4, 1, .nv, [⟨7, 0, .rw, 32, 0, 255⟩, ⟨8, 8, .rw, 1, 0, 1⟩, rsv 31 9]⟩,
  ⟨Reg.TAG_TSC_CFG, 4, 1, .nv, [⟨0, 0, .rw, 1, 0, 1⟩, ⟨4, 1, .rw, 4, 0, 15⟩, rsv 31 5]⟩,
  ⟨Reg.TAG_PRED_FLUSH, 4, 1, .const, [⟨0, 0, .wo, 0, 0, 1⟩, ⟨1, 1, .wo, 0, 0, 1⟩, rsv 31 2]⟩,
  ⟨Reg.TAG_TSC_STS, 4, 1, .const, [⟨15, 0, .rc, 0, 0, 65535⟩, ⟨16, 16, .rc, 0, 0, 1⟩, rsv 31 17]⟩,
  ⟨Reg.TAG_META_ERR_SET, 4, 1, .const, [⟨31, 0, .ro, 0, 0, 4294967295⟩]⟩,
  ⟨Reg.TAG_SPEC_STS, 4, 1, .const, [⟨11, 0, .ro, 0, 0, 4095⟩, ⟨12, 12, .ro, 0, 0, 1⟩, rsv 31 13]⟩]

/-- The registers of WBF beyond the page headers. -/
def regsWBF : List RegDef := [
  ⟨Reg.WBF_WB_CFG, 4, 1, .nv, [⟨7, 0, .rw, 8, 0, 255⟩, ⟨15, 8, .rw, 224, 0, 255⟩, ⟨28, 16, .rw, 1024, 0, 4096⟩, rsv 31 29]⟩,
  ⟨Reg.WBF_NT_CFG, 4, 1, .nv, [⟨9, 0, .rw, 20, 1, 1023⟩, ⟨15, 10, .rw, 2, 0, 63⟩, ⟨16, 16, .rw, 1, 0, 1⟩, rsv 31 17]⟩,
  ⟨Reg.WBF_OCC, 4, 1, .const, [⟨13, 0, .ro, 0, 0, 16383⟩, ⟨23, 14, .ro, 0, 0, 1023⟩, rsv 31 24]⟩,
  ⟨Reg.WBF_PEAK, 4, 1, .const, [⟨13, 0, .rc, 0, 0, 16383⟩, ⟨23, 14, .rc, 0, 0, 1023⟩, rsv 31 24]⟩,
  ⟨Reg.WBF_SCHED_STS, 4, 1, .const, [⟨1, 0, .ro, 0, 0, 3⟩, ⟨2, 2, .ro, 0, 0, 1⟩, rsv 31 3]⟩]

/-- The registers of COH beyond the page headers. -/
def regsCOH : List RegDef := [
  ⟨Reg.COH_BI_CFG, 4, 1, .nv, [⟨9, 0, .rw, 20, 1, 1023⟩, ⟨21, 10, .rw, 1024, 1, 2048⟩, ⟨23, 22, .rw, 2, 0, 3⟩, rsv 31 24]⟩,
  ⟨Reg.COH_SF_CFG, 4, 1, .nv, [⟨0, 0, .rw, 1, 0, 1⟩, rsv 31 1]⟩,
  ⟨Reg.COH_SF_OCC, 4, 1, .const, [⟨23, 0, .ro, 0, 0, 16777215⟩, rsv 31 24]⟩,
  ⟨Reg.COH_SF_STS, 4, 1, .const, [⟨15, 0, .rc, 0, 0, 65535⟩, ⟨16, 16, .ro, 0, 0, 1⟩, ⟨17, 17, .rc, 0, 0, 1⟩, rsv 31 18]⟩,
  ⟨Reg.COH_SF_WALK, 4, 1, .const, [⟨19, 0, .ro, 0, 0, 1048575⟩, ⟨27, 20, .ro, 0, 0, 255⟩, rsv 31 28]⟩,
  ⟨Reg.COH_BI_OUT, 4, 4, .const, [⟨11, 0, .ro, 0, 0, 4095⟩, rsv 31 12]⟩,
  ⟨Reg.COH_HMAP_SEL, 4, 1, .const, [⟨11, 0, .rw, 0, 0, 4095⟩, rsv 31 12]⟩,
  ⟨Reg.COH_HMAP_DATA, 4, 1, .nv, [⟨0, 0, .rw, 1, 0, 1⟩, ⟨1, 1, .rw, 1, 0, 1⟩, ⟨13, 2, .rw, 0, 0, 4095⟩, ⟨25, 14, .rw, 0, 0, 4095⟩, rsv 31 26]⟩,
  ⟨Reg.COH_HMAP_STS, 4, 1, .const, [⟨0, 0, .ro, 0, 0, 1⟩, ⟨1, 1, .rc, 0, 0, 1⟩, ⟨13, 2, .ro, 0, 0, 4095⟩, rsv 31 14]⟩,
  ⟨Reg.COH_UNMAP_DA_LO, 4, 1, .const, [⟨31, 0, .ro, 0, 0, 4294967295⟩]⟩,
  ⟨Reg.COH_UNMAP_DA_HI, 4, 1, .const, [⟨15, 0, .ro, 0, 0, 65535⟩, rsv 31 16]⟩,
  ⟨Reg.COH_FX_CFG, 4, 1, .nv, [⟨13, 0, .rw, 1000, 250, 16383⟩, ⟨17, 14, .rw, 3, 1, 15⟩, ⟨18, 18, .rw, 1, 0, 1⟩, rsv 31 19]⟩,
  ⟨Reg.COH_DIR_CFG, 4, 1, .nv, [⟨0, 0, .rw, 1, 0, 1⟩, ⟨1, 1, .rw, 1, 0, 1⟩, rsv 31 2]⟩,
  ⟨Reg.COH_FHB_CFG, 4, 1, .nv, [⟨15, 0, .rw, 2000, 1, 65535⟩, rsv 31 16]⟩,
  ⟨Reg.COH_FHB_CMD, 4, 1, .const, [⟨0, 0, .wo, 0, 0, 1⟩, rsv 31 1]⟩,
  ⟨Reg.COH_INCARN, 4, 1, .sys, [⟨15, 0, .ro, 0, 0, 65535⟩, rsv 31 16]⟩,
  ⟨Reg.COH_DOM_SEL, 4, 1, .const, [⟨11, 0, .rw, 0, 0, 4095⟩, rsv 31 12]⟩,
  ⟨Reg.COH_DOM_DATA, 4, 1, .const, [⟨5, 0, .rw, 0, 0, 63⟩, ⟨11, 6, .rw, 0, 0, 63⟩, ⟨12, 12, .rw, 0, 0, 1⟩, rsv 31 13]⟩,
  ⟨Reg.COH_HOP_SEL, 4, 1, .const, [⟨11, 0, .rw, 0, 0, 4095⟩, ⟨14, 12, .rw, 0, 0, 7⟩, rsv 31 15]⟩,
  ⟨Reg.COH_HOP_DATA, 4, 1, .const, [⟨31, 0, .rw, 4294967295, 0, 4294967295⟩]⟩,
  ⟨Reg.COH_DIR_OCC, 4, 1, .const, [⟨21, 0, .ro, 0, 0, 4194303⟩, rsv 31 22]⟩,
  ⟨Reg.COH_DIR_STS, 4, 1, .const, [⟨15, 0, .rc, 0, 0, 65535⟩, ⟨16, 16, .ro, 0, 0, 1⟩, ⟨17, 17, .ro, 0, 0, 1⟩, rsv 31 18]⟩,
  ⟨Reg.COH_FHB_STS, 4, 1, .const, [⟨12, 0, .ro, 0, 0, 8191⟩, ⟨13, 13, .ro, 0, 0, 1⟩, ⟨14, 14, .ro, 0, 0, 1⟩, rsv 31 15]⟩,
  ⟨Reg.COH_FX_FAIL, 4, 1, .const, [⟨11, 0, .ro, 0, 0, 4095⟩, ⟨15, 12, .ro, 0, 0, 15⟩, rsv 31 16]⟩]

/-- The registers of ATM beyond the page headers. -/
def regsATM : List RegDef := [
  ⟨Reg.ATM_ATM_CFG, 4, 1, .nv, [⟨0, 0, .rw, 1, 0, 1⟩, rsv 31 1]⟩,
  ⟨Reg.ATM_ATM_STS, 4, 1, .const, [⟨14, 0, .ro, 0, 0, 32767⟩, rsv 31 15]⟩]

/-- The registers of CCH beyond the page headers. -/
def regsCCH : List RegDef := [
  ⟨Reg.CCH_ARRAY_MODE, 4, 1, .nv, [⟨0, 0, .rw, 0, 0, 1⟩, rsv 31 1]⟩,
  ⟨Reg.CCH_MIRROR_CFG, 4, 1, .nv, [⟨0, 0, .rw, 0, 0, 1⟩, rsv 31 1]⟩,
  ⟨Reg.CCH_SCRUB_CFG, 4, 1, .nv, [⟨7, 0, .rw, 24, 1, 255⟩, ⟨8, 8, .rw, 1, 0, 1⟩, rsv 31 9]⟩,
  ⟨Reg.CCH_ECC_CFG, 4, 1, .nv, [⟨0, 0, .rw, 1, 0, 1⟩, ⟨4, 1, .rw, 4, 1, 15⟩, rsv 31 5]⟩,
  ⟨Reg.CCH_TRAIN_CMD, 4, 1, .const, [⟨0, 0, .wo, 0, 0, 1⟩, rsv 31 1]⟩,
  ⟨Reg.CCH_ARRAY_STS, 4, 1, .const, [⟨0, 0, .ro, 0, 0, 1⟩, ⟨1, 1, .ro, 0, 0, 1⟩, ⟨8, 2, .ro, 0, 0, 127⟩, ⟨9, 9, .ro, 0, 0, 1⟩, rsv 31 10]⟩,
  ⟨Reg.CCH_PAIR_STS, 4, 1, .const, [⟨7, 0, .ro, 0, 0, 255⟩, ⟨15, 8, .ro, 0, 0, 255⟩, ⟨23, 16, .ro, 0, 0, 255⟩, rsv 31 24]⟩,
  ⟨Reg.CCH_MIRROR_BENIGN, 4, 1, .const, [⟨31, 0, .rc, 0, 0, 4294967295⟩]⟩,
  ⟨Reg.CCH_ERR_CNT, 4, 1, .const, [⟨15, 0, .rc, 0, 0, 65535⟩, ⟨31, 16, .rc, 0, 0, 65535⟩]⟩,
  ⟨Reg.CCH_ERR_SET, 4, 1, .const, [⟨31, 0, .ro, 0, 0, 4294967295⟩]⟩,
  ⟨Reg.CCH_ERR_LOC, 4, 1, .const, [⟨1, 0, .ro, 0, 0, 3⟩, ⟨3, 2, .ro, 0, 0, 3⟩, ⟨7, 4, .ro, 0, 0, 15⟩, ⟨11, 8, .ro, 0, 0, 15⟩, ⟨14, 12, .ro, 0, 0, 7⟩, ⟨15, 15, .ro, 0, 0, 1⟩, rsv 31 16]⟩,
  ⟨Reg.CCH_SCRUB_STS, 4, 1, .const, [⟨6, 0, .ro, 0, 0, 127⟩, ⟨22, 7, .ro, 0, 0, 65535⟩, rsv 31 23]⟩,
  ⟨Reg.CCH_CH_STS, 4, 16, .const, [⟨1, 0, .ro, 0, 0, 3⟩, ⟨9, 2, .ro, 0, 0, 255⟩, ⟨10, 10, .ro, 0, 0, 1⟩, ⟨14, 11, .ro, 0, 0, 15⟩, rsv 31 15]⟩,
  ⟨Reg.CCH_MARK_SEL, 4, 1, .const, [⟨3, 0, .rw, 0, 0, 15⟩, ⟨4, 4, .rw, 0, 0, 1⟩, ⟨7, 5, .rw, 0, 0, 7⟩, rsv 31 8]⟩,
  ⟨Reg.CCH_MARK_DATA, 4, 1, .const, [⟨0, 0, .ro, 0, 0, 1⟩, ⟨4, 1, .ro, 0, 0, 15⟩, ⟨20, 5, .ro, 0, 0, 65535⟩, rsv 31 21]⟩]

/-- The registers of PLC beyond the page headers. -/
def regsPLC : List RegDef := [
  ⟨Reg.PLC_POLICY_CFG, 4, 1, .nv, [⟨0, 0, .rw, 1, 0, 1⟩, ⟨8, 1, .rw, 64, 1, 255⟩, rsv 31 9]⟩,
  ⟨Reg.PLC_SPRING_CFG, 4, 1, .nv, [⟨7, 0, .rw, 64, 1, 255⟩, ⟨23, 8, .rw, 10000, 100, 65535⟩, ⟨24, 24, .rw, 1, 0, 1⟩, rsv 31 25]⟩,
  ⟨Reg.PLC_PCF_STS, 4, 1, .const, [⟨1, 0, .ro, 0, 0, 3⟩, ⟨2, 2, .ro, 0, 0, 1⟩, ⟨3, 3, .ro, 0, 0, 1⟩, ⟨6, 4, .ro, 0, 0, 7⟩, rsv 7 7, ⟨15, 8, .ro, 0, 0, 255⟩, rsv 31 16]⟩,
  ⟨Reg.PLC_PCF_VER0, 4, 1, .const, [⟨15, 0, .ro, 0, 0, 65535⟩, ⟨31, 16, .ro, 0, 0, 65535⟩]⟩,
  ⟨Reg.PLC_PCF_VER1, 4, 1, .const, [⟨15, 0, .ro, 0, 0, 65535⟩, ⟨31, 16, .ro, 0, 0, 65535⟩]⟩,
  ⟨Reg.PLC_CAPS_EFF, 4, 1, .const, [⟨31, 0, .ro, 0, 0, 4294967295⟩]⟩,
  ⟨Reg.PLC_FRAME_PEAK, 4, 1, .const, [⟨17, 0, .rc, 0, 0, 262143⟩, rsv 31 18]⟩,
  ⟨Reg.PLC_SPRING_STS, 4, 1, .const, [⟨15, 0, .ro, 0, 0, 65535⟩, ⟨16, 16, .ro, 0, 0, 1⟩, ⟨30, 17, .ro, 0, 0, 16383⟩, rsv 31 31]⟩,
  ⟨Reg.PLC_CORE_STS, 4, 8, .const, [⟨7, 0, .ro, 0, 0, 255⟩, ⟨8, 8, .ro, 0, 0, 1⟩, ⟨11, 9, .ro, 0, 0, 7⟩, ⟨21, 12, .ro, 0, 0, 1023⟩, rsv 31 22]⟩,
  ⟨Reg.PLC_EXC_LOG, 4, 8, .const, [⟨4, 0, .ro, 0, 0, 31⟩, ⟨6, 5, .ro, 0, 0, 3⟩, ⟨22, 7, .ro, 0, 0, 65535⟩, ⟨23, 23, .ro, 0, 0, 1⟩, rsv 31 24]⟩,
  ⟨Reg.PLC_MEM_ERR, 4, 1, .const, [⟨15, 0, .rc, 0, 0, 65535⟩, ⟨23, 16, .rc, 0, 0, 255⟩, rsv 31 24]⟩]

/-- The registers of MED beyond the page headers. -/
def regsMED : List RegDef := [
  ⟨Reg.MED_CMD_CFG, 4, 1, .nv, [⟨10, 0, .rw, 500, 100, 2000⟩, ⟨19, 11, .rw, 256, 64, 511⟩, ⟨20, 20, .rw, 1, 0, 1⟩, rsv 31 21]⟩,
  ⟨Reg.MED_PORT_EN, 4, 1, .nv, [⟨7, 0, .rw, 255, 0, 255⟩, rsv 31 8]⟩,
  ⟨Reg.MED_HEALTH_CFG, 4, 1, .nv, [⟨15, 0, .rw, 1000, 0, 65535⟩, rsv 31 16]⟩,
  ⟨Reg.MED_REWARM_CFG, 4, 1, .nv, [⟨7, 0, .rw, 200, 1, 200⟩, ⟨15, 8, .rw, 192, 8, 255⟩, ⟨23, 16, .rw, 32, 0, 255⟩, ⟨24, 24, .rw, 1, 0, 1⟩, rsv 31 25]⟩,
  ⟨Reg.MED_LAYOUT, 4, 1, .nv, [⟨5, 0, .rw, 0, 0, 32⟩, ⟨15, 6, .rw, 64, 16, 512⟩, rsv 31 16]⟩,
  ⟨Reg.MED_HOME_CAP_LO, 4, 1, .const, [⟨31, 0, .ro, 0, 0, 4294967295⟩]⟩,
  ⟨Reg.MED_HOME_CAP_HI, 4, 1, .const, [⟨31, 0, .ro, 0, 0, 4294967295⟩]⟩,
  ⟨Reg.MED_SET_STS, 4, 1, .const, [⟨5, 0, .ro, 0, 0, 63⟩, ⟨6, 6, .ro, 0, 0, 1⟩, rsv 31 7]⟩,
  ⟨Reg.MED_PORT_STS, 4, 1, .const, [⟨7, 0, .ro, 0, 0, 255⟩, ⟨15, 8, .ro, 0, 0, 255⟩, ⟨19, 16, .ro, 0, 0, 15⟩, rsv 31 20]⟩,
  ⟨Reg.MED_ERR_STS, 4, 1, .const, [⟨15, 0, .rc, 0, 0, 65535⟩, ⟨23, 16, .rc, 0, 0, 255⟩, ⟨31, 24, .rc, 0, 0, 255⟩]⟩,
  ⟨Reg.MED_SLOT_PEAK, 4, 1, .const, [⟨10, 0, .rc, 0, 0, 2047⟩, rsv 31 11]⟩,
  ⟨Reg.MED_LOST_NS, 4, 1, .const, [⟨31, 0, .ro, 0, 0, 4294967295⟩]⟩]

/-- The registers of LDG beyond the page headers. -/
def regsLDG : List RegDef := [
  ⟨Reg.LDG_CTL, 4, 1, .nv, [⟨0, 0, .rw, 1, 0, 1⟩, rsv 31 1]⟩,
  ⟨Reg.LDG_CAP, 4, 1, .nv, [⟨14, 0, .rw, 16384, 0, 16384⟩, rsv 15 15, ⟨29, 16, .rw, 1024, 0, 16383⟩, rsv 31 30]⟩,
  ⟨Reg.LDG_MARGIN, 4, 1, .nv, [⟨5, 0, .rw, 15, 5, 50⟩, rsv 31 6]⟩,
  ⟨Reg.LDG_CONV_EFF, 4, 1, .nv, [⟨9, 0, .rw, 880, 500, 1000⟩, rsv 31 10]⟩,
  ⟨Reg.LDG_E_FIXED, 4, 1, .nv, [⟨15, 0, .rw, 1200, 100, 65535⟩, rsv 31 16]⟩,
  ⟨Reg.LDG_DRAIN_MAX, 4, 1, .nv, [⟨11, 0, .rw, 250, 10, 2000⟩, rsv 31 12]⟩,
  ⟨Reg.LDG_WT_ALLOW, 4, 1, .nv, [⟨10, 0, .rw, 256, 16, 1024⟩, rsv 31 11]⟩,
  ⟨Reg.LDG_LEAK, 4, 1, .nv, [⟨15, 0, .rw, 2000, 0, 65535⟩, rsv 31 16]⟩,
  ⟨Reg.LDG_CAL_BW, 4, 1, .nv, [⟨17, 0, .rw, 0, 0, 262143⟩, rsv 31 18]⟩,
  ⟨Reg.LDG_CAL_PWR, 4, 1, .nv, [⟨15, 0, .rw, 0, 0, 65535⟩, rsv 31 16]⟩,
  ⟨Reg.LDG_CAL_CFG, 4, 1, .nv, [⟨4, 0, .rw, 2, 1, 16⟩, ⟨8, 5, .rw, 0, 0, 15⟩, rsv 31 9]⟩,
  ⟨Reg.LDG_CAL_CMD, 4, 1, .const, [⟨0, 0, .wo, 0, 0, 1⟩, ⟨1, 1, .wo, 0, 0, 1⟩, rsv 31 2]⟩,
  ⟨Reg.LDG_STATE, 4, 1, .const, [⟨1, 0, .ro, 0, 0, 3⟩, ⟨3, 2, .ro, 0, 0, 3⟩, ⟨6, 4, .ro, 0, 0, 7⟩, ⟨7, 7, .ro, 0, 0, 1⟩, rsv 31 8]⟩,
  ⟨Reg.LDG_DIRTY_LO, 4, 1, .const, [⟨31, 0, .ro, 0, 0, 4294967295⟩]⟩,
  ⟨Reg.LDG_DIRTY_HI, 4, 1, .const, [⟨31, 0, .ro, 0, 0, 4294967295⟩]⟩,
  ⟨Reg.LDG_META_LO, 4, 1, .const, [⟨31, 0, .ro, 0, 0, 4294967295⟩]⟩,
  ⟨Reg.LDG_META_HI, 4, 1, .const, [⟨31, 0, .ro, 0, 0, 4294967295⟩]⟩,
  ⟨Reg.LDG_CAP_EFF, 4, 1, .const, [⟨15, 0, .ro, 0, 0, 65535⟩, ⟨31, 16, .ro, 0, 0, 65535⟩]⟩,
  ⟨Reg.LDG_DRAIN_EST, 4, 1, .const, [⟨23, 0, .ro, 0, 0, 16777215⟩, rsv 31 24]⟩,
  ⟨Reg.LDG_E_AVAIL, 4, 1, .const, [⟨16, 0, .ro, 0, 0, 131071⟩, rsv 31 17]⟩,
  ⟨Reg.LDG_E_NEED, 4, 1, .const, [⟨16, 0, .ro, 0, 0, 131071⟩, rsv 31 17]⟩,
  ⟨Reg.LDG_BREAK0, 4, 1, .const, [⟨15, 0, .ro, 0, 0, 65535⟩, ⟨31, 16, .ro, 0, 0, 65535⟩]⟩,
  ⟨Reg.LDG_BREAK1, 4, 1, .const, [⟨15, 0, .ro, 0, 0, 65535⟩, ⟨31, 16, .ro, 0, 0, 65535⟩]⟩,
  ⟨Reg.LDG_WT, 4, 1, .const, [⟨15, 0, .ro, 0, 0, 65535⟩, rsv 31 16]⟩,
  ⟨Reg.LDG_PEAK, 4, 1, .const, [⟨15, 0, .rc, 0, 0, 65535⟩, rsv 31 16]⟩,
  ⟨Reg.LDG_CAL_STS, 4, 1, .const, [⟨0, 0, .ro, 0, 0, 1⟩, ⟨1, 1, .ro, 0, 0, 1⟩, ⟨3, 2, .ro, 0, 0, 3⟩, rsv 31 4]⟩,
  ⟨Reg.LDG_JRNL_CFG, 4, 1, .nv, [⟨6, 0, .rw, 40, 10, 90⟩, ⟨13, 7, .rw, 75, 0, 127⟩, ⟨18, 14, .rw, 4, 0, 31⟩, ⟨30, 19, .rw, 1000, 100, 4000⟩, rsv 31 31]⟩,
  ⟨Reg.LDG_SINTER_CFG, 4, 1, .nv, [⟨7, 0, .rw, 4, 0, 255⟩, ⟨17, 8, .rw, 256, 1, 1023⟩, rsv 31 18]⟩,
  ⟨Reg.LDG_USED, 4, 1, .const, [⟨19, 0, .ro, 0, 0, 1048575⟩, rsv 31 20]⟩,
  ⟨Reg.LDG_RESERVE, 4, 1, .const, [⟨19, 0, .ro, 0, 0, 1048575⟩, rsv 31 20]⟩,
  ⟨Reg.LDG_JSTS, 4, 1, .const, [⟨0, 0, .ro, 0, 0, 1⟩, ⟨1, 1, .ro, 0, 0, 1⟩, ⟨2, 2, .ro, 0, 0, 1⟩, ⟨9, 3, .ro, 0, 0, 127⟩, rsv 31 10]⟩,
  ⟨Reg.LDG_PSEQ_LO, 4, 1, .const, [⟨31, 0, .ro, 0, 0, 4294967295⟩]⟩,
  ⟨Reg.LDG_PSEQ_HI, 4, 1, .const, [⟨31, 0, .ro, 0, 0, 4294967295⟩]⟩,
  ⟨Reg.LDG_CKPT_STS, 4, 1, .const, [⟨15, 0, .ro, 0, 0, 65535⟩, ⟨23, 16, .ro, 0, 0, 255⟩, ⟨24, 24, .ro, 0, 0, 1⟩, ⟨30, 25, .rc, 0, 0, 63⟩, rsv 31 31]⟩,
  ⟨Reg.LDG_ROT_STS, 4, 1, .const, [⟨0, 0, .ro, 0, 0, 1⟩, ⟨11, 1, .ro, 0, 0, 2047⟩, ⟨15, 12, .ro, 0, 0, 15⟩, ⟨31, 16, .ro, 0, 0, 65535⟩]⟩,
  ⟨Reg.LDG_REPLAY_STS, 4, 1, .const, [⟨0, 0, .ro, 0, 0, 1⟩, ⟨1, 1, .ro, 0, 0, 1⟩, ⟨13, 2, .ro, 0, 0, 4095⟩, rsv 31 14]⟩,
  ⟨Reg.LDG_CARRY, 4, 1, .const, [⟨19, 0, .ro, 0, 0, 1048575⟩, rsv 31 20]⟩]

/-- The registers of RSV beyond the page headers. -/
def regsRSV : List RegDef := [
  ⟨Reg.RSV_BANK, 8, 4, .nv, [⟨0, 0, .rw, 1, 0, 1⟩, ⟨8, 1, .rw, 60, 45, 120⟩, ⟨15, 9, .rw, 40, 1, 127⟩, ⟨23, 16, .rw, 160, 40, 160⟩, rsv 31 24]⟩,
  ⟨Reg.RSV_BANK_ECEIL, 8, 4, .nv, [⟨14, 0, .rw, 20000, 1000, 20000⟩, rsv 31 15]⟩,
  ⟨Reg.RSV_PF_CFG, 4, 1, .nv, [⟨7, 0, .rw, 108, 0, 255⟩, ⟨8, 8, .rw, 1, 0, 1⟩, ⟨9, 9, .rw, 0, 0, 1⟩, rsv 31 10]⟩,
  ⟨Reg.RSV_DORM_CFG, 4, 1, .nv, [⟨0, 0, .rw, 1, 0, 1⟩, ⟨10, 1, .rw, 800, 500, 1000⟩, ⟨20, 11, .rw, 250, 0, 1023⟩, rsv 31 21]⟩,
  ⟨Reg.RSV_SVC_CMD, 4, 1, .const, [⟨3, 0, .wo, 0, 0, 15⟩, ⟨7, 4, .wo, 0, 0, 15⟩, rsv 31 8]⟩,
  ⟨Reg.RSV_BANK_V, 16, 4, .const, [⟨15, 0, .ro, 0, 0, 65535⟩, ⟨31, 16, .ro, 0, 0, 65535⟩]⟩,
  ⟨Reg.RSV_BANK_C, 16, 4, .const, [⟨19, 0, .ro, 0, 0, 1048575⟩, ⟨31, 20, .ro, 0, 0, 4095⟩]⟩,
  ⟨Reg.RSV_BANK_STS, 16, 4, .const, [⟨2, 0, .ro, 0, 0, 7⟩, ⟨3, 3, .ro, 0, 0, 1⟩, ⟨4, 4, .ro, 0, 0, 1⟩, ⟨7, 5, .ro, 0, 0, 7⟩, ⟨15, 8, .ro, 0, 0, 255⟩, ⟨16, 16, .rc, 0, 0, 1⟩, rsv 31 17]⟩,
  ⟨Reg.RSV_BANK_E, 16, 4, .const, [⟨14, 0, .ro, 0, 0, 32767⟩, rsv 31 15]⟩,
  ⟨Reg.RSV_RSV_STS, 4, 1, .const, [⟨2, 0, .ro, 0, 0, 7⟩, ⟨3, 3, .ro, 0, 0, 1⟩, ⟨4, 4, .ro, 0, 0, 1⟩, ⟨7, 5, .ro, 0, 0, 7⟩, rsv 31 8]⟩,
  ⟨Reg.RSV_RESTART_STS, 4, 1, .const, [⟨1, 0, .ro, 0, 0, 3⟩, ⟨2, 2, .ro, 0, 0, 1⟩, ⟨9, 3, .ro, 0, 0, 127⟩, ⟨10, 10, .ro, 0, 0, 1⟩, ⟨17, 11, .ro, 0, 0, 127⟩, rsv 31 18]⟩,
  ⟨Reg.RSV_LAST_EVT, 4, 1, .por, [⟨1, 0, .ro, 0, 0, 3⟩, ⟨2, 2, .ro, 0, 0, 1⟩, ⟨3, 3, .ro, 0, 0, 1⟩, ⟨4, 4, .ro, 0, 0, 1⟩, ⟨5, 5, .ro, 0, 0, 1⟩, ⟨7, 6, .ro, 0, 0, 3⟩, rsv 31 8]⟩,
  ⟨Reg.RSV_FENCE_NS, 4, 1, .por, [⟨15, 0, .ro, 0, 0, 65535⟩, rsv 31 16]⟩,
  ⟨Reg.RSV_DRAIN_US, 4, 1, .por, [⟨23, 0, .ro, 0, 0, 16777215⟩, rsv 31 24]⟩,
  ⟨Reg.RSV_DORM_MS, 4, 1, .por, [⟨23, 0, .ro, 0, 0, 16777215⟩, rsv 31 24]⟩,
  ⟨Reg.RSV_SEAL, 4, 1, .por, [⟨0, 0, .ro, 0, 0, 1⟩, ⟨1, 1, .ro, 0, 0, 1⟩, rsv 31 2]⟩,
  ⟨Reg.RSV_SEAL_SERIES, 4, 1, .por, [⟨31, 0, .ro, 0, 0, 4294967295⟩]⟩,
  ⟨Reg.RSV_SEAL_PSEQ_LO, 4, 1, .por, [⟨31, 0, .ro, 0, 0, 4294967295⟩]⟩,
  ⟨Reg.RSV_SEAL_PSEQ_HI, 4, 1, .por, [⟨31, 0, .ro, 0, 0, 4294967295⟩]⟩]

/-- The registers of FAB beyond the page headers. -/
def regsFAB : List RegDef := [
  ⟨Reg.FAB_LINK_CFG, 4, 1, .nv, [⟨3, 0, .rw, 15, 0, 15⟩, ⟨5, 4, .rw, 2, 0, 2⟩, rsv 31 6]⟩,
  ⟨Reg.FAB_REPLAY_CFG, 4, 1, .nv, [⟨3, 0, .rw, 8, 1, 8⟩, ⟨8, 4, .rw, 20, 2, 20⟩, rsv 31 9]⟩,
  ⟨Reg.FAB_FEC_CFG, 4, 1, .nv, [⟨15, 0, .rw, 1000, 0, 65535⟩, rsv 31 16]⟩,
  ⟨Reg.FAB_SYNC_CFG, 4, 1, .nv, [⟨0, 0, .rw, 1, 0, 1⟩, ⟨9, 1, .rw, 100, 10, 500⟩, rsv 31 10]⟩,
  ⟨Reg.FAB_ROUTE_CFG, 4, 1, .nv, [⟨15, 0, .rw, 500, 0, 65535⟩, rsv 31 16]⟩,
  ⟨Reg.FAB_DEV_ID, 4, 1, .sys, [⟨11, 0, .ro, 0, 0, 4095⟩, ⟨12, 12, .ro, 0, 0, 1⟩, rsv 31 13]⟩,
  ⟨Reg.FAB_LINK_CMD, 4, 1, .const, [⟨3, 0, .wo, 0, 0, 15⟩, ⟨7, 4, .wo, 0, 0, 15⟩, rsv 31 8]⟩,
  ⟨Reg.FAB_PORT_STS, 4, 4, .const, [⟨2, 0, .ro, 0, 0, 7⟩, ⟨4, 3, .ro, 0, 0, 3⟩, ⟨16, 5, .ro, 0, 0, 4095⟩, ⟨18, 17, .ro, 0, 0, 3⟩, ⟨19, 19, .ro, 0, 0, 1⟩, rsv 31 20]⟩,
  ⟨Reg.FAB_ERR_CNT, 4, 4, .const, [⟨15, 0, .rc, 0, 0, 65535⟩, ⟨23, 16, .rc, 0, 0, 255⟩, ⟨31, 24, .rc, 0, 0, 255⟩]⟩,
  ⟨Reg.FAB_FM_STS, 4, 1, .const, [⟨11, 0, .ro, 0, 0, 4095⟩, ⟨12, 12, .ro, 0, 0, 1⟩, ⟨13, 13, .ro, 0, 0, 1⟩, ⟨21, 14, .ro, 0, 0, 255⟩, ⟨26, 22, .ro, 0, 0, 31⟩, rsv 31 27]⟩,
  ⟨Reg.FAB_ID_STS, 4, 1, .const, [⟨11, 0, .ro, 0, 0, 4095⟩, ⟨23, 12, .ro, 0, 0, 4095⟩, ⟨24, 24, .ro, 0, 0, 1⟩, rsv 31 25]⟩,
  ⟨Reg.FAB_SYNC_STS, 4, 1, .const, [⟨0, 0, .ro, 0, 0, 1⟩, ⟨1, 1, .ro, 0, 0, 1⟩, ⟨3, 2, .ro, 0, 0, 3⟩, ⟨19, 4, .ro, 0, 0, 65535⟩, rsv 31 20]⟩,
  ⟨Reg.FAB_ROUTE_SEL, 4, 1, .const, [⟨11, 0, .rw, 0, 0, 4095⟩, rsv 31 12]⟩,
  ⟨Reg.FAB_ROUTE_DATA, 4, 1, .const, [⟨31, 0, .ro, 0, 0, 4294967295⟩]⟩]

/-- Every register of BAR0 beyond page headers and counter pages (R654). -/
def regDefs : List RegDef :=
  regsMGT ++ regsCTR ++ regsSEC ++ regsEVT ++ regsTRK ++ regsTAG ++ regsWBF ++ regsCOH ++ regsATM ++ regsCCH ++ regsPLC ++ regsMED ++ regsLDG ++ regsRSV ++ regsFAB

/-- The implemented pages of each block with their TYPE (R654, R655); the counter pages of EVT are added by `pageType`. -/
def pageTypes : List (Nat × Nat × Nat) := [
  (0, 0, 0x0001), (0, 1, 0x0010), (0, 2, 0x0010), (0, 3, 0x0010), (1, 0, 0x0010),
  (2, 0, 0), (2, 1, 0x0010), (2, 2, 0x0020), (2, 3, 0x0030),
  (3, 0, 0), (3, 1, 0x0050), (3, 3, 0x0050), (3, 2, 0x0020), (3, 4, 0x0010),
  (4, 0, 0), (5, 0, 0), (5, 1, 0x0020), (6, 0, 0), (6, 1, 0x0010), (6, 2, 0x0020),
  (7, 0, 0), (7, 1, 0x0010), (7, 2, 0x0020),
  (8, 0, 0), (8, 1, 0x0010), (8, 4, 0x0010), (8, 2, 0x0020), (8, 5, 0x0020), (8, 3, 0x0030),
  (9, 0, 0), (9, 1, 0x0010), (10, 0, 0), (10, 1, 0x0010), (10, 2, 0x0020),
  (11, 0, 0), (11, 1, 0x0010), (11, 2, 0x0020), (11, 5, 0x0020),
  (12, 0, 0), (12, 1, 0x0010), (12, 2, 0x0010), (12, 3, 0x0020),
  (13, 0, 0), (13, 1, 0x0010), (13, 3, 0x0010), (13, 2, 0x0020), (13, 4, 0x0020),
  (14, 0, 0), (14, 1, 0x0010), (14, 2, 0x0020), (14, 3, 0x0040),
  (15, 0, 0), (15, 1, 0x0010), (15, 2, 0x0020), (15, 3, 0x0030)]

/-- TYPE of an implemented page, by block and page index (R654, R655). -/
def pageType (blk page : Nat) : Option Nat :=
  if blk = 3 ∧ 16 ≤ page ∧ page ≤ 31 then some 0x0060
  else if blk = 3 ∧ 32 ≤ page ∧ page ≤ 47 then some 0x0061
  else (pageTypes.find? fun t => t.1 == blk && t.2.1 == page).map (·.2.2)

/-- The register that an aligned BAR0 offset names, with its index in the row. -/
def regFind (off : Nat) : Option (RegDef × Nat) :=
  (regDefs.find? fun d => d.base ≤ off && (off - d.base) % d.stride == 0 && (off - d.base) / d.stride < d.count).map
    fun d => (d, (off - d.base) / d.stride)

/-- Mask of bits hi..lo. -/
def maskOf (hi lo : Nat) : Nat := (2 ^ (hi + 1 - lo) - 1) * 2 ^ lo

/-- Value of bits hi..lo of a word. -/
def bitsOf (w hi lo : Nat) : Nat := w / 2 ^ lo % 2 ^ (hi + 1 - lo)

/-- A word with bits hi..lo replaced by `v` (taken modulo the width). -/
def setBits (w hi lo v : Nat) : Nat :=
  w - bitsOf w hi lo * 2 ^ lo + (v % 2 ^ (hi + 1 - lo)) * 2 ^ lo

/-- The reset or factory word of a register: its fields' values (R16), with the rows whose value depends on the
index: `EVT.VMAPi` (R651). -/
def resetWord (off : Nat) : Nat :=
  match regFind off with
  | none => 0
  | some (d, i) =>
    let w := d.flds.foldl (fun w f => setBits w f.hi f.lo f.rst) 0
    if d.base = Reg.EVT_VMAP then
      setBits (setBits w 7 0 (2 + i % 4)) 12 12 (if i % 4 < 3 then 1 else 0)
    else w

end Sys2Proof.Machine
end

