-- ==== Sys2Proof/Machine/Tbl.lean ====
section
/-! DEFINITION. Sparse tables: the one form in which the model holds everything the spec gives by index (registers,
cache ways, map entries, journal locators, …). A table lists (key, value) pairs with strictly rising keys; `tblSet`
keeps the canonical form in which no listed value equals what an unlisted key reads as. -/

namespace Sys2Proof.Machine

/-- A sparse table: pairs with strictly rising keys. -/
abbrev Tbl (α : Type) := List (Nat × α)

variable {α : Type}

/-- The value listed at a key. -/
def tblFind (t : Tbl α) (k : Nat) : Option α :=
  match t with
  | [] => none
  | (i, v) :: r => if i = k then some v else if k < i then none else tblFind r k

/-- The value at a key, `d` where none is listed. -/
def tblGet (d : α) (t : Tbl α) (k : Nat) : α := (tblFind t k).getD d

/-- List `v` at `k`. -/
def tblPut (t : Tbl α) (k : Nat) (v : α) : Tbl α :=
  match t with
  | [] => [(k, v)]
  | (i, w) :: r => if k < i then (k, v) :: (i, w) :: r else if i = k then (k, v) :: r else (i, w) :: tblPut r k v

/-- Drop the key `k`. -/
def tblDel (t : Tbl α) (k : Nat) : Tbl α :=
  match t with
  | [] => []
  | (i, w) :: r => if k < i then (i, w) :: r else if i = k then r else (i, w) :: tblDel r k

/-- Write `v` at `k` in a table whose unlisted keys read as `d`: the default value is never listed. -/
def tblSet [DecidableEq α] (d : α) (t : Tbl α) (k : Nat) (v : α) : Tbl α :=
  if v = d then tblDel t k else tblPut t k v

/-- The keys rise strictly, from above `lo` where given. -/
def keysRise : Option Nat → Tbl α → Bool
  | _, [] => true
  | none, (i, _) :: r => keysRise (some i) r
  | some l, (i, _) :: r => decide (l < i) && keysRise (some i) r

/-- The canonical form: strictly rising keys. -/
def tblWf (t : Tbl α) : Bool := keysRise none t

/-- The canonical form of a table with default `d`: strictly rising keys and no listed value equal to `d`. -/
def tblCanon [DecidableEq α] (d : α) (t : Tbl α) : Bool :=
  tblWf t && t.all fun p => decide (p.2 ≠ d)

/-- Apply `f` to every listed value. -/
def tblMap (f : Nat → α → α) (t : Tbl α) : Tbl α := t.map fun p => (p.1, f p.1 p.2)

/-- Keep the listed pairs for which `f` holds. -/
def tblFilter (f : Nat → α → Bool) (t : Tbl α) : Tbl α := t.filter fun p => f p.1 p.2

end Sys2Proof.Machine
end

