-- ==== Sys2Proof/Machine/StIo.lean ====
section
/-! DEFINITION. The state of the register file, the Fumarole queue, MSI-X delivery, the counters and the sampling engine
(R10, R630 to R652), and the messages the device has sent to the outside. -/

namespace Sys2Proof.Machine

/-- A master of register accesses (R577). -/
inductive Master where
  | hm (p : Fin 4)
  | sb
  | fm
  deriving DecidableEq, Repr

/-- The master's ID (R577). -/
def Master.id : Master → Nat
  | .hm p => p.val
  | .sb => 4
  | .fm => 5

/-- An entry of the Fumarole queue (R630). `data` and `unit` are the DATA and UNIT fields as numbers. -/
structure QEntry where
  seq : Nat
  code : Nat
  sev : Sev
  read : Bool
  merged : Bool
  rept : Nat
  tb : Nat
  encl : Nat
  form : Form
  data : Nat
  unit : Nat
  deriving DecidableEq, Repr

/-- One MSI-X vector of one port (R641): when its last message went, whether a signal is held, mask and pending bit. -/
structure Vec where
  start : Option Nat
  held : Bool
  masked : Bool
  pend : Bool
  deriving DecidableEq, Repr

/-- What waits to be raised by EVT itself: a page alert (R582) or a counter wrap (R643). -/
inductive Due where
  | alert (page : Nat)
  | wrap (idx : Nat)
  deriving DecidableEq, Repr

/-- A message the device has sent to a party outside it; the environment reads them, nothing in the device does. -/
inductive Out where
  /-- An MSI-X message of a vector on a host port (R641). -/
  | msix (port vec : Nat)
  /-- Data returned to a master's register read, one word. -/
  | regData (m : Master) (off : Nat) (w : Word)
  /-- Bytes returned to an I3C read or CCC (R594, R595). -/
  | i3c (bytes : List Nat)
  /-- An in-band interrupt with its severity byte (R596). -/
  | ibi (sev : Nat)
  /-- A CXL.mem response on a host port: tag, kind, the line where one is returned, poison. -/
  | cxl (port tag : Nat) (kind : String) (data : Option Line) (poison : Bool)
  /-- A BISnp on a host port (R213): line address and kind. -/
  | bisnp (port addr : Nat) (kind : String)
  /-- A mailbox completion on a host port: opcode, CXL return code or vendor status, payload words. -/
  | mbox (port opcode : Nat) (status : String) (payload : List Byte)
  /-- An SPDM or IDE_KM response over the DOE mailbox of a port (R556, R106). -/
  | doe (port : Nat) (kind : String) (payload : List Nat)
  /-- A message given to the fabric: message code, destination, TID, lines and fields (R253). -/
  | fabric (dst op tid : Nat) (args : List Nat) (data : List (Option Line))
  /-- A flit or link-layer action on a fabric port (R506). -/
  | link (port : Nat) (kind : String) (args : List Nat)
  /-- A command submitted to a media port: command identifier, kind, namespace, first LBA. -/
  | nvme (port cid : Nat) (kind : String) (ns lba : Nat)
  /-- An action on the DRAM channels. -/
  | dram (kind : String) (args : List Nat)
  /-- A pin driven, or an action on the power and charging hardware. -/
  | pin (name : String) (level : Bool)
  deriving DecidableEq, Repr

/-- The sampling engine (R646 to R648): records oldest first, the count towards PERIOD, whether a SKID sample is due,
the words latched for a master, and whether the buffer has been full since it last was not. -/
structure Samp where
  recs : List (BitVec 256)
  cnt : Nat
  due : Bool
  full : Bool
  deriving DecidableEq, Repr

/-- Registers, events, counters, sampling and outgoing messages. -/
structure Io where
  /-- Stored words by BAR0 offset; an unlisted offset reads as `resetWord`. -/
  regs : Tbl Word
  /-- High words latched by a read of a low word (R10): key 8 × high offset + master. -/
  hiLatch : Tbl Word
  /-- Live queue entries in SEQ order. -/
  q : List QEntry
  /-- SEQ of the next stored event. -/
  nextSeq : Nat
  /-- Drops not yet reported by EV_EVT_LOSS (R635): Error, Warning, Info. -/
  loss : Nat × Nat × Nat
  /-- A mark has been set, and the SEQs of its mark set (R637). -/
  markOn : Bool
  markSet : List Nat
  /-- Words 1 to 7 latched for a master by a read of Q_ENTRY0 or SAMPLE_REC0 (R636, R648). -/
  qLatch : Tbl (List Word)
  sampLatch : Tbl (List Word)
  counters : Tbl Nat
  snap : Tbl Nat
  /-- EV_CNT_OVF has been raised since the last tick. -/
  ovfRaised : Bool
  /-- MSI-X vectors: key 256 × port + vector. -/
  vecs : Tbl Vec
  /-- Pages whose alert was queued since the last tick (R582). -/
  alerted : List Nat
  due : List Due
  /-- TB of the last event of a rate-limited kind: key 16 × event code + source. -/
  lastEv : Tbl Nat
  /-- The in-band interrupt waiting to be sent, and the TB of the last one (R596). -/
  ibi : Option Nat
  lastIbi : Option Nat
  samp : Samp
  /-- Live SEC.ASSIGN entries (R562) and SEC.ESET members (key 16 × set + member). -/
  assign : Tbl Nat
  eset : Tbl Nat
  /-- Messages sent to the outside, newest first. -/
  out : List Out
  deriving DecidableEq, Repr

def Samp.reset : Samp := ⟨[], 0, false, false⟩

def Vec.idle : Vec := ⟨none, false, false, false⟩

/-- The registers and EVT after a reset that empties everything (R617). -/
def Io.reset : Io :=
  { regs := [], hiLatch := [], q := [], nextSeq := 1, loss := (0, 0, 0), markOn := false, markSet := [],
    qLatch := [], sampLatch := [], counters := [], snap := [], ovfRaised := false, vecs := [], alerted := [],
    due := [], lastEv := [], ibi := none, lastIbi := none, samp := Samp.reset, assign := [], eset := [], out := [] }

end Sys2Proof.Machine
end

