-- ==== Sys2Proof/Machine/StCache.lean ====
section
/-! DEFINITION. The state of the cache and of the requests in flight: ways and their metadata (R116 to R124), the TSC and
predictors (R125 to R137), the snoop filter (R203, R204), the fabric directory (R245, R246), tracker entries and their
transactions (R22, R88, R185), the write buffers (R163) and fences (R191). -/

namespace Sys2Proof.Machine

/-- Line state (R122). -/
inductive LS where
  | invalid | clean | dirty | dirtyZero | poisonClean | poisonDirty
  deriving DecidableEq, Repr

/-- A host line of a way: LS, STAMP, whether it is write-back pending (R165), whether its charge came under a
write-through grant (R303), and its data. -/
structure LineSt where
  ls : LS
  stamp : Nat
  pend : Bool
  wt : Bool
  data : Line
  deriving DecidableEq, Repr

/-- A way of a cache set (R120): replicated fields, ENCLAVE, KEYGEN, PIN, HEAT as DRAM holds it, and four lines; with
what is not in the slices: a quarantine (R156), a fill's reservation (R147) and a forward hold (R262). -/
structure Way where
  tag : Nat
  remote : Bool
  home : Nat
  /-- RSTATE: 0, 1 S, 2 E. -/
  rstate : Nat
  encl : Nat
  keygen : Nat
  pin : Bool
  heat : Nat
  lines : List LineSt
  quar : Bool
  rsvBy : Option Nat
  /-- A forward hold: the node to which the sector was forwarded and the TID. -/
  fwd : Option (Nat × Nat)
  deriving DecidableEq, Repr

def LineSt.none : LineSt := ⟨.invalid, 0, false, false, 0⟩

def Way.empty : Way :=
  { tag := 0, remote := false, home := 0, rstate := 0, encl := 0, keygen := 0, pin := false, heat := 0,
    lines := [LineSt.none, LineSt.none, LineSt.none, LineSt.none], quar := false, rsvBy := none, fwd := none }

/-- A TSC entry (R125): usable or pending, the heat of its ways, which heats changed, increments carried by a pending fill; the entry
of its TSC set that was used last (R128); and for a pending fill its class and since when it waits in it (R152). The other fields of
an entry are those of the ways themselves: what the TSC holds of them is what lookups see (R127). -/
structure Tsc where
  usable : Bool
  heat : List Nat
  chg : List Bool
  carry : List Nat
  mru : Bool
  prio : Nat
  at_ : Nat
  deriving DecidableEq, Repr

/-- Host state of a line at a port (R200). -/
inductive HSt where
  | i | s | a
  deriving DecidableEq, Repr

/-- A snoop-filter entry (R204); `st` holds STATE at index 4 × line + port. -/
structure SfE where
  way : Nat
  stag : Nat
  nru : Bool
  bsusp : Bool
  st : List HSt
  deriving DecidableEq, Repr

/-- A directory entry (R246): an owner (state E) or sharers in the pointers, B and DOM. Empty pointers are `none`. -/
structure DirE where
  way : Nat
  dtag : Nat
  excl : Bool
  b : Bool
  dom : Nat
  ptr : List (Option Nat)
  deriving DecidableEq, Repr

/-- The pool a tracker entry came from (R88, R255): 0–3 host guaranteed, fabric, shared, internal; `none` for work that
holds no entry (R22). -/
inductive Pool where
  | host (p : Nat)
  | fabSnp | fabRet | fabReq
  | shared
  | internal
  | none
  deriving DecidableEq, Repr

/-- Where a request came from (R186). -/
inductive Src where
  | hp (p : Nat)
  /-- A node on the fabric: device ID × 64 + endpoint. -/
  | fab (node : Nat)
  | mbox (p : Nat)
  | policy (core ctx : Nat)
  | engine
  deriving DecidableEq, Repr

/-- Atomic operations (R100, R105). -/
inductive AOp where
  | add | and | or | xor | smin | smax | umin | umax | swap | cas
  deriving DecidableEq, Repr

/-- An atomic: operation, width in bytes, byte offset in its line, operand and compare value. -/
structure Atom where
  op : AOp
  width : Nat
  off : Nat
  opnd : Nat
  cmp : Nat
  deriving DecidableEq, Repr

/-- What wrote out a combining entry (R180). -/
inductive WoCause where
  | full | age | hold | capacity | conflict | fence | geyser
  deriving DecidableEq, Repr

/-- The kinds of request (R82, R254). -/
inductive Kind where
  | rdS | rdO | rdNA
  /-- Ownership upgrade without data: MemInv with MetaValue A. -/
  | own
  | wb
  | wrNA
  | atomic (a : Atom)
  | append (len : Nat)
  /-- A record sector of an APPEND, working for the transaction of its descriptor (R226). -/
  | record (desc : Nat)
  | spec
  /-- A prefetch, rewarm or policy fill with the heat it carries. -/
  | prefetch (heat : Nat)
  /-- A PIN fetch of a mailbox or policy PIN; an UNPIN; a sector of a FLUSH. -/
  | pin
  | unpin
  | flush
  /-- A background command of a mailbox, with its opcode as tag: it holds an entry and no sector (R96). -/
  | cmd
  | inval
  | zalloc (encl : Option Nat)
  | writeOut (c : WoCause)
  /-- Policy EVICT of a way. -/
  | evict
  /-- Requests of a requester at this home. -/
  | fRdS | fRdO | fOwn (z : Bool) | fRdNA | fWrNA | fAtom (a : Atom)
  /-- Returned data at this home: WB (KEEP or not) and FHB (HELD or not). -/
  | fWb (keep : Bool) | fFhb (held : Bool)
  /-- Snoops at this holder. -/
  | snpS (fwd : Option Nat) | snpInv (fwd : Option Nat) | snpCur (dest : Nat)
  deriving DecidableEq, Repr

/-- A ledger reservation (R189, R293): not needed or released, waiting, held under Armed, held write-through. -/
inductive Resv where
  | none | waiting | armed | wt
  deriving DecidableEq, Repr

/-- Where a transaction stands. -/
inductive Phase where
  /-- Waits for a tracker entry (R90). -/
  | entry
  /-- In the conflict queue (R185). -/
  | queued
  /-- DRAM bursts of the lookup outstanding: the ways read (R133). -/
  | probe (ways : List Nat)
  /-- Lookup decided: hit in a way, or miss or line miss. -/
  | looked (hit : Option Nat)
  /-- A way is reserved and its old sector is being evicted: snoops, then copies (R149). -/
  | evict (w : Nat)
  /-- A probe of these ways met parity errors; host copies are being back-invalidated before they are judged (R425). -/
  | judge (ways : List Nat)
  /-- Snoops of the request outstanding (R213). -/
  | snoop
  /-- Remote copies being snooped by this home (R256, R257). -/
  | recall (w : Option Nat)
  /-- Media reads outstanding for a fill into way w, or none for a read that installs nothing. -/
  | fill (w : Option Nat)
  /-- Waits for a ledger reservation, then goes on with way w. -/
  | resv (w : Option Nat)
  /-- Waits for a combining-buffer or write-buffer entry. -/
  | buffer
  /-- The near-channel ALU runs on way w (R222). -/
  | alu (w : Nat)
  /-- A fabric request is outstanding; the reserved way, if any (R241). -/
  | fabric (w : Option Nat)
  /-- The home waits for the requester's ACK (R259). -/
  | ack
  /-- Responded; DRAM writes outstanding (R145, R220). -/
  | dram
  /-- Placed in line j of way k; its write-through copy waits for a write-buffer entry (R175, R190). -/
  | copy (k j : Nat)
  /-- Placed; waits for the media completion of its copy (R190). -/
  | media
  /-- Waits for the home's CMP (R263). -/
  | cmp
  deriving DecidableEq, Repr

/-- A way whose parity error waits to be judged (R425): its key, the lines that did not decode and have not been rewritten since, and
whether the TSC had no entry, so that only the slices that decode tell which lines are dirty. -/
structure Judge where
  key : Nat
  bad : List Nat
  blind : Bool
  deriving DecidableEq, Repr

/-- A transaction: its tracker entry (R22, R188), what it asks for, and where it stands. -/
structure Txn where
  id : Nat
  gen : Nat
  pool : Pool
  src : Src
  kind : Kind
  tag : Nat
  da : Nat
  /-- Sector: GA[59:8]. -/
  sk : Nat
  line : Nat
  encl : Nat
  /-- Arrival time (R186). -/
  arr : Nat
  data : Line
  mask : LineMask
  poison : Bool
  /-- MetaValue of a host request. -/
  mv : HSt
  /-- Write sequence number and the port that numbered it, 4 for none (R191). -/
  wseq : Nat
  wport : Nat
  /-- Its RwD credit is still kept (R87, R91). -/
  cred : Bool
  /-- Its port has gone down since it was accepted: its result is discarded (R110). -/
  gone : Bool
  ph : Phase
  /-- Holder of its sector, and sole holder (R185). -/
  holder : Bool
  sole : Bool
  /-- The sector is Busy for this transaction (R220). -/
  busy : Bool
  resv : Resv
  /-- Data bytes of its reservation (R293). -/
  rsz : Nat
  /-- The 256 B reservation of an RD_O or RD_ONA (R241). -/
  rsv2 : Resv
  /-- Media reads still outstanding for it. -/
  reads : List Nat
  /-- The lines its fill brings. -/
  want : List Nat
  /-- The fill returned a media error for these lines. -/
  bad : List Nat
  /-- A run-ahead fetch of it is in flight (R138); one has become its demand fill (R140). -/
  spec : Bool
  ahead : Bool
  /-- When it entered its present wait. -/
  since : Nat
  /-- Its wait in the conflict queue, and its wait behind an OFENCE, have been counted (R199). -/
  told : Bool
  toldF : Bool
  /-- Its lookup: the TSC held the set at DECIDE, training was on at DECIDE (R135, R137, R160), and the final outcome, 0 hit, 1 miss,
  2 line miss (R162). -/
  tscWas : Bool
  train : Bool
  look : Option Nat
  /-- It is a demand hit or a demand fill that has taken effect (R129). -/
  demand : Bool
  /-- Parity errors that its probe met (R425), and the ways whose slice it read under another identity (R134). -/
  judges : List Judge
  other : List Nat
  /-- The class of its DRAM access, and since when it waits in it (R152). -/
  prio : Nat
  prioAt : Nat
  /-- Its victim selection has begun: the hint it reads, and DIRTY_BIAS (R151, R160). -/
  sel : Option (Option Nat × Nat)
  /-- The fill width as its victim was reserved (R160), and EVC_NOTIFY as its eviction began (R285). -/
  width : Option Nat
  evc : Bool
  /-- The read that brings its own line; its answer has been given before the fill was complete (R145). -/
  ownRd : Option Nat
  said : Bool
  /-- Since when it has found no eligible victim way (R150), no eligible snoop-filter entry (R208) or directory entry (R251), and
  whether that stall was reported. -/
  vicAt : Option Nat
  vicTold : Bool
  sfAt : Option Nat
  sfTold : Bool
  dirAt : Option Nat
  dirTold : Bool
  /-- The snoop-filter entry and the directory entry that it has chosen as a victim (R207, R251). -/
  sfVic : Option Nat
  dirVic : Option Nat
  /-- Host copies that it has back-invalidated or downgraded where no entry names the sector (R212): 16 × way key + 4 × line + port. -/
  asked : List Nat
  /-- Fabric: TID and GEN of the request it serves or issues, remote party, re-issues, port last used. -/
  tid : Nat
  fgen : Nat
  peer : Nat
  reissue : Nat
  fport : Nat
  /-- TB of the last RSP_PEND about it (R259, R261). -/
  pendAt : Nat
  /-- Outcome of its lookup for the sample record: 0 hit, 1 miss, 2 line miss, 3 remote (R647). -/
  found : Nat
  /-- A forwarder has sent the data of the fabric request it serves (R256); a broadcast for a suspect directory set has
  been made (R252); the lookup has been made. -/
  sup : Bool
  bcast : Bool
  seen : Bool
  /-- The directory read that chooses a nearest-sharer forward has been made (R258, R285). -/
  near : Bool
  /-- 256 B of a fabric write or returned data, with line states or masks. -/
  blk : List (Option Line)
  lst : List LS
  /-- Byte mask of a WR_NA over the sector, or the DA of an APPEND's ring. -/
  opnds : Nat
  deriving DecidableEq, Repr

/-- A BISnp outstanding or waiting for a host credit (R215): its transaction, or none for work that holds no entry. -/
structure Bi where
  port : Nat
  sk : Nat
  line : Nat
  /-- BISnpData rather than BISnpInv. -/
  dat : Bool
  /-- The way that holds the sector, quarantined or not. -/
  way : Nat
  /-- The address sent: HPA of the port's decoder. -/
  hpa : Nat
  sent : Option Nat
  tries : Nat
  /-- A snoop writeback came under it (R217). -/
  wb : Bool
  /-- It belongs to a suspect walk (R211). -/
  walk : Bool
  deriving DecidableEq, Repr

/-- Kinds of copy (R165 to R167). -/
inductive CopyKind where
  | wb | wt | evict
  deriving DecidableEq, Repr

/-- A copied line: state, data, recorded STAMP, write-through charge, and the transactions that wait for its media
completion. -/
structure CLine where
  ls : LS
  data : Line
  stamp : Nat
  wt : Bool
  wait : List Nat
  deriving DecidableEq, Repr

/-- A write-back buffer entry (R163). -/
structure WbE where
  sk : Nat
  kind : CopyKind
  encl : Nat
  lines : List (Option CLine)
  at_ : Nat
  told : Bool
  deriving DecidableEq, Repr

/-- A write merged into a combining entry: port, write sequence number, granted under Armed, waiting transaction. -/
structure NtItem where
  port : Nat
  wseq : Nat
  line : Nat
  armed : Bool
  txn : Nat
  deriving DecidableEq, Repr

/-- A combining entry (R163): per line the bytes and their mask, the items merged, and a write-out begun. -/
structure NtE where
  sk : Nat
  da : Nat
  encl : Nat
  lines : List (Line × LineMask)
  items : List NtItem
  at_ : Nat
  out : Option WoCause
  deriving DecidableEq, Repr

/-- How a fence reached the device, and so how it completes (R101 to R104, R193). -/
inductive FenceVia where
  | mailbox
  | doorbell (seq : Nat) (irq : Bool)
  | gpf
  deriving DecidableEq, Repr

/-- An outstanding fence: kind, issuing port, the limit F of each covered port (R191, R193). -/
structure Fence where
  dfence : Bool
  port : Nat
  limits : List (Nat × Nat)
  via : FenceVia
  deriving DecidableEq, Repr

/-- A suspect walk (R211): its snoop-filter set, the suspect entry that it clears at its end, and whether the cache sets are
visited. -/
structure Walk where
  set : Nat
  ent : Nat
  visited : Bool
  deriving DecidableEq, Repr

/-- A mailbox range command in progress (R96), or an enclave's creation or destruction (R553, R554). -/
structure RangeOp where
  /-- The port that issued it; 16 and above for one that a start-up resumes (R555). -/
  port : Nat
  opcode : Nat
  /-- Where an enclave command stands: 0 area write, 1 zero-allocation, 2 flush, 3 area write. A range command is at 1,
  or at 2 for FLUSH. -/
  stage : Nat
  /-- What is left of its ranges: first sector (DA / 256; for an enclave command the sector offset) and the end. -/
  segs : List (Nat × Nat)
  /-- Its whole ranges. -/
  all : List (Nat × Nat)
  encl : Nat
  /-- For ENCLAVE_CREATE and ENCLAVE_DESTROY: the enclave concerned, and the ID its sectors take. -/
  setEncl : Option (Nat × Nat)
  /-- Bindings to make: 4 × port + decoder. -/
  binds : List Nat
  status : List (Nat × String)
  /-- Transactions spawned and not yet retired. -/
  waits : List Nat
  /-- Sectors whose journal completion it waits for. -/
  flushing : List Nat
  deriving DecidableEq, Repr

/-- The cache, its predictors, coherence structures, requests and buffers. -/
structure Cache where
  /-- Ways by 4 × set + way. -/
  ways : Tbl Way
  tsc : Tbl Tsc
  /-- TSC fills on hit per channel in the current 1 µs interval (R126), and the interval's number. -/
  tscFills : Tbl Nat
  tscSlot : Nat
  /-- Way predictor: way × 2 + confidence (R135). Miss predictor: enclave tag × 8 + counter (R136). -/
  wayPred : Tbl Nat
  missPred : Tbl Nat
  /-- Squashed run-ahead fetches, whose data is to be discarded: the media commands of each that are outstanding (R141). -/
  specHeld : List (List Nat)
  sf : Tbl SfE
  /-- By snoop-filter set, the entry that was last allocated or granted a copy (R207). -/
  sfUsed : Tbl Nat
  walks : List Walk
  dir : Tbl DirE
  dirSusp : List Nat
  bis : List Bi
  /-- Requests in arrival order. -/
  txns : List Txn
  /-- Generation of each tracker entry (R188). -/
  gens : Tbl Nat
  wb : List WbE
  nt : List NtE
  /-- Occupancy at which EV_WBF_FULL and EV_NT_FULL were last raised has not ended since. -/
  wbFull : Bool
  ntFull : Bool
  /-- Line cleans whose slice write is pending (R163, R169): way key × 4 + line, and the recorded STAMP. -/
  cleanQ : List (Nat × Nat)
  /-- Dirty region map (R163): regions whose bit is set, and where the scheduler's walk stands. -/
  regions : List Nat
  walkPos : Nat
  skipping : Bool
  /-- The earliest TB of the next copy in Background mode under BG_RATE (R174). -/
  wbAt : Nat
  /-- Per port: the next write sequence number; outstanding fences, oldest first. -/
  wseq : List Nat
  fences : List Fence
  ops : List RangeOp
  /-- Give-way step, when the shortage began, and when the step was taken (R92). -/
  shed : Nat
  shedAt : Option Nat
  /-- Poison list (R111): line addresses GA[59:6]. -/
  poison : List Nat
  /-- Transactions whose copy has completed at media and that have not gone on yet (R190). -/
  acks : List Nat
  deriving DecidableEq, Repr

def Cache.reset : Cache :=
  { ways := [], tsc := [], tscFills := [], tscSlot := 0, wayPred := [], missPred := [], specHeld := [],
    sf := [], sfUsed := [], walks := [], dir := [], dirSusp := [], bis := [], txns := [], gens := [], wb := [], nt := [],
    wbFull := false, ntFull := false, cleanQ := [], regions := [], walkPos := 0, skipping := false, wbAt := 0,
    wseq := [0, 0, 0, 0], fences := [], ops := [], shed := 0, shedAt := none, poison := [], acks := [] }

end Sys2Proof.Machine
end

