-- ==== Sys2Proof/Machine/StFab.lean ====
section
/-! DEFINITION. The state of the fabric: messages (R253, R254, R507), links (R503 to R518), discovery and the fabric
manager (R519 to R529), time synchronisation (R530, R531), and the transactions of fabric coherence that hold no entry of
the request list (R260 to R282). -/

namespace Sys2Proof.Machine

/-- A fabric message (R253, R507). `src` and `dst` are node IDs: device × 64 + endpoint. `lst` holds LS codes; `blk` the
four lines where the message carries data; `bmask` the byte mask of WR_NA by line. -/
structure FMsg where
  opc : Nat
  dst : Nat
  src : Nat
  tid : Nat
  gen : Nat
  sk : Nat
  time : Nat
  tl : Bool
  encl : Nat
  flags : Nat
  st : Nat
  cause : Nat
  aux : Nat
  hops : Nat
  lst : List LS
  blk : List (Option Line)
  bmask : List LineMask
  atom : Option Atom
  /-- APPEND record length, for an ATOM that carries one. -/
  alen : Nat
  deriving DecidableEq, Repr

/-- A fabric message that is on the wire of a fabric port when Fence begins. -/
structure WireMsg where
  port : Nat
  lane : Nat
  seq : Nat
  msg : FMsg
  deriving DecidableEq, Repr

/-- Virtual channels (R254). -/
inductive VC where
  | req | snp | rsp | dat
  deriving DecidableEq, Repr

def VC.code : VC → Nat
  | .req => 0 | .snp => 1 | .rsp => 2 | .dat => 3

/-- STATE of a fabric port (R534). -/
inductive LinkSt where
  | down | training | up | replaying | degrading
  deriving DecidableEq, Repr

def LinkSt.code : LinkSt → Nat
  | .down => 0 | .training => 1 | .up => 2 | .replaying => 3 | .degrading => 4

/-- A fabric-manager candidate (R521). -/
structure Cand where
  pri : Nat
  serial : Nat
  id : Nat
  hops : Nat
  at_ : Nat
  deriving DecidableEq, Repr

/-- What the last HELLO on a port said (R519). -/
structure Peer where
  serial : Nat
  id : Nat
  idValid : Bool
  port : Nat
  incarn : Nat
  locked : Bool
  fmHops : Nat
  cand : Option Cand
  deriving DecidableEq, Repr

/-- A message flit group in the replay buffer: SEQ of its first flit, flits, message (R514). -/
structure RpEnt where
  seq : Nat
  flits : Nat
  vc : VC
  lane : Nat
  msg : FMsg
  deriving DecidableEq, Repr

/-- A replay episode (R515): start, NAKs, time of the last. -/
structure Episode where
  start : Nat
  naks : Nat
  last : Nat
  deriving DecidableEq, Repr

/-- A fabric port. -/
structure FPort where
  st : LinkSt
  /-- 0 x8, 1 x4, 2 x2. -/
  width : Nat
  /-- Taken down by command or by LINK_CFG.EN (R517). -/
  cmdDown : Bool
  peer : Option Peer
  txSeq : Nat
  /-- SEQ of the last message flit received in order. -/
  rxSeq : Nat
  /-- The receiver discards message flits until a replay arrives. -/
  nakking : Bool
  replay : List RpEnt
  /-- Credits held per 2 × VC + lane, and flits in the receive buffers. -/
  credits : List Nat
  rxFlits : List Nat
  /-- Credits per 2 × VC + lane that are withheld from the sender (R305, R371). -/
  kept : List Nat
  episode : Option Episode
  lastDegrade : Option Nat
  /-- The running retrain was requested and may widen the link again (R516, R534). -/
  wide : Bool
  helloAt : Nat
  deriving DecidableEq, Repr

/-- A message that waits for credits or for a route (R517, R528). -/
structure Queued where
  msg : FMsg
  lane : Nat
  since : Nat
  /-- The port and lane in whose receive buffer its flits stand, for a message in transit. -/
  rx : Option (Nat × Nat)
  deriving DecidableEq, Repr

/-- The elected fabric manager as this device knows it (R522, R533). -/
structure Fm where
  id : Nat
  pri : Nat
  serial : Nat
  hops : Nat
  beaconAt : Nat
  deriving DecidableEq, Repr

/-- What an FMC message asks (R523 to R525, R37, R51, R243, R244). -/
inductive Fmc where
  | beacon (id pri serial hops : Nat)
  | route (dst entry : Nat)
  | devId (id : Nat)
  | idConflict
  | parent (port : Nat)
  | domain (dev entry : Nat)
  | hop (row group val : Nat)
  | hmap (win entry : Nat)
  | epoch (val : Nat)
  | linkReport (serial port : Nat) (up : Bool)
  | neighbours (serial : Nat) (ports : List (Nat × Nat × Nat))
  | regWrite (off val : Nat)
  /-- The answer to a message that the FM has sent, by its tag. -/
  | ack (tag : Nat)
  deriving DecidableEq, Repr

/-- What a HELLO flit says (R519); `best` is the candidate it advertises: priority, hops, serial number, device ID. -/
structure Hello where
  serial : Nat
  id : Nat
  idValid : Bool
  port : Nat
  incarn : Nat
  locked : Bool
  fmHops : Nat
  best : Option (Nat × Nat × Nat × Nat)
  deriving DecidableEq, Repr

/-- A SYNC flit (R530): the child's question with t1, or the parent's answer with t1, t2 and t3. -/
inductive SyncMsg where
  | ask (t1 : Nat)
  | answer (t1 t2 t3 : Nat)
  deriving DecidableEq, Repr

/-- An FMC message the FM has sent and that is not acknowledged (R524). -/
structure FmcOut where
  tag : Nat
  dev : Nat
  what : Fmc
  at_ : Nat
  deriving DecidableEq, Repr

/-- A snoop a home has sent and that is not answered (R256, R272). -/
structure SnpOut where
  txn : Nat
  holder : Nat
  sk : Nat
  opc : Nat
  fwd : Bool
  at_ : Nat
  resends : Nat
  deriving DecidableEq, Repr

/-- A home's record of a transaction (R270). -/
structure HRec where
  tid : Nat
  gen : Nat
  req : Nat
  sk : Nat
  txn : Nat
  resp : Option FMsg
  respAt : Nat
  resends : Nat
  /-- Forwarder that keeps a hold for it (R262). -/
  hold : Option Nat
  deriving DecidableEq, Repr

/-- Dirty data returned to its home that waits for CMP (R263, R265). -/
structure WbOut where
  tid : Nat
  gen : Nat
  sk : Nat
  home : Nat
  keep : Bool
  fhb : Bool
  held : Bool
  lines : List (Option CLine)
  /-- It carries no charge: an EVC_E, or the data stands in a foreign record. -/
  free_ : Bool
  at_ : Nat
  reissue : Nat
  port : Nat
  deriving DecidableEq, Repr

/-- A fabric request that awaits its answer (R266 to R268): its transaction and the message as last sent. -/
structure ReqOut where
  txn : Nat
  msg : FMsg
  at_ : Nat
  reissue : Nat
  port : Nat
  deriving DecidableEq, Repr

/-- A sector that awaits handback (R277): owner, or the forwarder and requester of a hold. -/
structure HbMark where
  sk : Nat
  owner : Option Nat
  hold : Option (Nat × Nat)
  deriving DecidableEq, Repr

/-- The fabric. -/
structure Fab where
  ports : List FPort
  queue : List Queued
  fm : Option Fm
  isFm : Bool
  /-- TB since which this device has been its own best candidate. -/
  bestSince : Option Nat
  /-- FM: neighbour tables collected, by serial number. -/
  topo : List (Nat × List (Nat × Nat × Nat))
  fmcOut : List FmcOut
  /-- Tag of the next FMC message. -/
  fmcTag : Nat
  beaconAt : Nat
  /-- Device ID in force, last assigned, and pending (R526). -/
  idForce : Nat
  idAssigned : Nat
  idPending : Bool
  routes : Tbl Nat
  locked : Bool
  parent : Option Nat
  /-- The FM has named the parent (R524). -/
  parentSet : Bool
  offset : Int
  lastSync : Nat
  /-- TB at which the last SYNC exchange was started (R530). -/
  syncAt : Nat
  /-- The part's serial number, fixed in manufacture. -/
  serial : Nat
  /-- Known incarnations by device ID (R276). -/
  incarn : Tbl Nat
  recs : List HRec
  snps : List SnpOut
  wbs : List WbOut
  reqs : List ReqOut
  marks : List HbMark
  /-- Forward holds not yet released at this home: sector, forwarder, requester (R277). -/
  holds : List (Nat × Nat × Nat)
  /-- X's HELD FHBs kept aside (R278). -/
  aside : List FMsg
  /-- Restarted peers to which this device hands their sectors back (R276). -/
  back : List Nat
  /-- Devices whose FHB_DONE is awaited, start of the wait, EV_FHB_WAIT raised, forced, no snapshot at the last restart (R279, R284). -/
  waiting : List Nat
  waitAt : Nat
  waitTold : Bool
  forced : Bool
  noSnap : Bool
  /-- No host or fabric request is served until handback ends (R279). -/
  hold_ : Bool
  /-- Devices whose FHB_DONE has come since start-up. -/
  doneFrom : List Nat
  /-- FHB_DONE of this start-up is due to every reachable device (R275): to which it has gone, and its DIRTY_LOST. -/
  greet : Bool
  greeted : List Nat
  dirtyLost : Bool
  deriving DecidableEq, Repr

def FPort.off : FPort :=
  { st := .down, width := 0, cmdDown := false, peer := none, txSeq := 0, rxSeq := 4095, nakking := false, replay := [],
    credits := List.replicate 8 0, rxFlits := List.replicate 8 0, kept := List.replicate 8 0, episode := none, lastDegrade := none,
    wide := false, helloAt := 0 }

def Fab.reset : Fab :=
  { ports := [FPort.off, FPort.off, FPort.off, FPort.off], queue := [], fm := none, isFm := false, bestSince := none,
    topo := [], fmcOut := [], fmcTag := 0, beaconAt := 0, idForce := 0, idAssigned := 0, idPending := false, routes := [],
    locked := false, parent := none, parentSet := false, offset := 0, lastSync := 0, syncAt := 0, serial := 0, incarn := [], recs := [], snps := [],
    wbs := [], reqs := [], marks := [], holds := [], aside := [], back := [], waiting := [], waitAt := 0, waitTold := false, forced := false,
    noSnap := false, hold_ := false, doneFrom := [], greet := false, greeted := [], dirtyLost := false }

end Sys2Proof.Machine
end

