-- ==== Sys2Proof/Machine/StHpt.lean ====
section
/-! DEFINITION. The state of the host ports and of the address maps: links, credits and HDM decoders (R43 to R48, R85,
R86), the home map and domain tables (R50, R243, R244), and the mailboxes (R95, R96). -/

namespace Sys2Proof.Machine

/-- An HDM decoder (R43, R44): HPA base, size, interleave ways and granularity in bytes, position of this port in the
interleave, DA base. -/
structure Hdm where
  hpa : Nat
  size : Nat
  ways : Nat
  gran : Nat
  pos : Nat
  da : Nat
  committed : Bool
  locked : Bool
  deriving DecidableEq, Repr

/-- How a message that a decoder's walk holds goes on (R48, R82): as a request, a write, a clean eviction notice, or a speculative
read hint. -/
inductive HeldKind where
  | req | write | clean | spec
  deriving DecidableEq, Repr

/-- A message held while the walk of its decoder runs, undecoded: `da` of its request is its HPA (R48). -/
structure HeldReq where
  dec : Nat
  kind : HeldKind
  ups : Upset
  txn : Txn
  deriving DecidableEq, Repr

/-- Credits of one CXL.io class: headers and data units (R85). -/
structure IoCred where
  hdr : Nat
  data : Nat
  deriving DecidableEq, Repr

/-- A host port: link state, trained width and rate, credits the host holds, credit headrooms, BISnp credits granted by
the host, and what is withheld. -/
structure Port where
  up : Bool
  width : Nat
  full : Bool
  /-- M2S Req and RwD credits the host holds (R85). -/
  req : Nat
  rwd : Nat
  /-- Unconverted credit headrooms (R293, R294). -/
  head : Nat
  /-- How many of those headrooms were granted write-through (R303). -/
  headWt : Nat
  /-- When each RwD credit whose headroom is not granted yet became due, oldest first. -/
  owed : List Nat
  bisnp : Nat
  /-- Req credits withheld by a calibration (R305). -/
  reqKept : Nat
  /-- RwD credits withheld by GPF phase 1 (R103). -/
  gpf : Bool
  hdm : List (Option Hdm)
  /-- Walks before an uncommit or a re-commit takes effect (R48): decoder index and its new content. -/
  walk : List (Nat × Option Hdm)
  /-- Messages held while a walk runs (R48). -/
  heldReqs : List HeldReq
  /-- CXL.io credits granted: posted, non-posted, completion (R85). -/
  ioCr : List IoCred
  /-- FENCE_DONE: SEQ, KIND, OVF (R104). -/
  doneSeq : Nat
  doneKind : Bool
  ovf : Bool
  /-- The mailbox's timestamp: the value last set and the TB at which it was (R79). -/
  stamp : Option (Nat × Nat)
  /-- The shutdown state that the host has set: dirty (R79). -/
  shutDirty : Bool
  deriving DecidableEq, Repr

/-- A home-map entry (R60). -/
structure HmapE where
  valid : Bool
  self : Bool
  homeId : Nat
  base : Nat
  deriving DecidableEq, Repr

/-- Host ports and maps. -/
structure Hpt where
  ports : List Port
  /-- Home map: entries that differ from identity. -/
  hmap : Tbl HmapE
  /-- The window being invalidated (R55), and the home and base it named: sectors of it have this value as GA[59:36]. -/
  pend : Option (Nat × Nat)
  /-- The window whose invalidation a Fence has cut short since the last start-up (R58). -/
  cutWin : Option Nat
  dsize : Nat
  /-- Geometry in force (R63): n, k, mirrored. -/
  setBits : Nat
  chBits : Nat
  mirror : Bool
  /-- Domain table: DOM + 64 × MEMBER of valid entries (R243); hop table by 64 × row + member, 0xF unlisted (R244). -/
  dom : Tbl Nat
  hop : Tbl Nat
  deriving DecidableEq, Repr

/-- A write that is on the wire of a host port when Fence begins: tag, HPA, MetaValue, bytes, mask, poison; `ptl`: a MemWrPtl. -/
structure WireWr where
  port : Nat
  tag : Nat
  hpa : Nat
  mv : HSt
  data : Line
  mask : LineMask
  poison : Bool
  ptl : Bool
  deriving DecidableEq, Repr

def Port.down : Port :=
  { up := false, width := 0, full := false, req := 0, rwd := 0, head := 0, headWt := 0, owed := [], bisnp := 0, reqKept := 0, gpf := false,
    hdm := [none, none, none, none], walk := [], heldReqs := [], ioCr := [], doneSeq := 0, doneKind := false, ovf := false, stamp := none,
    shutDirty := false }

def Hpt.reset : Hpt :=
  { ports := [Port.down, Port.down, Port.down, Port.down], hmap := [], pend := none, cutWin := none, dsize := 0, setBits := 0,
    chBits := 0, mirror := false, dom := [], hop := [] }

end Sys2Proof.Machine
end

