-- ==== Sys2Proof/Machine/StMgt.lean ====
section
/-! DEFINITION. The state of MGT and of start-up: ownership (R587 to R591), the configuration NVM (R598 to R606), the
sideband (R594, R595), the boot flash and record (R496, R619, R620) and the boot stages (R610 to R624). -/

namespace Sys2Proof.Machine

/-- A record of an NVM bank (R599), with the fields its TYPE uses. -/
inductive NvRec where
  | header (gen : Nat)
  | change (addr mask value : Nat)
  | run (addr : Nat) (vals : List Nat)
  | commit (cnt first : Nat)
  | imageCommit (factory : Bool)
  /-- An empty slot, or a record of a reserved TYPE. -/
  | ignored
  deriving DecidableEq, Repr

/-- A slot of a bank: SEQ and record. -/
structure NvSlot where
  seq : Nat
  body : NvRec
  deriving DecidableEq, Repr

/-- What the NVM is writing (R603, R605, R606): the CHANGE records of a store or a staged assignment, or a new image. `stage` is
the host port whose ASSIGN_STAGE it carries out; `storing` the records of the store that a new image carries out. -/
inductive NvJob where
  | store (recs : List (Nat × Nat × Nat)) (stage : Option Nat)
  | sinter (image : List (Nat × Nat × Nat)) (storing : Option (List (Nat × Nat × Nat))) (stage : Option Nat)
  | factory
  deriving DecidableEq, Repr

/-- The port whose staged assignment is being written. -/
def NvJob.stage : NvJob → Option Nat
  | .store _ p => p
  | .sinter _ _ p => p
  | .factory => none

/-- The configuration NVM: two banks as lists of used slots, the device record (R598), and what runs on it. -/
structure Nvm where
  bank0 : List NvSlot
  bank1 : List NvSlot
  /-- Bytes of the banks that have changed since they were written. -/
  hits : List NvHit
  /-- The bank in force (CFG_STS.BANK). -/
  cur : Nat
  /-- SEQ of the next record, across both banks. -/
  seq : Nat
  job : Option NvJob
  /-- An armed factory restore: its owner and the TB of its first write (R606). -/
  armed : Option (Master × Nat)
  facDone : Bool
  /-- Device record: the stored device ID (R525). -/
  devId : Option Nat
  /-- Device record: COH.INCARN (R273). -/
  incarn : Nat
  /-- Device record: consecutive escrow mismatches, and the end of the wait in TB (R560). -/
  escFails : Nat
  escUntil : Nat
  /-- Device record: dirty shutdown count (R113). -/
  dirtyCnt : Nat
  deriving DecidableEq, Repr

/-- The sideband target (R594, R595). -/
structure I3c where
  daddr : Nat
  i3cMode : Bool
  /-- In-band interrupts enabled by ENEC. -/
  enec : Bool
  lastWrDisc : Bool
  pecErr : Bool
  /-- Reset action set by RSTACT. -/
  rstact : Nat
  deriving DecidableEq, Repr

/-- Ownership (R587 to R591). -/
structure Own where
  owner : Option Master
  prio : Nat
  /-- An open handover: the successor and the TB at which it opened. -/
  handover : Option (Master × Nat)
  /-- TB of the last accepted heartbeat, or of winning ownership. -/
  hbAt : Nat
  changes : Nat
  deriving DecidableEq, Repr

/-- An MCF, PCF or recovery image (R496), with the outcome of its checks: whether the header and BODY_HASH are right,
and the key index under which the signature verifies, if any. -/
structure Image where
  typ : Nat
  bodyOk : Bool
  sigKey : Option Nat
  ver : Nat × Nat × Nat
  stepMin : Nat
  stepMax : Nat
  hwiMajor : Nat
  mpiMajor : Nat
  mpiMinor : Nat
  caps : Nat
  ctxEn : Nat
  entries : List Nat
  /-- Tested set of an MCF: major, minor, patch, ANY_PATCH. -/
  tested : List (Nat × Nat × Nat × Bool)
  /-- Body parts loaded to instruction RAM (words by word index) and data RAM (bytes by address). -/
  iram : Tbl Word
  data : Tbl Byte
  deriving DecidableEq, Repr

/-- The boot flash slots (R619) and the boot record (R620). -/
structure Flash where
  mcfA : Option Image
  mcfB : Option Image
  pcfA : Option Image
  pcfB : Option Image
  recov : Option Image
  seq : Nat
  mcfActive : Nat
  mcfPending : Bool
  mcfTrial : Bool
  pcfActive : Nat
  pcfPending : Bool
  tries : Nat
  deriving DecidableEq, Repr

/-- The restart class (R382). -/
inductive Class where
  | warm | rewarm | cold
  deriving DecidableEq, Repr

/-- What started the current start-up: the codes of FW_STS.LAST_RESET (R627). -/
inductive ResetCause where
  | por | resetN | mainCycle | warmCmd | watchdog
  deriving DecidableEq, Repr

/-- Start-up and reset progress (R610 to R624). -/
structure Boot where
  /-- VAUX is good. -/
  vaux : Bool
  /-- The next start-up is the first after a POR. -/
  porDue : Bool
  /-- FW_STS.MODE: 0 normal, 1 recovery mode, 2 ROM recovery, 3 Tamper-Lock. -/
  mode : Nat
  mcfSlot : Nat
  provisional : Bool
  lastReset : ResetCause
  mcfReason : Nat
  /-- Key that verified the running MCF (FW_KEY_STS.USED). -/
  keyUsed : Nat
  /-- The image each check left running: the MCF, and the PCF or none (ROM baseline). -/
  mcf : Option Image
  pcf : Option Image
  /-- The restart class, once decided. -/
  cls : Option Class
  /-- Stages done: replay of retained settings, DRAM ready, geometry and DIMM rules passed, media ports ready, media mounted
  with its index ready. -/
  nvDone : Bool
  dramDone : Bool
  geomOk : Bool
  mediaDone : Bool
  jrnlDone : Bool
  /-- What the replay of this start-up will meet: unusable series, benign divergences, its time in ms. -/
  replay : Nat × Nat × Nat
  /-- The Warm test of R382 has failed or does not apply. -/
  notWarm : Bool
  /-- Host links have been enabled since the last core reset; HDM is decoded. -/
  linksOn : Bool
  hdm : Bool
  /-- TB at which host link enable came to be held by R370. -/
  heldAt : Option Nat
  heldTold : Bool
  /-- The trial deadline of R624. -/
  trialEnd : Option Nat
  /-- The release phase of a Warm reset, by its start (R616). -/
  release : Option Nat
  /-- A reset drain and what caused it (R615). -/
  drain : Option ResetCause
  /-- ROM recovery: TB of a completed Activate FW (R622). -/
  romAct : Option Nat
  /-- Activation armed by Activate FW is in `Flash`; a Transfer FW in progress, by its port. -/
  transfer : Option Nat
  deriving DecidableEq, Repr

/-- MGT and start-up. -/
structure Mgt where
  own : Own
  nv : Nvm
  i3c : I3c
  flash : Flash
  boot : Boot
  deriving DecidableEq, Repr

def Own.reset : Own := ⟨none, 0, none, 0, 0⟩

def I3c.reset : I3c := ⟨0, false, false, false, false, 0⟩

/-- A factory-fresh configuration NVM: bank 0 holds a factory image, nothing was ever stored. -/
def Nvm.fresh : Nvm :=
  { bank0 := [⟨1, .header 1⟩, ⟨2, .imageCommit true⟩], bank1 := [], hits := [], cur := 0, seq := 3, job := none, armed := none,
    facDone := false, devId := none, incarn := 0, escFails := 0, escUntil := 0, dirtyCnt := 0 }

/-- A production image as the model's fresh part holds it in MCF slot A: accepted under R621, knowing the capabilities
of MPI 1.0, with an empty body. -/
def Image.factoryMcf : Image :=
  { typ := 1, bodyOk := true, sigKey := some 0, ver := (1, 0, 0), stepMin := 0xB1, stepMax := 0xB1, hwiMajor := 1,
    mpiMajor := 1, mpiMinor := 0, caps := 0x3F, ctxEn := 0, entries := [], tested := [], iram := [], data := [] }

/-- The boot flash of the fresh part: an MCF in slot A, no PCF (the ROM baseline runs), no recovery image. -/
def Flash.fresh : Flash :=
  { mcfA := some Image.factoryMcf, mcfB := none, pcfA := none, pcfB := none, recov := none, seq := 1, mcfActive := 0,
    mcfPending := false, mcfTrial := false, pcfActive := 0, pcfPending := false, tries := 0 }

def Boot.reset : Boot :=
  { vaux := false, porDue := true, mode := 0, mcfSlot := 0, provisional := false, lastReset := .por, mcfReason := 0,
    keyUsed := 0, mcf := none, pcf := none, cls := none, nvDone := false, dramDone := false, geomOk := false,
    mediaDone := false, jrnlDone := false, replay := (0, 0, 0), notWarm := false, linksOn := false, hdm := false, heldAt := none, heldTold := false,
    trialEnd := none, release := none,
    drain := none, romAct := none, transfer := none }

end Sys2Proof.Machine
end

