-- ==== Sys2Proof/Machine/StPlc.lean ====
section
/-! DEFINITION. The state of the Walni cores (R433 to R472) and of the policy interface (R476 to R495). -/

namespace Sys2Proof.Machine

/-- CTX_STATE of a context (R473). -/
inductive CtxSt where
  | asleep | running | stopped | notStarted
  deriving DecidableEq, Repr

def CtxSt.code : CtxSt → Nat
  | .asleep => 0 | .running => 1 | .stopped => 2 | .notStarted => 3

/-- An open branch whose delay slot is next (R444): its address, the register it read, and its target if taken. -/
structure Slot where
  branch : Word
  rs : Nat
  target : Option Word
  /-- The branch's checkpoint: global history, and the return stack as it reads once its pointer is restored (R463). -/
  ghist : Nat
  rstack : List Word
  deriving DecidableEq, Repr

/-- An effecting operation (R467, R469), with the context that committed it and the SEQ of its frame. -/
inductive CpOp where
  | evict (set way : Nat) (cleanOnly : Bool)
  | prefetch (so heat count : Nat)
  | pin (so count : Nat)
  | unpin (so count : Nat)
  | hint (set way : Nat) (valid : Bool) (decay : Nat)
  deriving DecidableEq, Repr

structure OutOp where
  ctx : Nat
  seq : Nat
  etag : Nat
  op : CpOp
  deriving DecidableEq, Repr

/-- What a context waits for at its present instruction. -/
inductive CtxWait where
  | none
  /-- HEATRD on a TSC miss waits for DRAM (R468): destination register and set. -/
  | heat (rd set : Nat)
  /-- An effecting operation whose commit waits for room in the outbound queue (R469). -/
  | outq (op : CpOp)
  /-- FEND waits for delivery (R457). -/
  | fend
  /-- A read of SPRING_RD_LO waits for the stream (R492): destination register. -/
  | stream (rd : Nat)
  deriving DecidableEq, Repr

/-- A prefetch queue entry (R485). -/
structure PfEnt where
  so : Nat
  heat : Nat
  count : Nat
  /-- The CTX.ETAG it was committed under (R470). -/
  etag : Nat
  deriving DecidableEq, Repr

/-- A Walni context: registers (R437 to R439), open branch, mode shadow, predictor state of its own (R461) and its bank
of the policy window (R480). -/
structure Ctx where
  st : CtxSt
  g : List Word
  pc : Word
  epc : Word
  cause : Nat
  ds : Bool
  ms : Bool
  pmode : Bool
  el : Bool
  loopEnd : Bool
  /-- MODE[0]: true is Task. -/
  task : Bool
  lps0 : Word
  lpe0 : Word
  lct0 : Word
  lps1 : Word
  lpe1 : Word
  lct1 : Word
  etag : Nat
  entry : Nat
  active : Bool
  ovr : Bool
  seq : Nat
  slot : Option Slot
  /-- The next instruction is the mode shadow (R454); a preemption is held over it. -/
  shadow : Bool
  heldPre : Bool
  wait : CtxWait
  /-- Its instruction word while it waits. -/
  iw : Word
  ghist : Nat
  rstack : List Word
  /-- TB at which the frame started; FEND committed in the frame that just ended (R478). -/
  frameAt : Nat
  reached : Bool
  /-- FEND committed in the running frame; SEQ of the last frame that reached FRAME_END. -/
  ended : Bool
  build : List PfEnt
  issue : List PfEnt
  springCnt : Nat
  springStart : Bool
  springEnd : Bool
  schedCnt : Nat
  /-- Staging words by word index (R480); high words latched by reads of TB_NOW_LO, TICK_NEXT_LO and SPRING_RD_LO. -/
  springStage : Tbl Word
  schedStage : Tbl Word
  tbHi : Word
  tickHi : Word
  springHi : Word
  /-- Baseline position in its TSC set indices (R495). -/
  basePos : Nat
  deriving DecidableEq, Repr

/-- A spring entry (R487). -/
structure SprEnt where
  so : Nat
  heat : Nat
  remove : Bool
  pin : Bool
  deriving DecidableEq, Repr

/-- A core: contexts, data RAM by word index, shared predictors (R461, R465), outbound queue (R469), spring ring (R488)
and rewarm queue (R493). -/
structure Core where
  ctxs : List Ctx
  ram : Tbl Word
  /-- Direction counters by index; an unlisted one is 0b01. Indirect targets by index; an unlisted one is invalid. -/
  ctrs : Tbl Nat
  ind : Tbl Word
  owner : Nat
  baseline : Bool
  demoted : Bool
  /-- Consecutive ticks at which a context of the core overran (R479). -/
  overruns : Nat
  /-- The count reached OVR_LIMIT at the last tick. -/
  due : Bool
  outq : List OutOp
  ring : List SprEnt
  ringAt : Nat
  ringMax : Nat
  sched : List (Nat × Nat × Nat)
  /-- EXC_LOGc: cause, context, PC, double fault. -/
  excLog : Option (Nat × Nat × Word × Bool)
  deriving DecidableEq, Repr

/-- A victim-hint entry (R481). -/
structure Hint where
  tag : Nat
  way : Nat
  valid : Bool
  epoch : Nat
  writer : Nat
  deriving DecidableEq, Repr

/-- PLC: cores 0 to 7 are the Walni-P cores, core 8 is the Walni-M. -/
structure Plc where
  cores : List Core
  hints : Tbl Hint
  scrubPos : Nat
  /-- CAPS_EFF (R498). PCF_STS: outcome, CAP_LIMITED, slot, reason. -/
  caps : Nat
  outcome : Nat
  limited : Bool
  slot : Nat
  reason : Nat
  /-- Spring generation, whether one is being built, END seen, completed generation (R489). -/
  gen : Nat
  building : Bool
  closing : Bool
  segs : Nat
  /-- The generation that is complete (R489), and what is left of the Geyser snapshot (R490). -/
  doneGen : Nat
  snap : List SprEnt
  /-- The spring table left to be read as a stream (R491, R492). -/
  table : List SprEnt
  /-- Stream entries that MED may read itself in this epoch (R494). -/
  selfRead : Nat
  /-- The baseline spring pass: sets left per context, start of the last pass. -/
  passLeft : Nat
  passAt : Nat
  /-- Round-robin position over contexts of TAG's prefetch issue (R486) and over cores of MED's (R493). -/
  rrCtx : Nat
  rrCore : Nat
  /-- EV_SPRING_DROP was raised since the last tick. -/
  dropTold : Bool
  /-- Stopped at Fence: no frame starts until start-up (R459). -/
  fenced : Bool
  deriving DecidableEq, Repr

def Ctx.reset : Ctx :=
  { st := .notStarted, g := List.replicate 32 0, pc := 0, epc := 0, cause := 0, ds := false, ms := false, pmode := false,
    el := false, loopEnd := false, task := false, lps0 := 0, lpe0 := 0, lct0 := 0, lps1 := 0, lpe1 := 0, lct1 := 0,
    etag := 0, entry := 0, active := false, ovr := false, seq := 0, slot := none, shadow := false, heldPre := false,
    wait := .none, iw := 0, ghist := 0, rstack := [], frameAt := 0, reached := false, ended := false, build := [], issue := [],
    springCnt := 0, springStart := false, springEnd := false, schedCnt := 0, springStage := [], schedStage := [],
    tbHi := 0, tickHi := 0, springHi := 0, basePos := 0 }

def Core.reset (n : Nat) : Core :=
  { ctxs := List.replicate n Ctx.reset, ram := [], ctrs := [], ind := [], owner := 0, baseline := true, demoted := false,
    overruns := 0, due := false, outq := [], ring := [], ringAt := 0, ringMax := 0, sched := [], excLog := none }

def Plc.reset : Plc :=
  { cores := List.replicate 8 (Core.reset 4) ++ [Core.reset 1], hints := [], scrubPos := 0, caps := 0, outcome := 0,
    limited := false, slot := 0, reason := 0, gen := 0, building := false, closing := false, segs := 0,
    doneGen := 0, snap := [], table := [], selfRead := 0, passLeft := 0, passAt := 0, rrCtx := 0, rrCore := 0, dropTold := false,
    fenced := false }

end Sys2Proof.Machine
end

