-- ==== Sys2Proof/Machine/StMed.lean ====
section
/-! DEFINITION. The state of the ledger (R288 to R307), the media engine (R314 to R318, R351), the journal (R319 to
R345) and what the device has written to its drives. -/

namespace Sys2Proof.Machine

/-- Reserve state (R301), in the codes of LDG.STATE.RSTATE. -/
inductive RState where
  | unarmed | armed | overdrawn | disarmed
  deriving DecidableEq, Repr

/-- Calibration (R305): the step it runs, and when it began. -/
structure Cal where
  step : Nat
  since : Nat
  deriving DecidableEq, Repr

/-- The ledger's published figures and state. Energies are in nJ, cap and cap_model in bytes, drain_est in µs. -/
structure Ldg where
  st : RState
  rung : Nat
  /-- Rung 80% as taken at the last tick (R302). -/
  cap : Nat
  capModel : Nat
  valid : Bool
  drainUs : Nat
  eAvail : Nat
  eNeed : Nat
  uncovered : Bool
  /-- Closed at Fence step 6 (R296). -/
  closed : Bool
  /-- D at the close. -/
  dClose : Nat
  cal : Option Cal
  calResult : Nat
  /-- Bank figures latched at the last tick: available energy of each bank in nJ (R297). -/
  latched : List Nat
  /-- D as latched at the last tick. -/
  dLatched : Nat
  /-- CAL_BW, CAL_PWR, CAL_CFG.PORTS and MED's count of healthy drain ports, as taken at the last tick (R31, R41, R311). -/
  calBw : Nat
  calPwr : Nat
  calPorts : Nat
  portsUp : Nat
  /-- A tick has come since host link enable (R30). -/
  ticked : Bool
  /-- Charge of quarantined ways (R291), and its write-through part (R303): data bytes, units. -/
  excess : Nat × Nat
  excessWt : Nat × Nat
  /-- Rung and CAUSE at the close (R296). -/
  shut : Nat × Nat
  deriving DecidableEq, Repr

/-- A locator (R328): namespace, journal page, record, line code, persistent poison. -/
structure Loc where
  ns : Nat
  page : Nat
  rec_ : Nat
  ls : LS
  persist : Bool
  deriving DecidableEq, Repr

/-- An index entry (R328) with the bucket that holds it. -/
structure JEntry where
  bucket : Nat
  locs : List (Option Loc)
  deriving DecidableEq, Repr

/-- Record types (R324). -/
inductive RTy where
  | data | zero | poison | foreign | spring | ckpt | close | dirsnap | rotate | test
  deriving DecidableEq, Repr

/-- A journal record (R324). Sector records carry, for each sector they cover, a copied line per line; others a body. -/
structure JRec where
  ty : RTy
  so : Nat
  run : Nat
  encl : Nat
  keygen : Nat
  home : Nat
  held : Bool
  carry : Bool
  /-- No grant stands behind it: a carried record, or one of a rotation step; it holds its unit alone. -/
  free_ : Bool
  kind : CopyKind
  secs : List (List (Option CLine))
  body : List Nat
  deriving DecidableEq, Repr

/-- A page in journal staging (R163): PSEQ, stream, page number, records, its media command if submitted, waiting
consumers. -/
structure StPage where
  pseq : Nat
  ns : Nat
  page : Nat
  recs : List JRec
  cid : Option Nat
  drain : Bool
  /-- Completed at media while the clean queue was full (R169). -/
  done : Bool
  /-- Its write failed: its records wait to be packed again (R350). -/
  failed : Bool
  at_ : Nat
  deriving DecidableEq, Repr

/-- A record page on media (R323). -/
structure JPage where
  pseq : Nat
  recs : List JRec
  drain : Bool
  deriving DecidableEq, Repr

/-- A stream (R320, R321): head slot, tail slot (counted without wrap), next position in the tail slot, entries the next
summary page of the slot will cover (R325), summary pages whose covered pages have not all completed (page number and
entries' first page), closed for new pages (R351). -/
structure JStream where
  head : Nat
  tail : Nat
  pos : Nat
  cov : Nat
  sums : List Nat
  closed : Bool
  deriving DecidableEq, Repr

/-- Purposes of a media command. -/
inductive MCmd where
  /-- A read of a page for a transaction's fill (tracker entry, generation): journal page or home page. -/
  | fill (txn gen : Nat)
  /-- A journal page write, by PSEQ. -/
  | page (pseq : Nat)
  /-- A summary page write, by namespace and page number, and whether it is the second try (R325). -/
  | summary (ns page : Nat) (again : Bool)
  /-- Reads and the home page write of a sinter or rotation step of a home page. -/
  | sinterRd (p : Nat)
  | sinterWr (p : Nat)
  /-- A FUA write to the label area: the anchor of a series, or a copy of the wrapped-key area. -/
  | anchor (series : Nat)
  | area (seq : Nat)
  /-- A write that creates a media set (R71). -/
  | create
  deriving DecidableEq, Repr

/-- A command in a media port's slot (R315, R318). -/
structure Cmd where
  cid : Nat
  port : Nat
  /-- The I/O queue it went to (R314). -/
  queue : Nat
  ns : Nat
  lba : Nat
  what : MCmd
  at_ : Nat
  abortAt : Option Nat
  /-- Lost in a controller reset, to be re-issued when the controller is ready. -/
  lost : Bool
  retried : Bool
  deriving DecidableEq, Repr

/-- The controllers below a media port: ready, or resetting since a TB; when SMART was last read (R352); Deallocate support (R316). -/
structure Ctl where
  ready : Bool
  resetAt : Option Nat
  polled : Nat
  dsm : Bool
  deriving DecidableEq, Repr

/-- A media port (R314, R351). -/
structure MPort where
  link : Bool
  lost : Bool
  ctl : Ctl
  cmds : List Cmd
  /-- Namespaces found behind it at this start-up that meet the requirements and carry no label of another set: blocks, and the
  label; and whether any namespace behind it carries a valid label. -/
  found : List (Nat × Option Label)
  labelled : Bool
  deriving DecidableEq, Repr

/-- The media set in force (R68, R679): number of namespaces, blocks of a journal part and of a home part, identifier,
the port of each namespace index, which indices are lost, labels valid. -/
structure MSet where
  n : Nat
  jl : Nat
  hl : Nat
  jgib : Nat
  mset : Nat
  nsPort : List Nat
  lost : List Nat
  deriving DecidableEq, Repr

/-- A media set being created (R71): the set, the draw of its open key, the host port whose MEDIA_FORMAT creates it, the step, and the
writes of that step that have not completed: namespace and LBA. The steps are 0 and 1 the two label copies, 2 and 3 the two copies of the
wrapped-key area, 4 the copies of the checkpoint, 5 its anchors, 6 the CLOSE records, 7 done. -/
structure Creation where
  set_ : MSet
  key : Nat
  host : Option Nat
  step : Nat
  left : List (Nat × Nat)
  deriving DecidableEq, Repr

/-- Key rotation (R343): key, generations, cursor home page. -/
structure Rot where
  key : Nat
  oldGen : Nat
  newGen : Nat
  cursor : Nat
  walked : Bool
  deriving DecidableEq, Repr

/-- A checkpoint (R340): series, PSEQ_AT, D; head slot, tail slot and highest completed record page of each stream; J, N, NB and
STEPPING; and its progress. -/
structure Ckpt where
  series : Nat
  pseqAt : Nat
  heads : List Nat
  tails : List Nat
  tops : List Nat
  geom : List Nat
  d : Nat
  /-- The rotation that runs, and the latest ROTATE record of every key: cursor, new generation. -/
  rot : Option Rot
  rots : Tbl (Nat × Nat)
  /-- The persistent poison locators (4 × SO + line); the foreign records retired, as sectors and by JSN; the live spring
  generation and the JSN of its first record; COH.INCARN. -/
  poison : List Nat
  retired : List Nat
  retiredJsn : List Nat
  gen : Nat
  springJsn : Nat
  incarn : Nat
  /-- Segments of a copy; records completed of both; where the copies begin, as namespace and journal page; namespaces on which its
  anchor has completed. -/
  segs : Nat
  copies : Nat
  places : List (Nat × Nat)
  anchors : List Nat
  deriving DecidableEq, Repr

/-- A sinter or rotation step of a home page (R334): the locators captured (sector, line, locator), reads outstanding. -/
structure Sinter where
  p : Nat
  locs : List (Nat × Nat × Loc)
  reads : Nat
  rotate : Bool
  bad : Bool
  /-- Its home page has been written; a rotation step then waits for its ROTATE record. -/
  written : Bool
  deriving DecidableEq, Repr

/-- A foreign record (R274): home device, sector GA[59:8], line states, dirty lines, HELD. -/
structure Foreign where
  home : Nat
  sk : Nat
  ls : List LS
  data : List (Option Line)
  held : Bool
  deriving DecidableEq, Repr

/-- What the device has written to its drives. -/
structure Media where
  set_ : Option MSet
  /-- Journal pages by namespace × 2^27 + page. -/
  pages : Tbl JPage
  /-- Home lines by HO[47:6] that the device has written. -/
  homeLines : Tbl Line
  /-- Completed checkpoints, newest first; CLOSE with its drain-complete flag is in `closed`. -/
  ckpts : List Ckpt
  closed : Option Bool
  /-- Directory snapshot and foreign records the last drain wrote. The snapshot lists sector offset, and owner with 4096, or
  forwarder and requester of a hold. -/
  snapshot : Option (List (Nat × Nat × Nat))
  foreign : List Foreign
  /-- The latest ROTATE record of each key: cursor, new generation (R324). -/
  rotates : Tbl (Nat × Nat)
  deriving DecidableEq, Repr

/-- The journal writer, index and engines of LDG. -/
structure Jrnl where
  /-- Index entries by sector offset SO. -/
  idx : Tbl JEntry
  nb : Nat
  staging : List StPage
  streams : List JStream
  pseq : Nat
  nextCid : Nat
  sinters : List Sinter
  /-- The earliest TB of the next background sinter under its rate (R335). -/
  sinterAt : Nat
  ckpt : Option Ckpt
  ckptAt : Nat
  series : Nat
  rot : Option Rot
  high : Bool
  below : Bool
  idxFull : Bool
  /-- Home device records retired by handback since the last restart (R340). -/
  retired : List Nat
  /-- The creation of a media set that is under way (R71). -/
  making : Option Creation
  /-- The last replay (R355): a completing CLOSE found, incomplete, unrecoverable, an older series used, time in ms. -/
  closeFound : Bool
  incomplete : Bool
  unrec : Bool
  fallback : Bool
  rebuildMs : Nat
  deriving DecidableEq, Repr

/-- The media side. -/
structure Med where
  ports : List MPort
  jrnl : Jrnl
  media : Media
  deriving DecidableEq, Repr

def Ldg.reset : Ldg :=
  { st := .unarmed, rung := 0, cap := 0, capModel := 0, valid := false, drainUs := 0, eAvail := 0, eNeed := 0,
    uncovered := false, closed := false, dClose := 0, cal := none, calResult := 0, latched := [0, 0, 0, 0], dLatched := 0, calBw := 0, calPwr := 0,
    calPorts := 0, portsUp := 0, ticked := false,
    excess := (0, 0), excessWt := (0, 0), shut := (0, 0) }

def MPort.off : MPort := ⟨false, false, ⟨false, none, 0, false⟩, [], [], false⟩

def Jrnl.reset : Jrnl :=
  { idx := [], nb := 0, staging := [], streams := [], pseq := 1, nextCid := 0, sinters := [], sinterAt := 0, ckpt := none, ckptAt := 0,
    series := 0, rot := none, high := false, below := false, idxFull := false, retired := [],
    making := none, closeFound := false, incomplete := false, unrec := false, fallback := false, rebuildMs := 0 }

/-- Drives as delivered: no label the device would recognise, nothing written by it. -/
def Media.blank : Media :=
  { set_ := none, pages := [], homeLines := [], ckpts := [], closed := none, snapshot := none, foreign := [], rotates := [] }

def Med.reset : Med :=
  { ports := [MPort.off, MPort.off, MPort.off, MPort.off, MPort.off, MPort.off, MPort.off, MPort.off],
    jrnl := Jrnl.reset, media := Media.blank }

end Sys2Proof.Machine
end

