-- ==== Sys2Proof/Machine/StRsv.lean ====
section
/-! DEFINITION. The state of RSV (R39, R359 to R394): power state, reserve banks, the seal and the last power event, the
restart sweep and rewarm; and of CCH (R398 to R430): channels, marks, pairs, scrub and the training record. -/

namespace Sys2Proof.Machine

/-- Power states (R39). -/
inductive PSt where
  | off | startup | run | fence | geyser | dormant
  deriving DecidableEq, Repr

/-- Bank states, in the order of BANKn_STS.STATE (R360, R394). -/
inductive BankSt where
  | absent | measuring | charging | ready | holding | isolated | discharging
  deriving DecidableEq, Repr

def BankSt.code : BankSt → Nat
  | .absent => 0 | .measuring => 1 | .charging => 2 | .ready => 3 | .holding => 4 | .isolated => 5 | .discharging => 6

/-- Bank faults, in the order of BANKn_STS.FAULT (R364, R394). -/
inductive BankFault where
  | none | present | reverse | overcurrent | overvolt | capRange | service
  deriving DecidableEq, Repr

def BankFault.code : BankFault → Nat
  | .none => 0 | .present => 1 | .reverse => 2 | .overcurrent => 3 | .overvolt => 4 | .capRange => 5 | .service => 6

/-- A reserve bank. -/
structure Bank where
  st : BankSt
  fault : BankFault
  /-- PRESENT_N reads low. -/
  present : Bool
  /-- Voltage in mV and current in 10 mA (two's complement, 16 bits), as last converted. -/
  mv : Nat
  cur : Nat
  /-- Measured capacitance in 10 µF, and the TB of that measurement. -/
  cap : Nat
  measAt : Option Nat
  /-- V_tgt in mV (R362). -/
  vtgt : Nat
  /-- The bleed is on because V exceeded V_tgt (R362). -/
  bleed : Bool
  /-- The ADC self-check of the last tick passed; VALID at the last tick (R365). -/
  adcOk : Bool
  valid : Bool
  /-- A service discharge was requested while Holding (R366); TB of entry to Discharging, and the failure was raised. -/
  disReq : Bool
  disAt : Option Nat
  disTold : Bool
  deriving DecidableEq, Repr

/-- RSV faults, in the order of RSV_STS.FAULT (R368). -/
inductive RsvFault where
  | adc | gate | noBank
  deriving DecidableEq, Repr

def RsvFault.code : RsvFault → Nat
  | .adc => 1 | .gate => 2 | .noBank => 3

/-- The seal (R380). -/
structure Seal where
  valid : Bool
  held : Bool
  series : Nat
  pseq : Nat
  deriving DecidableEq, Repr

/-- LAST_EVT and the durations beside it (R394). -/
structure LastEvt where
  trigger : Nat
  fenceDone : Bool
  drainDone : Bool
  dormant : Bool
  dormLost : Bool
  restart : Nat
  fenceNs : Nat
  drainUs : Nat
  dormMs : Nat
  deriving DecidableEq, Repr

/-- RSV, start of Fence and Geyser, the restart sweep and rewarm. -/
structure Rsv where
  pst : PSt
  banks : List Bank
  /-- RSV faults whose condition holds, the newest first. -/
  faults : List RsvFault
  adcFails : Nat
  /-- PWRFAIL_N is low, the bus is below VIN_TRIP, RAILS_GOOD is high. -/
  pfLow : Bool
  busLow : Bool
  railsGood : Bool
  /-- MAIN_EN is driven high (R665); TB since which PWRFAIL_N and the bus have been good. -/
  mainEn : Bool
  goodAt : Nat
  /-- TB of the trigger of the running Fence or Geyser, of Geyser's start and of Dormant's. -/
  trigAt : Nat
  geyserAt : Nat
  dormAt : Nat
  /-- What Geyser has packed: 1 steps 1 and 2, 2 the spring rings, 3 step 3, 4 the directory snapshot, 5 the checkpoint
  copies, 6 the CLOSE record. -/
  drain : Nat
  last : LastEvt
  sealRec : Seal
  /-- Events owed to the next start-up (R396): a Geyser ended under R377, a Dormant that ran out. -/
  oweAbort : Bool
  oweDorm : Bool
  /-- Mailbox ports whose RESERVE_CTL DISCHARGE waits, with the banks named (R367). -/
  waiters : List (Nat × List Nat)
  /-- The restart sweep runs; position reached per channel (R386). -/
  sweep : Bool
  marks : List Nat
  /-- Rewarm: entries of the spring table at its start, running (R388 to R391). -/
  schedLen : Nat
  rewarm : Bool
  /-- The earliest TB at which rewarm may read again at its rate (R389). -/
  rewarmAt : Nat
  deriving DecidableEq, Repr

/-- CHc_STS.STATE (R429). -/
inductive ChSt where
  | absent | up | failed | target
  deriving DecidableEq, Repr

def ChSt.code : ChSt → Nat
  | .absent => 0 | .up => 1 | .failed => 2 | .target => 3

/-- A DRAM channel. -/
structure Chan where
  st : ChSt
  temp : Nat
  ref2x : Bool
  /-- Corrections since the last start-up (R420). -/
  corr : Nat
  /-- Scrub position, and passes completed (R414). -/
  scrub : Nat
  passes : Nat
  deriving DecidableEq, Repr

/-- A lockstep pair (R417 to R422): broken, survivor odd, resilver position. -/
structure Pair where
  broken : Bool
  odd : Bool
  resilver : Option Nat
  deriving DecidableEq, Repr

/-- The training record (R405). `dimms` stands for the serial and part numbers: DIMM d of channel c at 2c + d, 0 where there is none. -/
structure TrainRec where
  dimms : List Nat
  rate : Nat
  mode : Bool
  mirror : Bool
  marks : Tbl Nat
  survivors : List Pair
  failed : List Nat
  deriving DecidableEq, Repr

structure Cch where
  chans : List Chan
  pairs : List Pair
  /-- Marked device by rank key: 16 × channel + 8 × subchannel + rank (R409); trial successes by 16 × rank key + device. -/
  devMark : Tbl Nat
  trials : Tbl Nat
  /-- Array mode, mirroring and rate (MT/s) in force; the last start-up ran full training. -/
  mode : Bool
  mirror : Bool
  rate : Nat
  fullTrained : Bool
  /-- TRAIN_CMD.FULL has been written since the last start-up. -/
  fullReq : Bool
  record : Option TrainRec
  /-- DIMM set present; ranks per subchannel as ρ (R402). -/
  dimms : List Nat
  rho : Nat
  /-- Correction write-backs queued at P2: 4 × way key + line (R410, R415). -/
  corrWb : List Nat
  deriving DecidableEq, Repr

def Bank.absent : Bank :=
  { st := .absent, fault := .none, present := false, mv := 0, cur := 0, cap := 0, measAt := none, vtgt := 0,
    bleed := false, adcOk := true, valid := false, disReq := false, disAt := none, disTold := false }

def Seal.empty : Seal := ⟨false, false, 0, 0⟩

def LastEvt.none : LastEvt := ⟨0, false, false, false, false, 0, 0, 0, 0⟩

def Rsv.reset : Rsv :=
  { pst := .off, banks := [Bank.absent, Bank.absent, Bank.absent, Bank.absent], faults := [], adcFails := 0,
    pfLow := false, busLow := false, railsGood := false, mainEn := false, goodAt := 0, trigAt := 0, geyserAt := 0, dormAt := 0, drain := 0, last := LastEvt.none,
    sealRec := Seal.empty, oweAbort := false, oweDorm := false, waiters := [], sweep := false, marks := [], schedLen := 0,
    rewarm := false, rewarmAt := 0 }

def Chan.off : Chan := ⟨.absent, 0, false, 0, 0, 0⟩

def Pair.whole : Pair := ⟨false, false, none⟩

def Cch.reset : Cch :=
  { chans := List.replicate 16 Chan.off, pairs := List.replicate 8 Pair.whole, devMark := [], trials := [],
    mode := false, mirror := false, rate := 0, fullTrained := false, fullReq := false, record := none, dimms := [],
    rho := 0, corrWb := [] }

end Sys2Proof.Machine
end

