-- ==== Sys2Proof/Machine/StSec.lean ====
section
/-! DEFINITION. The state of SEC (R538 to R571): the key store as tokens drawn from the DRBG, the wrapped-key area as it
stands on media, the range table, SPDM sessions, the TRNG and tamper state. No key value is ever readable (R538): the
model holds which keys are present and which draw made each. -/

namespace Sys2Proof.Machine

/-- A media key (R540, R541): current generation with its token, and the old generation of a running rotation. -/
structure MediaKey where
  gen : Nat
  tok : Nat
  old : Option (Nat × Nat)
  deriving DecidableEq, Repr

/-- STATE of a range entry (R548). -/
inductive RangeSt where
  | active | creating | destroying
  deriving DecidableEq, Repr

/-- A range-table entry (R548): first and last 4 KiB page of HO, enclave, state. -/
structure Range where
  base : Nat
  last : Nat
  encl : Nat
  st : RangeSt
  deriving DecidableEq, Repr

/-- The wrapped-key area in force on media (R542, R543): SEQ, the escrow check value as the token of its escrow key,
which keys it wraps, the range table, and the key and old generation in the rotation slot. -/
structure Area where
  seq : Nat
  escrow : Nat
  keys : Tbl MediaKey
  ranges : Tbl Range
  deriving DecidableEq, Repr

/-- An SPDM session (R556, R558): its port, whether FINISH has completed, the last accepted trailer SEQ. -/
structure Session where
  id : Nat
  port : Nat
  established : Bool
  lastSeq : Nat
  /-- The draw its secrets come from, and how often KEY_UPDATE has renewed them. -/
  secret : Nat
  updates : Nat
  deriving DecidableEq, Repr

/-- An IDE stream of a port (R106): established, under an SPDM session or not. -/
structure Stream where
  est : Bool
  spdm : Bool
  skid : Bool
  tok : Nat
  deriving DecidableEq, Repr

/-- A tamper source (R567), by its bit in TAMPER_STS.SOURCE. -/
inductive Tamper where
  | switch | mesh | vaux | core | temp | clock
  deriving DecidableEq, Repr

structure Sec where
  root : Option Nat
  cacheKey : Option Nat
  /-- Unwrapped media keys by index (R538). -/
  media : Tbl MediaKey
  area : Option Area
  /-- Area contents being written, the oldest first, with the namespaces on which copy A and copy B of the oldest are
  complete (R543). -/
  areaQ : List Area
  areaA : List Nat
  areaB : List Nat
  /-- The port of an UNLOCK whose area write is not complete (R559). -/
  unlock : Option Nat
  /-- The range table in force in SEC. -/
  ranges : Tbl Range
  /-- Enclave bindings (R107): key 4 × port + decoder, value the enclave ID. -/
  binds : Tbl Nat
  sessions : List Session
  nextSession : Nat
  /-- The identity and alias private keys are in the key store (R538, R557). -/
  aliasKey : Bool
  ideMem : Tbl Stream
  ideIo : Tbl Stream
  /-- The TRNG runs and has passed its start-up tests; generate requests since the last reseed (R544). -/
  trng : Bool
  ready : Bool
  gens : Nat
  seedAt : Nat
  /-- Outputs drawn from the DRBG since the part was made: the index of the next one. -/
  draws : Nat
  /-- Tamper-Lock and its cause: 0 none, 1 TAMPER, 2 NO_ROOT (KEY_STS). -/
  lock : Nat
  /-- TAMPER_STS, TAMPER_LOST: sources, QUENCHED, IN_DRAIN, MiB lost. -/
  sources : List Tamper
  quenched : Bool
  inDrain : Bool
  lostMib : Nat
  /-- Sources asserted now. -/
  asserted : List Tamper
  /-- A Quench whose SRAM clearing has not finished, and a tamper whose Quench waits for the drain, by its trigger TB. -/
  clearing : Bool
  drainThen : Option Nat
  /-- A Quench since the last seal (R382); the check value recorded by a first UNLOCK (R559). -/
  sinceSeal : Bool
  escrow : Option Nat
  /-- Events to raise at the next start-up: a Quench outside Run, and data lost to it. -/
  oweQuench : Bool
  oweLost : Bool
  /-- Revoked signing keys, by fuse. -/
  revoked : List Nat
  deriving DecidableEq, Repr

def Sec.reset : Sec :=
  { root := none, cacheKey := none, media := [], area := none, areaQ := [], areaA := [], areaB := [], unlock := none, ranges := [], binds := [], sessions := [],
    nextSession := 1, aliasKey := false, ideMem := [], ideIo := [], trng := false, ready := false, gens := 0, seedAt := 0,
    draws := 0, lock := 0, sources := [], quenched := false, inDrain := false, lostMib := 0, asserted := [],
    clearing := false, drainThen := none, sinceSeal := false, escrow := none, oweQuench := false, oweLost := false, revoked := [] }

end Sys2Proof.Machine
end

