-- ==== Sys2Proof/Syntax.lean ====
section
/-! DEFINITION. The commands of the block: one constructor per row of the table of operations and events, each a step of
the part that is whole and indivisible. Operands carry what the outside supplies: the message, the pin, the measured
value, the outcome of a read. -/

namespace Sys2Proof

open Sys2Proof.Machine

/-- A command. -/
inductive Instr where
  /-- EPOCH_TICK (R31): CTR generates an epoch tick from TB and the blocks latch figures, swap policy tables and evaluate the ledger. -/
  | epochTick (adc : List Adc)
  /-- SHED_STEP_ESCALATE (R92): A shortage lasting another 1 µs takes the next give-way step. -/
  | shedStepEscalate
  /-- PCF_DEMOTE (R479): A core whose contexts overran OVR_LIMIT consecutive ticks is demoted to the ROM baseline. -/
  | pcfDemote (k : Nat)
  /-- EPOCH_PERIOD_WRITE (R36): A write of CTR.EPOCH.PERIOD clamps the value and recomputes the end of the current epoch. -/
  | epochPeriodWrite (m : Master) (w : Word)
  /-- PHASE_LOCK_WRITE (R37): A write of CTR.EPOCH.PHASE_LOCK moves or keeps the current epoch end. -/
  | phaseLockWrite (m : Master) (w : Word)
  /-- REGISTER_WRITE (R14): A BAR0 or sideband write to a register without its own row is applied or discarded under ownership, reserved-bit and lock rules. -/
  | registerWrite (m : Master) (a size w : Nat)
  /-- HMAP_DATA_WRITE (R55): A home-map entry write is refused, applied, or with VALID 0 starts the back-invalidate step and sets PEND. -/
  | hmapDataWrite (m : Master) (w : Word)
  /-- HMAP_INVALIDATION_DONE (R55): Once every host line of the window is invalidated and tracker entries retire, PEND clears. -/
  | hmapInvalidationDone
  /-- HDM_DECODER_COMMIT (R43): A host commits or re-commits an HDM decoder, with a back-invalidate walk before a changed mapping takes effect. -/
  | hdmDecoderCommit (p i : Nat) (d : Hdm)
  /-- HDM_DECODER_UNCOMMIT (R48): A host uncommits a decoder; tracked lines of the old range are back-invalidated before Committed changes. -/
  | hdmDecoderUncommit (p i : Nat)
  /-- HOST_LINK_UP (R85): A host port trains or retrains and grants its full credits and credit headrooms. -/
  | hostLinkUp (p width : Nat) (full : Bool) (bisnp : Nat)
  /-- HP_LINK_DOWN (R110): Link down or PERST_N on a host port places received writes, discards results, assumes BIRspI and clears the port's snoop-filter state. -/
  | hpLinkDown (p : Nat) (perst : Bool)
  /-- MEM_RD (R82): An M2S MemRd or MemRdData is mapped to its request class, allocated a tracker entry and looked up. -/
  | memRd (p tag hpa : Nat) (mv : HSt) (dat : Bool) (u : Upset)
  /-- MEM_INV (R82): An M2S MemInv or MemInvNT is handled as an ownership upgrade or a clean eviction notice. -/
  | memInv (p tag hpa : Nat) (mv : HSt) (nt : Bool) (u : Upset)
  /-- MEM_CLN_EVCT (R82): A MemClnEvct updates the snoop filter to I for the port. -/
  | memClnEvct (p tag hpa : Nat)
  /-- MEM_SPEC_RD (R146): A MemSpecRd is a droppable hint that may issue a P3 fill on a miss. -/
  | memSpecRd (p hpa : Nat)
  /-- MEM_WR (R82): A full-line MemWr converts its headroom and goes through the cache or the combining buffer. -/
  | memWr (p tag hpa : Nat) (mv : HSt) (data : Line) (poison : Bool) (u : Upset)
  /-- MEM_WR_PTL (R178): A partial write is merged into a combining entry for its sector. -/
  | memWrPtl (p tag hpa : Nat) (mv : HSt) (data : Line) (mask : LineMask) (poison : Bool)
  /-- BIRSP (R216): A host BIRspI, BIRspS or BIRspE is accepted, or re-snooped when illegal. -/
  | birsp (p hpa kind : Nat)
  /-- BICONFLICT (R218): A host BIConflict is acknowledged at once or after its request is answered. -/
  | biconflict (p tag hpa : Nat)
  /-- BISNP_TIMEOUT (R219): A BISnp unanswered after TO_MS sets BI_FAIL and takes the port down. -/
  | bisnpTimeout (p hpa : Nat)
  /-- ATOMIC_OP (R105): A PCIe AtomicOp to BAR4 executes at the home with its sector Busy. -/
  | atomicOp (p tag da : Nat) (a : Atom)
  /-- ATM_ALU_DONE (R223): The ALU step completes, placing or not placing the result line and returning the result. -/
  | atmAluDone (id : Nat)
  /-- BAR4_NON_ATOMIC (R84): A non-AtomicOp request to BAR4 completes with Unsupported Request. -/
  | bar4NonAtomic (p tag da : Nat)
  /-- IDE_INTEGRITY_FAIL (R108): An IDE integrity failure discards traffic, clears bindings and takes the link down. -/
  | ideIntegrityFail (p : Nat) (mem : Bool)
  /-- IDENTIFY_MEMORY_DEVICE (R80): Mailbox command reporting persistent capacity D_SIZE. -/
  | identifyMemoryDevice (p : Nat)
  /-- GET_EVENT_RECORDS (R638): Mailbox command reading event logs without setting READ. -/
  | getEventRecords (p log : Nat)
  /-- CLEAR_EVENT_RECORDS (R638): Owner mailbox command releasing the named entries. -/
  | clearEventRecords (p : Nat) (handles : List Nat)
  /-- GET_POISON_LIST (R111): Mailbox command returning the poison list including persistent poison. -/
  | getPoisonList (p : Nat)
  /-- INJECT_POISON (R95): Owner mailbox command injecting poison. -/
  | injectPoison (p da : Nat)
  /-- CLEAR_POISON (R338): Owner mailbox command clearing poison, superseding persistent poison. -/
  | clearPoison (p da : Nat) (data : Line)
  /-- GET_SHUTDOWN_STATE (R113): Mailbox command reporting the dirty shutdown count. -/
  | getShutdownState (p : Nat)
  /-- GET_FW_INFO (R95): Mailbox command reporting firmware slots and versions. -/
  | getFwInfo (p : Nat)
  /-- TRANSFER_FW (R619): Owner background command writing an image into the inactive slot, header last. -/
  | transferFw (p typ : Nat) (last : Bool) (img : Image)
  /-- ACTIVATE_FW (R623): Owner command arming activation at the next reset; online activation is refused. -/
  | activateFw (p typ : Nat) (online : Bool)
  /-- ZALLOC (R183): Mailbox range command making every sector Dirty-Zero sector by sector. -/
  | zalloc (p da len : Nat) (tr : Option Trailer)
  /-- ZALLOC_SECTOR_OP (R183): The zero-allocate engine processes one sector after its conflict-queue turn and reservation. -/
  | zallocSectorOp (p : Nat)
  /-- PREFETCH (R95): Mailbox range command issuing fills without waiting for them. -/
  | prefetch (p da len : Nat) (tr : Option Trailer)
  /-- PIN (R97): Mailbox range command fetching and pinning sectors up to two ways per set. -/
  | pin (p da len : Nat) (tr : Option Trailer)
  /-- UNPIN (R95): Mailbox range command clearing pins. -/
  | unpin (p da len : Nat) (tr : Option Trailer)
  /-- FLUSH (R95): Mailbox range command completing when every dirty sector has a journal media completion. -/
  | flush (p da len : Nat) (tr : Option Trailer)
  /-- INVAL (R97): Mailbox range command dropping clean sectors and back-invalidating host copies. -/
  | inval (p da len : Nat) (tr : Option Trailer)
  /-- DFENCE (R193): Mailbox DFENCE covering the issuing port or all ports. -/
  | dfence (p payload : Nat)
  /-- OFENCE (R193): Mailbox OFENCE covering the issuing port or all ports. -/
  | ofence (p payload : Nat)
  /-- DOORBELL_DFENCE (R104): A FENCE_DB write with KIND 1 issues a DFENCE with a host SEQ. -/
  | doorbellDfence (p seq : Nat) (irq : Bool)
  /-- DOORBELL_OFENCE (R104): A FENCE_DB write with KIND 0 issues an OFENCE and holds later writes. -/
  | doorbellOfence (p seq : Nat) (irq : Bool)
  /-- GPF_PHASE1 (R103): GPF phase 1 withholds RwD credits on every port. -/
  | gpfPhase1 (p : Nat)
  /-- GPF_PHASE2 (R103): GPF phase 2 runs a DFENCE over all ports. -/
  | gpfPhase2 (p : Nat)
  /-- ATOMIC (R221): Mailbox ATOMIC executing at the home. -/
  | atomic (p da : Nat) (a : Atom) (tr : Option Trailer)
  /-- APPEND (R226): Mailbox bounded append writing a record and advancing TAIL, or returning FULL. -/
  | append (p da len : Nat) (data : Line) (tr : Option Trailer)
  /-- KEY_ESCROW_UNLOCK (R559): KEY_ESCROW FUNC 0 leaves Tamper-Lock by unwrapping EKW entries under a new root key. -/
  | keyEscrowUnlock (p key : Nat) (asserted : List Tamper) (tr : Trailer)
  /-- KEY_ESCROW_CHANGE (R559): KEY_ESCROW FUNC 1 rewraps every EKW entry under a new escrow key. -/
  | keyEscrowChange (p key newKey : Nat) (tr : Trailer)
  /-- ENCLAVE_CREATE (R553): Session command generating a key, adding ranges and bindings for an enclave. -/
  | enclaveCreate (p id : Nat) (ranges binds : List (Nat × Nat)) (rsv : Nat) (tr : Trailer)
  /-- ENCLAVE_DESTROY (R554): Session command removing bindings, zeroing ranges and erasing the enclave key. -/
  | enclaveDestroy (p id : Nat) (rsv : Nat) (tr : Trailer)
  /-- KEY_ROTATE (R343): Session command starting a new media key generation and its paced walk. -/
  | keyRotate (p k : Nat) (tr : Trailer)
  /-- ROTATE_PAGE_STEP (R343): The rotation walk rewrites one home page under the new generation and appends a ROTATE record. -/
  | rotatePageStep
  /-- ASSIGN_STAGE (R564): Session command storing ASSIGN and ESET values for the next POR or Cold start-up. -/
  | assignStage (p : Nat) (items : List (Nat × Nat × Nat)) (rsv : Nat) (tr : Trailer)
  /-- MEDIA_FORMAT (R71): Owner command creating a new media set from MED.LAYOUT. -/
  | mediaFormat (p : Nat)
  /-- RESERVE_ARM (R367): RESERVE_CTL ARM sets LDG.CTL.ARM. -/
  | reserveArm (p rsv : Nat)
  /-- RESERVE_DISARM (R367): RESERVE_CTL DISARM clears LDG.CTL.ARM. -/
  | reserveDisarm (p rsv : Nat)
  /-- RESERVE_DISCHARGE (R366): RESERVE_CTL DISCHARGE moves named banks to Discharging. -/
  | reserveDischarge (p banks rsv : Nat)
  /-- RESERVE_RECHARGE (R367): RESERVE_CTL RECHARGE moves Isolated banks to Measuring. -/
  | reserveRecharge (p banks rsv : Nat)
  /-- TRK_ENTRY_GRANT (R90): A freed tracker entry is granted to the oldest waiting request of its class or the shared pool. -/
  | trkEntryGrant
  /-- DRAM_READ_RETURN (R134): Bursts return from DRAM, are decoded and compared in-band to decide hit or miss. -/
  | dramReadReturn (id gen : Nat) (rds : List Rd)
  /-- TSC_FILL_DONE (R127): The last burst of a TSC fill is read and the pending entry becomes usable. -/
  | tscFillDone (set : Nat) (ids : List Rd)
  /-- TSC_FILL_BUDGET_RESET (R126): At each 1 µs TB boundary every channel's TSC fill count restarts at 0. -/
  | tscFillBudgetReset
  /-- VICTIM_STALL_TIMEOUT (R150): A fill waiting 100 µs for a victim raises EV_VICTIM_STALL. -/
  | victimStallTimeout (id : Nat)
  /-- PRED_FLUSH_MISS (R159): A write of PRED_FLUSH.MISS clears every miss-predictor entry. -/
  | predFlushMiss (m : Master)
  /-- PRED_FLUSH_WAY (R159): A write of PRED_FLUSH.WAY clears every way-predictor entry. -/
  | predFlushWay (m : Master)
  /-- MEDIA_READ_COMPLETION (R331): A media read completion is consumed: the fill installs lines, or errors poison them after retry. -/
  | mediaReadCompletion (cid : Nat) (out : MOut)
  /-- WB_SCHEDULER_COPY (R173): The write-back scheduler walks dirty regions and takes a write-back copy of a dirty line. -/
  | wbSchedulerCopy (r : Rd)
  /-- JOURNAL_PACK_TIMEOUT (R322): A page is packed 1 µs after its first record. -/
  | journalPackTimeout
  /-- JOURNAL_PAGE_COMPLETION (R168): A journal page media completion is consumed, releasing charges and cleaning lines, or re-packing on failure. -/
  | journalPageCompletion (cid : Nat) (out : MOut)
  /-- CLEAN_QUEUE_APPLY (R169): A queued clean's slice write is applied to DRAM and its entry frees. -/
  | cleanQueueApply
  /-- WB_STAGE_STALL_TIMEOUT (R172): An entry waiting 10 ms for staging raises EV_WB_STAGE_STALL. -/
  | wbStageStallTimeout (sk : Nat)
  /-- NT_AGE_WRITEOUT (R180): A combining entry reaching AGE_US is written out. -/
  | ntAgeWriteout (sk : Nat)
  /-- NT_HOLD_WRITEOUT (R180): A combining entry reaching WT_HOLD_US while not Armed is written out. -/
  | ntHoldWriteout (sk : Nat)
  /-- RESERVATION_GRANT (R295): A waiting ledger reservation is granted in class and arrival order once room exists. -/
  | reservationGrant
  /-- SF_STALL_TIMEOUT (R208): A request waiting 100 µs for a snoop-filter entry raises EV_COH_SF_STALL. -/
  | sfStallTimeout (id : Nat)
  /-- SF_SUSPECT_WALK (R211): A queued suspect walk visits every cache set of a snoop-filter set and invalidates untracked copies. -/
  | sfSuspectWalk
  /-- RD_S (R256): A home serves a fabric shared read, possibly via a nearest-sharer forwarder. -/
  | rdS (p lane seq : Nat) (m : FMsg)
  /-- RD_O (R256): A home serves a fabric exclusive read with data. -/
  | rdO (p lane seq : Nat) (m : FMsg)
  /-- RD_ONA (R256): A home grants fabric exclusive ownership with or without data. -/
  | rdOna (p lane seq : Nat) (m : FMsg)
  /-- RD_NA (R256): A home returns current data without keeping a copy. -/
  | rdNa (p lane seq : Nat) (m : FMsg)
  /-- WR_NA (R256): A home merges fabric bytes after invalidating remote copies. -/
  | wrNa (p lane seq : Nat) (m : FMsg)
  /-- ATOM (R256): A home executes a fabric atomic or APPEND. -/
  | atom (p lane seq : Nat) (m : FMsg)
  /-- EVC_E (R281): A home receives notice that a clean E copy was dropped. -/
  | evcE (p lane seq : Nat) (m : FMsg)
  /-- FHB_DONE (R277): A home learns a holder's handback is complete, poisoning marked sectors on DIRTY_LOST. -/
  | fhbDone (p lane seq : Nat) (m : FMsg)
  /-- SNP_S (R260): A holder downgrades to S and forwards data if asked. -/
  | snpS (p lane seq : Nat) (m : FMsg)
  /-- SNP_INV (R260): A holder invalidates, forwarding or returning dirty data. -/
  | snpInv (p lane seq : Nat) (m : FMsg)
  /-- SNP_CUR (R260): A holder sends current data to the requester without a state change. -/
  | snpCur (p lane seq : Nat) (m : FMsg)
  /-- SNP_REFWD (R262): A forwarder resends held data to the named node. -/
  | snpRefwd (p lane seq : Nat) (m : FMsg)
  /-- RSP_I (R249): A home receives RSP_I and empties the pointer. -/
  | rspI (p lane seq : Nat) (m : FMsg)
  /-- RSP_S (R260): A home receives RSP_S. -/
  | rspS (p lane seq : Nat) (m : FMsg)
  /-- RSP_MISS (R258): A home receives RSP_MISS, emptying the pointer or waiting for a WB. -/
  | rspMiss (p lane seq : Nat) (m : FMsg)
  /-- RSP_FWD (R262): A home records a forward or forward hold. -/
  | rspFwd (p lane seq : Nat) (m : FMsg)
  /-- RSP_PEND (R267): A waiting party restarts its transaction timer. -/
  | rspPend (p lane seq : Nat) (m : FMsg)
  /-- GNT (R241): A requester receives ownership without data. -/
  | gnt (p lane seq : Nat) (m : FMsg)
  /-- CMP (R265): A sender receives acceptance of WR_NA, WB, FHB or EVC_E, or a handback refusal. -/
  | cmp (p lane seq : Nat) (m : FMsg)
  /-- ACK (R259): A home receives the requester's ACK, clears Busy and releases a forward hold. -/
  | ack (p lane seq : Nat) (m : FMsg)
  /-- RLS (R262): A forwarder drops its forward hold and releases the charge. -/
  | rls (p lane seq : Nat) (m : FMsg)
  /-- ERR (R268): A requester's transaction is refused and fails. -/
  | err (p lane seq : Nat) (m : FMsg)
  /-- ATOM_RES (R254): A requester receives an atomic result. -/
  | atomRes (p lane seq : Nat) (m : FMsg)
  /-- DATA (R241): A requester installs a whole remote sector, checks its enclave and sends ACK. -/
  | data (p lane seq : Nat) (m : FMsg)
  /-- SNPDATA (R264): A home places dirty lines returned on a snoop. -/
  | snpdata (p lane seq : Nat) (m : FMsg)
  /-- WB (R264): A home places returned dirty lines and sends CMP at placement or media completion. -/
  | wb (p lane seq : Nat) (m : FMsg)
  /-- FHB (R278): A home accepts or refuses a foreign handback. -/
  | fhb (p lane seq : Nat) (m : FMsg)
  /-- FX_TIMEOUT (R268): A fabric transaction timer expires and the request is re-issued or fails. -/
  | fxTimeout (tid : Nat)
  /-- HOME_RESPONSE_TIMEOUT (R270): A home without ACK resends its response or frees the record. -/
  | homeResponseTimeout (tid : Nat)
  /-- HOME_SNOOP_TIMEOUT (R272): A snoop unanswered after MAX_REISSUE re-sends declares the holder lost. -/
  | homeSnoopTimeout (sk dev : Nat)
  /-- RSP_PEND_INTERVAL (R259): A long transaction sends RSP_PEND at half of TO_US. -/
  | rspPendInterval (id : Nat)
  /-- DIR_STALL_TIMEOUT (R251): A request waiting 100 µs for a directory entry raises EV_DIR_STALL. -/
  | dirStallTimeout (id : Nat)
  /-- PEER_INCARNATION_CHANGE (R276): A new peer incarnation triggers handback as holder and a directory walk as home. -/
  | peerIncarnationChange (dev inc : Nat)
  /-- FHB_WAIT_TIMEOUT (R279): Incomplete handback after WAIT_MS raises EV_FHB_WAIT. -/
  | fhbWaitTimeout
  /-- FHB_FORCE (R279): A write of FHB_CMD.FORCE ends the handback wait and poisons marked sectors. -/
  | fhbForce (m : Master)
  /-- LDG_CAP_WRITE (R311): A write of LDG.CAP recomputes cap and may make the reserve Overdrawn. -/
  | ldgCapWrite (m : Master) (w : Word)
  /-- LDG_ARM_WRITE (R311): A write of LDG.CTL.ARM disarms or lets the reserve arm. -/
  | ldgArmWrite (m : Master) (w : Word)
  /-- CAL_START (R305): A write of CAL_CMD.START runs the calibration test drain. -/
  | calStart (m : Master)
  /-- CAL_ABORT (R306): A write of CAL_CMD.ABORT fails calibration. -/
  | calAbort (m : Master)
  /-- CAL_WRITEBACK_TIMEOUT (R306): Calibration fails when step 1 write-back exceeds 10 s. -/
  | calWritebackTimeout
  /-- CAL_DRAIN_DONE (R305): The test records complete and CAL_BW, CAL_PWR and CAL_PORTS are set. -/
  | calDrainDone (bw pwr : Nat)
  /-- MED_CMD_TIMEOUT (R318): An NVMe command exceeding TO_MS is aborted. -/
  | medCmdTimeout (cid : Nat)
  /-- MED_ABORT_TIMEOUT (R318): A command still pending TO_MS after Abort resets its controller. -/
  | medAbortTimeout (cid : Nat)
  /-- MED_CTRL_READY (R318): A controller reports CSTS.RDY; queues are re-created and lost commands re-issued or it is admitted. -/
  | medCtrlReady (p : Nat) (nss : List FoundNs) (last : Bool)
  /-- MED_CTRL_READY_TIMEOUT (R318): A controller not ready 2×TO_MS after reset is lost. -/
  | medCtrlReadyTimeout (p : Nat)
  /-- MEDIA_PORT_LOST (R351): A lost media port closes streams, re-packs pages and marks lost namespaces. -/
  | mediaPortLost (p : Nat)
  /-- SMART_POLL (R352): MED reads SMART every POLL_MS and raises drive health warnings. -/
  | smartPoll (p : Nat) (warn : Bool) (used : Nat)
  /-- NVME_ASYNC_EVENT (R352): An Asynchronous Event completion triggers a SMART read. -/
  | nvmeAsyncEvent (p : Nat) (warn : Bool) (used : Nat)
  /-- SINTER_PAGE (R334): Sintering merges live records of one home page into a home page write. -/
  | sinterPage (ns : Nat)
  /-- SINTER_HOME_WRITE_DONE (R334): A sinter home write completes and unchanged locators are cleared. -/
  | sinterHomeWriteDone (cid : Nat) (out : MOut)
  /-- JOURNAL_HEAD_ADVANCE (R321): A stream head moves past dead slots, carrying live records and deallocating. -/
  | journalHeadAdvance (ns : Nat)
  /-- CHECKPOINT_TIMER (R340): Every CKPT_MS LDG writes a checkpoint series with two copies and anchors. -/
  | checkpointTimer
  /-- INDEX_BUCKET_REBUILD (R330): A failed index sector is rebuilt from summary and staging pages. -/
  | indexBucketRebuild (b : Nat)
  /-- PWRFAIL_N_ASSERT (R369): PWRFAIL_N low for 250 ns in Run triggers Fence. -/
  | pwrfailNAssert (wires : List WireWr) (msgs : List WireMsg)
  /-- BUS_TRIP (R369): The hold-up bus below VIN_TRIP for 250 ns triggers Fence. -/
  | busTrip (wires : List WireWr) (msgs : List WireMsg)
  /-- RAILS_GOOD_FALL (R666): RAILS_GOOD falling triggers Fence in Run or a Cold reset during start-up. -/
  | railsGoodFall (wires : List WireWr) (msgs : List WireMsg)
  /-- GEYSER_DRAIN_COMPLETE (R379): All drain completions are consumed and the device enters Dormant or Off. -/
  | geyserDrainComplete (f : BootFacts)
  /-- BANK_VMIN_REACHED (R377): Every counted bank reaching V_min ends Geyser or Dormant into Off. -/
  | bankVminReached
  /-- MAIN_POWER_RETURN (R381): PWRFAIL_N high and bus above VIN_TRIP for 1 ms drive MAIN_EN high. -/
  | mainPowerReturn
  /-- RAILS_GOOD_RISE (R610): Main rails good begins a start-up. -/
  | railsGoodRise (f : BootFacts)
  /-- HOST_LINK_ENABLE (R613): Host links are enabled with or without HDM decode once their conditions hold; Run begins. -/
  | hostLinkEnable
  /-- PF_HELD_TIMEOUT (R370): Start-up held 1 s at host link enable by a power-fail condition raises EV_RSV_PF_HELD. -/
  | pfHeldTimeout
  /-- RESTART_SWEEP_SET (R386): The restart sweep visits a set, invalidating remote or all ways. -/
  | restartSweepSet (c : Nat)
  /-- REWARM_READ (R388): MED issues a rewarm read from the schedule under pacing limits. -/
  | rewarmRead
  /-- BANK_PRESENT_DEBOUNCE (R360): PRESENT_N low for 1 s with EN moves a bank to Measuring. -/
  | bankPresentDebounce (n : Nat)
  /-- BANK_FAULT_ISOLATE (R364): A PRESENT, REVERSE, OVERCURRENT or OVERVOLT fault isolates a bank within 10 µs. -/
  | bankFaultIsolate (n : Nat) (f : BankFault)
  /-- BANK_CAP_MEASURE (R361): An hourly sink measurement or a 2–4 V charge measures bank capacitance. -/
  | bankCapMeasure (n cap : Nat)
  /-- BANK_CHARGE_DONE (R362): A charging bank reaches V_tgt and becomes Ready. -/
  | bankChargeDone (n : Nat)
  /-- BANK_RECHARGE_THRESHOLD (R360): A Ready bank falling 0.2 V below target restarts its charger. -/
  | bankRechargeThreshold (n : Nat)
  /-- SVC_DISCHARGE (R366): A write of SVC_CMD.DISCHARGE moves named banks to Discharging. -/
  | svcDischarge (m : Master) (banks : Fin 16)
  /-- SVC_RECHARGE (R394): A write of SVC_CMD.RECHARGE moves Isolated banks to Measuring. -/
  | svcRecharge (m : Master) (banks : Fin 16)
  /-- BANK_DISCHARGE_DONE (R366): A discharging bank falls below 2 J and becomes Isolated with fault SERVICE. -/
  | bankDischargeDone (n : Nat)
  /-- BANK_DISCHARGE_TIMEOUT (R366): A bank still at 2 J or more after 30 s raises EV_RSV_DISCHARGE_FAIL. -/
  | bankDischargeTimeout (n : Nat)
  /-- RSV_GATE_FAULT (R368): A gate-drive readback disagreeing for 10 µs makes an RSV fault. -/
  | rsvGateFault
  /-- RSV_NO_BANK_FAULT (R368): Every enabled bank Isolated or Absent for 2 s makes an RSV fault. -/
  | rsvNoBankFault
  /-- RSV_FAULT_CLEAR (R368): An RSV fault clears after its condition is absent for 1 s. -/
  | rsvFaultClear (f : RsvFault)
  /-- SCRUB_SLOT (R414): Patrol scrub reads and corrects one set per slot. -/
  | scrubSlot (c : Nat) (rds : List Rd)
  /-- QUARANTINE_REWRITE (R415): A quarantined way is rewritten Invalid out of turn within 1 ms. -/
  | quarantineRewrite (k : Nat)
  /-- REFRESH_INTERVAL (R404): CCH issues same-bank refresh each interval. -/
  | refreshInterval (c : Nat)
  /-- THERMAL_POLL (R404): Every 1 ms DIMM sensors are read and refresh doubled above 85 °C. -/
  | thermalPoll (c temp : Nat)
  /-- CHANNEL_FAIL_DETECT (R421): A persistent channel failure fails over a mirrored pair or fails an unmirrored channel. -/
  | channelFailDetect (c : Nat)
  /-- RESILVER_SET_COPY (R422): A set is copied from the survivor to the other channel of a broken pair. -/
  | resilverSetCopy (p : Nat) (dropped : Bool)
  /-- TRAIN_CMD_FULL (R406): A write of TRAIN_CMD.FULL forces full training at the next start-up. -/
  | trainCmdFull (m : Master)
  /-- ADD (R442): Walni rd := rs + rt. -/
  | add (e : Ex) (rd rs rt : Fin 32)
  /-- SUB (R442): Walni rd := rs − rt. -/
  | sub (e : Ex) (rd rs rt : Fin 32)
  /-- AND (R442): Walni bitwise AND. -/
  | and (e : Ex) (rd rs rt : Fin 32)
  /-- OR (R442): Walni bitwise OR. -/
  | or (e : Ex) (rd rs rt : Fin 32)
  /-- XOR (R442): Walni bitwise XOR. -/
  | xor (e : Ex) (rd rs rt : Fin 32)
  /-- NOR (R442): Walni bitwise NOR. -/
  | nor (e : Ex) (rd rs rt : Fin 32)
  /-- LTS (R442): Walni signed less-than. -/
  | lts (e : Ex) (rd rs rt : Fin 32)
  /-- LTU (R442): Walni unsigned less-than. -/
  | ltu (e : Ex) (rd rs rt : Fin 32)
  /-- MIN (R442): Walni signed minimum. -/
  | min (e : Ex) (rd rs rt : Fin 32)
  /-- MAX (R442): Walni signed maximum. -/
  | max (e : Ex) (rd rs rt : Fin 32)
  /-- MINU (R442): Walni unsigned minimum. -/
  | minu (e : Ex) (rd rs rt : Fin 32)
  /-- MAXU (R442): Walni unsigned maximum. -/
  | maxu (e : Ex) (rd rs rt : Fin 32)
  /-- SHL (R442): Walni shift left by rt[4:0]. -/
  | shl (e : Ex) (rd rs rt : Fin 32)
  /-- SHR (R442): Walni logical shift right by rt[4:0]. -/
  | shr (e : Ex) (rd rs rt : Fin 32)
  /-- SAR (R442): Walni arithmetic shift right by rt[4:0]. -/
  | sar (e : Ex) (rd rs rt : Fin 32)
  /-- ROR (R442): Walni rotate right by rt[4:0]. -/
  | ror (e : Ex) (rd rs rt : Fin 32)
  /-- SHLK (R442): Walni shift left by a constant. -/
  | shlk (e : Ex) (rd rs k : Fin 32)
  /-- SHRK (R442): Walni logical shift right by a constant. -/
  | shrk (e : Ex) (rd rs k : Fin 32)
  /-- SARK (R442): Walni arithmetic shift right by a constant. -/
  | sark (e : Ex) (rd rs k : Fin 32)
  /-- MUL (R442): Walni multiply, low 32 bits. -/
  | mul (e : Ex) (rd rs rt : Fin 32)
  /-- MULHU (R442): Walni multiply, high 32 bits unsigned. -/
  | mulhu (e : Ex) (rd rs rt : Fin 32)
  /-- MULHS (R442): Walni multiply, high 32 bits signed. -/
  | mulhs (e : Ex) (rd rs rt : Fin 32)
  /-- CLZ (R442): Walni count leading zeros. -/
  | clz (e : Ex) (rd rs rt : Fin 32)
  /-- ONES (R442): Walni count set bits. -/
  | ones (e : Ex) (rd rs rt : Fin 32)
  /-- ADDK (R442): Walni add sign-extended immediate. -/
  | addk (e : Ex) (rd rs : Fin 32) (imm : BitVec 16)
  /-- ANDK (R442): Walni AND zero-extended immediate. -/
  | andk (e : Ex) (rd rs : Fin 32) (imm : BitVec 16)
  /-- ORK (R442): Walni OR zero-extended immediate. -/
  | ork (e : Ex) (rd rs : Fin 32) (imm : BitVec 16)
  /-- XORK (R442): Walni XOR zero-extended immediate. -/
  | xork (e : Ex) (rd rs : Fin 32) (imm : BitVec 16)
  /-- LTSK (R442): Walni signed less-than immediate. -/
  | ltsk (e : Ex) (rd rs : Fin 32) (imm : BitVec 16)
  /-- LTUK (R442): Walni unsigned less-than immediate. -/
  | ltuk (e : Ex) (rd rs : Fin 32) (imm : BitVec 16)
  /-- HIK (R442): Walni rd := imm16 << 16. -/
  | hik (e : Ex) (rd rs : Fin 32) (imm : BitVec 16)
  /-- LDW (R442): Walni load word. -/
  | ldw (e : Ex) (rd rs : Fin 32) (imm : BitVec 16) (c : Ecc)
  /-- LDH (R442): Walni load halfword sign-extended. -/
  | ldh (e : Ex) (rd rs : Fin 32) (imm : BitVec 16) (c : Ecc)
  /-- LDHU (R442): Walni load halfword zero-extended. -/
  | ldhu (e : Ex) (rd rs : Fin 32) (imm : BitVec 16) (c : Ecc)
  /-- LDB (R442): Walni load byte sign-extended. -/
  | ldb (e : Ex) (rd rs : Fin 32) (imm : BitVec 16) (c : Ecc)
  /-- LDBU (R442): Walni load byte zero-extended. -/
  | ldbu (e : Ex) (rd rs : Fin 32) (imm : BitVec 16) (c : Ecc)
  /-- STW (R442): Walni store word, including policy-window control writes. -/
  | stw (e : Ex) (rd rs : Fin 32) (imm : BitVec 16)
  /-- STH (R442): Walni store halfword. -/
  | sth (e : Ex) (rd rs : Fin 32) (imm : BitVec 16)
  /-- STB (R442): Walni store byte. -/
  | stb (e : Ex) (rd rs : Fin 32) (imm : BitVec 16)
  /-- CASW (R442): Walni compare-and-swap word atomic among the core's contexts. -/
  | casw (e : Ex) (rd rs rt : Fin 32) (c : Ecc)
  /-- BR (R443): Walni conditional branch with one delay slot. -/
  | br (e : Ex) (a : Bool) (cond : Fin 16) (rs : Fin 32) (off : BitVec 16)
  /-- BRL (R442): Walni conditional branch and link to g31. -/
  | brl (e : Ex) (a : Bool) (cond : Fin 16) (rs : Fin 32) (off : BitVec 16)
  /-- JMP (R442): Walni jump through a register. -/
  | jmp (e : Ex) (rd rs rt : Fin 32)
  /-- JML (R442): Walni jump and link through a register. -/
  | jml (e : Ex) (rd rs rt : Fin 32)
  /-- LOOP (R448): Walni starts a hardware loop level with a register count. -/
  | loop (e : Ex) (level : Fin 2) (rs : Fin 32) (off : BitVec 16)
  /-- LOOPI (R448): Walni starts a hardware loop level with an immediate count. -/
  | loopi (e : Ex) (level : Fin 2) (count : Fin 512) (off : BitVec 16)
  /-- MODE (R454): Walni sets MODE from rs[0] with a mode shadow. -/
  | mode (e : Ex) (rs : Fin 32)
  /-- XRET (R442): Walni returns from an exception to EPC and PMODE. -/
  | xret (e : Ex)
  /-- TRAP (R451): Walni raises the TRAP exception. -/
  | trap (e : Ex)
  /-- DEBUG (R451): Walni raises the DEBUG exception. -/
  | debug (e : Ex)
  /-- FEND (R457): Walni ends the frame once all committed effecting operations are delivered. -/
  | fend (e : Ex)
  /-- PFLUSH (R465): Walni flushes the shared predictors. -/
  | pflush (e : Ex)
  /-- SRD (R438): Walni reads a special register. -/
  | srd (e : Ex) (rd n : Fin 32)
  /-- SWR (R438): Walni writes a special register and refetches younger instructions. -/
  | swr (e : Ex) (rs n : Fin 32)
  /-- PREDICTOR_TAG_FLUSH (R465): Selecting a context with a different ETAG flushes the shared predictor tables. -/
  | predictorTagFlush (e : Ex)
  /-- SCAN (R467): Pure cp1 operation reading a set's TSC state. -/
  | scan (e : Ex) (rd rs rt : Fin 32)
  /-- HEATRD (R468): Pure cp1 operation reading the heat of a set's ways. -/
  | heatrd (e : Ex) (rd rs rt : Fin 32)
  /-- CP_RESULT_RETURN (R468): A pure operation's late result arrives in its pending slot or is dropped. -/
  | cpResultReturn (e : Ex) (ids : List Rd)
  /-- HASH_SET (R467): Pure cp2 operation computing a set index. -/
  | hashSet (e : Ex) (rd rs rt : Fin 32)
  /-- HASH_MIX (R467): Pure cp2 operation computing a CRC-32C. -/
  | hashMix (e : Ex) (rd rs rt : Fin 32)
  /-- EVICT (R470): Effecting cp3 operation requesting eviction of a way. -/
  | evict (e : Ex) (rd rs rt : Fin 32)
  /-- POLICY_PREFETCH (R470): Effecting cp3 PREFETCH appended to the context's build queue. -/
  | policyPrefetch (e : Ex) (rd rs rt : Fin 32)
  /-- POLICY_PIN (R470): Effecting cp3 PIN of consecutive sectors. -/
  | policyPin (e : Ex) (rd rs rt : Fin 32)
  /-- POLICY_UNPIN (R470): Effecting cp3 UNPIN of consecutive sectors. -/
  | policyUnpin (e : Ex) (rd rs rt : Fin 32)
  /-- HINT_WRITE (R481): Effecting cp3 operation writing a victim hint and decaying heat. -/
  | hintWrite (e : Ex) (rd rs rt : Fin 32)
  /-- CP3_DELIVERY (R470): The outbound queue delivers an effecting operation to its target. -/
  | cp3Delivery (k : Nat)
  /-- SPRING_STREAM_READ (R492): A read of SPRING_RD_LO consumes the next spring table entry. -/
  | springStreamRead (e : Ex)
  /-- SPRING_PACK_TIMEOUT (R488): Ring entries waiting 1 ms are packed into a SPRING record. -/
  | springPackTimeout (k : Nat)
  /-- BASELINE_SPRING_PASS (R495): Every GEN_MS the baseline policy runs a spring pass. -/
  | baselineSpringPass
  /-- PREFETCH_ISSUE (R486): TAG issues an issue-queue entry as a P3 fill. -/
  | prefetchIssue
  /-- IDLE_FLIT (R506): An IDLE flit delivers an ACK and credit return. -/
  | idleFlit (p ack : Nat) (vc : VC) (lane n : Nat)
  /-- FLIT_FAILED (R514): A failed or out-of-sequence flit is discarded and a NAK sent. -/
  | flitFailed (p : Nat) (uncorr again : Bool)
  /-- NAK (R514): A received NAK makes the sender replay from its ACK. -/
  | nak (p ack : Nat)
  /-- HELLO (R519): A received HELLO updates neighbour, election and incarnation state. -/
  | hello (p : Nat) (h : Hello)
  /-- HELLO_TIMER (R519): Each up link sends HELLO every 100 µs. -/
  | helloTimer (p : Nat)
  /-- SYNC (R530): A SYNC flit exchange updates the TB offset with the parent. -/
  | sync (p : Nat) (m : SyncMsg)
  /-- SYNC_EXCHANGE_TIMER (R530): A child starts a SYNC exchange every INTERVAL_US. -/
  | syncExchangeTimer
  /-- SYNC_HOLDOVER_EXPIRE (R531): After 10 ms without SYNC, LOCKED clears. -/
  | syncHoldoverExpire
  /-- TRANSIT_MESSAGE (R528): A message for another device is forwarded on a chosen port and lane. -/
  | transitMessage (p lane seq : Nat) (m : FMsg)
  /-- REPLAY_EPISODE_END (R515): 2 µs without a NAK ends a replay episode. -/
  | replayEpisodeEnd (p : Nat)
  /-- LANE_DEGRADE (R516): An exceeded replay budget retrains lanes and resumes at a reduced width. -/
  | laneDegrade (p ack : Nat) (lanes : List Bool) (grants : List Nat)
  /-- FAB_LINK_DOWN (R517): A fabric link goes down, discards buffers and reroutes queued messages. -/
  | fabLinkDown (p : Nat)
  /-- FAB_LINK_UP (R511): A fabric link trains and grants credits. -/
  | fabLinkUp (p : Nat) (width : Fin 3) (grants : List Nat)
  /-- ROUTE_HOLD_TIMEOUT (R517): A message without a route past HOLD_US is discarded. -/
  | routeHoldTimeout (i : Nat)
  /-- FEC_INTERVAL (R518): Per 1 ms interval excess FEC corrections raise EV_FAB_FEC_HIGH. -/
  | fecInterval (p n : Nat)
  /-- LINK_RETRAIN (R534): A write of LINK_CMD.RETRAIN retrains a fabric port. -/
  | linkRetrain (m : Master) (ports : Fin 16)
  /-- LINK_TAKE_DOWN (R517): A write of LINK_CMD.DOWN takes a fabric port down. -/
  | linkTakeDown (m : Master) (ports : Fin 16)
  /-- FM_CANDIDATE_EXPIRE (R521): A candidate not refreshed for 10 ms is dropped. -/
  | fmCandidateExpire (p : Nat)
  /-- FM_ELECTED (R521): A device its own best candidate for 5 ms becomes FM. -/
  | fmElected
  /-- FM_LOST (R522): No FM beacon for 10 ms drops the FM and starts an election. -/
  | fmLost
  /-- FM_BEACON_TIMER (R523): The FM floods a beacon every 1 ms. -/
  | fmBeaconTimer
  /-- FM_ROUTE_RECOMPUTE (R523): The FM recomputes and writes route tables after a link report. -/
  | fmRouteRecompute (out : List (Nat × Fmc))
  /-- FMC_MESSAGE (R524): A device queues and applies an FMC message from the FM. -/
  | fmcMessage (p src tag : Nat) (full : Bool) (m : Fmc)
  /-- FMC_RESEND_TIMEOUT (R524): An FMC message unacknowledged for 10 ms is resent. -/
  | fmcResendTimeout (tag : Nat)
  /-- TAMPER_TRIGGER (R568): A tamper source triggers Quench, or a drain first, by policy. -/
  | tamperTrigger (t : Tamper) (wires : List WireWr) (msgs : List WireMsg)
  /-- QUENCH_SRAM_CLEARED (R568): Plaintext SRAM structures finish clearing within 1 ms of a Quench. -/
  | quenchSramCleared
  /-- RNG_READY (R544): TRNG start-up tests pass and READY becomes 1. -/
  | rngReady
  /-- RNG_HEALTH_FAIL (R546): A failed continuous test stops output and re-runs start-up tests. -/
  | rngHealthFail
  /-- DRBG_RESEED (R544): The DRBG reseeds every 1 s or 2^16 requests. -/
  | drbgReseed
  /-- RNG_DATA_READ (R547): An owner read of RNG_DATA_LO draws 32 fresh bits and latches 16. -/
  | rngDataRead (m : Master) (active : Bool)
  /-- GET_VERSION (R556): SPDM GET_VERSION request. -/
  | getVersion (p : Nat)
  /-- GET_CAPABILITIES (R556): SPDM GET_CAPABILITIES request. -/
  | getCapabilities (p : Nat)
  /-- NEGOTIATE_ALGORITHMS (R556): SPDM NEGOTIATE_ALGORITHMS request. -/
  | negotiateAlgorithms (p : Nat)
  /-- GET_DIGESTS (R556): SPDM GET_DIGESTS request. -/
  | getDigests (p : Nat)
  /-- GET_CERTIFICATE (R557): SPDM GET_CERTIFICATE returning the slot 0 chain. -/
  | getCertificate (p slot : Nat)
  /-- CHALLENGE (R556): SPDM CHALLENGE request. -/
  | challenge (p slot nonce : Nat)
  /-- GET_MEASUREMENTS (R556): SPDM GET_MEASUREMENTS returning signed digests. -/
  | getMeasurements (p idx : Nat)
  /-- KEY_EXCHANGE (R556): SPDM KEY_EXCHANGE opening a session, refused beyond 8. -/
  | keyExchange (p : Nat)
  /-- FINISH (R556): SPDM FINISH completing session establishment. -/
  | finish (p id : Nat) (ok : Bool)
  /-- HEARTBEAT (R556): SPDM HEARTBEAT request. -/
  | heartbeat (p id : Nat)
  /-- KEY_UPDATE (R556): SPDM KEY_UPDATE request. -/
  | keyUpdate (p id : Nat)
  /-- END_SESSION (R538): SPDM END_SESSION discards the session secrets. -/
  | endSession (p id : Nat)
  /-- FW_KEY_REVOKE (R561): A write of FW_KEY_REVOKE revokes a signing key by fuse if allowed. -/
  | fwKeyRevoke (keys : Fin 16)
  /-- DEBUG_LOCK (R566): A write of DEBUG_CTL.LOCK closes debug on the -EX. -/
  | debugLock (m : Master)
  /-- ASSIGN_LOCK_SET (R563): A write of ASSIGN_LOCK locks assignment entries and attributes. -/
  | assignLockSet (m : Master)
  /-- OWN_CLAIM (R587): A write of OWN_CLAIM claims ownership, accepted or refused. -/
  | ownClaim (m : Master) (w : Word)
  /-- OWN_HB (R589): An owner heartbeat resets the heartbeat age. -/
  | ownHb (m : Master) (w : Word)
  /-- OWN_YIELD (R590): A write of OWN_YIELD releases ownership or opens a handover. -/
  | ownYield (m : Master) (w : Word)
  /-- OWNER_LAPSE (R589): Heartbeat age reaching 300 ms makes ownership vacant. -/
  | ownerLapse
  /-- HANDOVER_TIMEOUT (R590): A handover without a successor claim in 10 ms closes vacant. -/
  | handoverTimeout
  /-- CFG_STORE (R603): CFG_CMD.STORE appends CHANGE records and a COMMIT for differing retained fields. -/
  | cfgStore (m : Master)
  /-- CFG_FACTORY (R606): Two CFG_CMD.FACTORY writes within 1 s record a factory restore. -/
  | cfgFactory (m : Master)
  /-- FACTORY_ARM_EXPIRE (R606): An armed factory restore clears after 1 s. -/
  | factoryArmExpire
  /-- PG_LOCK_SET (R583): A write of 1 to PG_LOCK locks the page's lockable registers. -/
  | pgLockSet (m : Master) (off : Nat)
  /-- I3C_WRITE (R595): Sideband register write transaction as master SB. -/
  | i3cWrite (off : Nat) (w : Word) (bad : Option I3cBad)
  /-- I3C_READ (R595): Sideband register read transaction returning DATA and STATUS. -/
  | i3cRead (off : Nat) (bad : Option I3cBad)
  /-- I3C_STATUS (R595): Sideband status transaction, clearing its error bits. -/
  | i3cStatus (bad : Option I3cBad)
  /-- ENTDAA (R594): I3C CCC assigning a dynamic address. -/
  | entdaa (a : Fin 128)
  /-- SETDASA (R594): I3C CCC setting the dynamic address from the static one. -/
  | setdasa (stat a : Fin 128)
  /-- SETNEWDA (R594): I3C CCC changing the dynamic address. -/
  | setnewda (old a : Fin 128)
  /-- RSTDAA (R594): I3C CCC resetting the dynamic address. -/
  | rstdaa
  /-- ENEC (R594): I3C CCC enabling in-band interrupts. -/
  | enec (events : Nat)
  /-- DISEC (R594): I3C CCC disabling in-band interrupts. -/
  | disec (events : Nat)
  /-- GETPID (R594): I3C CCC returning the provisioned ID. -/
  | getpid
  /-- GETBCR (R594): I3C CCC returning the BCR. -/
  | getbcr
  /-- GETDCR (R594): I3C CCC returning the DCR. -/
  | getdcr
  /-- GETSTATUS (R594): I3C CCC returning target status. -/
  | getstatus
  /-- GETMXDS (R594): I3C CCC returning maximum data speed. -/
  | getmxds
  /-- RSTACT (R594): I3C CCC setting the target reset action. -/
  | rstact (act : Nat)
  /-- IBI_SEND (R596): An in-band interrupt carrying a severity byte is raised for a qualifying entry. -/
  | ibiSend
  /-- RESET_N_ASSERT (R614): RESET_N low for 1 µs latches a reset, draining first in Run. -/
  | resetNAssert (f : BootFacts)
  /-- WARM_RESET (R616): RESET_CMD KIND 1 runs a release phase and a reset drain. -/
  | warmReset (m : Master) (noRelease : Bool)
  /-- RELEASE_PHASE_TIMEOUT (R616): The release phase ends after 20 ms. -/
  | releasePhaseTimeout
  /-- BLOCK_RESET (R618): RESET_CMD KIND 2 resets PLC, EVT or FAB. -/
  | blockReset (m : Master) (b : Fin 16)
  /-- VAUX_POWER_UP (R610): VAUX applied starts the always-on domain and TRNG tests. -/
  | vauxPowerUp
  /-- VAUX_FALL (R15): VAUX below 4.2 V causes a POR. -/
  | vauxFall
  /-- BOOT_WATCHDOG_EXPIRE (R624): A trial MCF missing its commit point within TRIAL_S causes a watchdog reset. -/
  | bootWatchdogExpire (f : BootFacts)
  /-- ROM_RECOVERY_RESET (R622): 1 s after Activate FW in ROM recovery the ROM performs a Warm reset. -/
  | romRecoveryReset (f : BootFacts)
  /-- ESCROW_WAIT_EXPIRE (R560): The KEY_ESCROW back-off wait ends. -/
  | escrowWaitExpire
  /-- MARK (R637): Q_CMD MARK starts a new mark set. -/
  | mark (m : Master)
  /-- REWIND (R637): Q_CMD REWIND makes live mark-set entries unread again. -/
  | rewind (m : Master)
  /-- RELEASE (R637): Q_CMD RELEASE frees the entry with SEQ equal to Q_SEQ. -/
  | release (m : Master)
  /-- RELEASE_ALL_READ (R637): Q_CMD RELEASE_ALL_READ frees every read entry. -/
  | releaseAllRead (m : Master)
  /-- QUEUE_HEAD_READ (R636): A read of Q_ENTRY0 returns the head, latches words and for the owner marks it read. -/
  | queueHeadRead (m : Master)
  /-- SAMPLE_RECORD_READ (R648): An owner read of SAMPLE_REC0 takes the oldest sample record. -/
  | sampleRecordRead (m : Master)
  /-- MSIX_MODERATION_EXPIRE (R641): At the end of a MOD_US interval a held signal sends one message. -/
  | msixModerationExpire (p v : Nat)
  /-- HIGH_WORD_LATCH_READ (R10): A read of the low word of a 64-bit pair latches the high word for that master. -/
  | highWordLatchRead (m : Master) (off : Nat)
  /-- RC_FIELD_CLEAR_READ (R586): An owner read through the active window clears RC fields or resets peaks. -/
  | rcFieldClearRead (m : Master) (a size : Nat)
  /-- LABEL_AREA_WRITE_COMPLETION (R341): A FUA write to the label area (checkpoint anchor or wrapped-key area copy) completes, which can complete a checkpoint or an area change. -/
  | labelAreaWriteCompletion (cid : Nat) (out : MOut)
  /-- DRAM_WRITE_COMPLETION (R220): The DRAM writes issued by a transaction or fill complete, letting Busy clear and waiting requests for the sector proceed. -/
  | dramWriteCompletion (r : Echo)
  /-- CORRECTABLE_LINK_ERROR (R109): A correctable CXL link error is recovered by link replay, counted and reported with EV_HP_LINK_CORR. -/
  | correctableLinkError (p : Nat)
  /-- IDE_KM (R106): IDE_KM messages over DOE program and establish a port's CXL.mem or CXL.io IDE stream keys from the DRBG. -/
  | ideKm (p : Nat) (mem skid : Bool) (session : Option Nat)
  /-- POWER_FAIL_GLITCH (R369): A low pulse shorter than 250 ns on PWRFAIL_N, the bus trip or RAILS_GOOD ends without Fence, is counted and raises EV_RSV_PF_GLITCH. -/
  | powerFailGlitch
  /-- DRAM_RAILS_LEAVE_REGULATION (R380): The DRAM rails leave regulation and RSV clears SEAL.DRAM_HELD. -/
  | dramRailsLeaveRegulation
  /-- BANK_BLEED_DONE (R362): A bank that was bled for exceeding V_tgt by 0.2 V falls to V_tgt, and its bleed is turned off. -/
  | bankBleedDone (n : Nat)
  /-- NVM_WRITE_COMPLETION (R603): The MRAM writes of a STORE, sinter or factory restore complete, raising its event and clearing CFG_STS.BUSY. -/
  | nvmWriteCompletion
  /-- UNDEFINED_INSTRUCTION (R441): A Walni context decodes a word with an unlisted opcode, function, condition or non-zero must-be-0 field and raises ILLEGAL. -/
  | undefinedInstruction (e : Ex) (w : Word)
  /-- INSTRUCTION_FETCH_FAULT (R435): An instruction fetch outside the instruction space, or with an uncorrectable RAM error, raises BUS or MEMERR. -/
  | instructionFetchFault (e : Ex)
  /-- HOST_BISNP_CREDIT (R86): A host returns BISnp credits, letting snooping transactions that wait for a credit send their BISnp. -/
  | hostBisnpCredit (p n : Nat)
  /-- PRIORITY_PROMOTION (R152): A P2 or P3 access that has waited 4 µs is promoted one priority class, to at most P1. -/
  | priorityPromotion
  deriving DecidableEq, Repr

end Sys2Proof
end

