-- ==== Sys2Proof/Decode.lean ====
section
/-! DEFINITION. Words of the table. The table of operations and events gives none of its rows any bits. -/

namespace Sys2Proof

/-- The command that a word of `nbits` bits spells by the table's bits: the table gives bits to no row. -/
def decodeTableWord (_nbits _w : Nat) : Option Instr := none

end Sys2Proof
end

