-- ==== Sys2Proof/Config.lean ====
section
/-! DEFINITION. What one part fixes, and the free values: constants without a body, so that no proof can see what they
are. A statement about the model holds whatever they are. -/

namespace Sys2Proof

/-- A value the spec leaves open, one for each number drawn (State.freeCtr). -/
opaque Config.freeValue : Nat → Nat

/-- Content of a home line that the device has never written since the media set was made, by the set's identifier and
HO[47:6]. -/
opaque Config.homeInit : Nat → Nat → Line

/-- The n-th output of the DRBG (R544). -/
opaque Config.drbg : Nat → Word

/-- Byte i of the key that the n-th output of the DRBG makes (R538). -/
opaque Config.keyByte : Nat → Nat → Byte

/-- The layout version that this part writes into labels (R68), which gives it no value. -/
opaque Config.layoutVersion : Nat

/-- Which of the I/O queues that R314 gives a kind of command one with an identifier takes. -/
opaque Config.ioQueue : Nat → Nat

/-- Byte i of what an I3C read CCC returns: GETPID (0), GETBCR (1), GETDCR (2), GETMXDS (3). R594 names them without a value. -/
opaque Config.i3cByte : Nat → Nat → Nat

end Sys2Proof
end

