-- ==== Sys2Proof/Machine/IoOps.lean ====
section
/-! DEFINITION. The operations of the register file and of EVT: fields, saturating counts and their page summary (R581,
R582), counters (R643), the Fumarole queue (R632 to R637), MSI-X delivery (R639 to R641) and sampling (R646 to R648). -/

namespace Sys2Proof.Machine

/-- What EVT reads outside itself: TB, which host links are up, whether the bus enabled in-band interrupts (R596). -/
structure IoEnv where
  tb : Nat
  up : List Bool
  enec : Bool
  deriving DecidableEq, Repr

/-! ### Stored register words -/

/-- The stored word of a register. -/
def regOf (io : Io) (off : Nat) : Word := tblGet (BitVec.ofNat 32 (resetWord off)) io.regs off

/-- Bits hi..lo of the stored word of a register. -/
def fldOf (io : Io) (off hi lo : Nat) : Nat := bitsOf (regOf io off).toNat hi lo

/-- Store a word. -/
def putReg (io : Io) (off : Nat) (w : Word) : Io :=
  { io with regs := tblSet (BitVec.ofNat 32 (resetWord off)) io.regs off w }

/-- Store `v` in bits hi..lo. -/
def putFld (io : Io) (off hi lo v : Nat) : Io :=
  putReg io off (BitVec.ofNat 32 (setBits (regOf io off).toNat hi lo v))

/-- The page of an offset. -/
def pageOf (off : Nat) : Nat := off / 4096 * 4096

/-- `PG_CTL.FREEZE` of the page of an offset (R581). -/
def frozen (io : Io) (off : Nat) : Bool := fldOf io (pageOf off + 4) 1 1 == 1

/-- Set a PG_STS bit and, where the bit becomes 1 while its PG_IEN bit and IME are 1, let the page's alert become due,
at most once per page and epoch tick (R582). -/
def setPgSts (io : Io) (page bit : Nat) : Io :=
  if fldOf io (page + 8) bit bit = 1 then io
  else
    let io := putFld io (page + 8) bit bit 1
    if fldOf io (page + 16) bit bit = 1 ∧ fldOf io (page + 4) 0 0 = 1 ∧ page ∉ io.alerted then
      { io with alerted := page :: io.alerted, due := io.due ++ [.alert page] }
    else io

/-- Add `n` to an RC count, saturating (R12), unless the page is frozen; the count leaving zero sets ANY (R582). -/
def rcAdd (off hi lo n : Nat) (io : Io) : Io :=
  if frozen io off || n == 0 then io
  else
    let old := fldOf io off hi lo
    let io := putFld io off hi lo (min (2 ^ (hi + 1 - lo) - 1) (old + n))
    if old = 0 then setPgSts io (pageOf off) 0 else io

/-- Set an RC flag. -/
def rcSet (off bit : Nat) (io : Io) : Io := rcAdd off bit bit 1 io

/-- Raise a peak field to `v` where higher; peak fields never set ANY (R582). -/
def peakMax (off hi lo v : Nat) (io : Io) : Io :=
  if frozen io off then io
  else putFld io off hi lo (max (fldOf io off hi lo) (min v (2 ^ (hi + 1 - lo) - 1)))

/-! ### Counters and sampling -/

/-- A counter below the listed positions of its block (R643). -/
def ctrLive (i : Nat) : Bool := i < 768 && i % 48 < ctrCount (i / 48)

/-- A SKID count advances with its counter (R646). -/
def sampCount (i n : Nat) (io : Io) : Io :=
  if fldOf io Reg.EVT_SAMPLE_CFG 1 0 = 2 ∧ fldOf io Reg.EVT_SAMPLE_EVT 9 0 = i then
    let c := io.samp.cnt + n
    let per := fldOf io Reg.EVT_SAMPLE_PERIOD 23 0
    if per ≤ c then { io with samp := { io.samp with cnt := c % per, due := true } }
    else { io with samp := { io.samp with cnt := c } }
  else io

/-- Advance counter `i` by `n` (R643); a wrap sets its OVF bit and makes its event due. -/
def count (i n : Nat) (io : Io) : Io :=
  if ctrLive i then
    let io := sampCount i n io
    let c := tblGet 0 io.counters i + n
    if c < 2 ^ 48 then { io with counters := tblSet 0 io.counters i c }
    else
      let io := { io with counters := tblSet 0 io.counters i (c % 2 ^ 48), due := io.due ++ [.wrap i] }
      rcSet (Reg.EVT_OVF + 4 * (i / 32)) (i % 32) io
  else io

/-! ### MSI-X delivery -/

/-- Whether MSI-X block b of SEC.ASSIGN carries an event of an enclave attribute (R562, R640). -/
def assignWord (io : Io) (i : Nat) : Nat := tblGet (if 4 ≤ i ∧ i ≤ 43 then 1 else 0) io.assign i

/-- Enclave `e` is a valid member of enclave set `s` (R562). -/
def inSet (io : Io) (s e : Nat) : Bool :=
  (List.range 16).any fun m => tblGet 0 io.eset (16 * s + m) == e + 1024

/-- A resource entry of SEC.ASSIGN admits enclave attribute `e`: management always, open only 0, a set its members. -/
def assignAdmits (io : Io) (i e : Nat) : Bool :=
  match bitsOf (assignWord io i) 1 0 with
  | 1 => e == 0
  | 2 => inSet io (bitsOf (assignWord io i) 5 2) e
  | _ => true

/-- Send a message of a vector now. -/
def sendVec (env : IoEnv) (p v : Nat) (x : Vec) (io : Io) : Io :=
  count Ctr.EVT_MSIX_SENT 1
    { io with vecs := tblSet Vec.idle io.vecs (256 * p + v) { x with start := some env.tb, held := false },
              out := .msix p v :: io.out }

/-- Signal vector `v` of port `p` for an enclave attribute (R640, R641). -/
def signal (env : IoEnv) (p v e : Nat) (io : Io) : Io :=
  if env.up.getD p false = false ∨ assignAdmits io (12 + 8 * p + v / 32) e = false then io
  else
    let x := tblGet Vec.idle io.vecs (256 * p + v)
    if x.masked then { io with vecs := tblSet Vec.idle io.vecs (256 * p + v) { x with pend := true } }
    else
      match x.start with
      | none => sendVec env p v x io
      | some t =>
        if t + 1000 * fldOf io Reg.EVT_MSIX_CFG 9 0 ≤ env.tb then sendVec env p v x io
        else { io with vecs := tblSet Vec.idle io.vecs (256 * p + v) { x with held := true } }

/-- Signal a vector on every port of a mask. -/
def signalPorts (env : IoEnv) (ports v e : Nat) (io : Io) : Io :=
  (List.range 4).foldl (fun io p => if bitsOf ports p p = 1 then signal env p v e io else io) io

/-! ### The Fumarole queue -/

def Sev.code : Sev → Nat
  | .critical => 0
  | .error => 1
  | .warning => 2
  | .info => 3

def Form.code : Form → Nat
  | .none => 0
  | .address => 1
  | .location => 2
  | .count => 3
  | .peer => 4

/-- Live entries that are not Critical (R632). -/
def nonCritLive (q : List QEntry) : Nat := (q.filter fun e => e.sev != .critical).length

/-- A non-Critical event can be stored (R632, R633). -/
def roomNonCrit (q : List QEntry) : Bool := nonCritLive q < 4032 && q.length < 4096

/-- The first entry, in SEQ order, that is unread and of severity `v`. -/
def oldestUnread (q : List QEntry) (v : Sev) : Option QEntry := q.find? fun e => !e.read && e.sev == v

/-- The head: the first unread entry in severity order, within a severity in SEQ order (R632). -/
def qHead (q : List QEntry) : Option QEntry :=
  (oldestUnread q .critical <|> oldestUnread q .error) <|> (oldestUnread q .warning <|> oldestUnread q .info)

/-- Remove the entry with a SEQ. -/
def qDrop (q : List QEntry) (seq : Nat) : List QEntry := q.filter fun e => e.seq != seq

/-- The route of a stored or coalesced event (R596, R639): its vector on the ports of VMAPi, and the in-band interrupt
that becomes waiting, at most one per 1 ms. -/
def route (env : IoEnv) (code : Nat) (sev : Sev) (encl : Nat) (io : Io) : Io :=
  let m := Reg.EVT_VMAP + 4 * (4 * (code / 4096) + sev.code)
  let io := if fldOf io m 12 12 = 1 then signalPorts env (fldOf io m 11 8) (fldOf io m 7 0) encl io else io
  if env.enec && fldOf io Reg.MGT_I3C_CFG 11 11 == 1 && decide (sev.code ≤ fldOf io Reg.MGT_I3C_CFG 10 9)
      && decide ((io.lastIbi.map (· + 1000000)).getD 0 ≤ env.tb) then
    { io with ibi := some sev.code, lastIbi := some env.tb }
  else io

/-- Append an entry with the next SEQ, which skips 0 on wrap (R630), and route it. -/
def qStore (env : IoEnv) (e : Ev) (data unit encl : Nat) (io : Io) : Io :=
  route env e.code e.sev encl
    { io with q := io.q ++ [⟨io.nextSeq, e.code, e.sev, false, false, 0, env.tb, encl, e.form, data, unit⟩],
              nextSeq := if io.nextSeq + 1 = 2 ^ 32 then 1 else io.nextSeq + 1 }

/-- Count a displaced entry (R633); the drops an unread EV_EVT_LOSS carried are reported again (R635). -/
def qDisplace (x : QEntry) (io : Io) : Io :=
  let io := count Ctr.EVT_DISPLACED 1 (rcAdd Reg.EVT_DROP 31 24 1 { io with q := qDrop io.q x.seq })
  if x.code = Ev.evtLoss.code ∧ ¬ x.read then
    { io with loss := (satAdd 0xFFFF io.loss.1 (x.data % 65536), satAdd 0xFFFF io.loss.2.1 (x.data / 65536 % 65536),
                       satAdd 0xFFFF io.loss.2.2 (x.data / 2 ^ 32 % 65536)) }
  else io

/-- Coalesce an arriving Critical event into an entry (R634): REPEAT rises, a read entry becomes unread again. -/
def qCoalesce (env : IoEnv) (x : QEntry) (merge : Bool) (e : Ev) (encl : Nat) (io : Io) : Io :=
  route env e.code e.sev encl
    (count Ctr.EVT_COALESCE 1
      { io with q := io.q.map fun y =>
          if y.seq = x.seq then
            { y with rept := satAdd 255 y.rept 1, read := false, merged := y.merged || merge }
          else y })

/-- Drop a non-Critical event, counted per severity (R633). -/
def qLose (e : Ev) (io : Io) : Io :=
  let io := count Ctr.EVT_DROP 1 io
  match e.sev with
  | .error => { rcAdd Reg.EVT_DROP 7 0 1 io with loss := (satAdd 0xFFFF io.loss.1 1, io.loss.2.1, io.loss.2.2) }
  | .warning => { rcAdd Reg.EVT_DROP 15 8 1 io with loss := (io.loss.1, satAdd 0xFFFF io.loss.2.1 1, io.loss.2.2) }
  | .info => { rcAdd Reg.EVT_DROP 23 16 1 io with loss := (io.loss.1, io.loss.2.1, satAdd 0xFFFF io.loss.2.2 1) }
  | .critical => io

/-- A non-Critical event arrives (R632, R633). -/
def arriveNonCrit (env : IoEnv) (e : Ev) (data unit encl : Nat) (io : Io) : Io :=
  if roomNonCrit io.q then qStore env e data unit encl io
  else
    match oldestUnread io.q .info with
    | some x => qStore env e data unit encl (qDisplace x io)
    | none => qLose e io

/-- A Critical event arrives (R634). -/
def arriveCrit (env : IoEnv) (e : Ev) (data unit encl : Nat) (io : Io) : Io :=
  if io.q.length < 4096 then qStore env e data unit encl io
  else
    match (oldestUnread io.q .info <|> oldestUnread io.q .warning) <|> oldestUnread io.q .error with
    | some x => qStore env e data unit encl (qDisplace x io)
    | none =>
      match io.q.reverse.find? fun x => !x.read && x.sev == .critical && x.code == e.code with
      | some x => qCoalesce env x false e encl io
      | none =>
        match io.q.find? fun x => x.read && x.sev == .critical && x.code == e.code with
        | some x => qCoalesce env x false e encl io
        | none =>
          match io.q.find? fun x => x.read with
          | some x => qStore env e data unit encl (qDisplace x io)
          | none =>
            match io.q.reverse.find? fun x => !x.read && x.sev == .critical with
            | some x =>
              qCoalesce env x true e encl
                (putFld (rcAdd Reg.EVT_CRIT_LATCH 31 16 1 io) Reg.EVT_CRIT_LATCH 15 0 e.code)
            | none => io

/-- An event arrives at EVT: counted by severity and placed. -/
def arrive (env : IoEnv) (e : Ev) (data unit encl : Nat) (io : Io) : Io :=
  match e.sev with
  | .critical => arriveCrit env e data unit encl (count Ctr.EVT_RAISED_CRIT 1 io)
  | .error => arriveNonCrit env e data unit encl (count Ctr.EVT_RAISED_ERR 1 io)
  | .warning => arriveNonCrit env e data unit encl (count Ctr.EVT_RAISED_WARN 1 io)
  | .info => arriveNonCrit env e data unit encl (count Ctr.EVT_RAISED_INFO 1 io)

/-- Queue EV_EVT_LOSS once drops are held, none is unread and a non-Critical entry can be stored (R635). -/
def lossTry (env : IoEnv) (io : Io) : Io :=
  if io.loss ≠ (0, 0, 0) ∧ roomNonCrit io.q ∧ ¬ (io.q.any fun x => !x.read && x.code == Ev.evtLoss.code) then
    let d := io.loss.1 + io.loss.2.1 * 65536 + io.loss.2.2 * 2 ^ 32
    qStore env Ev.evtLoss d 0 0 (count Ctr.EVT_RAISED_WARN 1 { io with loss := (0, 0, 0) })
  else io

/-- Raise what EVT itself owes: page alerts (R582) and counter wraps (R643). -/
def dueRound (env : IoEnv) (io : Io) : Io :=
  io.due.foldl (fun io d =>
    match d with
    | .alert page => arrive env Ev.pageAlert 0 (page / 4096 % 64 + 256 * (page / 2 ^ 18)) 0 io
    | .wrap i =>
      let io := signalPorts env (fldOf io Reg.EVT_VFIX 23 20) (fldOf io Reg.EVT_VFIX 15 8) 0 io
      if io.ovfRaised then io else arrive env Ev.cntOvf i 0 0 { io with ovfRaised := true })
    { io with due := [] }

/-- Raise everything that is due. An alert's own entry can only make the pages of EVT due, whose ANY bit is then set,
so a few rounds suffice. -/
def flush (env : IoEnv) (io : Io) : Io := lossTry env (dueRound env (dueRound env (dueRound env io)))

/-- Raise an event with DATA, UNIT and enclave attribute. -/
def raiseIo (env : IoEnv) (e : Ev) (data unit encl : Nat) (io : Io) : Io := flush env (arrive env e data unit encl io)

/-- Raise an event at most once per `ns` for a source (R550, R578, R585, R595). -/
def raiseLimited (env : IoEnv) (ns src : Nat) (e : Ev) (data unit encl : Nat) (io : Io) : Io :=
  match tblFind io.lastEv (16 * e.code + src) with
  | some t => if t + ns ≤ env.tb then
      raiseIo env e data unit encl { io with lastEv := tblPut io.lastEv (16 * e.code + src) env.tb } else io
  | none => raiseIo env e data unit encl { io with lastEv := tblPut io.lastEv (16 * e.code + src) env.tb }

/-! ### Entry words and queue commands -/

/-- Word i of an entry (R630). -/
def entryWord (e : QEntry) (i : Nat) : Word :=
  BitVec.ofNat 32 (match i with
    | 0 => e.seq
    | 1 => e.code + 65536 * (e.sev.code + (if e.read then 4 else 0) + (if e.merged then 8 else 0)) + 2 ^ 24 * e.rept
    | 2 => e.tb % 2 ^ 32
    | 3 => e.tb / 2 ^ 32
    | 4 => e.encl % 1024 + 65536 * e.form.code
    | 5 => e.data % 2 ^ 32
    | 6 => e.data / 2 ^ 32
    | _ => e.unit % 65536)

/-- Word i of the entry presented; 0 with no unread entry (R636). -/
def headWord (q : List QEntry) (i : Nat) : Word :=
  match qHead q with
  | some e => entryWord e i
  | none => 0

/-- A read of Q_ENTRY0 through the active window: words 1 to 7 are latched for the master; an owner read marks the
entry read, and it joins the mark set of a mark (R636, R637). -/
def qRead (env : IoEnv) (m : Nat) (owner : Bool) (io : Io) : Io :=
  let ws := (List.range 7).map fun i => headWord io.q (i + 1)
  let io1 := { io with qLatch := tblPut io.qLatch m ws }
  match qHead io.q with
  | none => io1
  | some e =>
    if owner then
      lossTry env { io1 with q := io1.q.map fun y => if y.seq = e.seq then { y with read := true } else y,
                             markSet := if io.markOn then io.markSet ++ [e.seq] else io.markSet }
    else io1

/-- RELEASE of a SEQ (R637). -/
def qRelease (env : IoEnv) (seq : Nat) (io : Io) : Io :=
  if io.q.any (·.seq == seq) then lossTry env { io with q := qDrop io.q seq }
  else flush env (rcSet Reg.EVT_Q_STS 28 io)

/-- RELEASE_ALL_READ (R637). -/
def qReleaseRead (env : IoEnv) (io : Io) : Io := lossTry env { io with q := io.q.filter fun e => !e.read }

/-- MARK (R637). -/
def qMark (io : Io) : Io := { io with markOn := true, markSet := [] }

/-- REWIND: the live entries of the mark set become unread, the set is emptied, the mark stays (R637). -/
def qRewind (io : Io) : Io :=
  { io with q := io.q.map fun e => if e.seq ∈ io.markSet then { e with read := false } else e, markSet := [] }

/-! ### Sampling -/

/-- Append a record; a full buffer loses it; crossing the threshold signals the sampling vector (R648). -/
def sampPush (env : IoEnv) (r : BitVec 256) (io : Io) : Io :=
  let n := io.samp.recs.length
  if n < 4096 then
    let full := n + 1 = 4096
    let io := count Ctr.EVT_SAMPLE_REC 1 { io with samp := { io.samp with recs := io.samp.recs ++ [r], full := full } }
    let io := if n + 1 = fldOf io Reg.EVT_SAMPLE_THRESH 12 0 then
      signalPorts env (fldOf io Reg.EVT_VFIX 19 16) (fldOf io Reg.EVT_VFIX 7 0) 0 io else io
    if full then raiseIo env Ev.sampleFull 0 0 0 io else flush env io
  else flush env (count Ctr.EVT_SAMPLE_LOST 1 (rcAdd Reg.EVT_SAMPLE_STS 31 16 1 io))

/-- Whether an eligible retirement or commit is to be recorded now, and the count afterwards (R646): PRECISE takes
every PERIODth eligible one, SKID the next one after the count completes. -/
def sampTake (eligible : Bool) (io : Io) : Bool × Io :=
  match fldOf io Reg.EVT_SAMPLE_CFG 1 0 with
  | 1 =>
    if eligible then
      let c := io.samp.cnt + 1
      if fldOf io Reg.EVT_SAMPLE_PERIOD 23 0 ≤ c then (true, { io with samp := { io.samp with cnt := 0 } })
      else (false, { io with samp := { io.samp with cnt := c } })
    else (false, io)
  | 2 => if io.samp.due then (true, { io with samp := { io.samp with due := false } }) else (false, io)
  | _ => (false, io)

/-- Word i of the oldest record. -/
def sampWord (io : Io) (i : Nat) : Word :=
  match io.samp.recs with
  | [] => 0
  | r :: _ => BitVec.ofNat 32 (bitsOf r.toNat (32 * i + 31) (32 * i))

/-- An owner read of SAMPLE_REC0 through the active window takes the oldest record and latches words 1 to 7 (R648). -/
def sampRead (m : Nat) (io : Io) : Io :=
  { io with sampLatch := tblPut io.sampLatch m ((List.range 7).map fun i => sampWord io (i + 1)),
            samp := { io.samp with recs := io.samp.recs.tail, full := false } }

/-- The tick snapshot (R645); the per-tick limits of R582 and R643 start anew. -/
def snapshot (epochCnt : Nat) (io : Io) : Io :=
  let io := { io with alerted := [], ovfRaised := false }
  if fldOf io Reg.EVT_SNAP_CTL 0 0 = 1 then rcAdd Reg.EVT_SNAP_STS 15 0 1 io
  else putFld { io with snap := io.counters } Reg.EVT_SNAP_SEQ 31 0 epochCnt

/-- The end of a moderation interval: a held signal sends one message (R641). -/
def modExpire (env : IoEnv) (p v : Nat) (io : Io) : Io :=
  let x := tblGet Vec.idle io.vecs (256 * p + v)
  if x.held then
    if env.up.getD p false then sendVec env p v x io
    else { io with vecs := tblSet Vec.idle io.vecs (256 * p + v) { x with held := false } }
  else io

/-- A port's link goes down: its held signals are discarded (R641, R649). -/
def dropHeld (p : Nat) (io : Io) : Io :=
  { io with vecs := io.vecs.map fun x => if x.1 / 256 = p then (x.1, { x.2 with held := false }) else x }

end Sys2Proof.Machine
end

