-- ==== Sys2Proof/Machine/State.lean ====
section
/-! DEFINITION. The whole state of the block and its value after reset, with the reasons for which a step can stop. -/

namespace Sys2Proof.Machine

open Sys2Proof

/-- Everything the spec gives the part, and the queue of commands that wait, first in, first out. -/
structure State where
  /-- Which part it is (R2, R7). -/
  part : Part
  /-- The time base in ns (R34). -/
  tb : Nat
  /-- EPOCH_CNT and TICK_LAST (R34), the TB value of the next tick while ticks are generated, and where the epoch that it ends
  began: the last tick, or host link enable (R29, R30, R36). -/
  epochCnt : Nat
  tickLast : Nat
  epochEnd : Option Nat
  epochAt : Nat
  /-- Registers, events, counters, sampling, messages sent. -/
  io : Io
  mgt : Mgt
  sec : Sec
  hpt : Hpt
  cache : Cache
  ldg : Ldg
  med : Med
  rsv : Rsv
  cch : Cch
  plc : Plc
  fab : Fab
  /-- How many free values have been drawn; the model's own field. -/
  freeCtr : Nat
  /-- Commands that wait, oldest first. -/
  pending : List Instr
  deriving DecidableEq, Repr

/-- Reasons for which the machine stops with a fault. The spec gives every command of the table an effect, so there is
none. -/
inductive Fault where
  deriving DecidableEq, Repr

/-- Reasons for which the model refuses a command. -/
inductive Refusal where
  /-- Raised by an arm of `exec` whose command has no meaning in the model yet. Safe: the run stops. -/
  | notModelled (mnemonic : String)
  deriving DecidableEq, Repr

/-- The part right after VAUX first rises, a factory-fresh -PX: POR values everywhere, the main rails off, nothing
stored, no command waiting. -/
def State.reset : State :=
  { part := .px, tb := 0, epochCnt := 0, tickLast := 0, epochEnd := none, epochAt := 0,
    io := Io.reset,
    mgt := { own := Own.reset, nv := Nvm.fresh, i3c := I3c.reset, flash := Flash.fresh, boot := Boot.reset },
    sec := Sec.reset, hpt := Hpt.reset, cache := Cache.reset, ldg := Ldg.reset, med := Med.reset, rsv := Rsv.reset,
    cch := Cch.reset, plc := Plc.reset, fab := Fab.reset, freeCtr := 0, pending := [] }

end Sys2Proof.Machine
end

