-- ==== Sys2Proof/Machine/Ops.lean ====
section
/-! DEFINITION. The named operations over the state that every family uses: outcomes, time, registers, events, counters,
free values, and lists addressed by position. -/

namespace Sys2Proof.Machine

open Sys2Proof

/-- What every meaning answers with. -/
abbrev Res := Host.Outcome State Fault Refusal

/-- Continue a meaning with a next state. -/
def Res.bind (r : Res) (f : State → Res) : Res :=
  match r with
  | .next s => f s
  | .fault e => .fault e
  | .refused e => .refused e

/-! ### Lists by position -/

/-- Replace the element at position `i`, if there is one. -/
def setAt {α : Type} (l : List α) (i : Nat) (f : α → α) : List α :=
  match l, i with
  | [], _ => []
  | a :: r, 0 => f a :: r
  | a :: r, i + 1 => a :: setAt r i f

/-- Fold a function over the positions below `n` in rising order. -/
def upTo {σ : Type} (n : Nat) (f : Nat → σ → σ) (s : σ) : σ := (List.range n).foldl (fun s i => f i s) s

/-- Apply a function once for each element. -/
def eachIn {α σ : Type} (l : List α) (f : α → σ → σ) (s : σ) : σ := l.foldl (fun s a => f a s) s

/-- The position of the first element that satisfies `p`. -/
def findPos {α : Type} (p : α → Bool) (l : List α) : Option Nat :=
  match l with
  | [] => none
  | a :: r => if p a then some 0 else (findPos p r).map (· + 1)

/-- Sum of a list. -/
def sumN (l : List Nat) : Nat := l.foldl (· + ·) 0

/-- Greatest element, 0 for none. -/
def maxN (l : List Nat) : Nat := l.foldl max 0

/-- The element with the greatest (least) measure, the first on ties. -/
def bestBy {α : Type} (better : α → α → Bool) (l : List α) : Option α :=
  match l with
  | [] => none
  | a :: r => some (r.foldl (fun b x => if better x b then x else b) a)

/-- Insert into a list kept in the order of `before`: after every element that does not come after it. -/
def insertBy {α : Type} (before : α → α → Bool) (x : α) (l : List α) : List α :=
  match l with
  | [] => [x]
  | a :: r => if before x a then x :: a :: r else a :: insertBy before x r

/-! ### Time, registers, events -/

/-- What EVT reads of the state (R596, R641). -/
def env (s : State) : IoEnv := { tb := s.tb, up := s.hpt.ports.map (·.up), enec := s.mgt.i3c.enec }

/-- Run an operation of the register file and EVT. -/
def onIo (f : Io → Io) (s : State) : State := { s with io := f s.io }

/-- Bits hi..lo of a stored register. -/
def fld (s : State) (off hi lo : Nat) : Nat := fldOf s.io off hi lo

/-- A one-bit field. -/
def flag (s : State) (off bit : Nat) : Bool := fld s off bit bit == 1

/-- Hardware writes a field of a register. -/
def hwFld (off hi lo v : Nat) (s : State) : State := onIo (fun io => putFld io off hi lo v) s

/-- Raise an event with DATA and UNIT and enclave attribute 0. -/
def raise (e : Ev) (data unit : Nat) (s : State) : State := onIo (raiseIo (env s) e data unit 0) s

/-- Raise an event that belongs to an enclave (R639). -/
def raiseE (e : Ev) (data unit encl : Nat) (s : State) : State := onIo (raiseIo (env s) e data unit encl) s

/-- Raise an event at most once per `ns` for a source. -/
def raiseAtMost (ns src : Nat) (e : Ev) (data unit : Nat) (s : State) : State :=
  onIo (raiseLimited (env s) ns src e data unit 0) s

/-- Advance a counter by n and raise what a wrap makes due. -/
def tally (i n : Nat) (s : State) : State := onIo (fun io => flush (env s) (count i n io)) s

/-- Advance a saturating RC count of a status register; page alerts follow at once. -/
def rcCount (off hi lo n : Nat) (s : State) : State := onIo (fun io => flush (env s) (rcAdd off hi lo n io)) s

/-- Set an RC flag of a status register. -/
def rcFlag (off bit : Nat) (s : State) : State := rcCount off bit bit 1 s

/-- Raise a peak field. -/
def peak (off hi lo v : Nat) (s : State) : State := onIo (peakMax off hi lo v) s

/-- Send a message to the outside. -/
def emit (o : Out) (s : State) : State := onIo (fun io => { io with out := o :: io.out }) s

/-- TB moves forward to `t`, never back (R531). -/
def until_ (t : Nat) (s : State) : State := { s with tb := max s.tb t }

/-- When work that began at TB `t` and moved some bytes may be followed by more at a rate in GB/s, which is bytes per ns. -/
def paced (t bytes rate : Nat) : Nat := t + (bytes + rate - 1) / rate

/-- Draw a free value: the value, and the state with the next one due. -/
def draw (s : State) : Nat × State := (Config.freeValue s.freeCtr, { s with freeCtr := s.freeCtr + 1 })

/-- The next output of the DRBG as a token (R544): the model names keys by the draw that made them. -/
def drawKey (s : State) : Nat × State :=
  (s.sec.draws, { s with sec := { s.sec with draws := s.sec.draws + 1, gens := s.sec.gens + 1 } })

/-- The n bytes of a number, lowest first (R9). -/
def bytesLe (n v : Nat) : List Byte :=
  match n with
  | 0 => []
  | n + 1 => BitVec.ofNat 8 v :: bytesLe n (v / 256)

/-- The payload that fields of so many bytes make, in order, each little-endian (R9). -/
def payloadOf (fs : List (Nat × Nat)) : List Byte := fs.flatMap fun f => bytesLe f.1 f.2

/-- A mailbox completion of a port whose link is up, with its interrupt, vector 0 (R95, R639). -/
def mboxDone (p opc : Nat) (status : String) (payload : List Byte) (s : State) : State :=
  if (env s).up.getD p false then
    onIo (signal (env s) p 0 0) (emit (.mbox p opc status payload) s)
  else s

/-! ### Parts of the state -/

def onCache (f : Cache → Cache) (s : State) : State := { s with cache := f s.cache }
def onHpt (f : Hpt → Hpt) (s : State) : State := { s with hpt := f s.hpt }
def onJrnl (f : Jrnl → Jrnl) (s : State) : State := { s with med := { s.med with jrnl := f s.med.jrnl } }
def onMedia (f : Media → Media) (s : State) : State := { s with med := { s.med with media := f s.med.media } }
def onRsv (f : Rsv → Rsv) (s : State) : State := { s with rsv := f s.rsv }
def onCch (f : Cch → Cch) (s : State) : State := { s with cch := f s.cch }
def onPlc (f : Plc → Plc) (s : State) : State := { s with plc := f s.plc }
def onFab (f : Fab → Fab) (s : State) : State := { s with fab := f s.fab }
def onLdg (f : Ldg → Ldg) (s : State) : State := { s with ldg := f s.ldg }
def onSec (f : Sec → Sec) (s : State) : State := { s with sec := f s.sec }
def onBoot (f : Boot → Boot) (s : State) : State := { s with mgt := { s.mgt with boot := f s.mgt.boot } }
def onNv (f : Nvm → Nvm) (s : State) : State := { s with mgt := { s.mgt with nv := f s.mgt.nv } }
def onOwn (f : Own → Own) (s : State) : State := { s with mgt := { s.mgt with own := f s.mgt.own } }

/-- A host port. -/
def port (s : State) (p : Nat) : Port := s.hpt.ports.getD p Port.down

/-- Change a host port. -/
def onPort (p : Nat) (f : Port → Port) (s : State) : State := onHpt (fun h => { h with ports := setAt h.ports p f }) s

/-- Host ports of the part (R2, R3). -/
def portCount (s : State) : Nat := if s.part = .pm then 2 else 4

/-- Fabric ports, media ports and policy cores of the part (R2). -/
def fabPortCount (s : State) : Nat := if s.part = .pm then 2 else 4
def medPortCount (s : State) : Nat := if s.part = .pm then 4 else 8
def coreCount (s : State) : Nat := if s.part = .pm then 4 else 8
def chanCount (s : State) : Nat := if s.part = .pm then 8 else 16

/-- The owner (R587), if there is one. -/
def owner (s : State) : Option Master := s.mgt.own.owner

/-- Master `m` is the owner. -/
def isOwner (s : State) (m : Master) : Bool := s.mgt.own.owner == some m

/-- The device ID in force (R526). -/
def devId (s : State) : Nat := s.fab.idForce

/-- Run or a drain: the states in which ticks are generated (R30). -/
def ticking (s : State) : Bool := s.rsv.pst == .run || s.rsv.pst == .fence || s.rsv.pst == .geyser

/-- The device serves requests. -/
def running (s : State) : Bool := s.rsv.pst == .run

end Sys2Proof.Machine
end

