-- ==== Sys2Proof/Machine/Addr.lean ====
section
/-! DEFINITION. The address forms: HDM decode (R43 to R48), the home map (R50 to R54), the set hash and channel (R64,
R65), the media layout (R68, R69) and enclave ranges (R74, R548). -/

namespace Sys2Proof.Machine

open Sys2Proof

/-- The bytes of DA a decoder maps for this port. -/
def Hdm.span (d : Hdm) : Nat := d.size / d.ways

/-- Interleave ways and granularities of R44. -/
def Hdm.ok (d : Hdm) : Bool :=
  [1, 2, 3, 4, 6, 8, 12, 16].contains d.ways && [256, 512, 1024, 2048, 4096, 8192, 16384].contains d.gran &&
    decide (0 < d.size) && d.pos < d.ways && d.size % (d.ways * d.gran) == 0

/-- The DA that a decoder gives an HPA: the granules of the interleave set go round its ways, and this port takes those
of its position. -/
def Hdm.toDa (d : Hdm) (hpa : Nat) : Option Nat :=
  let o := hpa - d.hpa
  if d.committed ∧ d.hpa ≤ hpa ∧ o < d.size ∧ o / d.gran % d.ways = d.pos then
    some (d.da + o / (d.gran * d.ways) * d.gran + o % d.gran)
  else none

/-- The HPA that a decoder gives a DA. -/
def Hdm.toHpa (d : Hdm) (da : Nat) : Option Nat :=
  let o := da - d.da
  if d.committed ∧ d.da ≤ da ∧ o < d.span then
    some (d.hpa + (o / d.gran * d.ways + d.pos) * d.gran + o % d.gran)
  else none

/-- HDM decode at a port: decoder index and DA. -/
def decodeHpa (pt : Port) (hpa : Nat) : Option (Nat × Nat) :=
  (List.range 4).findSome? fun i => ((pt.hdm.getD i none).bind (·.toDa hpa)).map fun da => (i, da)

/-- The HPA that a port's committed decoders give a DA (R48). -/
def encodeDa (pt : Port) (da : Nat) : Option Nat := pt.hdm.findSome? fun d => d.bind (·.toHpa da)

/-- The home-map entry of a window; identity where none is listed (R51). -/
def hmapEntry (s : State) (w : Nat) : HmapE := tblGet ⟨true, true, 0, w⟩ s.hpt.hmap w

/-- A home-map entry as HMAP_DATA shows it (R60). -/
def HmapE.word (e : HmapE) : Nat :=
  (if e.valid then 1 else 0) + (if e.self then 2 else 0) + 4 * (e.homeId % 4096) + 2 ^ 14 * (e.base % 4096)

/-- The entry a written HMAP_DATA word names (R60). -/
def HmapE.ofWord (w : Nat) : HmapE := ⟨bitsOf w 0 0 == 1, bitsOf w 1 1 == 1, bitsOf w 13 2, bitsOf w 25 14⟩

/-- The home device of a window (R50). -/
def homeOf (s : State) (e : HmapE) : Nat := if e.self then devId s else e.homeId

/-- Home capacity in bytes (R69). -/
def homeCap (s : State) : Nat :=
  match s.med.media.set_ with
  | some m => m.n * m.hl * 4096
  | none => 0

/-- Why an access is unmapped (R53): by window, D_SIZE or route, or beyond the home capacity. -/
inductive Unmap where
  | unmapped | unbacked
  deriving DecidableEq, Repr

/-- A route to a device (R527, R528). -/
def routed (s : State) (dev : Nat) : Bool := bitsOf (tblGet 0 s.fab.routes dev) 17 17 == 1

/-- What the home map gives a DA: the sector key GA[59:8], or why it is unmapped (R50, R53). For a remote home the
capacity test is the home's own (R54). -/
def mapDa (s : State) (da : Nat) : Except Unmap Nat :=
  let w := da / 2 ^ 36 % 4096
  let e := hmapEntry s w
  let ho := e.base * 2 ^ 36 + da % 2 ^ 36
  let h := homeOf s e
  if e.valid = false ∨ s.hpt.dsize ≤ da then .error .unmapped
  else if h = devId s then
    if homeCap s ≤ ho then .error .unbacked else .ok (h * 2 ^ 40 + ho / 256)
  else if routed s h then .ok (h * 2 ^ 40 + ho / 256) else .error .unmapped

/-- The device and the sector offset of a sector key. -/
def skHome (sk : Nat) : Nat := sk / 2 ^ 40
def skSo (sk : Nat) : Nat := sk % 2 ^ 40

/-- A sector is homed at this device. -/
def isLocal (s : State) (sk : Nat) : Bool := skHome sk == devId s

/-- D_SIZE (R46): the end of the highest valid window; windows without a listed entry are valid. -/
def dsizeOf (s : State) : Nat :=
  match (List.range 4096).reverse.find? fun w => (hmapEntry s w).valid with
  | some w => (w + 1) * 2 ^ 36
  | none => 0

/-- The fold of R64: m for a tag and a home device ID. -/
def hashFold (t d : Nat) : Nat :=
  (t % 2 ^ 16 * 2 ^ 16 + t % 2 ^ 16) ^^^ (d % 4096 * 2 ^ 20 + d % 4096)

/-- Tag of a sector offset (R64). -/
def tagOf (n so : Nat) : Nat := so / 2 ^ n

/-- Set of a sector (R64). -/
def setOf (n so d : Nat) : Nat := (so % 2 ^ n) ^^^ (hashFold (tagOf n so) d % 2 ^ n)

/-- Set index and tag together recover the sector offset (R64). -/
def soOf (n set t d : Nat) : Nat := t * 2 ^ n + (set ^^^ (hashFold t d % 2 ^ n))

/-- The set of a sector key under the geometry in force. -/
def setOfSk (s : State) (sk : Nat) : Nat := setOf s.hpt.setBits (skSo sk) (skHome sk)

/-- Tag of a sector key. -/
def tagOfSk (s : State) (sk : Nat) : Nat := tagOf s.hpt.setBits (skSo sk)

/-- The channel of a set: the pair index in a mirrored configuration (R65). -/
def chanOf (s : State) (set : Nat) : Nat :=
  (set % 2 ^ s.hpt.chBits) ^^^ (set / 2 ^ 8 % 2 ^ s.hpt.chBits)

/-- Position of a set within its channel (R65). -/
def posOf (s : State) (set : Nat) : Nat := set / 2 ^ s.hpt.chBits

/-- The physical channels that hold a set: one, or both of a pair (R65). -/
def physChans (s : State) (set : Nat) : List Nat :=
  if s.hpt.mirror then [2 * chanOf s set, 2 * chanOf s set + 1] else [chanOf s set]

/-- DRAM location fields of a position (R402, R403): subchannel, row slot, bank group, bank, rank, row. -/
def dramLoc (rho q : Nat) : Nat × Nat × Nat × Nat × Nat × Nat :=
  (q % 2, q / 2 % 8, q / 16 % 8, q / 128 % 4, q / 512 % 2 ^ rho, q / 2 ^ (9 + rho))

/-- The bank that holds a set (R402): channel, and its subchannel, bank group, bank and rank. -/
def bankOf (s : State) (set : Nat) : Nat × Nat × Nat × Nat × Nat :=
  let (sub, _, bg, b, r, _) := dramLoc s.cch.rho (posOf s set)
  (chanOf s set, sub, bg, b, r)

/-- Media location of a home page: namespace index and LBA (R69). -/
def mediaLoc (m : MSet) (p : Nat) : Nat × Nat :=
  (p / 64 % m.n, 256 + m.jl + p / 64 / m.n * 64 + p % 64)

/-- Home page number of a sector offset (R69). -/
def pageOfSo (so : Nat) : Nat := so / 16

/-- The range-table entry that covers a sector offset (R74, R548). -/
def rangeOf (s : State) (so : Nat) : Option Range :=
  (s.sec.ranges.find? fun r => r.2.base ≤ so / 16 && so / 16 ≤ r.2.last).map (·.2)

/-- Raise the event of an unmapped access and record its DA (R54). -/
def tellUnmapped (why : Unmap) (da unit : Nat) (s : State) : State :=
  let s := hwFld Reg.COH_UNMAP_DA_LO 31 0 (da % 2 ^ 32) (hwFld Reg.COH_UNMAP_DA_HI 15 0 (da / 2 ^ 32) s)
  match why with
  | .unmapped => raise Ev.homeUnmapped da unit s
  | .unbacked => raise Ev.homeUnbacked da unit s

end Sys2Proof.Machine
end

