-- ==== Sys2Proof/Machine/Ledger.lean ====
section
/-! DEFINITION. The dirty ledger (R288 to R311): the amount D as a function of what is charged, the energy model, the
reserve state, grants. -/

namespace Sys2Proof.Machine

open Sys2Proof

/-! ### The amount (R288 to R291) -/

/-- A line state that holds charge: Dirty, Dirty-Zero or Poisoned dirty. -/
def LS.charged : LS → Bool
  | .dirty | .dirtyZero | .poisonDirty => true
  | _ => false

/-- Data bytes of a charged line (R290). -/
def LS.bytes : LS → Nat
  | .dirty | .poisonDirty => 64
  | _ => 0

/-- The line codes of R122. -/
def LS.code : LS → Nat
  | .invalid => 0 | .clean => 1 | .dirty => 2 | .dirtyZero => 3 | .poisonClean => 4 | .poisonDirty => 5

def LS.ofCode (n : Nat) : LS :=
  match n with
  | 1 => .clean | 2 => .dirty | 3 => .dirtyZero | 4 => .poisonClean | 5 => .poisonDirty | _ => .invalid

/-- A line of a way charged under the cache term. -/
def LineSt.inCache (l : LineSt) : Bool := l.ls.charged && !l.pend

/-- Charge of a way: data bytes and units. A forward hold stays charged (R262). -/
def wayCharge (w : Way) : Nat × Nat :=
  (sumN ((w.lines.filter (·.inCache)).map (·.ls.bytes)), if w.lines.any (·.inCache) then 1 else 0)

/-- The write-through part of it (R303). -/
def wayWt (w : Way) : Nat × Nat :=
  (sumN ((w.lines.filter fun l => l.inCache && l.wt).map (·.ls.bytes)),
   if w.lines.any fun l => l.inCache && l.wt then 1 else 0)

/-- Charge of a list of copied lines, with one unit for its holder. -/
def copyCharge (ls : List (Option CLine)) : Nat × Nat :=
  (sumN (ls.map fun c => (c.map (·.ls.bytes)).getD 0), 1)

def copyWt (ls : List (Option CLine)) : Nat × Nat :=
  (sumN (ls.map fun c => (c.map fun c => if c.wt then c.ls.bytes else 0).getD 0),
   if ls.any fun c => (c.map (·.wt)).getD false then 1 else 0)

/-- Charge of a combining entry: 64 B for each line with a byte in it. -/
def ntCharge (e : NtE) : Nat × Nat := (64 * (e.lines.filter fun l => l.2 != 0).length, 1)

def ntWt (e : NtE) : Nat × Nat :=
  let ls := (List.range 4).filter fun j => e.items.any fun i => i.line == j && !i.armed
  (64 * ls.length, if ls.isEmpty then 0 else 1)

/-- Charge of a reservation held by a transaction (R293). -/
def txnCharge (t : Txn) : Nat × Nat :=
  let a := if t.resv = .armed ∨ t.resv = .wt then (t.rsz, 1) else (0, 0)
  let b := if t.rsv2 = .armed ∨ t.rsv2 = .wt then (256, 1) else (0, 0)
  (a.1 + b.1, a.2 + b.2)

def txnWt (t : Txn) : Nat × Nat :=
  let a := if t.resv = .wt then (t.rsz, 1) else (0, 0)
  let b := if t.rsv2 = .wt then (256, 1) else (0, 0)
  (a.1 + b.1, a.2 + b.2)

/-- Componentwise sum. -/
def sumP (l : List (Nat × Nat)) : Nat × Nat := l.foldl (fun a b => (a.1 + b.1, a.2 + b.2)) (0, 0)

/-- Units of a staged record (R289): one for each sector it covers, as the worked example of R325 counts a ZERO run, else one. -/
def recUnits (r : JRec) : Nat := max 1 r.secs.length

/-- Records in staging: the lines a sector record covers carry their charge, and every record its units. -/
def recCharge (r : JRec) : Nat × Nat := (if r.free_ then 0 else (sumP (r.secs.map copyCharge)).1, recUnits r)
def recWt (r : JRec) : Nat × Nat := if r.free_ then (0, 0) else sumP (r.secs.map copyWt)

/-- The four terms of D: cache, buffers, staged, reserved, each as data bytes and units. -/
def cacheTerm (s : State) : Nat × Nat := sumP (s.ldg.excess :: s.cache.ways.map fun w => wayCharge w.2)
def bufTerm (s : State) : Nat × Nat :=
  sumP (s.cache.wb.map (fun e => copyCharge e.lines) ++ s.cache.nt.map ntCharge ++
    (s.fab.wbs.filter fun w => !w.free_).map fun w => copyCharge w.lines)
def stagedTerm (s : State) : Nat × Nat := sumP (s.med.jrnl.staging.flatMap fun p => p.recs.map recCharge)
def headrooms (s : State) : Nat := sumN (s.hpt.ports.map (·.head))
def rsvdTerm (s : State) : Nat × Nat :=
  sumP ((64 * headrooms s, headrooms s) :: s.cache.txns.map txnCharge)

/-- D_dirty and the charge units (R288, R289). -/
def dirtyTerm (s : State) : Nat × Nat := sumP [cacheTerm s, bufTerm s, stagedTerm s, rsvdTerm s]
def dDirty (s : State) : Nat := (dirtyTerm s).1
def dMeta (s : State) : Nat := 16 * (dirtyTerm s).2

/-- The dirty amount D (R288). -/
def dAmount (s : State) : Nat := dDirty s + dMeta s

/-- D_wt (R303). -/
def dWt (s : State) : Nat :=
  let hw := sumN (s.hpt.ports.map (·.headWt))
  let p := sumP (s.ldg.excessWt :: (64 * hw, hw) :: s.cache.txns.map txnWt ++ (s.cache.ways.map fun w => wayWt w.2) ++
    s.cache.wb.map (fun e => copyWt e.lines) ++ s.cache.nt.map ntWt ++
    ((s.fab.wbs.filter fun w => !w.free_).map fun w => copyWt w.lines) ++
    s.med.jrnl.staging.flatMap fun p => p.recs.map recWt)
  p.1 + 16 * p.2

/-- Units of staged records behind which no grant stands. -/
def ownUnits (s : State) : Nat :=
  sumN (s.med.jrnl.staging.flatMap fun p => (p.recs.filter fun r => r.free_ || r.secs.isEmpty).map recUnits)

/-- Bytes charged under Armed grants. -/
def armedBytes (s : State) : Nat := dAmount s - dWt s - 16 * ownUnits s

/-- Bytes charged under Armed grants remain. -/
def armedRemains (s : State) : Bool := 0 < armedBytes s

/-- Data charged under Armed grants remains: unconverted headrooms, whose class the conversion fixes (R294), apart. -/
def armedData (s : State) : Bool := 80 * sumN (s.hpt.ports.map fun p => p.head - p.headWt) < armedBytes s

/-! ### Healthy drain ports -/

/-- Media port i works: enabled, linked, not lost, its controllers ready. -/
def portOk (s : State) (i : Nat) : Bool :=
  let p := s.med.ports.getD i MPort.off
  i < medPortCount s && p.link && !p.lost && p.ctl.ready && fld s Reg.MED_PORT_EN i i == 1

/-- A healthy drain port carries a reachable namespace of the media set (R354). -/
def drainPort (s : State) (i : Nat) : Bool :=
  match s.med.media.set_ with
  | some m => portOk s i && (List.range m.n).any fun ns => m.nsPort.getD ns 8 == i && !m.lost.contains ns
  | none => false

/-- ports_ok (R298). -/
def portsOk (s : State) : Nat := ((List.range 8).filter (drainPort s)).length

/-! ### The energy model (R297, R298) -/

/-- Available energy of a bank in nJ (R297): ½ · C · (V² − V_min²) · η, with C in 10 µF, V in mV and η in 0.001. The spec gives no
rounding; the model rounds what is available down (DESIGN CHOICE, log 76). -/
def bankEnergy (cap mv vmin eff : Nat) : Nat := cap * (mv * mv - vmin * vmin) * eff / 200000

/-- The energy a bank counts for: valid, present and above V_min, and not asked to discharge (R297, R365, R366). -/
def bankCounts (s : State) (n : Nat) : Nat :=
  let b := s.rsv.banks.getD n Bank.absent
  let vmin := 100 * fld s (Reg.RSV_BANK + 8 * n) 8 1
  if b.present ∧ b.valid ∧ b.disReq = false ∧ vmin < b.mv then
    bankEnergy b.cap b.mv vmin (fld s Reg.LDG_CONV_EFF 9 0) else 0

/-- The figures of calibration and of MED, as taken at the last tick, and of configuration. -/
structure Figs where
  bw : Nat
  pwr : Nat
  ports : Nat
  ok : Nat
  fixed : Nat
  period : Nat
  leak : Nat
  margin : Nat
  drainMax : Nat
  dirtyCap : Nat
  deriving DecidableEq, Repr

def figs (s : State) : Figs :=
  { bw := s.ldg.calBw, pwr := s.ldg.calPwr, ports := s.ldg.calPorts, ok := s.ldg.portsUp, fixed := fld s Reg.LDG_E_FIXED 15 0, period := fld s Reg.CTR_EPOCH 13 0,
    leak := fld s Reg.LDG_LEAK 15 0, margin := fld s Reg.LDG_MARGIN 5 0, drainMax := fld s Reg.LDG_DRAIN_MAX 11 0,
    dirtyCap := fld s Reg.LDG_CAP 14 0 * 2 ^ 20 }

/-- The model is valid (R301). -/
def Figs.valid (f : Figs) : Bool := f.bw != 0 && f.pwr != 0 && f.ports != 0 && f.ok != 0

/-- e_stale in nJ: PERIOD · (CAL_PWR + LEAK), rounded up. -/
def Figs.stale (f : Figs) : Nat := ceilDiv (f.period * (100 * f.pwr + f.leak)) 100

/-- e_need in nJ for an amount D, rounded up. -/
def Figs.need (f : Figs) (d : Nat) : Nat :=
  1000000 * f.fixed + ceilDiv (d * (100 * f.pwr * f.ports)) (f.bw * f.ok) + f.stale

/-- Bytes that an energy in nJ moves: E · bw / CAL_PWR. -/
def Figs.bytesOf (f : Figs) (e : Nat) : Nat := e * (f.bw * f.ok) / (100 * f.pwr * f.ports)

def Figs.capHard (f : Figs) (e : Nat) : Nat := f.bytesOf (e - 1000000 * f.fixed - f.stale)
def Figs.capMargin (f : Figs) (e : Nat) : Nat := e * (f.bw * f.ok) / ((100 + f.margin) * f.pwr * f.ports)
def Figs.capTime (f : Figs) : Nat :=
  (f.drainMax * f.pwr - 10 * f.fixed) * 1000 * (f.bw * f.ok) / (f.pwr * f.ports)

/-- cap_model (R298); 0 while the model is invalid. -/
def Figs.capModel (f : Figs) (e : Nat) : Nat :=
  if f.valid then min (f.capHard e) (min (f.capMargin e) f.capTime) else 0

/-- cap (R298). -/
def Figs.cap (f : Figs) (model : Nat) : Nat := min model (min f.dirtyCap (16 * 2 ^ 30))

/-- drain_est in µs. The spec gives no rounding for it: DESIGN CHOICE, rounded up, its fixed time included (log 76). -/
def Figs.drainUs (f : Figs) (d : Nat) : Nat :=
  if f.valid then 
    min 0xFFFFFF (ceilDiv (10000 * f.fixed * (f.bw * f.ok) + d * f.ports * f.pwr) (f.pwr * (f.bw * f.ok)))
  else 0xFFFFFF

/-! ### Reserve state (R301, R302) -/

def RState.code : RState → Nat
  | .unarmed => 0 | .armed => 1 | .overdrawn => 2 | .disarmed => 3

/-- A cause that disarms: owner, calibration or RSV fault (R301). -/
def disarmCause (s : State) : Bool :=
  !flag s Reg.LDG_CTL 0 || s.ldg.cal.isSome || !s.rsv.faults.isEmpty

/-- D is at most 90% of cap. -/
def below90 (d cap : Nat) : Bool := 10 * d ≤ 9 * cap

/-- CAUSE (R310). -/
def causeOf (s : State) : Nat :=
  if s.ldg.closed then s.ldg.shut.2
  else if s.ldg.st = .armed then 0
  else if s.rsv.faults ≠ [] then 5
  else if s.ldg.cal.isSome then 4
  else if ¬ flag s Reg.LDG_CTL 0 then 3
  else if ¬ s.ldg.valid then 1
  else if s.ldg.cap < fld s Reg.LDG_CAP 29 16 * 2 ^ 20 ∨ s.ldg.capModel = 0 then 2
  else if s.ldg.st = .overdrawn ∨ ¬ below90 (dAmount s) s.ldg.cap then 6
  else 7

/-- Enter a reserve state and raise its event (R312). -/
def setRState (n : RState) (s : State) : State :=
  let o := s.ldg.st
  let s' := onLdg (fun l => { l with st := n }) s
  if o = n ∨ s.ldg.closed then s
  else
    match n with
    | .armed => raise Ev.ldgArmed 0 0 s'
    | .overdrawn => raise Ev.ldgOverdrawn 0 0 s'
    | .unarmed => if o = .disarmed then s' else raise Ev.ldgUnarmed 0 0 s'
    | .disarmed => raise Ev.ldgDisarmed (causeOf s') 0 s'

/-- The changes of state that do not wait for a tick (R301): disarm and its end, and Armed to Overdrawn. -/
def rstateNow (s : State) : State :=
  if s.ldg.closed then s
  else if disarmCause s then setRState .disarmed s
  else if s.ldg.st = .disarmed then setRState .unarmed s
  else if s.ldg.st = .armed ∧ s.ldg.cap ≤ dAmount s then setRState .overdrawn s
  else s

/-- The rung in force (R302): 80% as taken at the last tick, 95% taken continuously. -/
def rungOf (s : State) : Nat :=
  if s.ldg.closed then s.ldg.shut.1 else
  match s.ldg.st with
  | .armed =>
    if 95 * s.ldg.cap ≤ 100 * dAmount s then 2 else s.ldg.rung
  | .overdrawn => 3
  | _ => 0

/-- Evaluate the model on latched bank energies and an amount D, and publish (R298). UNCOVERED clears at a tick only (R304). -/
def publish (tick : Bool) (energies : List Nat) (d : Nat) (s : State) : State :=
  let f := figs s
  let e := sumN energies
  let m := f.capModel e
  let need := if f.valid then f.need d else 2 ^ 64
  let unc := decide (e < need) && armedRemains s
  let told := s.ldg.uncovered
  let s := onLdg (fun l => { l with latched := energies, dLatched := d, eAvail := e, eNeed := need, capModel := m,
                                    cap := f.cap m, valid := f.valid, drainUs := f.drainUs d, uncovered := unc || (told && !tick) }) s
  if unc && !told then raise Ev.ldgUncovered 0 0 s else s

/-- Whether an amount D is at the 80% rung (R302): taken at a tick, and at a write of LDG.CAP (R174). -/
def setRung (d : Nat) (s : State) : State :=
  onLdg (fun l => { l with rung := if l.st = .armed ∧ 80 * l.cap ≤ 100 * d then 1 else 0 }) s

/-- Step 4 of a tick (R31, R298, R301, R302): evaluate, then the changes of state that happen at a tick. -/
def tickLedger (s : State) : State :=
  let d := dAmount s
  let s := tally Ctr.LDG_EVAL 1 (publish true ((List.range 4).map (bankCounts s)) d s)
  let s :=
    match s.ldg.st with
    | .unarmed =>
      if s.ldg.valid ∧ fld s Reg.LDG_CAP 29 16 * 2 ^ 20 ≤ s.ldg.cap ∧ below90 d s.ldg.cap ∧ s.ldg.capModel ≠ 0 then
        setRState .armed s else s
    | .overdrawn =>
      if ¬ s.ldg.valid ∨ s.ldg.capModel = 0 then setRState .unarmed s
      else if below90 d s.ldg.cap then setRState .armed s else s
    | .armed => if ¬ s.ldg.valid ∨ s.ldg.capModel = 0 then setRState .unarmed s else s
    | .disarmed => s
  let s := rstateNow s
  let s := setRung d s
  let s := if s.ldg.st = .armed ∧ s.ldg.rung = 1 then tally Ctr.LDG_TICK_RUNG80 1 s else s
  let s := if rungOf s = 2 then tally Ctr.LDG_TICK_RUNG95 1 s else s
  if s.ldg.st = .overdrawn then tally Ctr.LDG_TICK_OVERDRAWN 1 s else s

/-! ### The tick's time (R29 to R31) -/

/-- TB of the next tick after one at `base` (R29, R37). -/
def nextTick (base : Nat) (s : State) : Nat :=
  let p := 10 * fld s Reg.CTR_EPOCH 13 0
  if flag s Reg.CTR_EPOCH 16 then (base / p + 1) * p else base + p

/-- MED's figure and the calibration's are taken at a tick (R31, R41, R311). -/
def latchFigs (s : State) : State :=
  let f := (fld s Reg.LDG_CAL_BW 17 0, fld s Reg.LDG_CAL_PWR 15 0, fld s Reg.LDG_CAL_CFG 8 5, portsOk s)
  onLdg (fun l => { l with calBw := f.1, calPwr := f.2.1, calPorts := f.2.2.1, portsUp := f.2.2.2, ticked := true }) s

/-- Steps 1 and 2 of a tick that falls at TB `t`, but for the ADC's figures (R31): the count, TICK_LAST, the snapshot of the counters
and MED's figure; the next epoch begins. -/
def tickHead (t : Nat) (s : State) : State :=
  let s := tally Ctr.CTR_TICK 1 { s with epochCnt := s.epochCnt + 1, tickLast := t, epochAt := t, epochEnd := some (nextTick t s) }
  latchFigs (onIo (fun io => flush (env s) (snapshot s.epochCnt io)) s)

/-- An unscheduled evaluation (R300): bank n counts 0 J, everything else as at the last tick; none before the first (R30). -/
def evalUnsched (n : Nat) (s : State) : State :=
  if s.ldg.ticked ∧ (s.rsv.pst = .run ∨ (s.rsv.pst = .fence ∧ ¬ s.ldg.closed)) then
    rstateNow (tally Ctr.LDG_EVAL_UNSCHED 1 (publish false (setAt s.ldg.latched n fun _ => 0) s.ldg.dLatched s))
  else s

/-! ### Calibration (R305, R306) -/

/-- Every credit is withheld: from calibration step 3 on, and in Fence and Geyser (R305, R371). -/
def creditsHeld (s : State) : Bool :=
  s.rsv.pst == .fence || s.rsv.pst == .geyser || (s.ldg.cal.map (decide <| 3 ≤ ·.step)).getD false

/-- A bank that leaves Holding charges again, or discharges where a service discharge was asked for (R360, R366). -/
def Bank.release (tb : Nat) (b : Bank) : Bank :=
  if b.st ≠ .holding then b
  else if b.disReq then { b with st := .discharging, disReq := false, bleed := true, disAt := some tb, disTold := false }
  else { b with st := .charging }

/-- Banks leave Holding: main power is back and the device is in Run. -/
def releaseBanks (s : State) : State :=
  onRsv (fun r => { r with banks := r.banks.map (Bank.release s.tb) }) s

/-- Calibration ends: the load returns to main power, credits resume, the CAL cause clears (R305 step 6). -/
def calEnd (result : Nat) (s : State) : State :=
  let held := (s.ldg.cal.map (decide <| 3 ≤ ·.step)).getD false
  let s := onLdg (fun l => { l with cal := none, calResult := result }) s
  let s := if held ∧ running s then releaseBanks s else s
  let s := onHpt (fun h => { h with ports := h.ports.map fun p => { p with req := p.req + p.reqKept, reqKept := 0 } }) s
  let s := upTo 4 (fun p s => upTo 8 (fun i s =>
    let n := ((s.fab.ports.getD p FPort.off).kept).getD i 0
    if n = 0 then s else emit (.link p "CREDIT" [i / 2, i % 2, n]) s) s) s
  let free := fun (p : FPort) => { p with kept := List.replicate 8 0,
                                          rxFlits := (List.range 8).map fun i => p.rxFlits.getD i 0 - p.kept.getD i 0 }
  rstateNow (onFab (fun f => { f with ports := f.ports.map free }) s)

/-- Calibration fails (R306): the figures stay. -/
def calFail (result : Nat) (s : State) : State :=
  if s.ldg.cal.isNone then s else raise Ev.ldgCalFail 0 0 (calEnd result s)

/-- A bank that takes part: enabled, present, not isolated, not being discharged. -/
def bankIn (s : State) (n : Nat) : Bool :=
  let b := s.rsv.banks.getD n Bank.absent
  b.present && fld s (Reg.RSV_BANK + 8 * n) 0 0 == 1 && b.st != .isolated && b.st != .absent && b.st != .discharging

/-- Steps 1 to 3 go on: no byte charged under an Armed grant remains; every bank that takes part is charged; then credits are
withheld and the banks carry the load while the test records are written. -/
def calPump (s : State) : State :=
  match s.ldg.cal with
  | none => s
  | some c =>
    let s := if c.step = 1 ∧ ¬ armedData s then onLdg (fun l => { l with cal := some { c with step := 2 } }) s else s
    if (s.ldg.cal.map (·.step)) = some 2 ∧
        (List.range 4).all (fun n => !bankIn s n || (s.rsv.banks.getD n Bank.absent).st == .ready) then
      let s := onLdg (fun l => { l with cal := some { c with step := 4 } }) s
      onRsv (fun r => { r with banks := r.banks.map fun b => if b.st = .ready then { b with st := .holding } else b }) s
    else s

/-! ### Journal space (R321, R336) -/

/-- Total size of the journal parts, and used space (R321). -/
def jrnlTotal (m : MSet) : Nat := m.n * m.jl * 4096
def jrnlUsed (s : State) : Nat :=
  sumN (s.med.jrnl.streams.map fun t => 262144 * (t.tail + 1 - t.head))
def jrnlFree (s : State) : Nat :=
  match s.med.media.set_ with
  | some m => jrnlTotal m - jrnlUsed s
  | none => 0

/-- The drain reserve (R336). -/
def drainReserve (s : State) : Nat := 13 * dAmount s / 8 + 128 * 2 ^ 20

/-! ### Grants (R293 to R296, R302, R303, R336) -/

/-- Why a class A grant waits. -/
inductive WaitA where
  | fence | rung95 | allow | space
  deriving DecidableEq, Repr

/-- Class A: the class of the grant, or why it waits. `size` is data bytes and unit. -/
def tryA (s : State) (size : Nat) : Except WaitA Resv :=
  if s.rsv.pst ≠ .run then .error .fence
  else if s.med.media.set_.isSome ∧ jrnlFree s < drainReserve s + size then .error .space
  else
    match s.ldg.st with
    | .armed => if 95 * s.ldg.cap ≤ 100 * dAmount s then .error .rung95 else .ok .armed
    | _ => if fld s Reg.LDG_WT_ALLOW 10 0 * 2 ^ 20 < dWt s + size then .error .allow else .ok .wt

/-- Class B: the class of the grant, or it waits while D + size would exceed cap. -/
def tryB (s : State) (size : Nat) : Option Resv :=
  if s.rsv.pst ≠ .run ∧ s.rsv.pst ≠ .startup then none
  else match s.ldg.st with
  | .armed => if dAmount s + size ≤ s.ldg.cap then some .armed else none
  | _ => some .wt

/-- Count a grant. -/
def tellGrant (a : Bool) (r : Resv) (s : State) : State :=
  let s := tally (if a then Ctr.LDG_GRANT_A else Ctr.LDG_GRANT_B) 1 s
  if r = .wt then tally Ctr.LDG_GRANT_WT 1 s else s

/-- Count a wait of a class A request; entering BELOW_RSV raises EV_JRNL_RESERVE at most once per 1 ms (R336). -/
def tellWait (w : WaitA) (s : State) : State :=
  match w with
  | .rung95 => tally Ctr.LDG_WAIT_95 1 s
  | .allow => tally Ctr.LDG_WAIT_WT 1 s
  | .space =>
    if s.med.jrnl.below then s
    else raiseAtMost 1000000 0 Ev.jrnlReserve 0 0 (onJrnl (fun j => { j with below := true }) s)
  | .fence => s

/-- A credit headroom is released: an armed one last (R294). -/
def dropHeads (p n : Nat) (s : State) : State :=
  onPort p (fun x => { x with head := x.head - n, headWt := x.headWt - min x.headWt n }) s

/-- A write converts a headroom of its port into its own reservation (R294): D is unchanged. `none` where the port has
no unconverted headroom. -/
def convertHead (p : Nat) (s : State) : Option (Resv × State) :=
  if (port s p).head = 0 then none
  else
    let r := if s.ldg.st = .armed then Resv.armed else Resv.wt
    some (r, tellGrant false r (dropHeads p 1 s))

/-- Return one RwD credit with a new headroom, if a class A grant is possible (R87, R294). -/
def returnRwd (p : Nat) (s : State) : Option State :=
  if (port s p).up = false ∨ (port s p).gpf ∨ creditsHeld s then none
  else
    match tryA s 80 with
    | .ok r =>
      some (tellGrant true r (onPort p (fun x =>
        { x with rwd := x.rwd + 1, head := x.head + 1, headWt := x.headWt + (if r = .wt then 1 else 0),
                 owed := x.owed.tail }) s))
    | .error _ => none

/-- Class A requests (R295): ZALLOC sectors and write-no-allocates from the fabric. -/
def Kind.classA : Kind → Bool
  | .zalloc _ | .fWrNA => true
  | _ => false

/-- A class A grant is waited for: by a request, or for a headroom. -/
def waitsA (s : State) : Bool :=
  s.cache.txns.any (fun t => (t.resv == .waiting && t.kind.classA) || t.rsv2 == .waiting) ||
    s.hpt.ports.any fun p => !p.owed.isEmpty

/-- An RwD credit is owed to a port: returned at once where a headroom can be granted, else it waits. -/
def oweRwd (p : Nat) (s : State) : State :=
  let older := waitsA s
  let s := onPort p (fun x => { x with owed := x.owed ++ [s.tb] }) s
  if older then s
  else
    match returnRwd p s with
    | some s' => s'
    | none =>
      match tryA s 80 with
      | .error w => tellWait w s
      | .ok _ => s

/-- PEAK of D in MiB (R310). -/
def peakD (s : State) : State := peak Reg.LDG_PEAK 15 0 (ceilDiv (dAmount s) (2 ^ 20)) s

end Sys2Proof.Machine
end

