-- ==== Sys2Proof/Machine/Ways.lean ====
section
/-! DEFINITION. Cache ways by set (R119 to R122): finding a sector, reading and writing ways, what a way holds. -/

namespace Sys2Proof.Machine

open Sys2Proof

/-- The way at a key, 4 × set + way. -/
def wayAt (s : State) (k : Nat) : Way := tblGet Way.empty s.cache.ways k

/-- Change the way at a key. -/
def onWay (k : Nat) (f : Way → Way) (s : State) : State :=
  onCache (fun c => { c with ways := tblSet Way.empty c.ways k (f (tblGet Way.empty c.ways k)) }) s

/-- A way holds a resident sector: some line is not Invalid (R122). -/
def Way.res (w : Way) : Bool := w.lines.any (·.ls != .invalid)

/-- A way whose replicated fields name a sector (R64, R134). -/
def wayNames (s : State) (sk : Nat) (w : Way) : Bool :=
  w.tag == tagOfSk s sk && (if isLocal s sk then !w.remote else w.remote && w.home == skHome sk)

/-- The keys of the ways of a set. -/
def waysOfSet (set : Nat) : List Nat := (List.range 4).map (4 * set + ·)

/-- The way in which a sector is resident and visible to lookups: forward holds and quarantined ways are not. -/
def findWay (s : State) (sk : Nat) : Option Nat :=
  (waysOfSet (setOfSk s sk)).find? fun k =>
    let w := wayAt s k
    w.res && wayNames s sk w && !w.quar && w.fwd.isNone

/-- The forward hold of a sector, if this device keeps one (R262). -/
def findHold (s : State) (sk : Nat) : Option Nat :=
  (waysOfSet (setOfSk s sk)).find? fun k => (wayAt s k).fwd.isSome && wayNames s sk (wayAt s k)

/-- Line j of a way. -/
def Way.line (w : Way) (j : Nat) : LineSt := w.lines.getD j LineSt.none

/-- Change line j of a way. -/
def Way.onLine (w : Way) (j : Nat) (f : LineSt → LineSt) : Way := { w with lines := setAt w.lines j f }

/-- The way holds a line charged to the ledger or pending: dirty data that leaving must not lose. -/
def Way.dirty (w : Way) : Bool := w.lines.any (·.ls.charged)

/-- The sector key a way holds, recovered from set and tag (R64). -/
def skOfWay (s : State) (k : Nat) (w : Way) : Nat :=
  let d := if w.remote then w.home else devId s
  d * 2 ^ 40 + soOf s.hpt.setBits (k / 4) w.tag d

/-- Empty a way. -/
def clearWay (k : Nat) (s : State) : State := onWay k (fun _ => Way.empty) s

/-- Whether a set hosts an index sector (R326, R327): bucket b lies in the set b xor the fold of tag 0 and the own ID. -/
def hasIndex (s : State) (set : Nat) : Bool :=
  decide (soOf s.hpt.setBits set 0 (devId s) < s.med.jrnl.nb)

/-- Whether a set hosts a spring sector (R491): sector j lies at offset 2^(n−1) + j. -/
def hasSpring (s : State) (set : Nat) : Bool :=
  let so := soOf s.hpt.setBits set 0 (devId s)
  s.rsv.rewarm && decide (2 ^ (s.hpt.setBits - 1) ≤ so) &&
    decide (so - 2 ^ (s.hpt.setBits - 1) < ceilDiv s.rsv.schedLen 32)

/-- Ways of a set that index and spring sectors occupy: the lowest ones (R326, R491). -/
def fixedWays (s : State) (set : Nat) : Nat := if hasIndex s set || hasSpring s set then 1 else 0

/-- Mark the dirty region of a set (R173). -/
def markRegion (set : Nat) (s : State) : State :=
  if set / 4096 ∈ s.cache.regions then s
  else onCache (fun c => { c with regions := insertBy (· < ·) (set / 4096) c.regions }) s

end Sys2Proof.Machine
end

