-- ==== Sys2Proof/Machine/Jrnl.lean ====
section
/-! DEFINITION. The journal writer: records, pages, streams and the index (R319 to R329), media completions (R168, R169,
R325, R350), the head (R321, R339), media command slots (R315). -/

namespace Sys2Proof.Machine

open Sys2Proof

/-! ### Media commands (R315, R318) -/

/-- The media set in force, or an empty one. -/
def mset (s : State) : MSet := s.med.media.set_.getD ⟨0, 0, 0, 0, 0, [], []⟩

/-- The port that reaches namespace index ns. -/
def nsPort (s : State) (ns : Nat) : Nat := (mset s).nsPort.getD ns 8

/-- Namespace index ns is admitted and reachable through a healthy port. -/
def nsOk (s : State) (ns : Nat) : Bool := ns < (mset s).n && !(mset s).lost.contains ns && portOk s (nsPort s ns)

def onMPort (i : Nat) (f : MPort → MPort) (s : State) : State :=
  { s with med := { s.med with ports := setAt s.med.ports i f } }

/-- The I/O queues of a kind of command (R314): the first, and how many. Which the writes of the label area take is no rule of the
spec: DESIGN CHOICE, those of the journal (log 80). -/
def queuesOf (s : State) (what : MCmd) : Nat × Nat :=
  match what with
  | .fill id _ => if s.cache.txns.any fun t => t.id == id && t.src == .engine then (6, 1) else (4, 2)
  | .sinterRd _ => (7, 1)
  | .sinterWr _ => (8, 1)
  | .page _ | .summary _ _ _ | .anchor _ | .area _ | .create => (1, 3)

/-- A command slot is free for a command of queues 1 to 3, or for another, which leaves the last WR_RSV slots (R315). -/
def slotFree (s : State) (i : Nat) (queue : Nat) : Bool :=
  let n := (s.med.ports.getD i MPort.off).cmds.length
  if 3 < queue then n + fld s Reg.MED_CMD_CFG 19 11 < 1024 else n < 1024

/-- The NVMe operation of a command: every write has FUA (R316). -/
def nvmeOp (read : Bool) : String := if read then "READ" else "WRITE_FUA"

/-- Put a command into a slot of port i and send it. -/
def sendCmd (i ns lba : Nat) (what : MCmd) (read : Bool) (s : State) : State :=
  let cid := s.med.jrnl.nextCid
  let q := queuesOf s what
  let c : Cmd := { cid := cid, port := i, queue := q.1 + Config.ioQueue cid % q.2, ns := ns, lba := lba, what := what, at_ := s.tb,
                   abortAt := none, lost := false, retried := false }
  let s := onMPort i (fun p => { p with cmds := p.cmds ++ [c] }) (onJrnl (fun j => { j with nextCid := cid + 1 }) s)
  let s := peak Reg.MED_SLOT_PEAK 10 0 (s.med.ports.getD i MPort.off).cmds.length s
  emit (.nvme i cid (nvmeOp read) ns lba) s

/-- A command that a Quench does not stop: the wrapped-key area is not encrypted by the AES engines (R559, R568). -/
def MCmd.plain : MCmd → Bool
  | .area _ => true
  | _ => false

/-- Submit a command to a namespace: its identifier, or none without a slot or a path, or while a media set is being created, whose
own writes come first (R71). -/
def submit (ns lba : Nat) (what : MCmd) (read : Bool) (s : State) : Option (Nat × State) :=
  let i := nsPort s ns
  if s.med.jrnl.making.isNone ∧ nsOk s ns ∧ slotFree s i (queuesOf s what).1 ∧ (read ∨ ¬ s.sec.quenched ∨ what.plain) then
    some (s.med.jrnl.nextCid, sendCmd i ns lba what read s)
  else none

/-- The command with an identifier. -/
def findCmd (s : State) (cid : Nat) : Option Cmd := (s.med.ports.flatMap (·.cmds)).find? (·.cid == cid)

/-- Its slot is free: the completion entry has been consumed (R315). -/
def freeCmd (cid : Nat) (s : State) : State :=
  { s with med := { s.med with ports := s.med.ports.map fun p => { p with cmds := p.cmds.filter (·.cid != cid) } } }

/-! ### The index (R326 to R329) -/

/-- The first bucket of the chain of home page p (R327). -/
def chainStart (nb p : Nat) : Nat := (p ^^^ (p >>> 17) ^^^ (p >>> 29)) % nb

/-- The sixteen buckets of the chain. -/
def chainOf (nb p : Nat) : List Nat := (List.range 16).map fun i => (chainStart nb p + i) % nb

/-- Entries in a bucket. -/
def bucketUse (j : Jrnl) (b : Nat) : Nat := (j.idx.filter (·.2.bucket == b)).length

/-- The entry of a sector, or a new one in the first free place of its chain; none where the chain is full. -/
def entryFor (j : Jrnl) (so : Nat) : Option JEntry :=
  match tblFind j.idx so with
  | some e => some e
  | none => ((chainOf j.nb (so / 16)).find? fun b => bucketUse j b < 8).map fun b => ⟨b, [none, none, none, none]⟩

/-- Write an entry; one whose four locators are empty is freed (R329). -/
def putEntry (so : Nat) (e : JEntry) (j : Jrnl) : Jrnl :=
  if e.locs.all (·.isNone) then { j with idx := tblDel j.idx so } else { j with idx := tblPut j.idx so e }

/-- The locator of line l of a sector. -/
def locOf (j : Jrnl) (so l : Nat) : Option Loc := (tblFind j.idx so).bind fun e => (e.locs.getD l none)

/-- Set the locators of the lines a record carries (R329): all of them, or only those that still name `old` (R350). -/
def setLocs (so : Nat) (lines : List (Option CLine)) (old : Option (Nat × Nat × Nat)) (ns page rec : Nat) (j : Jrnl) :
    Jrnl :=
  match entryFor j so with
  | none => j
  | some e =>
    let locs := (List.range 4).map fun l =>
      let cur := e.locs.getD l none
      match lines.getD l none with
      | none => cur
      | some c =>
        let mine := match old, cur with
          | none, _ => true
          | some o, some q => q.persist == false && q.ns == o.1 && q.page == o.2.1 && q.rec_ == o.2.2
          | some _, none => false
        if mine then some ⟨ns, page, rec, c.ls, false⟩ else cur
    putEntry so { e with locs := locs } j

/-! ### Records (R324) -/

/-- Bytes of a record: header and payload. -/
def JRec.size (r : JRec) : Nat :=
  16 + 64 * (r.secs.flatMap fun ls => ls.filterMap fun c => c.bind fun c => if c.ls = .dirty then some c else none).length
    + r.body.length * 8

/-- Summary entries of a record: one for each sector it covers, or one (R325). -/
def JRec.entries (r : JRec) : Nat := max 1 r.secs.length

/-- The type of a sector record (R324). -/
def sectorType (ls : List (Option CLine)) : RTy :=
  if ls.any fun c => (c.map (·.ls == .dirty)).getD false then .data
  else if ls.any fun c => (c.map (·.ls == .poisonDirty)).getD false then .poison
  else .zero

/-- The current key generation of a key (R540, R541). -/
def genOfKey (s : State) (k : Nat) : Nat := (tblGet ⟨0, 0, none⟩ s.sec.media k).gen

/-- The record of a write-back buffer entry: a sector record, or FOREIGN for a remote sector (R274). -/
def recordOf (s : State) (e : WbE) : JRec :=
  { ty := if isLocal s e.sk then sectorType e.lines else .foreign, so := skSo e.sk, run := 0, encl := e.encl,
    keygen := genOfKey s (if isLocal s e.sk then e.encl else 0),
    home := if isLocal s e.sk then 0 else skHome e.sk, held := false, carry := false, free_ := false, kind := e.kind,
    secs := [e.lines], body := [] }

/-- A record without sector content. -/
def plainRec (ty : RTy) (so : Nat) (body : List Nat) : JRec :=
  { ty := ty, so := so, run := 0, encl := 0, keygen := 0, home := 0, held := false, carry := false, free_ := false, kind := .wb,
    secs := [], body := body }

/-- Every line Dirty-Zero: a sector that a ZERO run may cover. -/
def allZero (ls : List (Option CLine)) : Bool := ls.length == 4 && ls.all fun c => (c.map (·.ls == .dirtyZero)).getD false

/-- Join a ZERO record to the run before it (R322): consecutive sectors of one enclave, at most 440. -/
def joinZero (a b : JRec) : Option JRec :=
  if a.ty = .zero ∧ b.ty = .zero ∧ a.encl = b.encl ∧ a.keygen = b.keygen ∧ a.so + a.run + 1 = b.so ∧ a.run < 439 ∧
      a.secs.all allZero ∧ b.secs.all allZero then
    some { a with run := a.run + 1, secs := a.secs ++ b.secs }
  else none

/-- Join the ZERO runs of a list of records. -/
def joinRuns (rs : List JRec) : List JRec :=
  rs.foldl (fun acc r =>
    match acc.getLast? with
    | some l =>
      match joinZero l r with
      | some m => acc.dropLast ++ [m]
      | none => acc ++ [r]
    | none => [r]) []

/-- The first n sectors of a ZERO run, and the rest of it. -/
def JRec.cutAt (n : Nat) (r : JRec) : JRec × JRec :=
  ({ r with run := n - 1, secs := r.secs.take n }, { r with so := r.so + n, run := r.run - n, secs := r.secs.drop n })

/-- End a ZERO run where its page's entries would pass 440; the run continues in a new record (R322). -/
def cutRuns (rs : List JRec) : List JRec :=
  (rs.foldl (fun (bytes, ents, n, acc) r =>
    if bytes + r.size ≤ 4028 ∧ n < 256 then
      if ents + r.entries ≤ 440 then (bytes + r.size, ents + r.entries, n + 1, acc ++ [r])
      else if r.ty = .zero ∧ ents < 440 then
        let (a, b) := r.cutAt (440 - ents)
        (b.size, b.entries, 1, acc ++ [a, b])
      else (r.size, r.entries, 1, acc ++ [r])
    else (r.size, r.entries, 1, acc ++ [r])) (0, 0, 0, ([] : List JRec))).2.2.2

/-- Split records into pages: a body of 4,028 bytes and at most 440 entries (R322, R323, R325). -/
def splitPages (rs : List JRec) : List (List JRec) :=
  (rs.foldl (fun acc r =>
    match acc with
    | [] => [[r]]
    | p :: ps =>
      if sumN (p.map (·.size)) + r.size ≤ 4028 ∧ sumN (p.map (·.entries)) + r.entries ≤ 440 ∧ p.length < 256 then
        (p ++ [r]) :: ps
      else [r] :: p :: ps) []).reverse

/-! ### Streams (R319 to R322, R325) -/

/-- Slots of a journal part. -/
def slotsOf (m : MSet) : Nat := m.jl / 64

def onStream (ns : Nat) (f : JStream → JStream) (s : State) : State :=
  onJrnl (fun j => { j with streams := setAt j.streams ns f }) s

def streamAt (s : State) (ns : Nat) : JStream := s.med.jrnl.streams.getD ns ⟨0, 0, 0, 0, [], true⟩

/-- Pages of a stream not yet completed. -/
def outstanding (s : State) (ns : Nat) : List StPage := s.med.jrnl.staging.filter (·.ns == ns)

/-- A summary page at position 63 closes the slot; the stream goes on in the next. -/
def closeSlot (t : JStream) : JStream :=
  if t.pos = 63 then { t with tail := t.tail + 1, pos := 0, cov := 0, sums := t.sums ++ [64 * t.tail + 63] } else t

/-- Make room for a page with n entries: a summary page goes before it where the count would pass 440 (R325). -/
def roomFor (n : Nat) (t : JStream) : JStream :=
  if 440 < t.cov + n then
    closeSlot { t with pos := t.pos + 1, cov := 0, sums := t.sums ++ [64 * t.tail + t.pos] }
  else t

/-- The page number that the next page takes, and the stream after it. -/
def takePage (n : Nat) (t : JStream) : Nat × JStream :=
  let t := roomFor n t
  (64 * t.tail + t.pos, closeSlot { t with pos := t.pos + 1, cov := t.cov + n })

/-- A stream can take a page: open, reachable, at most 128 outstanding within two slots (R322), and not full. -/
def streamOk (s : State) (ns : Nat) : Bool :=
  let t := streamAt s ns
  let o := outstanding s ns
  nsOk s ns && !t.closed && o.length < 128 && o.all (fun p => t.tail ≤ p.page / 64 + 1) &&
    t.tail + 1 - t.head < slotsOf (mset s)

/-- The stream with the fewest pages outstanding, lowest index on ties; `avoid` only if there is no other (R322, R350). The drain keeps
to one stream on each port (R371, step 6): DESIGN CHOICE, that of the lowest namespace (log 80). -/
def pickStream (avoid : Option Nat) (s : State) : Option Nat :=
  let first := fun (ns : Nat) => (List.range ns).all fun x => !(streamOk s x && nsPort s x == nsPort s ns)
  let all := (List.range (mset s).n).filter fun ns => streamOk s ns && (s.rsv.pst != .geyser || first ns)
  let some' := all.filter fun ns => some ns != avoid
  bestBy (fun a b => (outstanding s a).length < (outstanding s b).length) (if some'.isEmpty then all else some')

/-- Count the records packed into a page. -/
def tellRecs (rs : List JRec) (s : State) : State :=
  eachIn rs (fun r s =>
    match r.ty with
    | .data => tally Ctr.JRNL_REC_DATA 1 s
    | .zero => tally Ctr.JRNL_REC_ZERO 1 s
    | .poison => tally Ctr.JRNL_REC_POISON 1 s
    | .foreign => tally Ctr.JRNL_REC_FOREIGN 1 s
    | _ => s) s

/-- Submit the write of a staged page where a slot is free (R315, R322). -/
def submitPage (pseq : Nat) (s : State) : State :=
  match s.med.jrnl.staging.find? (·.pseq == pseq) with
  | none => s
  | some p =>
    if p.cid.isSome ∨ p.failed then s
    else
      match submit p.ns (256 + p.page % max 1 (mset s).jl) (.page pseq) false s with
      | some (cid, s) => onJrnl (fun j => { j with staging := j.staging.map fun q =>
          if q.pseq = pseq then { q with cid := some cid } else q }) s
      | none => s

/-- Pack one page of records into staging on stream ns (R320, R322, R329): PSEQ, position and locators. `olds` gives, for
re-packed and carried records, where each record stood. None without a staging page. -/
def packOn (ns : Nat) (rs : List JRec) (olds : List (Option (Nat × Nat × Nat))) (s : State) : Option State :=
  if 3072 ≤ s.med.jrnl.staging.length ∨ rs.isEmpty then none
  else
    let (page, t) := takePage (sumN (rs.map (·.entries))) (streamAt s ns)
    let pseq := s.med.jrnl.pseq
    let pg : StPage := { pseq := pseq, ns := ns, page := page, recs := rs, cid := none,
                         drain := s.rsv.pst == .geyser, done := false, failed := false, at_ := s.tb }
    let s := onStream ns (fun _ => t) s
    let s := onJrnl (fun j => { j with pseq := pseq + 1, staging := j.staging ++ [pg] }) s
    let s := onJrnl (upTo rs.length fun i j =>
      match rs[i]? with
      | none => j
      | some r =>
        if r.ty = .foreign then j
        else upTo r.secs.length (fun q j => setLocs (r.so + q) (r.secs.getD q []) (olds.getD i none) ns page i j) j) s
    some (tally Ctr.JRNL_PAGE 1 (tellRecs rs (submitPage pseq s)))

/-- Pack one page of records on the stream that R322 chooses. None where no stream or staging page is free. -/
def packPage (avoid : Option Nat) (rs : List JRec) (olds : List (Option (Nat × Nat × Nat))) (s : State) : Option State :=
  match pickStream avoid s with
  | none => none
  | some ns => packOn ns rs olds s

/-- Pack records into as many pages as there is room for; answers the records left over. -/
def packRecs (avoid : Option Nat) (rs : List JRec) (s : State) : List JRec × State :=
  (splitPages rs).foldl (fun (left, s) p =>
    if left.isEmpty then
      match packPage avoid p [] s with
      | some s' => ([], s')
      | none => (p, s)
    else (left ++ p, s)) ([], s)

/-! ### Packing the write-back buffer (R322, R329) -/

/-- Reserve index entries for entries in order: those whose chain has room, and whether one had to wait. -/
def indexable (s : State) : List WbE × Bool :=
  let r := s.cache.wb.foldl (fun (j, ok, stuck) e =>
    if ¬ isLocal s e.sk then (j, ok, stuck)
    else
      match entryFor j (skSo e.sk) with
      | some en => ({ j with idx := tblPut j.idx (skSo e.sk) en }, ok ++ [e], stuck)
      | none => (j, ok, true)) (s.med.jrnl, ([] : List WbE), false)
  (r.2.1, r.2.2)

/-- A record sector of an entry has been packed. -/
def packedSks (s : State) (rs : List JRec) : List Nat :=
  rs.flatMap fun r => (List.range r.secs.length).map fun i => devId s * 2 ^ 40 + r.so + i

/-- Commit one page of records of the write-back buffer; its entries are freed (R172). -/
def commitPage (rs : List JRec) (s : State) : Option State :=
  (packPage none rs [] s).map fun s =>
    let done := packedSks s rs
    onCache (fun c => { c with wb := c.wb.filter fun e => !(done.contains e.sk) }) s

/-- Pack what waits: full pages always, the last page only if `force` (1 µs passed, a fence or FLUSH waits, Geyser). What an occurrence of
EV_JRNL_INDEX_FULL is (R329), the spec does not say: DESIGN CHOICE, from the first chain that is full until none is (log 77). -/
def packWb (force : Bool) (s : State) : State :=
  let (es, stuck) := indexable s
  let pages := splitPages (cutRuns (joinRuns (es.map (recordOf s))))
  let pages := if force then pages else pages.dropLast
  let s := if stuck && !s.med.jrnl.idxFull then
      raise Ev.jrnlIndexFull 0 0 (onJrnl (fun j => { j with idxFull := true }) s)
    else if !stuck && s.med.jrnl.idxFull then onJrnl (fun j => { j with idxFull := false }) s else s
  (pages.foldl (fun (go, s) p =>
    if go then
      match commitPage p s with
      | some s' => (true, s')
      | none => (false, s)
    else (go, s)) (true, s)).2

/-! ### Media completions of journal pages (R168, R169, R171, R325, R350) -/

/-- Lines that a page's completion would clean: pending, STAMP as recorded, still charged. -/
def cleansOf (s : State) (r : JRec) : List (Nat × Nat) :=
  if r.kind = .evict ∨ r.ty = .foreign then []
  else (List.range r.secs.length).flatMap fun q =>
    match findWay s (devId s * 2 ^ 40 + r.so + q) with
    | none => []
    | some k => (List.range 4).filterMap fun j =>
        match (r.secs.getD q []).getD j none with
        | none => none
        | some c =>
          let l := (wayAt s k).line j
          if l.pend ∧ l.ls.charged ∧ l.stamp = c.stamp then some (k, j) else none

/-- Clean a line (R168, R171): Dirty and Dirty-Zero become Clean, Poisoned dirty becomes Poisoned clean. -/
def makeClean (k j : Nat) (s : State) : State :=
  onWay k (fun w => w.onLine j fun l =>
    { l with ls := if l.ls = .poisonDirty then .poisonClean else .clean, pend := false, wt := false }) s

/-- Clean a line whose copy is at media; the slice write waits in the clean queue (R168, R169). -/
def cleanLine (k j : Nat) (s : State) : State :=
  let stamp := ((wayAt s k).line j).stamp
  tally Ctr.WBF_CLEAN 1 (onCache (fun c => { c with cleanQ := c.cleanQ ++ [(4 * k + j, stamp)] }) (makeClean k j s))

/-- Lines that a page's completion leaves dirty, because they were written again (R168). -/
def staleOf (s : State) (r : JRec) : Nat :=
  if r.kind = .evict ∨ r.ty = .foreign then 0
  else sumN ((List.range r.secs.length).map fun q =>
    match findWay s (devId s * 2 ^ 40 + r.so + q) with
    | none => 0
    | some k => ((List.range 4).filter fun j =>
        match (r.secs.getD q []).getD j none with
        | none => false
        | some c =>
          let l := (wayAt s k).line j
          l.ls.charged && !(l.pend && l.stamp == c.stamp)).length)

/-- Transactions that wait for the copies of a record. -/
def waitersOf (r : JRec) : List Nat := r.secs.flatMap fun ls => ls.flatMap fun c => (c.map (·.wait)).getD []

/-- Submit the summary pages of a stream whose covered record pages have all completed (R325). -/
def submitSums (ns : Nat) (s : State) : State :=
  let due := (streamAt s ns).sums.filter fun g => !(outstanding s ns).any (·.page < g)
  eachIn due (fun g s =>
    match submit ns (256 + g % max 1 (mset s).jl) (.summary ns g false) false s with
    | some (_, s) => tally Ctr.JRNL_SUMMARY 1 (onStream ns (fun t => { t with sums := t.sums.filter (· != g) }) s)
    | none => s) s

/-- A page of the journal as media holds it. -/
def pageKey (ns page : Nat) : Nat := ns * 2 ^ 40 + page

/-- Consume the completion of a staged page: its charge is released, its lines are cleaned and its waiters told in the
same cycle; with the clean queue full it waits (R168, R169). -/
def consumePage (pseq : Nat) (s : State) : State :=
  match s.med.jrnl.staging.find? (·.pseq == pseq) with
  | none => s
  | some p =>
    let cl := p.recs.flatMap (cleansOf s)
    if 4096 < s.cache.cleanQ.length + cl.length then
      onJrnl (fun j => { j with staging := j.staging.map fun q => if q.pseq = pseq then { q with done := true } else q }) s
    else
      let s := onMedia (fun m => { m with pages := tblPut m.pages (pageKey p.ns p.page) ⟨pseq, p.recs, p.drain⟩ }) s
      let s := onJrnl (fun j => { j with staging := j.staging.filter (·.pseq != pseq) }) s
      let s := tally Ctr.WBF_CLEAN_STALE (sumN (p.recs.map (staleOf s))) s
      let s := eachIn cl (fun x s => cleanLine x.1 x.2 s) s
      let s := onCache (fun c => { c with acks := c.acks ++ p.recs.flatMap waitersOf }) s
      submitSums p.ns s

/-- Consume what waited for the clean queue. -/
def consumeDone (s : State) : State :=
  eachIn ((s.med.jrnl.staging.filter (·.done)).map (·.pseq)) consumePage s

/-- A journal page write failed: its records are packed again on another stream, their locators move, the charge stays
counted (R350). Without room now, they wait for it. -/
def repackPage (pseq : Nat) (s : State) : State :=
  match s.med.jrnl.staging.find? (·.pseq == pseq) with
  | none => s
  | some p =>
    let rest := onJrnl (fun j => { j with staging := j.staging.filter (·.pseq != pseq) }) s
    let olds := (List.range p.recs.length).map fun i => some (p.ns, p.page, i)
    match packPage (some p.ns) p.recs olds rest with
    | some s' => tally Ctr.JRNL_REPACK 1 s'
    | none => onJrnl (fun j => { j with staging := j.staging.map fun q =>
        if q.pseq = pseq then { q with cid := none, failed := true } else q }) s

/-- Pages that failed are packed again, and every staged page that has no command yet is submitted. -/
def submitPages (s : State) : State :=
  let s := eachIn ((s.med.jrnl.staging.filter (·.failed)).map (·.pseq)) repackPage s
  eachIn (s.med.jrnl.staging.map (·.pseq)) submitPage s

/-! ### Reading back (R331, R332) -/

/-- Where a line's newest content lies. -/
inductive LSrc where
  | copy (c : CLine)
  | zero
  | poison
  | staged (c : CLine)
  | page (ns page : Nat) (c : Option CLine)
  | home (ns lba : Nat)
  deriving DecidableEq, Repr

/-- The copy of a line in the write-back buffer (R170). A copy that is packed is found through its locator, which names the newest
(R329). -/
def bufferCopy (s : State) (sk j : Nat) : Option CLine :=
  (s.cache.wb.find? fun e => e.sk == sk && (e.lines.getD j none).isSome).bind (·.lines.getD j none)

/-- The line of a record at a locator. -/
def recLine (rs : List JRec) (rec so j : Nat) : Option CLine :=
  (rs[rec]?).bind fun r => if r.so ≤ so then (r.secs.getD (so - r.so) []).getD j none else none

/-- Resolve a line of a local sector (R331). -/
def lineSrc (s : State) (sk j : Nat) : LSrc :=
  match bufferCopy s sk j with
  | some c => .copy c
  | none =>
    match locOf s.med.jrnl (skSo sk) j with
    | some l =>
      if l.persist ∨ l.ls = .poisonDirty then .poison
      else if l.ls = .dirtyZero then .zero
      else
        match s.med.jrnl.staging.find? fun p => p.ns == l.ns && p.page == l.page with
        | some p =>
          match recLine p.recs l.rec_ (skSo sk) j with
          | some c => .staged c
          | none => .page l.ns l.page none
        | none =>
          .page l.ns l.page ((tblFind s.med.media.pages (pageKey l.ns l.page)).bind fun p => recLine p.recs l.rec_ (skSo sk) j)
    | none => let ml := mediaLoc (mset s) (pageOfSo (skSo sk)); .home ml.1 ml.2

/-- Content of a home line (R69): what the device wrote, else what the drive came with. -/
def homeLine (s : State) (so j : Nat) : Line :=
  match tblFind s.med.media.homeLines (4 * so + j) with
  | some v => v
  | none => Config.homeInit (mset s).mset (4 * so + j)

/-- The data a resolved line brings, and whether it is poisoned. -/
def srcData (s : State) (sk j : Nat) (x : LSrc) : Line × Bool :=
  match x with
  | .copy c | .staged c => (if c.ls = .dirty then c.data else 0, c.ls == .poisonDirty)
  | .zero => (0, false)
  | .poison => (0, true)
  | .page _ _ (some c) => (c.data, false)
  | .page _ _ none => (0, true)
  | .home _ _ => (homeLine s (skSo sk) j, false)

/-- The media read a source needs: namespace and LBA. -/
def srcRead (s : State) (x : LSrc) : Option (Nat × Nat) :=
  match x with
  | .page ns page _ => some (ns, 256 + page % max 1 (mset s).jl)
  | .home ns lba => some (ns, lba)
  | _ => none

/-- Media reads for lines of a sector: one per journal page, at most one of the home page (R331). -/
def readsFor (s : State) (sk : Nat) (js : List Nat) : List (Nat × Nat) :=
  (js.filterMap fun j => srcRead s (lineSrc s sk j)).eraseDups

/-- gen(p) of home page p under key k (R337). -/
def pageGen (s : State) (k p : Nat) : Nat :=
  match s.med.jrnl.rot with
  | some r => if r.key = k ∧ r.cursor ≤ p then r.oldGen else genOfKey s k
  | none => genOfKey s k

/-- The record at the locator of a line, in staging or on media. -/
def locRec (s : State) (so j : Nat) : Option JRec :=
  (locOf s.med.jrnl so j).bind fun l =>
    match s.med.jrnl.staging.find? fun p => p.ns == l.ns && p.page == l.page with
    | some p => p.recs[l.rec_]?
    | none => (tblFind s.med.media.pages (pageKey l.ns l.page)).bind fun p => p.recs[l.rec_]?

/-- A line's newest copy is still in the write-back buffer, without a record. -/
def inBuffer (s : State) (sk j : Nat) : Bool :=
  s.cache.wb.any fun e => e.sk == sk && (e.lines.getD j none).isSome

/-- The KEYGEN a filled line's source gives: its record's own, or its home page's (R124, R333). A buffer entry has no record yet,
so it gives the current generation. -/
def srcGen (s : State) (encl sk j : Nat) (x : LSrc) : Nat :=
  match x with
  | .home _ _ => pageGen s encl (pageOfSo (skSo sk))
  | _ => if inBuffer s sk j then genOfKey s encl else ((locRec s (skSo sk) j).map (·.keygen)).getD (genOfKey s encl)

/-! ### The head (R321, R339) -/

/-- A record is live (R324). -/
def recLive (s : State) (ns page i : Nat) (r : JRec) : Bool :=
  match r.ty with
  | .data | .zero | .poison =>
    (List.range r.secs.length).any fun q => (List.range 4).any fun j =>
      match locOf s.med.jrnl (r.so + q) j with
      | some l => !l.persist && l.ns == ns && l.page == page && l.rec_ == i
      | none => false
  | .foreign => s.med.media.foreign.any fun f => f.sk == r.home * 2 ^ 40 + r.so
  | .spring => decide (s.plc.doneGen ≤ r.body.getD 0 0 % 2 ^ 32)
  | .ckpt => s.med.media.ckpts.any (·.series == r.body.headD 0) || (s.med.jrnl.ckpt.map (·.series == r.body.headD 0)).getD false
  | .close => s.med.media.closed.isSome
  | .dirsnap => s.med.media.snapshot.isSome
  | .rotate => tblFind s.med.media.rotates (r.body.getD 3 0) == some (r.body.getD 0 0, r.body.getD 1 0)
  | .test => false

/-- Record pages of a slot on media, with their page numbers. -/
def slotPages (s : State) (ns slot : Nat) : List (Nat × JPage) :=
  (List.range 64).filterMap fun i =>
    (tblFind s.med.media.pages (pageKey ns (64 * slot + i))).map fun p => (64 * slot + i, p)

/-- Live records of a slot: page, index, record. -/
def liveRecs (s : State) (ns slot : Nat) : List (Nat × Nat × JRec) :=
  (slotPages s ns slot).flatMap fun (pg, p) =>
    (List.range p.recs.length).filterMap fun i =>
      match p.recs[i]? with
      | some r => if recLive s ns pg i r then some (pg, i, r) else none
      | none => none

/-- A live record that sintering cannot take away (R339): no sector record, poison beyond the limit, or stranded. -/
def mustCarry (s : State) (r : JRec) : Bool :=
  match r.ty with
  | .data | .zero => !nsOk s (mediaLoc (mset s) (pageOfSo r.so)).1
  | .poison => !nsOk s (mediaLoc (mset s) (pageOfSo r.so)).1 ||
      decide (65536 ≤ (s.med.jrnl.idx.flatMap fun e => e.2.locs.filter fun l => (l.map (·.persist)).getD false).length)
  | .foreign | .spring | .rotate | .dirsnap => true
  | _ => false

/-- The oldest slot that the head may reach: the head recorded in the older of the two most recent checkpoints (R321). -/
def headLimit (s : State) (ns : Nat) : Nat :=
  match s.med.media.ckpts with
  | [] => 0
  | [c] => c.heads.getD ns 0
  | _ :: c :: _ => c.heads.getD ns 0

end Sys2Proof.Machine
end

