-- ==== Sys2Proof/Machine/Area.lean ====
section
/-! DEFINITION. The wrapped-key area on media (R540 to R543): a change writes copy A and then copy B on every admitted
namespace. -/

namespace Sys2Proof.Machine

open Sys2Proof

/-- Admitted namespaces that can be reached now. -/
def liveNs (s : State) : List Nat := (List.range (mset s).n).filter (nsOk s)

/-- An area write of namespace ns is outstanding. -/
def areaBusy (s : State) (ns : Nat) : Bool :=
  (s.med.ports.flatMap (·.cmds)).any fun c => c.ns == ns && c.what.plain

/-- Submit what the oldest change still needs: copy A at LBA 1, after it copy B at LBA 129 (R542). -/
def areaPump (s : State) : State :=
  match s.sec.areaQ with
  | [] => s
  | a :: _ =>
    eachIn (liveNs s) (fun ns s =>
      if areaBusy s ns ∨ s.sec.areaB.contains ns then s
      else
        match submit ns (if s.sec.areaA.contains ns then 129 else 1) (.area a.seq) false s with
        | some (_, s) => s
        | none => s) s

/-- Start a change of the area: the keys and ranges in force, under an escrow key's check value. Answers its SEQ. -/
def writeArea (escrow : Nat) (s : State) : Nat × State :=
  let last := match s.sec.areaQ.getLast?, s.sec.area with
    | some a, _ => a.seq
    | none, some a => a.seq
    | none, none => if s.med.jrnl.making.isSome then 1 else 0
  let a : Area := { seq := last + 1, escrow := escrow, keys := s.sec.media, ranges := s.sec.ranges }
  (last + 1, areaPump (onSec (fun x => { x with areaQ := x.areaQ ++ [a] }) s))

/-- The escrow check value of the newest area. -/
def areaEscrow (s : State) : Nat :=
  match s.sec.areaQ.getLast?, s.sec.area with
  | some a, _ => a.escrow
  | none, some a => a.escrow
  | none, none => 0

/-- SEQ of the newest change, written or being written. -/
def areaSeq (s : State) : Nat :=
  match s.sec.areaQ.getLast?, s.sec.area with
  | some a, _ => a.seq
  | none, some a => a.seq
  | none, none => 0

/-- The oldest change is complete once both its copies stand on two namespaces, or on every one that is not lost (R543). -/
def areaCheck (s : State) : State :=
  match s.sec.areaQ with
  | [] => s
  | a :: rest =>
    if max 1 (min 2 ((mset s).n - (mset s).lost.length)) ≤ s.sec.areaB.length then
      areaPump (onSec (fun x => { x with area := some a, areaQ := rest, areaA := [], areaB := [] }) s)
    else areaPump s

/-- A copy of the change with this SEQ has completed on a namespace. -/
def areaDone (ns seq : Nat) (copyB : Bool) (s : State) : State :=
  if (s.sec.areaQ.head?.map (·.seq)) ≠ some seq then areaPump s
  else
    areaCheck (onSec (fun x => if copyB then { x with areaB := ns :: x.areaB } else { x with areaA := ns :: x.areaA }) s)

end Sys2Proof.Machine
end

