-- ==== Sys2Proof/Machine/Own.lean ====
section
/-! DEFINITION. Ownership changes (R588, R591), used wherever ownership can be lost. -/

namespace Sys2Proof.Machine

open Sys2Proof

/-- OWN_STS bits [3:0]: VALID and OWNER, as an ownership-change event carries them (R588). -/
def ownBits (o : Option Master) : Nat :=
  match o with
  | some m => 1 + 2 * m.id
  | none => 0

/-- Ownership changes (R588): counted and reported; an open handover closes. -/
def setOwner (o : Option Master) (prio : Nat) (s : State) : State :=
  if s.mgt.own.owner = o then onOwn (fun w => { w with prio := prio, handover := none }) s
  else
    let s := onOwn (fun w => { w with owner := o, prio := prio, handover := none, hbAt := s.tb,
                                      changes := (w.changes + 1) % 64 }) s
    let s := onNv (fun n => { n with armed := none }) s
    raise Ev.mgtOwnerChange (ownBits o) 0 (tally Ctr.MGT_OWNER_CHANGE 1 s)

/-- Ownership becomes vacant. -/
def vacate (s : State) : State := setOwner none 0 s

/-- Ownership falls with its holder (R591). -/
def vacateIf (m : Master) (s : State) : State := if isOwner s m then vacate s else s

end Sys2Proof.Machine
end

