-- ==== Sys2Proof/Machine/Rs.lean ====
section
/-! DEFINITION. The code over a stored burst (R407, R408, R424): the field, the Reed–Solomon code RS(80,70), its decoder, and the
parity of the FJ2200 mode. Symbols are numbers below 256. The code is linear, so a decode depends only on what the array has
added to the stored codeword; the decoder works on that difference, the flips. -/

namespace Sys2Proof.Machine

/-! ### The fields GF(2^8) -/

/-- The product of two symbols modulo a polynomial of degree 8, over the n lowest bits of b. -/
def gfMul (poly : Nat) (n a b : Nat) : Nat :=
  match n with
  | 0 => 0
  | n + 1 =>
    let d := if 2 * a < 256 then 2 * a else 2 * a ^^^ poly
    (if b % 2 = 1 then a else 0) ^^^ gfMul poly n d (b / 2)

/-- The inverse a^254; n squarings are still to come, and y is the product of the squares so far. -/
def gfInv (poly : Nat) (n a y : Nat) : Nat :=
  match n with
  | 0 => y
  | n + 1 => let q := gfMul poly 8 a a; gfInv poly n q (gfMul poly 8 y q)

/-- The field of R407, with x^8 + x^4 + x^3 + x^2 + 1. -/
def rsMul (a b : Nat) : Nat := gfMul 0x11D 8 a b
def rsInv (a : Nat) : Nat := gfInv 0x11D 7 a 1

/-- α to the n, by squaring over the bits of n. -/
def powA (bits n a : Nat) : Nat :=
  match bits with
  | 0 => 1
  | b + 1 => rsMul (if n % 2 = 1 then a else 1) (powA b (n / 2) (rsMul a a))

def alpha (n : Nat) : Nat := powA 8 (n % 255) 2

/-- XOR of some numbers. -/
def xorAll (l : List Nat) : Nat := l.foldl (· ^^^ ·) 0

/-! ### Polynomials, lowest coefficient first -/

/-- Coefficient k of a product. -/
def coefMul (p q : List Nat) (k : Nat) : Nat := xorAll ((List.range (k + 1)).map fun i => rsMul (p.getD i 0) (q.getD (k - i) 0))

/-- The first n coefficients of a product. -/
def mulTo (n : Nat) (p q : List Nat) : List Nat := (List.range n).map (coefMul p q)

/-- The value at x. -/
def evalAt (p : List Nat) (x : Nat) : Nat := p.foldr (fun c v => c ^^^ rsMul v x) 0

/-! ### Syndromes -/

/-- The place of symbol i in the code polynomial: symbol i is the coefficient of x^(79 − i). -/
def locator (i : Nat) : Nat := alpha (79 - i)

/-- The ten syndromes of a word that differs from a codeword by the flips, at the roots α^0 to α^9 (R407). -/
def syndromes (f : Flips) : List Nat :=
  (List.range 10).map fun j => xorAll (f.map fun e => rsMul e.2 (alpha (j * (79 - e.1))))

def allNil (l : List Nat) : Bool := l.all (· == 0)

/-- The polynomial whose inverse roots are the locators of the positions. -/
def errorPoly (ps : List Nat) : List Nat := ps.foldl (fun p i => mulTo (p.length + 1) p [1, locator i]) [1]

/-- The values at known positions that give these syndromes (Forney); right where values at these positions do. -/
def valuesAt (ps syn : List Nat) : Flips :=
  let om := mulTo 10 syn (errorPoly ps)
  ps.map fun i =>
    let x := rsInv (locator i)
    let d := ps.foldl (fun v m => if m = i then v else rsMul v (1 ^^^ rsMul (locator m) x)) 1
    (i, rsMul (evalAt om x) (rsInv d))

/-- The ten check symbols of 70 symbols: with them, every syndrome is 0. -/
def checkSymbols (d : List Nat) : List Nat :=
  (valuesAt ((List.range 10).map (70 + ·)) (syndromes (d.zipIdx.map fun e => (e.2, e.1)))).map (·.2)

/-! ### The decoder (R408) -/

/-- The positions of a device (R407). -/
def symbolsOf (d : Nat) : List Nat := (List.range 8).map (8 * d + ·)

/-- What the syndromes say beyond the erasures at eight positions: 0, 0 where the erasures explain them. -/
def beyond (ps syn : List Nat) : Nat × Nat := (coefMul (errorPoly ps) syn 8, coefMul (errorPoly ps) syn 9)

/-- The symbols of a marked device erased, and at most one further symbol in error. -/
def decodeMarked (m : Nat) (syn : List Nat) : Option Flips :=
  let ps := symbolsOf m
  let (a, b) := beyond ps syn
  if a = 0 ∧ b = 0 then some (valuesAt ps syn)
  else if a = 0 then none
  else
    match (List.range 80).find? fun i => !ps.contains i && locator i == rsMul b (rsInv a) with
    | some i => some (valuesAt (ps ++ [i]) syn)
    | none => none

/-- The symbols of a device erased and no further error, which two check symbols verify. -/
def decodeTrial (d : Nat) (syn : List Nat) : Option Flips :=
  let ps := symbolsOf d
  if beyond ps syn = (0, 0) then some (valuesAt ps syn) else none

/-- The devices whose trial succeeds. -/
def trials (syn : List Nat) : List Nat := (List.range 10).filter fun d => (decodeTrial d syn).isSome

/-- The positions of one or two errors that the first syndromes suggest. -/
def fewPositions (syn : List Nat) : List Nat :=
  let z := fun (i : Nat) => syn.getD i 0
  let det := rsMul (z 1) (z 1) ^^^ rsMul (z 0) (z 2)
  if det = 0 then
    (List.range 80).filter fun i => rsMul (z 0) (locator i) == z 1
  else
    let a := rsMul (rsMul (z 1) (z 2) ^^^ rsMul (z 0) (z 3)) (rsInv det)
    let b := rsMul (rsMul (z 1) (z 3) ^^^ rsMul (z 2) (z 2)) (rsInv det)
    (List.range 80).filter fun i => (rsMul (locator i) (locator i) ^^^ rsMul a (locator i) ^^^ b) == 0

/-- At most two symbol errors, where they explain every syndrome. -/
def decodeFew (syn : List Nat) : Option Flips :=
  let ps := fewPositions syn
  if ps.isEmpty ∨ 2 < ps.length then none
  else
    let f := valuesAt ps syn
    if syndromes f = syn then some f else none

/-! ### What a decode answers -/

/-- How a copy of a burst decodes: clean; corrected, at up to two symbols, with the marked device erased, or by trial erasure of a
device; or not at all. -/
inductive Decode where
  | clean | few (fix : Flips) | marked (fix : Flips) | trial (dev : Nat) (fix : Flips) | none
  deriving DecidableEq, Repr

/-- The correction a decode makes. -/
def Decode.fix : Decode → Flips
  | .clean | .none => []
  | .few f | .marked f | .trial _ f => f

/-- Trial erasure leaves one device. -/
def oneTrial (syn : List Nat) (d : Nat) : Decode :=
  match decodeTrial d syn with
  | some f => .trial d f
  | none => .none

/-- Several devices succeed: the one that succeeds alone in each other burst of the way that needs correction. -/
def chooseTrial (syn : List Nat) (others : List Flips) : Decode :=
  let need := (others.map syndromes).filter fun y => !allNil y
  match (trials syn).filter fun d => !need.isEmpty && need.all fun y => trials y == [d] with
  | [d] => oneTrial syn d
  | _ => .none

/-- R408: decode a burst with these flips, under the mark of its rank; `others` are the other three bursts of its way. -/
def decodeRs (mark : Option Nat) (others : List Flips) (f : Flips) : Decode :=
  let syn := syndromes f
  if allNil syn then .clean
  else
    match mark with
    | some m => match decodeMarked m syn with
      | some x => .marked x
      | none => .none
    | none =>
      match decodeFew syn with
      | some x => .few x
      | none =>
        match trials syn with
        | [] => .none
        | [d] => oneTrial syn d
        | _ => chooseTrial syn others

/-- Whether a decode has to read the other three bursts of the way. -/
def readsOthers (mark : Option Nat) (f : Flips) : Bool :=
  mark.isNone && !allNil (syndromes f) && (decodeFew (syndromes f)).isNone && decide (1 < (trials (syndromes f)).length)

/-- The value of a symbol in some flips. -/
def flipAt (f : Flips) (i : Nat) : Nat := xorAll ((f.filter fun e => e.1 == i).map (·.2))

/-- The flips that remain after a correction, in rising order and none of value 0. -/
def leftOver (f fix : Flips) : Flips :=
  (List.range 80).filterMap fun i =>
    let v := flipAt f i ^^^ flipAt fix i
    if v = 0 then none else some (i, v)

/-! ### Parity (R424) -/

/-- The parity of a symbol. -/
def parityOf (v : Nat) : Nat := ((List.range 8).filter fun i => v.testBit i).length % 2

/-- Side-band bytes 6 to 15 of a burst in parity mode: 70 parity bits, two bits of 0, and a byte of 0. -/
def parityBytes (d : List Nat) : List Nat :=
  let n := (d.zipIdx.map fun e => parityOf e.1 * 2 ^ e.2).sum
  (List.range 10).map fun i => n / 256 ^ i % 256

/-- Every parity bit matches. -/
def parityOk (f : Flips) : Bool :=
  (List.range 72).all fun i =>
    (if i < 70 then parityOf (flipAt f i) else 0) == (if (flipAt f (70 + i / 8)).testBit (i % 8) then 1 else 0)

end Sys2Proof.Machine
end

