-- ==== Sys2Proof/Machine/Aes.lean ====
section
/-! DEFINITION. The ciphers of the AES engines: AES-256, XTS over it (R333, R337, R412) and AES-256 key wrap (R540). The spec names
them; their definitions are those of FIPS 197, IEEE 1619 and SP 800-38F. Bytes are numbers below 256. -/

namespace Sys2Proof.Machine

/-! ### AES-256 -/

/-- The field of AES. -/
def aesMul (a b : Nat) : Nat := gfMul 0x11B 8 a b

/-- A byte turned left by n bits. -/
def rotByte (v n : Nat) : Nat := (v * 2 ^ n + v / 2 ^ (8 - n)) % 256

def subByte (v : Nat) : Nat :=
  let i := gfInv 0x11B 7 v 1
  xorAll [i, rotByte i 1, rotByte i 2, rotByte i 3, rotByte i 4, 0x63]

def subByteInv (v : Nat) : Nat := gfInv 0x11B 7 (xorAll [rotByte v 1, rotByte v 3, rotByte v 6, 0x05]) 1

/-- Two lists of bytes XORed. -/
def xorBytesN (a b : List Nat) : List Nat := List.zipWith (· ^^^ ·) a b

/-- The next word of a key schedule, given the words before, the latest first. -/
def nextWord (ws : List (List Nat)) : List Nat :=
  let i := ws.length
  let t := ws.getD 0 []
  let t := if i % 8 = 0 then xorBytesN ((t.drop 1 ++ t.take 1).map subByte) [2 ^ (i / 8 - 1), 0, 0, 0]
    else if i % 8 = 4 then t.map subByte else t
  xorBytesN t (ws.getD 7 [])

/-- n more words of a key schedule. -/
def schedule (n : Nat) (ws : List (List Nat)) : List (List Nat) :=
  match n with
  | 0 => ws
  | n + 1 => schedule n (nextWord ws :: ws)

/-- Consecutive blocksOf of w bytes, n of them. -/
def blocksOf (w n : Nat) (bs : List Nat) : List (List Nat) :=
  match n with
  | 0 => []
  | n + 1 => bs.take w :: blocksOf w n (bs.drop w)

/-- The 15 round keys of a key of 32 bytes. -/
def roundKeys (key : List Nat) : List (List Nat) := blocksOf 16 15 ((schedule 52 (blocksOf 4 8 key).reverse).reverse.flatten)

/-- Row r of the state turned left by r columns; with 4 − r, right. -/
def shiftRows (turn : Nat → Nat) (b : List Nat) : List Nat :=
  (List.range 16).map fun i => b.getD (4 * ((i / 4 + turn (i % 4)) % 4) + i % 4) 0

/-- Each column multiplied by the matrix whose first row is given, every row turned right by one. -/
def mixColumns (row : List Nat) (b : List Nat) : List Nat :=
  (List.range 16).map fun i => xorAll ((List.range 4).map fun c => aesMul (b.getD (i / 4 * 4 + c) 0) (row.getD ((c + 4 - i % 4) % 4) 0))

def encRound (b k : List Nat) : List Nat := xorBytesN (mixColumns [2, 3, 1, 1] (shiftRows id (b.map subByte))) k
def decRound (b k : List Nat) : List Nat := (shiftRows (4 - ·) (mixColumns [14, 11, 13, 9] (xorBytesN b k))).map subByteInv

/-- AES-256 of one block. -/
def aesEnc (key b : List Nat) : List Nat :=
  let ks := roundKeys key
  let b := ((ks.drop 1).take 13).foldl encRound (xorBytesN b (ks.getD 0 []))
  xorBytesN (shiftRows id (b.map subByte)) (ks.getD 14 [])

def aesDec (key b : List Nat) : List Nat :=
  let ks := roundKeys key
  let b := (shiftRows (4 - ·) (xorBytesN b (ks.getD 14 []))).map subByteInv
  xorBytesN (((ks.drop 1).take 13).reverse.foldl decRound b) (ks.getD 0 [])

/-! ### XTS -/

/-- The n bytes of a number, lowest first. -/
def bytesN (n v : Nat) : List Nat := (List.range n).map fun i => v / 256 ^ i % 256

/-- The number that bytes spell, lowest first. -/
def numOf (bs : List Nat) : Nat := bs.foldr (fun b v => b + 256 * v) 0

/-- The tweak of the next block: times x in GF(2^128). -/
def nextTweak (t : List Nat) : List Nat :=
  let v := numOf t
  bytesN 16 ((2 * v) % 2 ^ 128 ^^^ (if 2 ^ 127 ≤ v then 0x87 else 0))

/-- Blocks one after another, each between two additions of its tweak. -/
def xtsBlocks (f : List Nat → List Nat) (t : List Nat) (bs : List (List Nat)) : List Nat :=
  match bs with
  | [] => []
  | b :: r => xorBytesN (f (xorBytesN b t)) t ++ xtsBlocks f (nextTweak t) r

/-- AES-256-XTS of a data unit of whole blocks under a key of 64 bytes. -/
def xtsEnc (key : List Nat) (tweak : Nat) (bs : List Nat) : List Nat :=
  xtsBlocks (aesEnc (key.take 32)) (aesEnc (key.drop 32) (bytesN 16 tweak)) (blocksOf 16 (bs.length / 16) bs)

def xtsDec (key : List Nat) (tweak : Nat) (bs : List Nat) : List Nat :=
  xtsBlocks (aesDec (key.take 32)) (aesEnc (key.drop 32) (bytesN 16 tweak)) (blocksOf 16 (bs.length / 16) bs)

/-! ### Key wrap -/

/-- Step t of a wrap: the register A with the semiblocks of the key. -/
def wrapStep (key : List Nat) (n t : Nat) (x : List Nat × List (List Nat)) : List Nat × List (List Nat) :=
  let i := t % n
  let b := aesEnc key (x.1 ++ x.2.getD i [])
  (xorBytesN (b.take 8) (bytesN 8 (t + 1)).reverse, x.2.set i (b.drop 8))

/-- AES-256 key wrap of a key of n semiblocks. -/
def keyWrap (key : List Nat) (n : Nat) (plain : List Nat) : List Nat :=
  let x := (List.range (6 * n)).foldl (fun x t => wrapStep key n t x) (List.replicate 8 0xA6, blocksOf 8 n plain)
  x.1 ++ x.2.flatten

end Sys2Proof.Machine
end

