-- ==== Sys2Proof/Machine/Bursts.lean ====
section
/-! DEFINITION. What DRAM stores of a line (R119, R120, R407, R412, R413, R424): the metadata slice, the data under the cache key, and
the check symbols or parity bits; and the layout of packed fields. The state holds lines in the clear; these functions give the bits,
and what a read makes of a burst that comes back changed. -/

namespace Sys2Proof.Machine

open Sys2Proof

/-! ### Fields in a word -/

/-- Fields, lowest first, each a width and a value, side by side in one number. -/
def packF (fs : List (Nat × Nat)) : Nat :=
  match fs with
  | [] => 0
  | (w, v) :: r => v % 2 ^ w + 2 ^ w * packF r

/-- The values of fields of the given widths, lowest first. -/
def unpackF (ws : List Nat) (n : Nat) : List Nat :=
  match ws with
  | [] => []
  | w :: r => n % 2 ^ w :: unpackF r (n / 2 ^ w)

/-- A field of one bit. -/
def bit1 (b : Bool) : Nat × Nat := (1, b.toNat)

/-- Parity of the bits hi..lo, so that with it their number is even. -/
def evenParity (n hi lo : Nat) : Bool :=
  ((List.range (hi + 1 - lo)).filter fun i => n.testBit (lo + i)).length % 2 == 1

/-! ### The slice (R119, R120) -/

/-- Slice j of a way (R120). -/
def sliceWord (w : Way) (j : Nat) : Nat :=
  let l := w.lines.getD j LineSt.none
  packF ([(16, w.tag), bit1 w.remote, (12, w.home), (2, w.rstate), (3, l.ls.code), (4, l.stamp)] ++
    match j with
    | 0 => [(10, w.encl)]
    | 1 => [(4, w.keygen), bit1 w.pin, (5, 0)]
    | 2 => [(8, w.heat), (2, 0)]
    | _ => [(10, 0)])

/-- The fields that every slice of a way repeats: TAG, REMOTE, HOME_ID, RSTATE. -/
def identOf (slice : Nat) : Nat := slice % 2 ^ 31

/-- LS in a slice, and whether it is reserved (R122). -/
def lsOf (slice : Nat) : Nat := bitsOf slice 33 31
def lsReserved (slice : Nat) : Bool := decide (6 ≤ lsOf slice)

/-- The defined bits of slice j: all but those that R120 reserves. -/
def definedBits (j : Nat) : Nat :=
  match j with
  | 0 => 2 ^ 48 - 1
  | 1 => 2 ^ 43 - 1
  | 2 => 2 ^ 46 - 1
  | _ => 2 ^ 38 - 1

/-! ### The data under the cache key (R412, R413) -/

/-- The first n bytes of the key of a draw. -/
def keyBytes (n tok : Nat) : List Nat := (List.range n).map fun i => (Config.keyByte tok i).toNat

/-- The tweak of line j of the way at key k: the set in bits 31:0, the line in 33:32, the way in 35:34. -/
def cacheTweak (k j : Nat) : Nat := packF [(32, k / 4), (2, j), (2, k % 4)]

/-- The bytes that a line stores: those of zero for Dirty-Zero, which reads as zero (R413). -/
def LineSt.clear (l : LineSt) : List Nat := bytesN 64 (if l.ls = .dirtyZero then 0 else l.data.toNat)

/-- The 64 data bytes of line j of way k as stored. -/
def storedData (s : State) (k j : Nat) : List Nat :=
  xtsEnc (keyBytes 64 (s.sec.cacheKey.getD 0)) (cacheTweak k j) ((wayAt s k).line j).clear

/-- The line that stored bytes decrypt to. -/
def loadData (s : State) (k j : Nat) (bs : List Nat) : Line :=
  BitVec.ofNat 512 (numOf (xtsDec (keyBytes 64 (s.sec.cacheKey.getD 0)) (cacheTweak k j) bs))

/-- The burst that holds line j of way k: 64 data bytes, six of the slice, and ten of code or parity (R119, R407, R424). -/
def burstSymbols (s : State) (k j : Nat) : List Nat :=
  let d := storedData s k j ++ bytesN 6 (sliceWord (wayAt s k) j)
  d ++ if s.cch.mode then parityBytes d else checkSymbols d

/-! ### What flips make of it -/

/-- The flips of a burst's data bytes, as bytes; and of its slice, as a number. -/
def dataFlips (f : Flips) : List Nat := (List.range 64).map (flipAt f)
def sliceFlips (f : Flips) : Nat := numOf ((List.range 6).map fun i => flipAt f (64 + i))

/-- The slice of line j of way k as a read sees it under flips that the decode has left. -/
def seenSlice (s : State) (k j : Nat) (f : Flips) : Nat := sliceWord (wayAt s k) j ^^^ sliceFlips f

/-- The live content of a burst (R418): its data bytes where LS is Clean or Dirty in either copy, and the defined fields of the slice. -/
def liveSame (s : State) (k j : Nat) (a b : Flips) : Bool :=
  let sa := seenSlice s k j a
  let sb := seenSlice s k j b
  let live := fun (x : Nat) => lsOf x == 1 || lsOf x == 2
  (sa &&& definedBits j) == (sb &&& definedBits j) && (!(live sa || live sb) || dataFlips a == dataFlips b)

end Sys2Proof.Machine
end

