-- ==== Sys2Proof/Machine/Dram.lean ====
section
/-! DEFINITION. What a read of a DRAM burst yields: decode, marks, mirrored pairs (R408 to R411, R417 to R424). -/

namespace Sys2Proof.Machine

open Sys2Proof

/-- DATA of an event that records an address, with its kind (R631). -/
def dataAddr (kind a : Nat) : Nat := a % 2 ^ 60 + kind * 2 ^ 60

/-- DATA of an event about a device or fabric transaction (R631). -/
def dataPeer (dev cause tid : Nat) : Nat := dev % 4096 + 4096 * cause + 65536 * (tid % 2 ^ 40)

/-- The channel state of channel c. -/
def chan (s : State) (c : Nat) : Chan := s.cch.chans.getD c Chan.off

def onChan (c : Nat) (f : Chan → Chan) (s : State) : State := onCch (fun x => { x with chans := setAt x.chans c f }) s

def pairAt (s : State) (p : Nat) : Pair := s.cch.pairs.getD p Pair.whole

def onPair (p : Nat) (f : Pair → Pair) (s : State) : State := onCch (fun x => { x with pairs := setAt x.pairs p f }) s

/-- A pair whose two channels run in lock. -/
def inLock (s : State) (p : Nat) : Bool := s.cch.mirror && !(pairAt s p).broken && (pairAt s p).resilver.isNone

/-- The channel that serves reads of a set: the channel, CH(2p) of a pair in lock, or the survivor (R420 to R422). -/
def servingChan (s : State) (set : Nat) : Nat :=
  let c := chanOf s set
  if s.cch.mirror then 2 * c + (if (pairAt s c).odd && !inLock s c then 1 else 0) else c

/-- Every channel that could serve a set has failed (R423). -/
def setFailed (s : State) (set : Nat) : Bool := (chan s (servingChan s set)).st == .failed

/-- DRAM location of a set: subchannel and rank (R402). -/
def setSub (s : State) (set : Nat) : Nat := (dramLoc s.cch.rho (posOf s set)).1
def setRank (s : State) (set : Nat) : Nat := (dramLoc s.cch.rho (posOf s set)).2.2.2.2.1

/-- Key of a rank of a subchannel of a channel (R409). -/
def rankKey (c sub rank : Nat) : Nat := 16 * c + 8 * sub + rank

/-- The layout of CCH.ERR_LOC (R429). -/
def errLoc (way line c dev rank sub : Nat) : Nat :=
  way + 4 * line + 16 * c + 256 * dev + 4096 * rank + 32768 * sub

/-- DATA of a LOCATION event: set and location (R631). -/
def dataLoc (set loc : Nat) : Nat := set % 2 ^ 32 + loc * 2 ^ 32

/-- The location of a burst. -/
def locOfBurst (s : State) (c set way line dev : Nat) : Nat :=
  errLoc way line c dev (setRank s set) (setSub s set)

/-- Array errors found in one burst. -/
structure BurstAt where
  chan : Nat
  set_ : Nat
  way : Nat
  line : Nat
  deriving DecidableEq, Repr

def BurstAt.loc (x : BurstAt) (s : State) (dev : Nat) : Nat := locOfBurst s x.chan x.set_ x.way x.line dev
def BurstAt.rank (x : BurstAt) (s : State) : Nat := rankKey x.chan (setSub s x.set_) (setRank s x.set_)

/-- Bursts of a way have been written; correction write-backs of them that wait are dropped (R415). -/
def burstsWritten (k : Nat) (js : List Nat) (s : State) : State :=
  let hits := s.cch.corrWb.filter fun b => b / 4 == k && js.contains (b % 4)
  let s := tally Ctr.CCH_WR_BURST js.length s
  if hits.isEmpty then s
  else tally Ctr.CCH_WB_DROP hits.length (onCch (fun c => { c with corrWb := c.corrWb.filter fun b => !hits.contains b }) s)

/-- Correction write-backs leave the queue; when each does is a free value (R410). -/
def corrPump (s : State) : State :=
  eachIn s.cch.corrWb (fun b s =>
    let (f, s) := draw s
    if f % 2 = 0 then
      tally Ctr.CCH_CORR_WB 1 (tally Ctr.CCH_WR_BURST 1 (onCch (fun c => { c with corrWb := c.corrWb.erase b }) s))
    else s) s

/-- A correction (R410). -/
def corrected (x : BurstAt) (ctr dev : Nat) (s : State) : State :=
  let s := tally ctr 1 (rcCount Reg.CCH_ERR_CNT 15 0 1 (onChan x.chan (fun c => { c with corr := c.corr + 1 }) s))
  let s := if flag s Reg.CCH_ECC_CFG 0 then
      onCch (fun c => { c with corrWb := c.corrWb ++ [4 * (4 * x.set_ + x.way) + x.line] }) s
    else s
  raise Ev.cchCorr (dataLoc x.set_ (x.loc s dev)) (x.chan + 256 * setRank s x.set_) s

/-- The training record follows device marks and pair states (R405). -/
def keepRecord (s : State) : State :=
  onCch (fun c => { c with record := c.record.map fun r => { r with
    marks := c.devMark, survivors := c.pairs,
    failed := (List.range 16).filter fun i => (c.chans.getD i Chan.off).st == .failed } }) s

/-- A trial success of a device, and the mark it may earn (R409). -/
def trialSuccess (x : BurstAt) (dev : Nat) (s : State) : State :=
  let rk := x.rank s
  let k := 16 * rk + dev
  let n := tblGet 0 s.cch.trials k + 1
  let s := onCch (fun c => { c with trials := tblSet 0 c.trials k n }) s
  if (tblFind s.cch.devMark rk).isNone ∧ max 1 (fld s Reg.CCH_ECC_CFG 4 1) ≤ n then
    raise Ev.cchDevMarked dev (x.chan + 256 * setRank s x.set_)
      (keepRecord (onCch (fun c => { c with devMark := tblPut c.devMark rk dev }) s))
  else s

/-- An uncorrectable burst (R410). -/
def uncorrected (x : BurstAt) (s : State) : State :=
  let s := tally Ctr.CCH_UNCORR 1 (rcCount Reg.CCH_ERR_CNT 31 16 1 s)
  let l := x.loc s 15
  let s := hwFld Reg.CCH_ERR_SET 31 0 x.set_ (hwFld Reg.CCH_ERR_LOC 15 0 l s)
  raise Ev.cchUncorr (dataLoc x.set_ l) (x.chan + 256 * setRank s x.set_) s

/-- What a copy's decode is worth: clean, corrected, uncorrectable. -/
inductive Worth where
  | clean | corr | bad
  deriving DecidableEq, Repr

/-- A copy of a burst as decoded (R408, R424): how, and the flips that the decode leaves. -/
structure Copy where
  how : Decode
  left : Flips
  deriving DecidableEq, Repr

/-- Decode a copy of the burst at x, under the mark of its rank in force now (R427); in parity mode nothing is corrected (R424). -/
def decodeCopy (s : State) (x : BurstAt) (others : List Flips) (f : Flips) : Copy :=
  if s.cch.mode then ⟨if parityOk f then .clean else .none, leftOver f []⟩
  else
    let d := decodeRs (tblFind s.cch.devMark (x.rank s)) others f
    ⟨d, leftOver f d.fix⟩

def Copy.worth (c : Copy) : Worth :=
  match c.how with
  | .clean => .clean
  | .none => .bad
  | _ => .corr

/-- The device that holds every corrected symbol, or 15. -/
def deviceOf (f : Flips) : Nat :=
  match f with
  | [] => 15
  | e :: _ => if f.all fun x => x.1 / 8 == e.1 / 8 then e.1 / 8 else 15

/-- Record a copy's decode: correction, trial success. -/
def tellCorr (x : BurstAt) (c : Copy) (s : State) : State :=
  match c.how with
  | .few f => corrected x Ctr.CCH_CORR_SYM (deviceOf f) s
  | .marked _ => corrected x Ctr.CCH_CORR_MARKED ((tblFind s.cch.devMark (x.rank s)).getD 15) s
  | .trial d _ => trialSuccess x d (corrected x Ctr.CCH_CORR_TRIAL d s)
  | _ => s

/-- The outcome of reading a burst. -/
inductive BurstOut where
  | good | bad | split
  deriving DecidableEq, Repr

/-- A read burst: its outcome, and the slice as decoded. -/
structure Got where
  out : BurstOut
  slice : Nat
  deriving DecidableEq, Repr

/-- A split breaks the lock: the survivor is the channel with fewer corrections, CH(2p) on ties (R420). -/
def breakPair (p : Nat) (odd : Bool) (s : State) : State :=
  keepRecord (onPair p (fun _ => ⟨true, odd, none⟩) s)

/-- Flips that a decode does not find change the line's data. -/
def keepFlips (k j : Nat) (f : Flips) (s : State) : State :=
  let l := (wayAt s k).line j
  if allNil (dataFlips f) ∨ (l.ls ≠ .clean ∧ l.ls ≠ .dirty) then s
  else onWay k (fun w => w.onLine j fun l => { l with data := loadData s k j (xorBytesN (storedData s k j) (dataFlips f)) }) s

/-- The copy that decodes wins, the other is rewritten from it (R419). -/
def arbitrate (x : BurstAt) (s : State) : State :=
  raise Ev.mirrorArbitrated (dataLoc x.set_ (x.loc s 15)) x.chan
    (burstsWritten (4 * x.set_ + x.way) [x.line] (tally Ctr.CCH_MIRROR_ARB 1 s))

/-- A copy has been read: its slice, unless LS is reserved, which makes it a burst that does not decode (R122, R155, R424). -/
def takeCopy (x : BurstAt) (c : Copy) (s : State) : Got × State :=
  let sl := seenSlice s (4 * x.set_ + x.way) x.line c.left
  if lsReserved sl then (⟨.bad, sl⟩, if s.cch.mode then uncorrected x s else s)
  else (⟨.good, sl⟩, keepFlips (4 * x.set_ + x.way) x.line c.left s)

/-- A burst read of an unmirrored channel or of a survivor (R408). -/
def readOne (x : BurstAt) (c : Copy) (s : State) : Got × State :=
  match c.worth with
  | .bad => (⟨.bad, 0⟩, uncorrected x s)
  | _ => takeCopy x c (tellCorr x c s)

/-- A mirrored pair splits over a burst (R420). -/
def splitPair (p : Nat) (x : BurstAt) (s : State) : Got × State :=
  let odd := decide ((chan s (2 * p + 1)).corr < (chan s (2 * p)).corr)
  (⟨.split, 0⟩, raise Ev.mirrorSplit (dataLoc x.set_ (x.loc s 15)) x.chan (tally Ctr.CCH_MIRROR_SPLIT 1 (breakPair p odd s)))

/-- Two copies with the same live content that differ elsewhere (R419). -/
def benignRead (p : Nat) (s : State) : State :=
  raise Ev.mirrorBenign 0 p (tally Ctr.CCH_MIRROR_BENIGN 1 (rcCount Reg.CCH_MIRROR_BENIGN 31 0 1 s))

/-- A mirrored read (R418, R419). -/
def readPair (p : Nat) (x : BurstAt) (a b : Copy) (s : State) : Got × State :=
  let y : BurstAt := { x with chan := 2 * p + 1 }
  let same := liveSame s (4 * x.set_ + x.way) x.line a.left b.left
  match a.worth, b.worth with
  | .clean, .clean =>
    if same then takeCopy x a (if a.left = b.left then s else benignRead p s) else splitPair p x s
  | .clean, .corr => takeCopy x a (if same then tellCorr y b s else arbitrate x s)
  | .corr, .clean => takeCopy y b (if same then tellCorr x a s else arbitrate x s)
  | .clean, .bad => takeCopy x a (arbitrate x s)
  | .bad, .clean => takeCopy y b (arbitrate x s)
  | .corr, .corr =>
    let s := tellCorr y b (tellCorr x a s)
    if same then takeCopy x a s else splitPair p x s
  | .corr, .bad => takeCopy x a (arbitrate x (tellCorr x a s))
  | .bad, .corr => takeCopy y b (arbitrate x (tellCorr y b s))
  | .bad, .bad => (⟨.bad, 0⟩, uncorrected x s)

/-- The other three bursts of a way are read where a trial leaves several devices (R408). -/
def tellOthers (x : BurstAt) (f : Flips) (s : State) : State :=
  if ¬ s.cch.mode ∧ readsOthers (tblFind s.cch.devMark (x.rank s)) f then tally Ctr.CCH_RD_BURST 3 s else s

/-- The flips of one line of a way, and those of the others. -/
def Rd.of (r : Rd) (j : Nat) : BurstErr := r.bursts.getD j ⟨[], []⟩
def Rd.others (r : Rd) (j : Nat) : List BurstErr := ([0, 1, 2, 3].filter (· != j)).map r.of

/-- Read one burst of a set. A failed channel returns poison (R423). -/
def readBurst (set way line : Nat) (r : Rd) (s : State) : Got × State :=
  let s := tally Ctr.CCH_RD_BURST 1 s
  let x : BurstAt := ⟨servingChan s set, set, way, line⟩
  if setFailed s set then (⟨.bad, 0⟩, s)
  else
    let a := decodeCopy s x ((r.others line).map (·.a)) (r.of line).a
    let s := tellOthers x (r.of line).a s
    if inLock s (chanOf s set) then
      let y : BurstAt := { x with chan := 2 * chanOf s set + 1 }
      readPair (chanOf s set) x a (decodeCopy s y ((r.others line).map (·.b)) (r.of line).b) s
    else readOne x a s

end Sys2Proof.Machine
end

