-- ==== Sys2Proof/Machine/FabLink.lean ====
section
/-! DEFINITION. Fabric messages on the links: opcodes and flits (R253, R254, R508), routing (R527, R528), credits (R511,
R512), the replay buffer (R514) and a link's going down (R517). -/

namespace Sys2Proof.Machine

open Sys2Proof

/-! ### Opcodes (R254) -/

abbrev Op.rdS := 0x01
abbrev Op.rdO := 0x02
abbrev Op.rdONA := 0x03
abbrev Op.rdNA := 0x04
abbrev Op.wrNA := 0x05
abbrev Op.atom := 0x06
abbrev Op.evcE := 0x07
abbrev Op.fhbDone := 0x08
abbrev Op.snpS := 0x10
abbrev Op.snpInv := 0x11
abbrev Op.snpCur := 0x12
abbrev Op.snpRefwd := 0x13
abbrev Op.rspI := 0x20
abbrev Op.rspS := 0x21
abbrev Op.rspMiss := 0x22
abbrev Op.rspFwd := 0x23
abbrev Op.rspPend := 0x24
abbrev Op.gnt := 0x25
abbrev Op.cmp := 0x26
abbrev Op.ack := 0x27
abbrev Op.rls := 0x28
abbrev Op.err := 0x29
abbrev Op.atomRes := 0x2A
abbrev Op.data := 0x30
abbrev Op.snpData := 0x31
abbrev Op.wb := 0x32
abbrev Op.fhb := 0x33

/-- Virtual channel of an opcode (R254). -/
def vcOf (opc : Nat) : VC := if opc < 0x10 then .req else if opc < 0x20 then .snp else if opc < 0x30 then .rsp else .dat

/-- Flits of a message (R508). -/
def flitsOf (opc : Nat) : Nat := if 0x30 ≤ opc ∨ opc = Op.wrNA then 3 else 1

/-- FLAGS (R253). -/
abbrev Fl.fwd := 0
abbrev Fl.z := 1
abbrev Fl.keep := 2
abbrev Fl.wbPend := 3
abbrev Fl.held := 4
abbrev Fl.dirtyLost := 5
abbrev Fl.reject := 6

/-- A flag of a message. -/
def FMsg.flag (m : FMsg) (i : Nat) : Bool := bitsOf m.flags i i == 1

/-- STATE codes of a message (R253). -/
abbrev Fs.i := 0
abbrev Fs.s := 1
abbrev Fs.e := 2

/-- A message with its header fields and no data. -/
def FMsg.mk0 (opc dst src tid gen sk : Nat) : FMsg :=
  { opc := opc, dst := dst, src := src, tid := tid, gen := gen, sk := sk, time := 0, tl := false, encl := 0, flags := 0,
    st := 0, cause := 0, aux := 0, hops := 0, lst := [], blk := [], bmask := [], atom := none, alen := 0 }

/-- This device's node ID: endpoint 0, the caching agent (R239). -/
def ownNode (s : State) : Nat := devId s * 64

/-! ### Ports and credits -/

def fport (s : State) (p : Nat) : FPort := s.fab.ports.getD p FPort.off

def onFPort (p : Nat) (f : FPort → FPort) (s : State) : State := onFab (fun x => { x with ports := setAt x.ports p f }) s

/-- Index of a virtual channel and lane in the credit lists. -/
def vcl (v : VC) (lane : Nat) : Nat := 2 * v.code + lane

/-- The grant of each buffer (R511). -/
def grantOf (i : Nat) : Nat := if i < 6 then 64 else 96

/-- A port that carries messages: up, or replaying, on which resent flits go ahead of new ones (R514). -/
def FPort.carries (p : FPort) : Bool := p.st == .up || p.st == .replaying

/-- The port index is one of the part's. -/
def fpOk (s : State) (p : Nat) : Bool := decide (p < fabPortCount s)

/-- Flits in the replay buffer (R514). -/
def FPort.replayFlits (p : FPort) : Nat := sumN (p.replay.map (·.flits))

/-- The route entry of a device (R527). -/
def route? (s : State) (dev : Nat) : Nat := tblGet 0 s.fab.routes dev

/-- The lane in which a message that leaves by port p continues (R528). -/
def laneBy (e lane p : Nat) : Nat := if bitsOf e (8 + p) (8 + p) = 1 then 1 else lane

/-- The ports of the lane's mask that are up. -/
def routePorts (s : State) (e lane : Nat) : List Nat :=
  (List.range (fabPortCount s)).filter fun p => bitsOf e (4 * lane + p) (4 * lane + p) == 1 && (fport s p).carries

/-- The port a message takes: the most free credits on the next link, the lowest port on ties (R528). -/
def pickPort (s : State) (avoid : Option Nat) (e lane : Nat) (v : VC) : Option Nat :=
  let all := routePorts s e lane
  let ps := all.filter fun p => some p != avoid
  bestBy (fun a b => (fport s b).credits.getD (vcl v (laneBy e lane b)) 0 <
    (fport s a).credits.getD (vcl v (laneBy e lane a)) 0) (if ps.isEmpty then all else ps)

/-- Spend credits, take sequence numbers, keep the flits for replay, and send (R511, R514). -/
def putOnLink (p lane : Nat) (m : FMsg) (s : State) : State :=
  let n := flitsOf m.opc
  let i := vcl (vcOf m.opc) lane
  let q := fport s p
  let s := onFPort p (fun x => { x with credits := setAt x.credits i (· - n), txSeq := (x.txSeq + n) % 4096,
                                        replay := x.replay ++ [⟨q.txSeq, n, vcOf m.opc, lane, m⟩] }) s
  let s := tally Ctr.FAB_FLIT_TX n s
  emit (.fabric m.dst m.opc m.tid [p, lane, q.txSeq, m.gen, m.sk, m.st, m.flags, m.encl, m.cause, m.aux, m.hops] m.blk) s

/-- A message can go out by a port now: credits for all of its flits and room in the replay buffer. -/
def canPut (s : State) (p lane : Nat) (m : FMsg) : Bool :=
  let q := fport s p
  q.carries && flitsOf m.opc ≤ q.credits.getD (vcl (vcOf m.opc) lane) 0 && q.replayFlits + flitsOf m.opc ≤ 512

/-- What becomes of a message that wants to leave (R517, R528). -/
inductive SendOut where
  | sent (port : Nat)
  | wait
  | dropped
  deriving DecidableEq, Repr

/-- Try to send a message in a lane, not by `avoid` if there is another port (R268). -/
def trySend (avoid : Option Nat) (m : FMsg) (lane : Nat) (s : State) : SendOut × State :=
  let e := route? s (m.dst / 64)
  if bitsOf e 17 17 = 0 then
    (.dropped, raise Ev.fabNorouteDrop (dataPeer (m.dst / 64) 0 m.tid) 0 (tally Ctr.FAB_NOROUTE_DROP 1 s))
  else if 16 ≤ m.hops then
    (.dropped, raise Ev.fabHopDrop (dataPeer (m.dst / 64) 0 m.tid) 0 (tally Ctr.FAB_HOP_DROP 1 s))
  else
    match pickPort s avoid e lane (vcOf m.opc) with
    | none => (.wait, s)
    | some p =>
      let l := laneBy e lane p
      if canPut s p l m then
        let s := if lane = 0 ∧ l = 1 then tally Ctr.FAB_DATELINE 1 s else s
        (.sent p, putOnLink p l { m with hops := m.hops + 1 } s)
      else (.wait, tally Ctr.FAB_CREDIT_STALL 1 s)

/-- Give a message to the fabric: sent, queued for credits or a route, or discarded. A device whose assigned ID is
pending sends no coherence message (R526). Answers the port used. -/
def sendVia (avoid : Option Nat) (m : FMsg) (lane : Nat) (s : State) : Nat × State :=
  if s.fab.idPending then (4, s)
  else
    match trySend avoid m lane s with
    | (.sent p, s) => (p, s)
    | (.dropped, s) => (4, s)
    | (.wait, s) => (4, onFab (fun f => { f with queue := f.queue ++ [⟨m, lane, s.tb, none⟩] }) s)

def sendMsg (m : FMsg) (s : State) : State := (sendVia none m 0 s).2

/-- Flits leave their receive buffer: their credits go back to the sender (R511), on a port that retrains with the fresh grant (R512). -/
def rxRelease (p : Nat) (v : VC) (lane n : Nat) (s : State) : State :=
  if (fport s p).carries ∧ creditsHeld s then
    onFPort p (fun x => { x with kept := setAt x.kept (vcl v lane) (· + n) }) s
  else if (fport s p).carries then
    emit (.link p "CREDIT" [v.code, lane, n]) (onFPort p (fun x => { x with rxFlits := setAt x.rxFlits (vcl v lane) (· - n) }) s)
  else if (fport s p).st = .degrading then onFPort p (fun x => { x with rxFlits := setAt x.rxFlits (vcl v lane) (· - n) }) s
  else s

/-- A queued message leaves the device or is discarded: a receive buffer it stood in is free. -/
def leftQueue (q : Queued) (s : State) : State :=
  match q.rx with
  | some (p, lane) => rxRelease p (vcOf q.msg.opc) lane (flitsOf q.msg.opc) s
  | none => s

/-- A request in transit stands in a receive buffer behind one for this device that waits for a tracker entry (R513). -/
def queuesBehind (s : State) (q : Queued) : Bool :=
  match q.rx with
  | some (p, lane) => vcOf q.msg.opc == .req && s.cache.txns.any fun t =>
      t.ph == .entry && t.fport == p && t.tag == lane && decide (t.arr ≤ q.since) && (match t.src with | .fab _ => true | _ => false)
  | none => false

/-- Send what waits, in order, after credits or routes have changed; messages of this device's own are given up while another
device ID is pending (R526). -/
def fabPump (s : State) : State :=
  eachIn (s.fab.queue.filter fun q => !s.fab.idPending || q.rx.isSome) (fun q s =>
    match (if queuesBehind s q then (.wait, s) else trySend none q.msg q.lane s) with
    | (.wait, s) => onFab (fun f => { f with queue := f.queue ++ [q] }) s
    | (_, s) => leftQueue q s) (onFab (fun f => { f with queue := [] }) s)

/-! ### Receiving -/

/-- A message flit group arrives in order with a good CRC: SEQ advances, its flits stand in the receive buffer. `false`
where it is out of order, while the receiver waits for a replay from another SEQ, or where the link carries nothing. -/
def rxAccept (p lane seq : Nat) (m : FMsg) (s : State) : Bool × State :=
  let q := fport s p
  if fpOk s p ∧ q.carries ∧ lane < 2 ∧ seq = (q.rxSeq + 1) % 4096 then
    let i := vcl (vcOf m.opc) lane
    (true, tally Ctr.FAB_FLIT_RX (flitsOf m.opc) (onFPort p (fun x =>
      { x with rxSeq := (x.rxSeq + flitsOf m.opc) % 4096, nakking := false, rxFlits := setAt x.rxFlits i (· + flitsOf m.opc) }) s))
  else (false, s)

/-- A NAK is sent: the replay episode opens or goes on (R514, R515). -/
def openEpisode (p : Nat) (s : State) : State :=
  match (fport s p).episode with
  | some _ => onFPort p (fun x => { x with episode := x.episode.map fun e => { e with naks := e.naks + 1, last := s.tb },
                                           st := if x.st = .up then .replaying else x.st }) s
  | none =>
    let s := onFPort p (fun x => { x with episode := some ⟨s.tb, 1, s.tb⟩, st := if x.st = .up then .replaying else x.st }) s
    raise Ev.fabReplay 0 p (rcCount (Reg.FAB_ERR_CNT + 4 * p) 23 16 1 s)

/-- The replay budget in force (R515). -/
def maxReplay (s : State) : Nat := clampTo 1 8 (fld s Reg.FAB_REPLAY_CFG 3 0)

/-- The episode needs more NAKs than the budget allows, or has been open too long. -/
def overBudget (s : State) (p : Nat) : Bool :=
  match (fport s p).episode with
  | some e => decide (maxReplay s < e.naks) || decide (e.start + 1000 * clampTo 2 20 (fld s Reg.FAB_REPLAY_CFG 8 4) ≤ s.tb)
  | none => false

/-- Steps 1 of R516: the port stops message flits and retrains its lanes. In Geyser no degrade starts: the link goes
down instead (R532), which the caller sees to. -/
def startDegrade (p : Nat) (s : State) : State :=
  let s := onFPort p (fun x => { x with st := .degrading, episode := none, lastDegrade := some s.tb }) s
  tally Ctr.FAB_DEGRADE 1 (rcCount (Reg.FAB_ERR_CNT + 4 * p) 31 24 1 s)

/-- A fabric link goes down (R517): its buffers are discarded, requests that waited in its receive buffer with them;
messages queued find other ports. A link down for another reason than a command retrains at once. -/
def fabDown (p : Nat) (cmd : Bool) (s : State) : State :=
  if (fport s p).st = .down ∧ ((fport s p).cmdDown ∨ ¬ cmd) then s
  else
    let was := (fport s p).carries || (fport s p).st == .degrading
    let s := onFPort p (fun x => { FPort.off with
      st := if cmd then .down else .training, cmdDown := cmd, peer := x.peer, lastDegrade := x.lastDegrade }) s
    let s := onCache (fun c => { c with txns := c.txns.filter fun t =>
      !(t.ph == .entry && t.fport == p && (match t.src with | .fab _ => true | _ => false)) }) s
    let s := onFab (fun f => { f with queue := f.queue.filter fun q => q.rx.map (·.1) != some p }) s
    if was then
      let s := raise Ev.fabLinkDown 0 p (tally Ctr.FAB_LINK_DOWN 1 s)
      fabPump (emit (.link p "REPORT_DOWN" [s.fab.serial, p]) s)
    else s

end Sys2Proof.Machine
end

