-- ==== Sys2Proof/Machine/Txns.lean ====
section
/-! DEFINITION. The request list of TRK: tracker entries (R22, R88 to R90, R188), the conflict queue (R185, R186),
credits (R85 to R87), responses, retirement and its sample record (R646, R647). -/

namespace Sys2Proof.Machine

open Sys2Proof

/-- The request with an identifier. -/
def txnAt (s : State) (id : Nat) : Option Txn := s.cache.txns.find? (·.id == id)

def onTxn (id : Nat) (f : Txn → Txn) (s : State) : State :=
  onCache (fun c => { c with txns := c.txns.map fun t => if t.id = id then f t else t }) s

def setPh (id : Nat) (p : Phase) (s : State) : State := onTxn id (fun t => { t with ph := p, since := s.tb }) s

def Txn.blank : Txn :=
  { id := 0, gen := 0, pool := .none, src := .engine, kind := .rdS, tag := 0, da := 0, sk := 0, line := 0, encl := 0,
    arr := 0, data := 0, mask := 0, poison := false, mv := .i, wseq := 0, wport := 4, cred := false, gone := false, ph := .entry, holder := false,
    sole := false, busy := false, resv := .none, rsz := 0, rsv2 := .none, reads := [], want := [], bad := [], spec := false, ahead := false, since := 0,
    told := false, toldF := false, tscWas := false, train := false, look := none, demand := false, judges := [], other := [], prio := 0, prioAt := 0, sel := none,
    width := none, evc := false, ownRd := none, said := false, vicAt := none, vicTold := false, sfAt := none, sfTold := false, dirAt := none, dirTold := false,
    sfVic := none, dirVic := none, asked := [], tid := 0, fgen := 0, peer := 0, reissue := 0, fport := 0, pendAt := 0, found := 0, sup := false,
    bcast := false, seen := false, near := false, blk := [], lst := [], opnds := 0 }

/-! ### Entries (R88 to R90) -/

/-- The request holds a tracker entry. -/
def Txn.held (t : Txn) : Bool := t.pool != .none && t.ph != .entry

/-- Entries in use of a pool. -/
def poolUse (s : State) (p : Pool) : Nat := (s.cache.txns.filter fun t => t.held && t.pool == p).length

/-- The entries of a pool (R88, R255). -/
def poolCap (s : State) : Pool → Nat
  | .host _ => 2048
  | .fabSnp => 256
  | .fabRet => 512
  | .fabReq => 1280
  | .shared => if s.part = .pm then 8192 else 4096
  | .internal => 2048
  | .none => 0

/-- The requester of a request, for its cap: a host port, or the fabric as 4. -/
def Txn.requester (t : Txn) : Nat :=
  match t.src with
  | .hp p | .mbox p => p
  | .fab _ => 4
  | _ => 5

/-- Entries a requester holds in all. -/
def reqUse (s : State) (r : Nat) : Nat :=
  (s.cache.txns.filter fun t => t.held && t.requester == r).length

/-- The cap of a requester (R89). -/
def reqCap (r : Nat) : Nat := if r < 4 then 3072 else 4096

/-- Requests of this class may use the shared pool: hosts' (R89), and of the fabric's, requests and snoops (R23, R255). -/
def Pool.shares : Pool → Bool
  | .host _ | .fabReq | .fabSnp => true
  | _ => false

/-- The pool from which a waiting request would now be granted an entry (R89, R90). A waiting request names its own class
in `pool`. -/
def grantPool (s : State) (t : Txn) : Option Pool :=
  if t.pool = .none then some .none
  else if poolUse s t.pool < poolCap s t.pool then some t.pool
  else if t.pool.shares ∧ reqUse s t.requester < reqCap t.requester ∧ poolUse s .shared < poolCap s .shared then
    some .shared
  else none

/-- Requests that wait for an entry, oldest first. -/
def waiting (s : State) : List Txn := s.cache.txns.filter (·.ph == .entry)

/-- The oldest waiting request that can be granted an entry. Within a class the oldest goes first (R90). -/
def nextGrant (s : State) : Option (Txn × Pool) :=
  (waiting s).findSome? fun t => (grantPool s t).map fun p => (t, p)

/-- The entry that an arriving request can have at once: one for which no older request waits (R90). -/
def freeFor (s : State) (t : Txn) : Option Pool :=
  (grantPool s t).bind fun p =>
    if ((waiting s).takeWhile (·.id != t.id)).any fun u => grantPool s u == some p || u.pool == t.pool then none else some p

/-- Return an M2S Req credit (R87): not while Fence runs; a calibration withholds it (R305). -/
def returnReq (p : Nat) (s : State) : State :=
  if (port s p).up ∧ s.rsv.pst = .run ∧ creditsHeld s then onPort p (fun x => { x with reqKept := x.reqKept + 1 }) s
  else if (port s p).up ∧ s.rsv.pst = .run then onPort p (fun x => { x with req := x.req + 1 }) s else s

/-- A host request that came under a Req credit. -/
def Txn.onReq (t : Txn) : Bool :=
  match t.src, t.kind with
  | .hp _, .rdS | .hp _, .rdO | .hp _, .rdNA | .hp _, .own => true
  | _, _ => false

/-- Another request makes the sector Busy (R220). -/
def sectorBusy (s : State) (t : Txn) : Bool := s.cache.txns.any fun u => u.sk == t.sk && u.id != t.id && u.busy

/-- High-water marks of the tracker (R93). -/
def trkPeak (s : State) : State :=
  peak Reg.TRK_PEAK 14 0 (s.cache.txns.filter Txn.held).length (peak Reg.TRK_PEAK 29 16 (poolUse s .shared) s)

/-- Give a waiting request its entry: the credit goes back (R87) and it joins its conflict queue. -/
def giveEntry (t : Txn) (p : Pool) (s : State) : State :=
  let s := if sectorBusy s t then tally Ctr.COH_BUSY_WAIT 1 s else s
  let s := trkPeak (onTxn t.id (fun t => { t with pool := p, ph := .queued, since := s.tb }) s)
  match t.src with
  | .hp n => if t.onReq && !t.gone then returnReq n s else s
  | .fab _ =>
    match t.pool with
    | .fabReq => rxRelease t.fport .req t.tag (if t.kind = .fWrNA then 3 else 1) s
    | .fabSnp => rxRelease t.fport .snp t.tag 1 s
    | .fabRet => rxRelease t.fport .dat t.tag 3 s
    | _ => s
  | _ => s

/-- A write that needs nothing more gives up its RwD credit (R87, R91). -/
def releaseCredit (t : Txn) (s : State) : State :=
  if t.cred then
    let s := onTxn t.id (fun t => { t with cred := false }) s
    match t.src with
    | .hp n => oweRwd n s
    | _ => s
  else s

/-- Where a request stands among those of one arrival time (R186): HP0 to HP3, FP0 to FP3, then internal ones. -/
def Txn.rank (t : Txn) : Nat :=
  match t.src, t.kind with
  | .hp p, _ | .mbox p, .atomic _ | .mbox p, .append _ | .mbox p, .cmd => p
  | .fab _, _ => 4 + t.fport
  | _, _ => 8

/-- The order of arrival (R186). -/
def Txn.earlier (a b : Txn) : Bool := decide (a.arr < b.arr) || (a.arr == b.arr && decide (a.rank < b.rank))

/-- Insert by arrival time, after every request that does not come later (R186). -/
def enqueue (t : Txn) (s : State) : State := onCache (fun c => { c with txns := insertBy Txn.earlier t c.txns }) s

/-- The lowest identifier not in use from `base` on. -/
def freshId (s : State) (base : Nat) : Nat :=
  (((List.range (s.cache.txns.length + 1)).map (base + ·)).find? fun i => !s.cache.txns.any (·.id == i)).getD base

/-- A request arrives: it is given an identifier and generation, with them its TID where it is a request of this device
(R253), its arrival time unless it brings one from its ingress (R186), and, where no older request waits for it, an entry. Answers
the identifier. -/
def admitTxn (t : Txn) (s : State) : Nat × State :=
  let id := freshId s (if t.pool = .none then 16384 else 0)
  let g := (tblGet 0 s.cache.gens id + 1) % 256
  let tid := match t.src with
    | .fab _ => t.tid
    | _ => devId s * 2 ^ 28 + id % 2 ^ 14 * 256 + g
  let t := { t with id := id, gen := g, tid := tid, arr := if t.arr = 0 then s.tb else t.arr, since := s.tb, ph := .entry }
  let s := enqueue t (onCache (fun c => { c with gens := tblSet 0 c.gens id g }) s)
  match freeFor s t with
  | some p => (id, giveEntry t p s)
  | none => (id, s)

/-- A background command of a mailbox holds an entry of its port while it runs (R96). It is of no sector. -/
def cmdBegin (p opc : Nat) (s : State) : State :=
  if p < 4 then
    (admitTxn { Txn.blank with pool := .host p, src := .mbox p, kind := .cmd, tag := opc, sk := 2 ^ 52 } s).2
  else s

/-- The entry of a background command. -/
def Txn.cmdOf (t : Txn) (p opc : Nat) : Bool := t.kind == .cmd && t.src == .mbox p && t.tag == opc

/-- A background command has its entry, or needs none: it was resumed by a start-up, or Fence has begun. -/
def cmdHeld (s : State) (p opc : Nat) : Bool :=
  decide (4 ≤ p) || s.rsv.pst != .run || s.cache.txns.any fun t => t.cmdOf p opc && t.held

/-- A background command gives its entry back. -/
def cmdEnd (p opc : Nat) (s : State) : State :=
  onCache (fun c => { c with txns := c.txns.filter fun t => !t.cmdOf p opc }) s

/-- A background command completes. -/
def bgDone (p opc : Nat) (status : String) (payload : List Byte) (s : State) : State :=
  mboxDone p opc status payload (cmdEnd p opc s)

/-! ### The conflict queue (R185) -/

/-- A request kind that shares its sector with its like. -/
def Kind.shares : Kind → Bool
  | .rdS | .rdNA => true
  | _ => false

/-- A snoop at a holder, which does not queue behind requests that wait on the fabric (R261). -/
def Kind.isSnoop : Kind → Bool
  | .snpS _ | .snpInv _ | .snpCur _ => true
  | _ => false

/-- Returned data at the home, which the snooping transaction itself places (R280). -/
def Kind.isReturn : Kind → Bool
  | .fWb _ | .fFhb _ => true
  | _ => false

/-- A wait on another device. -/
def Phase.onFabric : Phase → Bool
  | .fabric _ | .cmp => true
  | _ => false

/-- A wait that a snoop does not share: it waits only for a DRAM access, an ALU step or a host BISnp in progress (R261). -/
def Phase.passed : Phase → Bool
  | .fabric _ | .cmp | .recall _ | .resv _ | .buffer | .evict _ => true
  | _ => false

/-- Requests of the same sector that came before. -/
def before (s : State) (t : Txn) : List Txn :=
  ((s.cache.txns.takeWhile (·.id != t.id)).filter fun u => u.sk == t.sk && u.ph != .entry)

/-- Other holders of the sector. -/
def otherHolders (s : State) (t : Txn) : List Txn :=
  s.cache.txns.filter fun u => u.sk == t.sk && u.id != t.id && u.holder

/-- A sector that awaits handback (R277), that an eviction from the snoop filter or the directory holds Busy (R207,
R251), or that is a reserved victim (R157). -/
def sectorHeld (s : State) (t : Txn) : Bool :=
  s.fab.marks.any (·.sk == t.sk) ||
    ((s.cache.bis.any (·.sk == t.sk) || s.fab.snps.any fun x => x.sk == t.sk && 2 ^ 20 ≤ x.txn) &&
      !s.cache.txns.any fun u => u.sk == t.sk && u.holder) ||
    (findHold s t.sk).isSome ||
    (match findWay s t.sk with
     | some k => (wayAt s k).rsvBy.isSome && (wayAt s k).rsvBy != some t.id
     | none => false)

/-- A write-out of the sector is under way or due (R179). -/
def writingOut (s : State) (t : Txn) : Bool :=
  s.cache.txns.any fun u => u.sk == t.sk && u.id != t.id && (match u.kind with | .writeOut _ => true | _ => false)

/-- A write that an OFENCE of its port holds back (R191). -/
def ofenceHolds (s : State) (t : Txn) : Bool :=
  s.cache.fences.any fun f => !f.dfence && f.limits.any fun l => l.1 == t.wport && l.2 < t.wseq

/-- Whether a queued request can become a holder now, as far as its conflict queue goes (R28, R179, R185): a write-out goes before
what waits, once no one holds the sector, and a sector that is handed back to a restarted peer (R276) waits for no one who waits on
the fabric. -/
def queueFree (s : State) (t : Txn) : Bool :=
  if t.kind.isSnoop then
    (otherHolders s t).all (·.ph.passed)
  else if t.kind.isReturn then
    (otherHolders s t).all fun u => u.kind.isReturn == false && (match u.ph with | .recall _ => true | _ => false)
  else if t.kind = .cmd ∨ sectorHeld s t ∨ (s.fab.hold_ ∧ t.pool ≠ .none ∧ t.src ≠ .engine) then false
  else
    match t.kind with
    | .writeOut _ => (otherHolders s t).isEmpty
    | .evict => if t.tag = 1 then (otherHolders s t).all (·.ph.onFabric) else (before s t).isEmpty && (otherHolders s t).isEmpty
    | _ =>
      if writingOut s t then false else
      let b := before s t
      if t.kind.shares then
        b.all (fun u => u.kind.shares && u.holder && !u.sole) &&
          (otherHolders s t).all (fun u => u.kind.shares && !u.sole)
      else b.all (fun u => u.kind.isSnoop) && (otherHolders s t).isEmpty

/-- Whether a queued request can become a holder now. -/
def mayHold (s : State) (t : Txn) : Bool := queueFree s t && !ofenceHolds s t

/-- Requests that pass a lookup. -/
def Kind.looks : Kind → Bool
  | .wrNA | .fWrNA | .writeOut _ | .fWb _ | .fFhb _ | .snpS _ | .snpInv _ | .snpCur _ | .evict | .flush | .cmd => false
  | _ => true

/-- A run-ahead fetch of which nothing has come back may still be unsubmitted, which is a free value (R141). -/
def unsent (t : Txn) (s : State) : Bool × State :=
  if !t.reads.isEmpty && t.reads.length == (readsFor s t.sk t.want).length then
    let (f, s) := draw s
    (f % 2 == 0, s)
  else (false, s)

/-- A run-ahead fetch is squashed (R141, R142): the commands of an unsubmitted one are removed; else its data is discarded on
arrival. -/
def squash (t : Txn) (s : State) : State :=
  if ¬ t.spec then s
  else
    let (early, s) := unsent t (if t.bad.isEmpty then s else raise Ev.specMediaErr 0 0 s)
    let s := onTxn t.id (fun t => { t with spec := false, reads := [], want := [], bad := [], ownRd := none }) s
    if early then
      tally Ctr.TAG_SPEC_SQUASH_EARLY 1 (eachIn t.reads (fun c s => tally Ctr.MED_SPEC_CANCEL 1 (freeCmd c s)) s)
    else
      tally Ctr.TAG_SPEC_SQUASH_LATE 1
        (if t.reads.isEmpty then s else onCache (fun c => { c with specHeld := c.specHeld ++ [t.reads] }) s)

/-- A holder gives its sector up and waits again, to be looked up anew (R179, R185). -/
def stepBack (t : Txn) (s : State) : State :=
  setPh t.id .queued (onTxn t.id (fun t => { t with holder := false, sole := false, busy := false, seen := false, look := none })
    (squash t s))
/-- A shared holder comes to need its sector alone (R185): younger shared holders are restarted behind it. -/
def becomeSole (id : Nat) (s : State) : State :=
  match txnAt s id with
  | none => s
  | some t =>
    if t.sole then s
    else
      let young := (s.cache.txns.dropWhile (·.id != id)).filter fun u => u.sk == t.sk && u.id != id && u.holder
      let s := onTxn id (fun t => { t with sole := true, busy := true }) s
      eachIn young (fun u s => tally Ctr.TRK_SHARED_RESTART 1 (stepBack u s)) s

/-- The request has its sector to itself. -/
def alone (s : State) (t : Txn) : Bool := (otherHolders s t).all fun u => u.kind.isSnoop || u.ph.onFabric

/-! ### Responses and retirement -/

/-- A response to a host, where its link is up; results for a port that went down are discarded (R110). A poisoned one carries
no bytes, a mailbox's result 16 (R100). -/
def answer (t : Txn) (kind : String) (data : Option Line) (poison : Bool) (s : State) : State :=
  let data := if poison then none else data
  if t.gone then s else
  match t.src with
  | .hp p => if (port s p).up then emit (.cxl p t.tag kind data poison) s else s
  | .mbox p =>
    if (port s p).up then
      let s := onIo (signal (env s) p 0 0) s
      let st := if poison then "POISON" else if kind = "AtomicCpl" ∨ kind = "Cmp" then "SUCCESS" else kind
      emit (.mbox p t.tag st ((data.map fun d => bytesLe 16 d.toNat).getD [])) s
    else s
  | _ => s

/-- CLASS of a sample record (R647), but for what a mailbox asks. -/
def Kind.cls : Kind → Nat
  | .rdS => 0 | .rdO | .own => 1 | .rdNA => 2 | .wb => 3 | .wrNA => 4 | .atomic _ | .append _ | .record _ => 5
  | .inval | .zalloc _ => 6
  | .prefetch _ | .pin | .unpin | .flush | .cmd | .spec | .evict => 7
  | .fRdS => 0 | .fRdO | .fOwn _ => 1 | .fRdNA => 2 | .fWrNA => 4 | .fAtom _ => 5
  | .writeOut _ | .fWb _ | .fFhb _ => 3
  | .snpS _ | .snpInv _ | .snpCur _ => 8

/-- CLASS: a mailbox's commands but for PREFETCH are class 6. -/
def Txn.cls (t : Txn) : Nat :=
  match t.src, t.kind with
  | .mbox _, .pin | .mbox _, .unpin | .mbox _, .flush | .mbox _, .cmd | .mbox _, .atomic _ | .mbox _, .append _ => 6
  | _, k => k.cls

/-- Source of a sample record, and the fabric node. -/
def Txn.srcCode (t : Txn) : Nat × Nat :=
  match t.src with
  | .hp p => (p, 0) | .fab n => (4, n) | .mbox _ => (5, 0) | .policy _ _ => (6, 0) | .engine => (7, 0)

/-- A transaction sample record (R647). The parts of the latency are free values: the model keeps no stage times. -/
def txnSample (t : Txn) (skid poison : Bool) (s : State) : State :=
  let (f, s) := draw s
  let (src, node) := t.srcCode
  let total := min (2 ^ 24 - 1) (s.tb - t.arr)
  let v := 1 + (if skid then 16 else 0) + 2 ^ 8 * (t.cls + 16 * t.found + (if t.ahead then 64 else 0) +
      (if poison then 128 else 0))
    + 2 ^ 16 * (src + 8 * node) + 2 ^ 40 * total + 2 ^ 64 * ((t.sk * 4 + t.line) % 2 ^ 54)
    + 2 ^ 128 * (f % 2 ^ 56) + 2 ^ 192 * (f / 2 ^ 56 % 2 ^ 24) + 2 ^ 224 * (s.tb % 2 ^ 32)
  onIo (sampPush (env s) (BitVec.ofNat 256 v)) s

/-- A transaction retires: the sampling engine sees it (R646). -/
def sampleTxn (t : Txn) (poison : Bool) (s : State) : State :=
  if s.rsv.pst ≠ .run then s
  else
    let sel := fld s Reg.EVT_SAMPLE_SEL 31 0
    let ok := bitsOf sel t.cls t.cls == 1 && bitsOf sel (10 + t.srcCode.1) (10 + t.srcCode.1) == 1 &&
      decide (fld s Reg.EVT_SAMPLE_LAT 23 0 ≤ s.tb - t.arr) && fld s Reg.EVT_SAMPLE_CFG 2 2 == 0
    let skid := fld s Reg.EVT_SAMPLE_CFG 1 0 == 2
    if skid && fld s Reg.EVT_SAMPLE_CFG 2 2 == 1 then s
    else
      let (take, io) := sampTake ok s.io
      let s := { s with io := io }
      if take then txnSample t skid poison s else s

end Sys2Proof.Machine
end

