-- ==== Sys2Proof/Machine/Tsc.lean ====
section
/-! DEFINITION. The Tag Shadow Cache (R125 to R131), the way and miss predictors (R135 to R137), heat (R129) and victim
choice (R147 to R151), and the retirement of requests. -/

namespace Sys2Proof.Machine

open Sys2Proof

/-! ### TSC entries -/

/-- TSC set of a cache set (R125). -/
def tscSet (set : Nat) : Nat := set % 2 ^ 17

/-- The TSC entry of a cache set, if there is one. -/
def tscAt (s : State) (set : Nat) : Option Tsc := tblFind s.cache.tsc set

def putTsc (set : Nat) (e : Tsc) (s : State) : State := onCache (fun c => { c with tsc := tblPut c.tsc set e }) s

/-- A usable entry. -/
def tscHit (s : State) (set : Nat) : Bool := ((tscAt s set).map (·.usable)).getD false

/-- Cache sets with an entry in the TSC set of `set`. -/
def tscPeers (s : State) (set : Nat) : List Nat := (s.cache.tsc.filter fun e => tscSet e.1 == tscSet set).map (·.1)

/-- Heat of a way as lookups see it: the TSC's where the set has an entry. -/
def heatOf (s : State) (k : Nat) : Nat :=
  match tscAt s (k / 4) with
  | some e => if e.usable then e.heat.getD (k % 4) 0 else (wayAt s k).heat
  | none => (wayAt s k).heat

/-- The entry of a set has been used: it is the one that its TSC set does not replace next (R128). -/
def tscTouch (set : Nat) (s : State) : State :=
  if (tscAt s set).isNone then s
  else
    let mark : Nat × Tsc → Nat × Tsc := fun e =>
      if tscSet e.1 = tscSet set then (e.1, { e.2 with mru := e.1 == set }) else e
    onCache (fun c => { c with tsc := c.tsc.map mark }) s

/-- Increments that a pending entry carries are lost with it, and counted (R129). -/
def loseCarry (e : Tsc) (s : State) : State := tally Ctr.TAG_HEAT_LOST (sumN e.carry) s

/-- A changed heat goes back to DRAM, or is dropped and counted where the channel's P2 queue is full, which is a free value: the model
holds no such queue (R130). -/
def heatBack (k h : Nat) (s : State) : State :=
  let (f, s) := draw s
  if f % 2 = 0 then onWay k (fun x => { x with heat := h }) s else tally Ctr.TAG_HEAT_WB_DROP 1 s

/-- A TSC entry is replaced: the changed heat of each way is written back (R130). -/
def tscDrop (set : Nat) (s : State) : State :=
  match tscAt s set with
  | none => s
  | some e =>
    let s := loseCarry e (onCache (fun c => { c with tsc := tblDel c.tsc set }) s)
    upTo 4 (fun w s =>
      if e.usable && e.chg.getD w false && (wayAt s (4 * set + w)).res then
        heatBack (4 * set + w) (e.heat.getD w 0) s
      else s) s

/-- The entry a fill replaces in a full TSC set: pseudo-LRU spares the one used last; which of the others it takes is a free value
(R128). -/
def tscRoom (set : Nat) (s : State) : State :=
  let ps := tscPeers s set
  if ps.length < 12 then s
  else
    let old := ps.filter fun x => !((tscAt s x).map (·.mru)).getD false
    let (f, s) := draw s
    tscDrop (old.getD (f % old.length) set) s

/-- A TSC fill is issued, at P2: a pending entry, which carries heat increments of a hit (R126, R127, R129, R152). -/
def tscFill (set : Nat) (carry : Option Nat) (s : State) : State :=
  match tscAt s set with
  | some e =>
    match carry with
    | some w => if e.usable then s else
      putTsc set { e with carry := setAt e.carry w (· + 1) } s
    | none => s
  | none =>
    let s := tally Ctr.TAG_TSC_FILL 1 (tscRoom set s)
    let cs := (List.range 4).map fun i => if carry = some i then 1 else 0
    tscTouch set (putTsc set ⟨false, [0, 0, 0, 0], List.replicate 4 false, cs, true, 2, s.tb⟩ s)

/-! ### Priority classes of DRAM accesses (R152) -/

/-- A DRAM access that waits: its bank, class, since when it waits in that class, and since when it waits at all. -/
structure Access where
  bank : Nat × Nat × Nat × Nat × Nat
  prio : Nat
  at_ : Nat
  since : Nat
  deriving DecidableEq, Repr

/-- The access of a request that looks up, and of a pending TSC fill. -/
def Txn.access (s : State) (t : Txn) : Option Access :=
  match t.ph with
  | .probe _ => some ⟨bankOf s (setOfSk s t.sk), t.prio, t.prioAt, t.since⟩
  | _ => none

def Tsc.access (s : State) (set : Nat) (e : Tsc) : Option Access :=
  if e.usable then none else some ⟨bankOf s set, e.prio, if e.prio = 2 then e.at_ else e.at_ + 4000, e.at_⟩

/-- The DRAM accesses that wait. -/
def accesses (s : State) : List Access :=
  s.cache.txns.filterMap (·.access s) ++ s.cache.tsc.filterMap fun e => e.2.access s e.1

/-- The bank queue can have served the access: none of a higher class has waited for the bank ever since the access came. -/
def served (s : State) (a : Access) : Bool :=
  (accesses s).all fun b => !(b.bank == a.bank && decide (b.prio < a.prio) && decide (b.at_ ≤ a.since))

/-- The access that is promoted next: of those of class P2 or P3, the one that has waited longest in its class. -/
def nextPromoted (s : State) : Option Access :=
  bestBy (fun a b => a.at_ < b.at_) ((accesses s).filter fun a => decide (2 ≤ a.prio))

/-- Every access of this class that came and was promoted when this one was goes up one class, at time tb. -/
def promote (a : Access) (s : State) : State :=
  onCache (fun c => { c with
    txns := c.txns.map fun t => if t.access s = some a then { t with prio := t.prio - 1, prioAt := s.tb } else t,
    tsc := c.tsc.map fun e => if e.2.access s e.1 = some a then (e.1, { e.2 with prio := e.2.prio - 1 }) else e }) s

/-- The last burst of a TSC fill has been read: the entry is usable, carried increments take effect (R127, R129). -/
def tscReady (set : Nat) (s : State) : State :=
  match tscAt s set with
  | none => s
  | some e =>
    if e.usable then s
    else
      let h := (List.range 4).map fun w => min 255 ((wayAt s (4 * set + w)).heat + e.carry.getD w 0)
      let ch := (List.range 4).map fun w => decide (0 < e.carry.getD w 0)
      putTsc set { e with usable := true, heat := h, chg := ch, carry := [0, 0, 0, 0] } s

/-- Change the heat of a way in its TSC entry; without one the change is lost and counted (R129). -/
def changeHeat (k : Nat) (f : Nat → Nat) (s : State) : State :=
  match tscAt s (k / 4) with
  | some e =>
    if e.usable then
      putTsc (k / 4) { e with heat := setAt e.heat (k % 4) f, chg := setAt e.chg (k % 4) fun _ => true } s
    else putTsc (k / 4) { e with carry := setAt e.carry (k % 4) (· + 1) } s
  | none => tally Ctr.TAG_HEAT_LOST 1 s

/-- A demand hit or fill retires: heat rises by 1, to at most 255 (R129), and the entry of the set is used (R128). -/
def heatUp (k : Nat) (s : State) : State := tscTouch (k / 4) (changeHeat k (fun h => min 255 (h + 1)) s)

/-- A fill sets the heat of its way (R144): in DRAM with its slices, and in the TSC entry if there is one. What a pending entry
carried for the way is lost. -/
def heatSet (k h : Nat) (s : State) : State :=
  let s := onWay k (fun w => { w with heat := h }) s
  match tscAt s (k / 4) with
  | some e =>
    let s := tally Ctr.TAG_HEAT_LOST (e.carry.getD (k % 4) 0) s
    tscTouch (k / 4) (putTsc (k / 4)
      { e with heat := setAt e.heat (k % 4) (fun _ => h), chg := setAt e.chg (k % 4) (fun _ => false),
               carry := setAt e.carry (k % 4) fun _ => 0 } s)
  | none => s

/-- A write of the line-2 burst of a way carries its HEAT and clears the heat-changed bit (R130). -/
def carryHeat (k j : Nat) (s : State) : State :=
  match tscAt s (k / 4) with
  | some e =>
    if j = 2 ∧ e.usable ∧ e.chg.getD (k % 4) false then
      putTsc (k / 4) { e with chg := setAt e.chg (k % 4) fun _ => false }
        (onWay k (fun w => { w with heat := e.heat.getD (k % 4) 0 }) s)
    else s
  | none => s

/-- A parity error drops the entry (R131). -/
def tscUpset (set : Nat) (s : State) : State :=
  match tscAt s set with
  | none => s
  | some e =>
    let s := loseCarry e (onCache (fun c => { c with tsc := tblDel c.tsc set }) s)
    raise Ev.tscParity (dataLoc set 0) 0 (rcCount Reg.TAG_TSC_STS 15 0 1 s)

/-- A hit that missed in the TSC fills the set, within the channel's budget for the current 1 µs (R126). -/
def tscFillOnHit (set way : Nat) (s : State) : State :=
  let slot := s.tb / 1000
  let s := if s.cache.tscSlot = slot then s else onCache (fun c => { c with tscSlot := slot, tscFills := [] }) s
  let c := chanOf s set
  let n := tblGet 0 s.cache.tscFills c
  if flag s Reg.TAG_TSC_CFG 0 ∧ n < fld s Reg.TAG_TSC_CFG 4 1 ∧ (tscAt s set).isNone then
    tscFill set (some way) (onCache (fun x => { x with tscFills := tblSet 0 x.tscFills c (n + 1) }) s)
  else s

/-! ### Predictors -/

/-- Index of the way predictor (R135). -/
def wayPredIdx (set : Nat) : Nat := (set % 2 ^ 16) ^^^ (set / 2 ^ 16 % 2 ^ 16)

/-- The way predictor's answer: way and confidence. -/
def wayPred (s : State) (set : Nat) : Nat × Bool :=
  let v := tblGet 0 s.cache.wayPred (wayPredIdx set)
  (v / 2, v % 2 == 1)

/-- Train the way predictor on a hit (R135). -/
def trainWay (set way : Nat) (s : State) : State :=
  let (w, _) := wayPred s set
  let v := if w = way then 2 * way + 1 else 2 * way
  onCache (fun c => { c with wayPred := tblSet 0 c.wayPred (wayPredIdx set) v }) s

/-- Index of the miss predictor of a home offset (R136). -/
def missPredIdx (ho : Nat) : Nat := bitsOf ho 28 16 ^^^ bitsOf ho 41 29 ^^^ (bitsOf ho 47 42 * 128)

/-- A miss is predicted (R136). -/
def predictsMiss (s : State) (so encl : Nat) : Bool :=
  let v := tblGet 0 s.cache.missPred (missPredIdx (256 * so))
  v / 8 == encl && decide (fld s Reg.TAG_MISSPRED_CFG 2 0 ≤ v % 8)

/-- Train the miss predictor (R137); TRAIN_EN as it was at DECIDE (R160). -/
def trainMiss (so encl : Nat) (miss : Bool) (s : State) : State :=
  let i := missPredIdx (256 * so)
  let v := tblGet 0 s.cache.missPred i
  let n := if v / 8 = encl then (if miss then min 7 (v % 8 + 1) else v % 8 - 1) else (if miss then 4 else 3)
  onCache (fun c => { c with missPred := tblSet 0 c.missPred i (8 * encl + n) }) s

/-- ENCLAVE_DESTROY clears the entries of an enclave (R137). -/
def clearMissTag (encl : Nat) (s : State) : State :=
  onCache (fun c => { c with missPred := c.missPred.filter fun e => e.2 / 8 != encl }) s

/-! ### Victim choice (R147, R148, R151) -/

/-- A way that belongs to no sector and is not in use by a fill. -/
def freeWay (s : State) (k : Nat) : Bool :=
  let w := wayAt s k
  !w.res && !w.quar && w.rsvBy.isNone && w.fwd.isNone && !(decide (k % 4 < fixedWays s (k / 4)))

/-- The sector of a way is Busy, or work on it is outstanding (R28, R220). -/
def wayBusy (s : State) (k : Nat) : Bool :=
  let sk := skOfWay s k (wayAt s k)
  s.cache.txns.any (fun t => t.sk == sk && t.holder) || s.cache.bis.any (·.sk == sk) ||
    s.fab.marks.any (·.sk == sk)

/-- A way is eligible as a victim (R147). -/
def eligible (s : State) (k : Nat) : Bool :=
  let w := wayAt s k
  w.res && !w.pin && !w.quar && w.rsvBy.isNone && w.fwd.isNone && !(decide (k % 4 < fixedWays s (k / 4))) && !wayBusy s k

/-- The baseline score (R148), under a DIRTY_BIAS. -/
def score (s : State) (bias k : Nat) : Nat := heatOf s k + (if (wayAt s k).dirty then bias else 0)

/-- The hint for a set, if one is valid in the running epoch (R482). -/
def hintFor (s : State) (set : Nat) : Option Nat :=
  match tblFind s.plc.hints (tscSet set) with
  | none => none
  | some h =>
    let e := s.epochCnt % 2 ^ 14
    let x := ((s.plc.cores.getD (h.writer / 4) (Core.reset 4)).ctxs.getD (h.writer % 4) Ctx.reset)
    if h.tag = set / 2 ^ 17 % 2 ^ 15 ∧ (h.epoch + 1) % 2 ^ 14 = e ∧ x.reached ∧ h.valid then some h.way else none

/-- What victim choice answers. -/
inductive Choice where
  | free (k : Nat)
  | hint (k : Nat)
  | base (k : Nat)
  | none
  deriving DecidableEq, Repr

def Choice.way : Choice → Option Nat
  | .free k | .hint k | .base k => some k
  | .none => Option.none

/-- What a victim selection reads as it begins (R151, R160): the hint, where HINT_EN is 1, and DIRTY_BIAS. -/
def selection (s : State) (set : Nat) : Option Nat × Nat :=
  (if flag s Reg.TAG_VICT_CFG 8 then (hintFor s set).map (4 * set + ·) else none, fld s Reg.TAG_VICT_CFG 7 0)

/-- Choose a victim way in a set (R148) under what the selection reads, and whether a hint was rejected. -/
def chooseVictim (s : State) (set : Nat) (sel : Option Nat × Nat) : Choice × Bool :=
  let base := match bestBy (fun a b => score s sel.2 a < score s sel.2 b) ((waysOfSet set).filter (eligible s)) with
    | some k => Choice.base k
    | none => Choice.none
  match (waysOfSet set).find? (freeWay s), sel.1 with
  | some k, _ => (.free k, false)
  | none, some k => if eligible s k then (.hint k, false) else (base, true)
  | none, none => (base, false)

/-- Count what the hint table says at a selection: a hint, or one not used (R482). -/
def tellHint (set : Nat) (s : State) : State :=
  if (tblFind s.plc.hints (tscSet set)).isNone then s
  else tally (if (hintFor s set).isSome then Ctr.HINT_LIVE else Ctr.HINT_VOID) 1 s

/-- Count a choice. -/
def tellChoice (s : State) (c : Choice × Bool) : State :=
  let s := if c.2 then tally Ctr.TAG_HINT_REJECT 1 s else s
  match c.1 with
  | .hint k => let s := tally Ctr.TAG_HINT_USED 1 s; if (wayAt s k).dirty then tally Ctr.TAG_VICT_DIRTY 1 s else s
  | .base k => let s := tally Ctr.TAG_VICT_BASELINE 1 s; if (wayAt s k).dirty then tally Ctr.TAG_VICT_DIRTY 1 s else s
  | _ => s

/-! ### Retirement -/

/-- A way that a request has reserved and not used becomes available again. -/
def dropReserved (t : Txn) (s : State) : State :=
  eachIn (waysOfSet (setOfSk s t.sk)) (fun k s =>
    if (wayAt s k).rsvBy = some t.id then onWay k (fun w => { w with rsvBy := none }) s else s) s

/-- The outcome of a retired lookup (R162). -/
def tellLook (t : Txn) (s : State) : State :=
  match t.look with
  | some n => tally (if n = 0 then Ctr.TAG_HIT else if n = 1 then Ctr.TAG_MISS else Ctr.TAG_LINE_MISS) 1 s
  | none => s

/-- A request retires: its entry goes back to the class it came from (R90). A demand hit or fill adds to the heat (R129). -/
def retireWith (id : Nat) (poison : Bool) (s : State) : State :=
  match txnAt s id with
  | none => s
  | some t =>
    let s := tellLook t (if t.pool = .none then s else sampleTxn t poison s)
    let s := match findWay s t.sk with
      | some k => if t.demand then heatUp k s else s
      | none => s
    let s := dropReserved t s
    onCache (fun c => { c with
      txns := c.txns.filter (·.id != id), ops := c.ops.map fun o => { o with waits := o.waits.filter (· != id) } }) s

def retire (id : Nat) (s : State) : State := retireWith id false s

end Sys2Proof.Machine
end

