-- ==== Sys2Proof/Machine/Snoop.lean ====
section
/-! DEFINITION. The snoop filter (R200 to R212), BISnps (R213 to R219), and a host port's link going down (R110). -/

namespace Sys2Proof.Machine

open Sys2Proof

/-! ### Entries -/

/-- Snoop-filter set of a cache set (R203). -/
def sfSet (set : Nat) : Nat := set % 2 ^ 20

/-- The key of the valid entry that tracks a way. -/
def sfFind (s : State) (k : Nat) : Option Nat :=
  ((List.range 8).map (8 * sfSet (k / 4) + ·)).find? fun i =>
    match tblFind s.cache.sf i with
    | some e => e.way == k % 4 && e.stag == k / 4 / 2 ^ 20 && !e.bsusp
    | none => false

/-- A walk of the snoop-filter set of a way is queued or running (R212). -/
def walking (s : State) (k : Nat) : Bool := s.cache.walks.any (·.set == sfSet (k / 4))

/-- The state that the snoop filter shows for line j at port p (R212: unknown counts as A while a walk runs). -/
def hostSt (s : State) (k j p : Nat) : HSt :=
  match sfFind s k with
  | some i => ((tblFind s.cache.sf i).map fun e => e.st.getD (4 * j + p) .i).getD .i
  | none => if walking s k ∧ p < portCount s ∧ (port s p).up then .a else .i

/-- The state recorded in an entry. -/
def sfSt (s : State) (k j p : Nat) : HSt :=
  match sfFind s k with
  | some i => ((tblFind s.cache.sf i).map fun e => e.st.getD (4 * j + p) .i).getD .i
  | none => .i

/-- Any host copy of a way. -/
def hostCopies (s : State) (k : Nat) : Bool :=
  (List.range 4).any fun j => (List.range 4).any fun p => hostSt s k j p != .i

/-- Free an entry. -/
def sfFree (i : Nat) (s : State) : State :=
  tally Ctr.COH_SF_FREE 1 (onCache (fun c => { c with sf := tblDel c.sf i }) s)

/-- An entry of a set is used: allocated, or granted a copy (R207). -/
def sfUse (i : Nat) (s : State) : State := onCache (fun c => { c with sfUsed := tblSet 0 c.sfUsed (i / 8) i }) s

/-- Record a host state; an entry whose fields are all I is freed (R206). -/
def setHost (k j p : Nat) (h : HSt) (s : State) : State :=
  match sfFind s k with
  | none => s
  | some i =>
    match tblFind s.cache.sf i with
    | none => s
    | some e =>
      let st := setAt e.st (4 * j + p) fun _ => h
      if st.all (· == .i) then sfFree i s
      else
        let s := if h = .i then s else sfUse i s
        onCache (fun c => { c with sf := tblPut c.sf i { e with st := st, nru := e.nru || h != .i } }) s

/-- The sector key of an entry. -/
def skOfSf (s : State) (i : Nat) (e : SfE) : Nat :=
  let k := 4 * (e.stag * 2 ^ 20 + i / 8) + e.way
  skOfWay s k (wayAt s k)

/-- An entry may be chosen as a victim: its sector is not Busy, it is not suspect (R207). -/
def sfEligible (s : State) (i : Nat) : Bool :=
  match tblFind s.cache.sf i with
  | some e =>
    let sk := skOfSf s i e
    !e.bsusp && !s.cache.txns.any (fun t => t.sk == sk && t.holder && t.busy) && !s.cache.bis.any (·.sk == sk)
  | none => false

/-- The victim entry of a set (R207), with the NRU bits it leaves. -/
def sfVictim (s : State) (x : Nat) : Option (Nat × State) :=
  let cs := ((List.range 8).map (8 * x + ·)).filter (sfEligible s)
  let nru := fun (s : State) (i : Nat) => ((tblFind s.cache.sf i).map (·.nru)).getD false
  let noA := fun (s : State) (i : Nat) => ((tblFind s.cache.sf i).map fun e => !e.st.contains .a).getD false
  let pick := fun (s : State) =>
    (if flag s Reg.COH_SF_CFG 0 then cs.find? fun i => !nru s i && noA s i else none) <|> cs.find? fun i => !nru s i
  match pick s with
  | some i => some (i, s)
  | none =>
    match cs with
    | [] => none
    | first :: _ =>
      let used := tblGet 0 s.cache.sfUsed x
      let clr : Nat × SfE → Nat × SfE := fun e =>
        if cs.contains e.1 && (e.1 != used) then (e.1, { e.2 with nru := false }) else e
      let s' := onCache (fun c => { c with sf := c.sf.map clr }) s
      some ((pick s').getD first, s')

/-- A free place in the set of a way. -/
def sfPlace (s : State) (k : Nat) : Option Nat :=
  ((List.range 8).map (8 * sfSet (k / 4) + ·)).find? fun i => (tblFind s.cache.sf i).isNone

/-- Allocate an entry for a way (R206). While a walk of its set is queued or running it shows every port as holding every present
line in A (R212), so that a copy which the walk has yet to find is not lost sight of. -/
def sfAlloc (i k : Nat) (s : State) : State :=
  let st := (List.range 16).map fun n =>
    if walking s k && ((wayAt s k).line (n / 4)).ls != .invalid && decide (n % 4 < portCount s) && (port s (n % 4)).up then HSt.a else .i
  let e : SfE := ⟨k % 4, k / 4 / 2 ^ 20, true, false, st⟩
  sfUse i (tally Ctr.COH_SF_ALLOC 1 (onCache (fun c => { c with sf := tblPut c.sf i e }) s))

/-! ### Sending BISnps (R215) -/

/-- DAs of this device under which a sector appears: windows that map to its home and base (R50), and the window whose entry is being
invalidated (R55). -/
def dasOfSk (s : State) (sk : Nat) : List Nat :=
  let b := skSo sk / 2 ^ 28
  let low := skSo sk % 2 ^ 28 * 256
  let listed := (s.hpt.hmap.filter fun e => e.2.valid && homeOf s e.2 == skHome sk && e.2.base == b).map (·.1)
  let all := if isLocal s sk ∧ (tblFind s.hpt.hmap b).isNone then listed ++ [b] else listed
  let all := match s.hpt.pend with
    | some (w, key) => if sk / 2 ^ 28 = key then all ++ [w] else all
    | none => all
  all.map fun w => w * 2 ^ 36 + low

/-- The HPA under which port p maps a line of a sector (R48). -/
def hpaOf (s : State) (p sk j : Nat) : Nat :=
  ((dasOfSk s sk).findSome? fun da => encodeDa (port s p) (da + 64 * j)).getD 0

/-- BISnps outstanding at a port. -/
def biOut (s : State) (p : Nat) : Nat := (s.cache.bis.filter fun b => b.port == p && b.sent.isSome).length

/-- The same BISnp: port, line and kind. -/
def Bi.same (a b : Bi) : Bool := a.port == b.port && a.sk == b.sk && a.line == b.line && a.dat == b.dat

/-- Another BISnp of the line is outstanding at the port (R215). -/
def biAhead (s : State) (b : Bi) : Bool :=
  s.cache.bis.any fun y => y.port == b.port && y.sk == b.sk && y.line == b.line && y.sent.isSome

/-- Send what waits, in order, under host credits and the limit, one at a time per line and port; none after Fence begins (R215,
R231). -/
def biPump (s : State) : State :=
  eachIn (s.cache.bis.filter (·.sent.isNone)) (fun b s =>
    let max_ := clampTo 1 2048 (fld s Reg.COH_BI_CFG 21 10)
    if s.rsv.pst = .run ∧ 0 < (port s b.port).bisnp ∧ biOut s b.port < max_ ∧ ¬ biAhead s b then
      let s := onPort b.port (fun x => { x with bisnp := x.bisnp - 1 }) s
      let s := onCache (fun c => { c with bis := c.bis.map fun y => if y.same b then { y with sent := some s.tb } else y }) s
      let s := tally (if b.dat then Ctr.COH_BISNP_DATA else Ctr.COH_BISNP_INV) 1 s
      let s := if b.walk then tally Ctr.COH_SF_WALK_SNOOP 1 s else s
      emit (.bisnp b.port b.hpa (if b.dat then "BISnpData" else "BISnpInv")) s
    else s) s

/-- Queue a BISnp of a line of way k to a port whose link is up (R215). One that waits or is outstanding already does for it, but a
BISnpData not for a BISnpInv. -/
def biAdd (p k j : Nat) (dat walk : Bool) (s : State) : State :=
  let sk := skOfWay s k (wayAt s k)
  let does := fun (b : Bi) => b.port == p && b.sk == sk && b.line == j && (dat || !b.dat)
  if (port s p).up = false then s
  else if s.cache.bis.any does then
    onCache (fun c => { c with bis := c.bis.map fun b => if does b then { b with walk := b.walk || walk } else b }) s
  else onCache (fun c => { c with bis := c.bis ++ [⟨p, sk, j, dat, k, hpaOf s p sk j, none, 0, false, walk⟩] }) s

/-- What a request asks of the other hosts (R213). -/
inductive Want where
  /-- BISnpData to each in A. -/
  | data
  /-- BISnpInv to each in S or A. -/
  | inv
  deriving DecidableEq, Repr

/-- The ports to snoop for line j of way k, without port `skip`. -/
def snoopPorts (s : State) (k j : Nat) (skip : Option Nat) (w : Want) : List Nat :=
  (List.range (portCount s)).filter fun p => some p != skip && (port s p).up &&
    (match w with | .data => hostSt s k j p == .a | .inv => hostSt s k j p != .i)

/-- Queue the snoops of a line. -/
def snoopLine (k j : Nat) (skip : Option Nat) (w : Want) (s : State) : State :=
  biPump (eachIn (snoopPorts s k j skip w) (fun p s => biAdd p k j (w == .data) false s) s)

/-- Queue BISnpInv for every line of a way to every port that holds it. -/
def snoopAll (k : Nat) (s : State) : State := upTo 4 (fun j s => snoopLine k j none .inv s) s

/-- BISnps of a sector are outstanding or wait. -/
def biBusy (s : State) (sk : Nat) : Bool := s.cache.bis.any (·.sk == sk)

/-- A BISnp has been answered, or counts as answered. -/
def biDone (b : Bi) (h : HSt) (s : State) : State :=
  setHost b.way b.line b.port h (onCache (fun c => { c with bis := c.bis.filter fun y => !y.same b }) s)

/-! ### Upsets (R210, R211) -/

/-- A PAR_S error in the entry of a way: every present line is back-invalidated at every port; the entry is freed when
all are answered (R210). The entry is made to show A everywhere, so that the answers empty it. -/
def sfParS (k : Nat) (s : State) : State :=
  match sfFind s k with
  | none => s
  | some i =>
    match tblFind s.cache.sf i with
    | none => s
    | some e =>
      let w := wayAt s k
      let st := (List.range 16).map fun n =>
        if (w.line (n / 4)).ls ≠ .invalid ∧ n % 4 < portCount s ∧ (port s (n % 4)).up then HSt.a else HSt.i
      let s := raise Ev.cohSfParity (dataLoc (k / 4) (k % 4)) (256 * (k % 4)) (rcCount Reg.COH_SF_STS 15 0 1 s)
      if st.all (· == .i) then sfFree i s
      else snoopAll k (onCache (fun c => { c with sf := tblPut c.sf i { e with st := st } }) s)

/-- A PAR_A error in an entry of the snoop-filter set of a way: the entry is suspect and its walk is queued (R211). -/
def sfParA (k : Nat) (s : State) : State :=
  match sfFind s k with
  | none => s
  | some i =>
    match tblFind s.cache.sf i with
    | none => s
    | some e =>
      let x := sfSet (k / 4)
      let s := onCache (fun c => { c with sf := tblPut c.sf i { e with bsusp := true }, walks := c.walks ++ [⟨x, i, false⟩] }) s
      raise Ev.cohSfSuspect (dataLoc (k / 4) (k % 4)) (256 * (k % 4)) (rcCount Reg.COH_SF_STS 15 0 1 s)

/-! ### A host link goes down (R110, R114, R232) -/

/-- The part of a link down that concerns the port alone: writes already received stay, results are discarded, BISnps
count as answered with I, the port's snoop-filter fields become I, credits, headrooms, fences and commands go. FENCE_DONE keeps its
value (R114). A decoder's walk has nothing left to wait for: its change is made, and the messages that it held go on as soon as
the work inside the device is looked at again. -/
def portDown (p : Nat) (s : State) : State :=
  let s := eachIn (s.cache.bis.filter (·.port == p)) (fun b s => biDone b .i s) s
  let s := onCache (fun c => { c with
    sf := (c.sf.map fun e => (e.1, { e.2 with st := (List.range 16).map fun n =>
      if n % 4 = p then HSt.i else e.2.st.getD n .i })).filter fun e => e.2.bsusp || e.2.st.any (· != .i),
    txns := (c.txns.filter fun t => !(t.src == .mbox p && t.kind == .cmd)).map fun t =>
      if t.src = .hp p ∨ t.src = .mbox p then { t with gone := true, cred := false } else t,
    fences := c.fences.filter fun f => f.port != p || (match f.via with | .gpf => true | _ => false),
    ops := c.ops.filter (·.port != p) }) s
  let s := onPort p (fun x => { x with up := false, req := 0, rwd := 0, head := 0, headWt := 0, owed := [], bisnp := 0,
                                       ioCr := [], gpf := false,
                                       hdm := x.walk.foldl (fun h w => setAt h w.1 fun _ => w.2) x.hdm, walk := [],
                                       heldReqs := x.heldReqs.map fun h => { h with txn := { h.txn with gone := true } } }) s
  let s := onSec (fun x => { x with ideMem := tblDel x.ideMem p, ideIo := tblDel x.ideIo p }) s
  let s := onIo (dropHeld p) s
  let s := if s.mgt.boot.transfer = some p then
    { s with mgt := { s.mgt with boot := { s.mgt.boot with transfer := none } } } else s
  onRsv (fun r => { r with waiters := r.waiters.filter (·.1 != p) }) s

/-- Link down of a host port, with its event and the fall of an owner behind it (R110, R591). -/
def hostDown (p : Nat) (s : State) : State :=
  if (port s p).up then
    vacateIf (.hm (Fin.ofNat 4 p)) (raise Ev.hpLinkDown 0 p (portDown p s))
  else s

end Sys2Proof.Machine
end

