-- ==== Sys2Proof/Machine/Copies.lean ====
section
/-! DEFINITION. Writing lines and copying them: placement of writes (R122, R123, R177, R678), write-back, write-through and
eviction copies (R165 to R167, R171, R175), the poison list (R111). -/

namespace Sys2Proof.Machine

open Sys2Proof

/-! ### Line contents -/

/-- Merge the enabled bytes of `new` into `old`. -/
def mergeBytes (old new : Line) (m : LineMask) : Line :=
  BitVec.ofNat 512 ((List.range 64).foldl (fun acc i =>
    acc + (if m.getLsbD i then bitsOf new.toNat (8 * i + 7) (8 * i) else bitsOf old.toNat (8 * i + 7) (8 * i)) * 2 ^ (8 * i)) 0)

/-- What a line reads as. -/
def LineSt.value (l : LineSt) : Line :=
  match l.ls with
  | .clean | .dirty => l.data
  | _ => 0

/-- Reads of the line return poison. -/
def LineSt.bad (l : LineSt) : Bool := l.ls == .poisonClean || l.ls == .poisonDirty

/-- A mask that covers the whole line. -/
def fullMask : LineMask := BitVec.allOnes 64

/-- The line after a write (R122, R123, R166, R678): its charge class stays where it was charged under the cache term. -/
def LineSt.write (l : LineSt) (data : Line) (m : LineMask) (poison wt : Bool) : LineSt :=
  { ls := if poison ∨ (l.bad ∧ m ≠ fullMask) then .poisonDirty else .dirty,
    stamp := if l.pend then (l.stamp + 1) % 16 else l.stamp,
    pend := false,
    wt := if l.inCache then l.wt else wt,
    data := if poison ∨ (l.bad ∧ m ≠ fullMask) then 0 else mergeBytes l.value data m }

/-- Write line j of way k; the line-2 burst takes the heat with it (R130). A failed channel discards the data (R423), as DRAM does after a Quench (R568). -/
def writeLine (k j : Nat) (data : Line) (m : LineMask) (poison wt : Bool) (s : State) : State :=
  let s := burstsWritten k [j] s
  if setFailed s (k / 4) ∨ s.sec.quenched then s
  else markRegion (k / 4) (carryHeat k j (onWay k (fun w => w.onLine j (·.write data m poison wt)) s))

/-- Enter a line in the poison list: GA[59:6] (R111). -/
def addPoison (sk j : Nat) (s : State) : State :=
  if s.cache.poison.contains (4 * sk + j) then s
  else onCache (fun c => { c with poison := insertBy (· < ·) (4 * sk + j) c.poison }) s

/-- Array error handling poisons a line (R155, R411): dirty poison where it was dirty. -/
def poisonLine (k j : Nat) (dirty : Bool) (s : State) : State :=
  let s := onWay k (fun w => w.onLine j fun l =>
    { l with ls := if dirty then .poisonDirty else .poisonClean, data := 0,
             pend := false }) (burstsWritten k [j] s)
  let s := if dirty then markRegion (k / 4) s else s
  addPoison (skOfWay s k (wayAt s k)) j s

/-! ### The write-back buffer -/

/-- Entries in use: copies, and dirty data of remote victims that waits for CMP (R163, R263, R265). -/
def wbUse (s : State) : Nat := s.cache.wb.length + (s.fab.wbs.filter fun w => !w.keep && !w.free_).length

/-- Room for one more entry: eviction copies may use every entry (R175). -/
def wbRoom (s : State) (evict : Bool) : Bool :=
  if evict then wbUse s < 8192 else wbUse s < 8192 ∧ min 4096 (fld s Reg.WBF_WB_CFG 28 16) ≤ 8192 - wbUse s

def wbEntry (s : State) (sk : Nat) : Option WbE := s.cache.wb.find? (·.sk == sk)

/-- A write-through copy of a sector's line can be taken now: in its entry, or in a new one (R175). -/
def copyRoom (s : State) (sk : Nat) : Bool := (wbEntry s sk).isSome || wbRoom s false

/-- Room for write-through copies that need n new entries (R175). -/
def wtRoom (s : State) (n : Nat) : Bool :=
  n == 0 || decide (wbUse s + n ≤ 8192) && decide (wbUse s + n ≤ 8193 - min 4096 (fld s Reg.WBF_WB_CFG 28 16))

/-- The buffer is found full: once per occurrence (R198). -/
def tellWbFull (s : State) : State :=
  if s.cache.wbFull then s else raise Ev.wbfFull 0 0 (onCache (fun c => { c with wbFull := true }) s)

/-- A copy of the line is in the buffer or in staging (R167). -/
def inFlight (s : State) (sk j : Nat) : Bool :=
  (((wbEntry s sk).bind (·.lines.getD j none)).isSome) ||
    s.med.jrnl.staging.any fun p => p.recs.any fun r =>
      r.ty != .foreign && isLocal s sk && decide (r.so ≤ skSo sk) && decide (skSo sk < r.so + r.secs.length) &&
        ((r.secs.getD (skSo sk - r.so) []).getD j none).isSome

/-- Put copied lines into the entry of their sector, or into a new one. A line already held is overwritten, its waiting
requests stay. An entry with a write-back or write-through copy in it is none of eviction copies alone: its lines are cleaned at their
completion (R168). -/
def putCopies (sk encl : Nat) (kind : CopyKind) (ls : List (Option CLine)) (s : State) : State :=
  match wbEntry s sk with
  | some e =>
    let join : Nat → Option CLine := fun j =>
      match ls.getD j none, e.lines.getD j none with
      | some n, some o => some { n with wait := o.wait ++ n.wait }
      | some n, none => some n
      | none, o => o
    let e' := { e with lines := (List.range 4).map join, kind := if kind = .evict then e.kind else kind }
    onCache (fun c => { c with wb := c.wb.map fun x => if x.sk = sk then e' else x }) s
  | none =>
    let e : WbE := { sk := sk, kind := kind, encl := encl, lines := (List.range 4).map (ls.getD · none), at_ := s.tb,
                     told := false }
    peak Reg.WBF_PEAK 13 0 (wbUse s + 1) (onCache (fun c => { c with wb := c.wb ++ [e] }) s)

/-- The copy of a line as it stands. -/
def LineSt.copy (l : LineSt) (wait : List Nat) : CLine :=
  ⟨l.ls, if l.ls = .dirty then l.data else 0, l.stamp, l.wt, wait⟩

/-- Take a write-back or write-through copy of some lines of a way: each is marked pending (R165, R166). -/
def copyLines (k : Nat) (js : List Nat) (kind : CopyKind) (wait : List Nat) (s : State) : State :=
  let w := wayAt s k
  let ls := (List.range 4).map fun j => if js.contains j then some ((w.line j).copy wait) else none
  let s := putCopies (skOfWay s k w) w.encl kind ls s
  let s := onWay k (fun w => js.foldl (fun w j => w.onLine j fun l => { l with pend := true }) w) s
  tally (if kind = .wt then Ctr.WBF_WT_COPY else Ctr.WBF_WB_COPY) js.length s

/-- Lines of a victim for which an eviction copy is taken (R167): dirty, and no copy in flight with the same STAMP. -/
def evictLines (w : Way) : List Nat := (List.range 4).filter fun j => (w.line j).ls.charged && !(w.line j).pend

/-- Take the eviction copies of a local victim (R149, R167). -/
def copyVictim (k : Nat) (s : State) : State :=
  let w := wayAt s k
  let sk := skOfWay s k w
  let js := evictLines w
  let skip := ((List.range 4).filter fun j => (w.line j).ls.charged && (w.line j).pend).length
  let merge := ((js.filter fun j => (((wbEntry s sk).bind (·.lines.getD j none)).isSome))).length
  let s := tally Ctr.WBF_EVICT_SKIP skip (tally Ctr.WBF_EVICT_MERGE merge (tally Ctr.WBF_EVICT_COPY js.length s))
  if js.isEmpty then s
  else
    let ls := (List.range 4).map fun j => if js.contains j then some ((w.line j).copy []) else none
    putCopies sk w.encl .evict ls s

/-- A new entry would be needed for the eviction copies of a victim. -/
def needsEntry (s : State) (k : Nat) : Bool :=
  !(evictLines (wayAt s k)).isEmpty && (wbEntry s (skOfWay s k (wayAt s k))).isNone

end Sys2Proof.Machine
end

