-- ==== Sys2Proof/Machine/Dir.lean ====
section
/-! DEFINITION. The fabric directory (R245 to R252), the snoops a home sends (R256, R257), their answers, and dirty data
sent home by a holder (R263). -/

namespace Sys2Proof.Machine

open Sys2Proof

/-! ### Entries -/

/-- Directory set of a cache set (R245). -/
def dirSet (set : Nat) : Nat := set % 2 ^ 18

/-- The key of the entry that tracks a way. -/
def dirFind (s : State) (k : Nat) : Option Nat :=
  ((List.range 8).map (8 * dirSet (k / 4) + ·)).find? fun i =>
    match tblFind s.cache.dir i with
    | some e => e.way == k % 4 && e.dtag == k / 4 / 2 ^ 18
    | none => false

def dirAt (s : State) (k : Nat) : Option DirE := (dirFind s k).bind (tblFind s.cache.dir ·)

/-- Named devices of an entry. -/
def DirE.named (e : DirE) : List Nat := e.ptr.filterMap id

/-- Members of a sharing domain, this device left out (R243). -/
def domDevs (s : State) (d : Nat) : List Nat :=
  (s.hpt.dom.filter fun x => x.2 % 64 == d && x.1 != devId s).map (·.1)

/-- Devices an entry stands for: named and overflow sharers (R250). -/
def DirE.devs (s : State) (e : DirE) : List Nat :=
  e.named ++ (if e.b then (domDevs s e.dom).filter fun d => !(e.named.contains d) else [])

/-- Devices with a route (R252). -/
def routedDevs (s : State) : List Nat :=
  (s.fab.routes.filter fun r => bitsOf r.2 17 17 == 1 && r.1 != devId s).map (·.1)

/-- Free an entry. -/
def dirFree (i : Nat) (s : State) : State :=
  tally Ctr.DIR_FREE 1 (onCache (fun c => { c with dir := tblDel c.dir i }) s)

/-- Store an entry; one that names nobody is freed (R249). -/
def putDir (i : Nat) (e : DirE) (s : State) : State :=
  if e.named.isEmpty ∧ e.b = false then dirFree i s
  else onCache (fun c => { c with dir := tblPut c.dir i e }) s

/-- Empty the pointers that name a device. -/
def DirE.without (e : DirE) (d : Nat) : DirE := { e with ptr := e.ptr.map fun p => if p = some d then none else p }

/-- A device no longer holds the sector of a way (R249). -/
def dirDrop (k d : Nat) (s : State) : State :=
  match dirFind s k with
  | none => s
  | some i =>
    match tblFind s.cache.dir i with
    | none => s
    | some e => putDir i (e.without d) s

/-- Every sharer has been invalidated: the entry goes. -/
def dirClear (k : Nat) (s : State) : State :=
  match dirFind s k with
  | none => s
  | some i => dirFree i s

/-- Device d is in a domain (R243): DOM + 64 × MEMBER of a valid entry. -/
def domOf (s : State) (d : Nat) : Option Nat := (tblFind s.hpt.dom d).map (· % 64)

/-- What adding a sharer asks for (R248). -/
inductive AddSharer where
  | done (e : DirE)
  | flush
  deriving DecidableEq, Repr

/-- Add a sharer (R248): cases 1 to 4, or invalidate every sharer first. -/
def addSharer (s : State) (e : DirE) (q : Nat) : AddSharer :=
  if e.ptr.contains (some q) then .done e
  else
    match findPos (· == none) e.ptr with
    | some i => .done { e with ptr := setAt e.ptr i fun _ => some q }
    | none =>
      match domOf s q with
      | some d => if ¬ e.b then .done { e with b := true, dom := d } else if e.dom = d then .done e else .flush
      | none => .flush

/-- A free place in the directory set of a way: one whose last entry's recall has ended. -/
def dirPlace (s : State) (k : Nat) : Option Nat :=
  ((List.range 8).map (8 * dirSet (k / 4) + ·)).find? fun i =>
    (tblFind s.cache.dir i).isNone && !s.fab.snps.any (·.txn == 2 ^ 20 + i)

/-- The sector of an entry. -/
def skOfDir (s : State) (i : Nat) (e : DirE) : Nat :=
  let k := 4 * (e.dtag * 2 ^ 18 + i / 8) + e.way
  skOfWay s k (wayAt s k)

/-- The way of an entry. -/
def wayOfDir (i : Nat) (e : DirE) : Nat := 4 * (e.dtag * 2 ^ 18 + i / 8) + e.way

/-- The victim of a directory set (R251). -/
def dirVictim (s : State) (x : Nat) : Option Nat :=
  let cs := ((List.range 8).map (8 * x + ·)).filter fun i =>
    match tblFind s.cache.dir i with
    | some e =>
      let sk := skOfDir s i e
      !s.cache.txns.any (fun t => t.sk == sk && t.holder && t.busy) && !s.fab.snps.any (fun y => y.txn == 2 ^ 20 + i) &&
        !s.cache.bis.any (·.sk == sk)
    | none => false
  let at_ := fun i => (tblFind s.cache.dir i).getD ⟨0, 0, false, false, 0, []⟩
  let ns := fun i => (at_ i).named.length
  bestBy (fun a b => ns a < ns b) (cs.filter fun i => !(at_ i).excl && !(at_ i).b) <|>
    (cs.find? fun i => !(at_ i).excl) <|> cs.head?

/-! ### Snoops (R256, R272) -/

/-- A fresh message of this device about a sector. -/
def msgTo (s : State) (opc dst tid gen sk : Nat) : FMsg := FMsg.mk0 opc dst (ownNode s) tid gen sk

/-- The TID of a request of this device (R253). -/
def ownTid (s : State) (t : Txn) : Nat := ownNode s * 2 ^ 22 + t.id % 2 ^ 14 * 256 + t.gen

/-- Send a snoop for a transaction: under the TID of the request it serves. No snoop is sent after Fence began (R231). -/
def sendSnoop (id opc dev : Nat) (fwd bcast : Bool) (tid gen sk : Nat) (s : State) : State :=
  if s.rsv.pst ≠ .run ∧ s.rsv.pst ≠ .startup then s
  else if s.fab.snps.any (fun x => x.txn == id && x.holder == dev) then s
  else
    let s := onFab (fun f => { f with snps := f.snps ++ [⟨id, dev, sk, opc, fwd, s.tb, 0⟩] }) s
    let s := tally Ctr.FX_SNP_SENT 1 s
    let s := if bcast then tally Ctr.FX_SNP_BCAST 1 s else s
    sendMsg { msgTo s opc (dev * 64) tid gen sk with flags := if fwd then 1 else 0 } s

/-- Snoops of a transaction are outstanding. -/
def snpBusy (s : State) (id : Nat) : Bool := s.fab.snps.any (·.txn == id)

/-- Invalidate every device that holds a sector (R250): each is sent SNP_INV with FWD = 0. -/
def recallAll (id k tid gen sk : Nat) (but : Option Nat) (s : State) : State :=
  match dirAt s k with
  | none => s
  | some e => eachIn ((e.devs s).filter fun d => some d != but) (fun d s =>
      sendSnoop id Op.snpInv d false (!(e.named.contains d)) tid gen sk s) s

/-! ### Upsets (R252) -/

/-- A PAR_P error: SNP_INV to every routed device, then the entry is freed. The pseudo-transaction of an entry is
2^20 + its key. -/
def dirParP (k : Nat) (s : State) : State :=
  match dirFind s k with
  | none => s
  | some i =>
    let s := raise Ev.dirParity (dataLoc (k / 4) (k % 4)) (256 * (k % 4)) (rcCount Reg.COH_DIR_STS 15 0 1 s)
    let sk := skOfWay s k (wayAt s k)
    let ds := routedDevs s
    if ds.isEmpty then dirFree i s
    else eachIn ds (fun d s => sendSnoop (2 ^ 20 + i) Op.snpInv d false true (ownNode s * 2 ^ 22) 0 sk s) s

/-- A PAR_A error: the entry is cleared and its set is suspect until the next restart. -/
def dirParA (k : Nat) (s : State) : State :=
  match dirFind s k with
  | none => s
  | some i =>
    let s := raise Ev.dirParity (dataLoc (k / 4) (k % 4)) (256 * (k % 4)) (rcCount Reg.COH_DIR_STS 15 0 1 s)
    let s := onCache (fun c => { c with dir := tblDel c.dir i,
                                        dirSusp := if c.dirSusp.contains (dirSet (k / 4)) then c.dirSusp
                                          else c.dirSusp ++ [dirSet (k / 4)] }) s
    raise Ev.dirSuspect (dataLoc (k / 4) (k % 4)) (256 * (k % 4)) s

/-! ### Dirty data of remote sectors (R263, R265) -/

/-- The line states and data of a way as a message carries them: Dirty-Zero and poisoned lines carry zeros (R253). -/
def wayLst (w : Way) : List LS := (List.range 4).map fun j => (w.line j).ls
def wayBlk (w : Way) : List (Option Line) := (List.range 4).map fun j => some (w.line j).value

/-- A TID that no returned data awaiting CMP uses. -/
def freshWbTid (s : State) : Nat :=
  let at_ := fun i => ownNode s * 2 ^ 22 + (2 ^ 13 + i % 2 ^ 13) * 256
  (((List.range (s.fab.wbs.length + 1)).map at_).find? fun t => !s.fab.wbs.any (·.tid == t)).getD (at_ 0)

/-- Send dirty lines of a remote sector to its home and remember them until CMP. -/
def sendWb (w : Way) (sk : Nat) (keep fhb held : Bool) (wait : List Nat) (s : State) : State :=
  let tid := freshWbTid s
  let ls := (List.range 4).map fun j => if (w.line j).ls.charged then some ((w.line j).copy wait) else none
  let m := { msgTo s (if fhb then Op.fhb else Op.wb) (skHome sk * 64) tid 0 sk with
             flags := (if keep then 4 else 0) + (if held then 16 else 0),
             lst := (List.range 4).map (fun j => if (w.line j).ls.charged then (w.line j).ls else .invalid),
             blk := wayBlk w }
  let (p, s) := sendVia none m 0 s
  let s := if fhb then tally Ctr.FHB_SENT 1 s else s
  onFab (fun f => { f with wbs := f.wbs ++ [⟨tid, 0, sk, skHome sk, keep, fhb, held, ls, false, s.tb, 0, p⟩] }) s

/-- Returned data or an eviction notice for the sector awaits CMP. -/
def wbAwaits (s : State) (sk : Nat) : Bool := s.fab.wbs.any (·.sk == sk)

/-- A WB (release) or EVC_E for the sector awaits CMP (R242). -/
def leftAwaits (s : State) (sk : Nat) : Bool := s.fab.wbs.any fun w => w.sk == sk && (!w.keep || w.lines.isEmpty)

/-- A WB for the sector awaits CMP (R260). -/
def dataAwaits (s : State) (sk : Nat) : Bool := s.fab.wbs.any fun w => w.sk == sk && !w.lines.isEmpty

/-- Requests whose data waits for the CMP of a write-back of their sector (R263). -/
def cmpWaits (s : State) (sk : Nat) : List Nat := (s.cache.txns.filter fun t => t.sk == sk && t.ph == .cmp).map (·.id)

/-- A write-back with KEEP of the dirty lines of a remote way: the lines are pending until CMP (R263, R265). -/
def sendKeep (k : Nat) (wait : List Nat) (s : State) : State :=
  let w := wayAt s k
  let sk := skOfWay s k w
  let s := sendWb w sk true false false wait s
  onWay k (fun w => { w with lines := w.lines.map fun l => if l.ls.charged then { l with pend := true } else l }) s

/-- A victim leaves the cache (R149, R263): host and remote copies are gone. Local dirty lines are copied; a remote dirty sector is released
to its home, or handed back to one that has restarted, with what waits for its write-backs (R276); a clean E copy is dropped, with notice
where `notify` says so. -/
def evictWay (k : Nat) (notify : Bool) (s : State) : State :=
  let w := wayAt s k
  let sk := skOfWay s k w
  let s :=
    if w.remote then
      let back := s.fab.back.contains (skHome sk)
      if w.dirty then sendWb w sk false back false (if back then cmpWaits s sk else []) s
      else if w.rstate = 2 ∧ notify ∧ ¬ back then
        let tid := freshWbTid s
        let s := sendMsg { msgTo s Op.evcE (skHome sk * 64) tid 0 sk with time := s.tb, tl := s.fab.locked } s
        onFab (fun f => { f with wbs := f.wbs ++ [⟨tid, 0, sk, skHome sk, true, false, false, [], true, s.tb, 0, 4⟩] }) s
      else s
    else copyVictim k s
  onWay k (fun x => { Way.empty with rsvBy := x.rsvBy }) s

/-- Quarantine a way (R156): it leaves lookups and victim choice, its charge stays as an over-count (R291). Host copies of its sector
are back-invalidated (R201) and remote ones invalidated (R250); the way keeps the sector's name until they are gone. An empty way that
a fill has reserved is about to be written whole, and is left to it. -/
def quarantine (k : Nat) (s : State) : State :=
  let w := wayAt s k
  if w.quar ∨ (w.rsvBy.isSome ∧ ¬ w.res) then s else
  let sk := skOfWay s k w
  let (d, u) := wayCharge w
  let (dw, uw) := wayWt w
  let s := onLdg (fun l => { l with
    excess := (l.excess.1 + d, l.excess.2 + u), excessWt := (l.excessWt.1 + dw, l.excessWt.2 + uw) }) s
  let s := onWay k (fun _ => { Way.empty with quar := true, tag := w.tag, remote := w.remote, home := w.home }) s
  let s := hwFld Reg.TAG_META_ERR_SET 31 0 (k / 4) (rcFlag Reg.TAG_TSC_STS 16 s)
  let s := snoopAll k (raise Ev.tagMetaLost (dataLoc (k / 4) (k % 4)) (256 * (k % 4)) s)
  match dirFind s k with
  | some i => recallAll (2 ^ 20 + i) k (ownNode s * 2 ^ 22) 0 sk none s
  | none => s

end Sys2Proof.Machine
end

