-- ==== Sys2Proof/Machine/Gates.lean ====
section
/-! DEFINITION. The steps a request goes through before it takes effect. Each answers one of: the request may go on; it
has made a move and is looked at again; it is blocked. -/

namespace Sys2Proof.Machine

open Sys2Proof

/-- What a gate answers. -/
inductive Gate where
  /-- The condition holds. -/
  | pass
  /-- A move was made towards it. -/
  | moved (s : State)
  /-- Nothing can be done now. -/
  | blocked

/-- What a request's next step answers: a new state, or blocked. -/
abbrev Move := Option State

/-- Go on with `f` once a gate passes. -/
def Gate.then_ (g : Gate) (f : Unit → Move) : Move :=
  match g with
  | .pass => f ()
  | .moved s => some s
  | .blocked => none

/-- A further gate after one that passes. -/
def Gate.andThen (g : Gate) (f : Unit → Gate) : Gate :=
  match g with
  | .pass => f ()
  | .moved s => .moved s
  | .blocked => .blocked

/-- Enter a wait; already in it, the request is blocked. -/
def waitIn (t : Txn) (p : Phase) (s : State) : Gate := if t.ph = p then .blocked else .moved (setPh t.id p s)

/-! ### Enclaves (R75, R549, R550) -/

/-- The check at the home for a sector offset. A CREATING or DESTROYING range passes only the zero-allocation of the
command that set it, which names the ID that the sectors take: the enclave's, or 0. -/
def rangeOk (s : State) (so encl : Nat) (own : Option Nat) : Bool :=
  match rangeOf s so with
  | none => true
  | some r =>
    match r.st with
    | .active => r.encl == encl
    | .creating => own == some r.encl
    | .destroying => own == some 0

/-- Requests that are checked: not the internal engines (R549). -/
def Txn.checked (t : Txn) : Bool :=
  match t.kind with
  | .writeOut _ | .fWb _ | .fFhb _ | .snpS _ | .snpInv _ | .snpCur _ | .evict | .cmd => false
  | .prefetch _ => t.src != .engine
  | .flush => t.tag == 0
  | _ => true

/-- The check of a request: the range table for a local sector; for a remote one, the sector's own field once resident. -/
def enclOk (s : State) (t : Txn) : Bool :=
  if ¬ t.checked then true
  else if isLocal s t.sk then
    rangeOk s (skSo t.sk) t.encl (match t.kind with | .zalloc e => e | _ => none)
  else
    match findWay s t.sk with
    | some k => (wayAt s k).encl == t.encl
    | none => true

/-- Count and report a failed check (R550). -/
def tellViolation (t : Txn) (s : State) : State :=
  let ho := 256 * skSo t.sk + 64 * t.line
  let src := match t.src with | .hp p => p | .fab _ => 4 | .mbox _ => 5 | .policy _ _ => 6 | .engine => 0
  let s := tally Ctr.SEC_VIOL 1 (rcCount Reg.SEC_VIOL_STS 15 0 1 s)
  let s := hwFld Reg.SEC_VIOL_STS 25 16 t.encl (hwFld Reg.SEC_VIOL_STS 29 26 src s)
  let s := hwFld Reg.SEC_VIOL_HO_LO 31 0 (ho % 2 ^ 32) (hwFld Reg.SEC_VIOL_HO_HI 15 0 (ho / 2 ^ 32) s)
  let active := ((rangeOf s (skSo t.sk)).map (·.st == .active)).getD true
  let lim := match t.src with | .hp p => p | .fab _ => 4 | .mbox p => 8 + p | _ => 12
  if active then
    onIo (raiseLimited (env s) 1000000 lim Ev.enclaveViolation (dataAddr 1 ho) src t.encl) s else s

/-! ### Range commands (R96) -/

/-- Rank of a window status: the first that applies to any sector wins (R96). -/
def statusRank : String → Nat
  | "UNMAPPED" => 4
  | "ENCLAVE_DENIED" => 3
  | "DIRTY_SKIPPED" => 2
  | "PARTIAL" => 1
  | _ => 0

/-- Note a sector's status in its window. -/
def noteStatus (win : Nat) (st : String) (o : RangeOp) : RangeOp :=
  if o.status.any (·.1 == win) then
    { o with status := o.status.map fun x => if x.1 = win ∧ statusRank x.2 < statusRank st then (win, st) else x }
  else { o with status := o.status ++ [(win, st)] }

/-- Note a status for the command that a request works for. -/
def noteTxn (t : Txn) (st : String) (s : State) : State :=
  let note : RangeOp → RangeOp := fun o => if o.waits.contains t.id then noteStatus (t.da / 2 ^ 36) st o else o
  let s := onCache (fun c => { c with ops := c.ops.map note }) s
  match t.kind, t.src with
  | .pin, .policy _ _ | .unpin, .policy _ _ => tally Ctr.PLC_CP3_REJECT 1 s
  | _, _ => s

/-! ### Failure (R53, R550) -/

/-- A fabric answer to a request that this home serves. -/
def reply (t : Txn) (s : State) (opc : Nat) : FMsg :=
  { FMsg.mk0 opc t.peer (ownNode s) t.tid t.fgen t.sk with encl := t.encl }

/-- Send a response and remember it until ACK (R270). -/
def respond (t : Txn) (m : FMsg) (s : State) : State :=
  let note : HRec → HRec := fun r => if r.txn = t.id ∧ r.tid = t.tid then { r with resp := some m, respAt := s.tb } else r
  sendMsg m (onFab (fun f => { f with recs := f.recs.map note }) s)

/-- The record of a transaction goes. -/
def dropRec (t : Txn) (s : State) : State := onFab (fun f => { f with recs := f.recs.filter (·.txn != t.id) }) s

/-- A request that came over the fabric. -/
def Txn.isFab (t : Txn) : Bool :=
  match t.src with
  | .fab _ => true
  | _ => false

/-- The descriptor of an APPEND is told that one of its record sectors cannot be used. -/
def failRecord (desc : Nat) (s : State) : State := onTxn desc (fun t => { t with bad := [0] }) s

/-- End a request without its effect: reads and atomics return poison, writes complete with their data discarded, a
fabric request is refused (R53, R54, R550). `cause` is the cause code of ERR. -/
def failTxn (t : Txn) (cause : Nat) (s : State) : State :=
  let s := releaseCredit t s
  let refuse := { reply t s Op.err with cause := cause }
  if t.isFab then
    match t.kind with
    | .fRdNA => retire t.id (dropRec t (sendMsg refuse s))
    | _ =>
      if t.kind.isSnoop ∨ t.kind.isReturn then retire t.id s
      else setPh t.id .ack (respond t refuse (onTxn t.id (fun t => { t with resv := .none, rsz := 0 }) s))
  else
    match t.kind with
    | .rdS | .rdO | .rdNA => retireWith t.id true (answer t "MemData" none true s)
    | .atomic _ | .append _ => retireWith t.id true (answer t "AtomicCpl" none true s)
    | .own | .wb | .wrNA => retire t.id (answer t "Cmp" none false s)
    | .zalloc _ | .pin | .inval | .prefetch _ | .unpin | .flush => retire t.id (noteTxn t (if cause = 3 then "ENCLAVE_DENIED" else "UNMAPPED") s)
    | .record d => retire t.id (failRecord d s)
    | _ => retire t.id s

/-- The enclave check as a step: a failing request ends. -/
def gateEncl (t : Txn) (s : State) : Gate :=
  if enclOk s t then .pass else .moved (failTxn t 3 (tellViolation t s))

/-! ### Sole use, snoops and recalls -/

/-- The request has its sector alone (R185); a snoop does not ask for it (R261). -/
def gateSole (t : Txn) (s : State) : Gate :=
  if t.kind.isSnoop then .pass
  else if t.kind.shares ∧ ¬ t.sole then .moved (becomeSole t.id s)
  else if alone s t then .pass else .blocked

/-- Reads and writes that are counted as demand (R129, R143). -/
def Kind.isDemand : Kind → Bool
  | .rdS | .rdO | .rdNA | .own | .wb | .atomic _ | .append _ | .record _ => true
  | .fRdS | .fRdO | .fOwn _ | .fRdNA | .fAtom _ => true
  | _ => false

/-- A demand request has taken its effect on a resident sector. -/
def demandDone (id : Nat) (s : State) : State := onTxn id (fun t => { t with demand := true }) s

/-- The device a fabric request comes from. -/
def Txn.node (t : Txn) : Nat := t.peer / 64

/-- A fabric request that makes its requester the owner. -/
def Kind.gains : Kind → Bool
  | .fRdO | .fOwn _ => true
  | _ => false

/-- Requests at the home that leave remote S copies in place (R257): reads that leave hosts in S or I, and RD_S, RD_NA,
whose owner alone is asked. -/
def Kind.reads : Kind → Bool
  | .rdS | .rdNA | .spec | .prefetch _ | .pin | .fRdS | .fRdNA => true
  | _ => false

/-- Remote copies of a sector resident in way k of this home (R252, R256, R257): snooped where the request calls for it. One that awaits handback stays as it is until its mark
clears (R277). -/
def gateRemote (t : Txn) (k : Nat) (s : State) : Gate :=
  if ¬ isLocal s t.sk then .pass
  else if snpBusy s t.id ∨ s.fab.marks.any (·.sk == t.sk) then waitIn t (.recall none) s
  else
    let snoopOut := fun (s : State) => Gate.moved (setPh t.id (.recall none) s)
    match dirAt s k with
    | none =>
      if s.cache.dirSusp.contains (dirSet (k / 4)) ∧ ¬ t.bcast then
        (gateSole t s).andThen (fun _ =>
          let s := onTxn t.id (fun t => { t with bcast := true }) s
          snoopOut (eachIn (routedDevs s) (fun d s => sendSnoop t.id Op.snpInv d false true t.tid t.fgen t.sk s) s))
      else .pass
    | some e =>
      let own := e.named.headD 0
      let go := fun (f : State → Gate) => (gateSole t s).andThen fun _ => f s
      if e.excl then
        if own = t.node ∧ t.isFab then .pass
        else
          match t.kind with
          | .fRdS => go fun s => snoopOut (sendSnoop t.id Op.snpS own true false t.tid t.fgen t.sk s)
          | .fRdO | .fOwn false => go fun s => snoopOut (sendSnoop t.id Op.snpInv own true false t.tid t.fgen t.sk s)
          | .fRdNA => go fun s => snoopOut (sendSnoop t.id Op.snpCur own true false t.tid t.fgen t.sk s)
          | .rdS | .rdNA | .spec | .prefetch _ | .pin =>
            go fun s => snoopOut (sendSnoop t.id Op.snpS own false false t.tid t.fgen t.sk s)
          | _ => go fun s => snoopOut (sendSnoop t.id Op.snpInv own false false t.tid t.fgen t.sk s)
      else if t.kind.reads then .pass
      else
        let others := (e.devs s).filter fun d => !(d == t.node && t.kind.gains)
        if others.isEmpty then .pass
        else go fun s => snoopOut (eachIn others (fun d s =>
          sendSnoop t.id Op.snpInv d false (!(e.named.contains d)) t.tid t.fgen t.sk s) s)

end Sys2Proof.Machine
end

