-- ==== Sys2Proof/Machine/Fills.lean ====
section
/-! DEFINITION. Further steps of a request: host snoops (R213), snoop-filter and directory entries (R206 to R208, R251),
a victim way and its eviction (R147 to R150), reservations (R295), fills from media (R138 to R146, R331, R349). -/

namespace Sys2Proof.Machine

open Sys2Proof

/-! ### Host copies -/

/-- The host state a request leaves its port in (R213). -/
def Txn.leaves (t : Txn) : HSt :=
  match t.kind with
  | .rdS => .s
  | .rdO | .own => .a
  | .wb => t.mv
  | _ => .i

/-- Lines that a record request of an APPEND writes: those that its `lst` does not leave Invalid. -/
def Txn.recLs (t : Txn) : List Nat := [0, 1, 2, 3].filter fun j => t.lst.getD j .invalid != .invalid

/-- What a request asks of host copies: lines, the port that is not asked, and the snoop (R213, R256, R260). -/
def Txn.wants (t : Txn) : Option (List Nat × Option Nat × Want) :=
  let p := match t.src with | .hp p => if t.gone then none else some p | _ => none
  let all := [0, 1, 2, 3]
  match t.kind with
  | .rdS | .rdNA => some ([t.line], p, .data)
  | .rdO | .own | .wb => some ([t.line], p, .inv)
  | .wrNA | .atomic _ | .append _ | .fAtom _ => some ([t.line], none, .inv)
  | .record _ | .fWrNA => some (t.recLs, none, .inv)
  | .inval | .zalloc _ => some (all, none, .inv)
  | .fRdS | .fRdNA | .snpS _ | .snpCur _ => some (all, none, .data)
  | .fRdO | .fOwn _ | .snpInv _ => some (all, none, .inv)
  | _ => none

/-- A port that holds line j of way k and has not been asked by the request already: where no entry names the sector, a walk's A stands
for copies that the answer to the request has ended (R212). -/
def Txn.toAsk (t : Txn) (s : State) (k j : Nat) (ps : List Nat) : List Nat :=
  if (sfFind s k).isSome then ps else ps.filter fun p => !t.asked.contains (16 * k + 4 * j + p)

/-- Snoop some ports for line j of way k, and remember that they were asked. -/
def askPorts (t : Txn) (k j : Nat) (dat : Bool) (ps : List Nat) (s : State) : State :=
  biPump (eachIn ps (fun p s => biAdd p k j dat false s)
    (onTxn t.id (fun t => { t with asked := t.asked ++ ps.map (16 * k + 4 * j + ·) }) s))

/-- A snoop-filter entry for way k: there, allocated, or waited for behind the back-invalidation of a victim that the request has
chosen (R206 to R208). -/
def gateSf (t : Txn) (k : Nat) (s : State) : Gate :=
  if (sfFind s k).isSome then .pass
  else
    match sfPlace s k with
    | some i => .moved (sfAlloc i k (onTxn t.id (fun t => { t with sfVic := none, sfAt := none }) s))
    | none =>
      let going := ((t.sfVic.bind fun i => (tblFind s.cache.sf i).map fun e => (i, e)).map fun x => biBusy s (skOfSf s x.1 x.2)).getD false
      if going then .blocked
      else
        match sfVictim s (sfSet (k / 4)) with
        | none => if t.sfAt.isSome then .blocked else .moved (onTxn t.id (fun t => { t with sfAt := some s.tb }) s)
        | some (i, s) =>
          match tblFind s.cache.sf i with
          | none => .blocked
          | some e =>
            .moved (snoopAll (4 * (e.stag * 2 ^ 20 + i / 8) + e.way) (tally Ctr.COH_SF_EVICT 1
              (onTxn t.id (fun t => { t with sfVic := some i, sfAt := none }) s)))

/-- A request that leaves a host copy needs a snoop-filter entry (R206). -/
def gateLeave (t : Txn) (k : Nat) (s : State) : Gate := if t.leaves = .i ∨ t.gone then .pass else gateSf t k s

/-- Snoop the host copies of way k that the request calls for. While a walk may find copies that nothing names, a request that will
leave one allocates its entry first (R212). -/
def gateHosts (t : Txn) (k : Nat) (s : State) : Gate :=
  (if walking s k then gateLeave t k s else .pass).andThen fun _ =>
  if biBusy s t.sk then waitIn t .snoop s
  else
    match t.wants with
    | none => .pass
    | some (js, skip, w) =>
      let ps := fun (s : State) (j : Nat) => t.toAsk s k j (snoopPorts s k j skip w)
      if js.any fun j => !(ps s j).isEmpty then
        (gateSole t s).andThen fun _ =>
          if s.rsv.pst ≠ .run then .blocked
          else .moved (setPh t.id .snoop (js.foldl (fun s j => askPorts t k j (w == .data) (ps s j) s) s))
      else .pass

/-- A directory entry for way k: there, allocated for a first holder, or waited for behind the recall of a victim that the request has
chosen (R251). -/
def gateDir (t : Txn) (k : Nat) (s : State) : Gate :=
  if (dirFind s k).isSome then .pass
  else
    match dirPlace s k with
    | some i => .moved (tally Ctr.DIR_ALLOC 1
        (onCache (fun c => { c with dir := tblPut c.dir i ⟨k % 4, k / 4 / 2 ^ 18, false, false, 0, [none, none, none]⟩ })
          (onTxn t.id (fun t => { t with dirVic := none, dirAt := none }) s)))
    | none =>
      if (t.dirVic.map fun i => s.fab.snps.any (·.txn == 2 ^ 20 + i)).getD false then .blocked
      else
        match dirVictim s (dirSet (k / 4)) with
        | none => if t.dirAt.isSome then .blocked else .moved (onTxn t.id (fun t => { t with dirAt := some s.tb }) s)
        | some i =>
          match tblFind s.cache.dir i with
          | none => .blocked
          | some e =>
            let vk := wayOfDir i e
            .moved (recallAll (2 ^ 20 + i) vk (ownNode s * 2 ^ 22) 0 (skOfWay s vk (wayAt s vk)) none (tally Ctr.DIR_EVICT 1
              (onTxn t.id (fun t => { t with dirVic := some i, dirAt := none }) s)))

/-! ### A way -/

/-- The way reserved by a request. -/
def reservedWay (s : State) (t : Txn) : Option Nat :=
  (waysOfSet (setOfSk s t.sk)).find? fun k => (wayAt s k).rsvBy == some t.id

/-- What a fill of low standing may not evict: a policy prefetch no dirty line (R486), a rewarm fill nothing (R390). TAG 1 marks a rewarm fill; an engine's other
prefetches are companions (R143). -/
def mayEvict (t : Txn) (w : Way) : Bool :=
  match t.kind, t.src with
  | .prefetch _, .policy _ _ => !w.dirty
  | .prefetch _, .engine => t.tag == 0 || !w.res
  | _, _ => true

/-- A companion fill of a PAGE fill (R143). -/
def Txn.companion (t : Txn) : Bool := t.src == .engine && t.tag == 0 && (match t.kind with | .prefetch _ => true | _ => false)

/-- Choose and reserve a victim way (R126, R147 to R151); after Fence step 3 none is chosen (R372), and in a release phase none for a
remote sector (R616). -/
def gateWay (t : Txn) (s : State) : Gate :=
  if (reservedWay s t).isSome then .pass
  else if s.rsv.pst ≠ .run ∧ s.rsv.pst ≠ .startup then .blocked
  else if ¬ isLocal s t.sk ∧ s.mgt.boot.release.isSome then .blocked
  else
    let set := setOfSk s t.sk
    match t.sel with
    | none => .moved (onTxn t.id (fun t => { t with sel := some (selection s set) }) (tellHint set s))
    | some sel =>
      if ¬ tscHit s set then
        if (tscAt s set).isSome then .blocked else .moved (tscFill set none s)
      else
        let c := chooseVictim s set sel
        match c.1.way with
        | none =>
          if t.companion then .moved (retire t.id s)
          else if t.vicAt.isSome then .blocked
          else .moved (onTxn t.id (fun t => { t with vicAt := some s.tb }) s)
        | some k =>
          if mayEvict t (wayAt s k) then
            let begun := fun (t : Txn) => { t with
              sel := none, vicAt := none, width := some (fld s Reg.TAG_FILL_CFG 1 0), evc := flag s Reg.COH_DIR_CFG 1 }
            .moved (onWay k (fun w => { w with rsvBy := some t.id }) (onTxn t.id begun (tellChoice s c)))
          else .moved (retire t.id (noteTxn t "PARTIAL" (if t.src = .engine ∧ t.tag = 1 then tally Ctr.REWARM_SKIP 1 s else s)))

/-- Empty the reserved way (R149, R229, R250): host copies first, remote copies, then the dirty lines leave. -/
def gateEvict (t : Txn) (k : Nat) (s : State) : Gate :=
  let w := wayAt s k
  let vsk := skOfWay s k w
  if ¬ w.res ∨ (vsk = t.sk ∧ t.kind ≠ .evict) then .pass
  else if s.rsv.pst ≠ .run ∧ s.rsv.pst ≠ .startup then .blocked
  else
    if snpBusy s t.id ∨ biBusy s vsk then waitIn t (.evict k) s
    else if (dirFind s k).isSome then
      .moved (setPh t.id (.evict k) (recallAll t.id k t.tid t.fgen vsk none s))
    else if (List.range 4).any fun j => !(t.toAsk s k j (snoopPorts s k j none .inv)).isEmpty then
      .moved (setPh t.id (.evict k) (upTo 4 (fun j s => askPorts t k j false (t.toAsk s k j (snoopPorts s k j none .inv)) s) s))
    else if w.remote ∧ w.dirty ∧ ¬ wbRoom s true then waitIn t (.evict k) (tellWbFull s)
    else if ¬ w.remote ∧ needsEntry s k ∧ ¬ wbRoom s true then waitIn t (.evict k) (tellWbFull s)
    else .moved (evictWay k t.evc s)

/-! ### Reservations -/

/-- Another request goes first (R295): an older one of the same class, or one of class B before one of class A. -/
def olderWaits (s : State) (t : Txn) (a : Bool) : Bool :=
  (s.cache.txns.takeWhile (·.id != t.id)).any (fun u => (u.resv == .waiting && u.kind.classA == a) || (a && u.rsv2 == .waiting)) ||
    a && s.cache.txns.any fun u => u.resv == .waiting && !u.kind.classA

/-- A headroom that became due earlier waits for a class A grant. -/
def headWaits (s : State) (t : Txn) : Bool := s.hpt.ports.any fun p => p.owed.any (· < t.arr)

/-- Hold a reservation of `size` data bytes (R293 to R295): class A for new dirty allocations, else class B. -/
def gateResv (t : Txn) (a : Bool) (size : Nat) (s : State) : Gate :=
  if t.resv = .armed ∨ t.resv = .wt then .pass
  else
    let wait := fun (s : State) =>
      waitIn t (.resv none) (onTxn t.id (fun t => { t with resv := .waiting, rsz := size }) s)
    if t.resv = .waiting ∨ olderWaits s t a ∨ (a ∧ headWaits s t) then wait s
    else if a then
      match tryA s (size + 16) with
      | .ok r => .moved (tellGrant true r (onTxn t.id (fun t => { t with resv := r, rsz := size }) s))
      | .error w => wait (tellWait w s)
    else
      match tryB s (size + 16) with
      | some r => .moved (tellGrant false r (onTxn t.id (fun t => { t with resv := r, rsz := size }) s))
      | none => wait s

/-- Hold the 256 B reservation of an RD_O or RD_ONA (R241), class A. -/
def gateRsv2 (t : Txn) (s : State) : Gate :=
  if t.rsv2 = .armed ∨ t.rsv2 = .wt then .pass
  else
    let wait := fun (s : State) => waitIn t (.resv none) (onTxn t.id (fun t => { t with rsv2 := .waiting }) s)
    if t.rsv2 = .waiting ∨ olderWaits s t true ∨ headWaits s t then wait s
    else
      match tryA s 272 with
      | .ok r => .moved (tellGrant true r (onTxn t.id (fun t => { t with rsv2 := r }) s))
      | .error w => wait (tellWait w s)

/-- Give up or use up a reservation. -/
def freeResv (id : Nat) (s : State) : State := onTxn id (fun t => { t with resv := .none, rsz := 0 }) s

/-! ### Fills (R143 to R146, R331) -/

/-- A companion shares the home page read of the sector that brought it (R331). -/
def sharedRead (s : State) (ns lba : Nat) : Option Nat :=
  (s.med.ports.flatMap (·.cmds)).findSome? fun c =>
    match c.what with
    | .fill _ _ => if c.ns = ns ∧ c.lba = lba then some c.cid else none
    | _ => none

/-- Submit every media read of a fill, or none where one of them finds no slot (R331, R315). -/
def submitReads (t : Txn) (rs : List (Nat × Nat)) (s : State) : Option (List Nat × State) :=
  rs.foldl (fun acc r => acc.bind fun (cids, s) =>
    match (if t.src = .engine then sharedRead s r.1 r.2 else none) with
    | some c => some (cids ++ [c], s)
    | none => (submit r.1 r.2 (.fill t.id t.gen) true s).map fun (c, s) => (cids ++ [c], s))
    (some ([], s))

/-- The command that brings line j of the request, among reads and the commands that make them. -/
def ownRead (s : State) (t : Txn) (rs : List (Nat × Nat)) (cids : List Nat) : Option Nat :=
  (srcRead s (lineSrc s t.sk t.line)).bind fun r => ((rs.zip cids).find? fun x => x.1 == r).map (·.2)

/-- Start the fill of some lines: the reads are issued together; without a slot the request waits (R91). A run-ahead fetch becomes the
fill, as wide as it was launched (R140). -/
def startFill (t : Txn) (k : Option Nat) (js : List Nat) (s : State) : Gate :=
  if s.rsv.pst = .fence then .blocked else
  if t.spec then
    .moved (setPh t.id (.fill k) (onTxn t.id (fun t => { t with spec := false, ahead := true }) (tally Ctr.TAG_SPEC_USED 1 s)))
  else
  let s := js.foldl (fun s j => tally (if (locOf s.med.jrnl (skSo t.sk) j).isSome then Ctr.JRNL_IDX_HIT else Ctr.JRNL_IDX_MISS) 1 s) s
  let off := fun (r : Nat × Nat) => (mset s).lost.contains r.1 || decide ((mset s).n ≤ r.1)
  let lost := js.filter fun j => ((srcRead s (lineSrc s t.sk j)).map off).getD false
  let rs := (readsFor s t.sk js).filter fun r => !off r
  match submitReads t rs s with
  | some (cids, s) =>
    .moved (onTxn t.id (fun t =>
      { t with reads := cids, want := js, bad := lost, ownRd := ownRead s t rs cids, ph := .fill k, since := s.tb }) s)
  | none => waitIn t .buffer s

/-- The lines a fill installs (R143, R144): of those that are not present, the ones called for at width LINE, else every one.
`whole`: the request is for the sector. -/
def fillLines (s : State) (t : Txn) (w : Way) (whole : Bool) (js : List Nat) : List Nat :=
  let gone := [0, 1, 2, 3].filter fun j => (w.line j).ls == .invalid
  if ¬ whole ∧ t.width.getD (fld s Reg.TAG_FILL_CFG 1 0) = 0 then gone.filter js.contains else gone

/-- A line of a fill: data and whether it comes poisoned. -/
def fillLine (s : State) (t : Txn) (j : Nat) : Line × Bool :=
  let x := srcData s t.sk j (lineSrc s t.sk j)
  (x.1, x.2 || t.bad.contains j)

/-- A line that could not be read (R349): the poison list, the event, and, for a record, a locator marked poisoned. -/
def tellBadLine (t : Txn) (j : Nat) (s : State) : State :=
  let s := addPoison t.sk j s
  let s := raise Ev.medReadErr (dataAddr 1 (256 * skSo t.sk + 64 * j)) 0 s
  match tblFind s.med.jrnl.idx (skSo t.sk) with
  | some e =>
    let mark : Loc → Loc := fun l => if l.ls = .dirty then { l with ls := .poisonDirty } else l
    onJrnl (putEntry (skSo t.sk) { e with locs := setAt e.locs j (·.map mark) }) s
  | none => s

/-- The KEYGEN of a sector after a fill of lines js (R124, R333): its lowest-numbered filled line's source gives it. -/
def fillGen (s : State) (t : Txn) (encl : Nat) (w : Way) (fresh : Bool) (js : List Nat) : Nat :=
  let below := fun (j : Nat) => (List.range j).any fun i => (w.line i).ls == .clean || (w.line i).ls == .poisonClean
  match js.head? with
  | some j => if !fresh && below j then w.keygen else srcGen s encl t.sk j (lineSrc s t.sk j)
  | none => if fresh then 0 else w.keygen

/-- Install the lines of a completed fill in way k (R124, R144, R170): lines that are present stay as they are. A fill sets the heat,
but one that only completes a write-out of a resident sector. -/
def install (t : Txn) (k : Nat) (fresh : Bool) (heat : Nat) (s : State) : State :=
  let w := wayAt s k
  let js := t.want.filter fun j => (w.line j).ls == .invalid
  let encl := ((rangeOf s (skSo t.sk)).map (·.encl)).getD 0
  let put : Nat → LineSt → LineSt := fun j l =>
    let (d, p) := fillLine s t j
    if js.contains j then { l with ls := if p then .poisonClean else .clean, data := if p then 0 else d, pend := false } else l
  let bads := js.filter fun j => t.bad.contains j
  let w' : Way := { w with lines := (List.range 4).map fun j => put j (w.line j), keygen := fillGen s t encl w fresh js }
  let w' := if fresh then { w' with tag := tagOfSk s t.sk, remote := false, home := 0, rstate := 0, encl := encl, pin := false,
                                    rsvBy := none } else w'
  let s := onWay k (fun _ => w') s
  let s := eachIn bads (tellBadLine t) s
  let s := burstsWritten k js s
  let keeps : Bool := match t.kind with | .writeOut _ => !fresh | _ => false
  if keeps || js.isEmpty then s else heatSet k heat s

end Sys2Proof.Machine
end

