-- ==== Sys2Proof/Machine/Acts.lean ====
section
/-! DEFINITION. What each kind of local request does once its lookup is decided: reads, writes, combining (R177 to R182),
zero-allocation (R183), pins and invalidation (R97), atomics and appends (R221 to R227). -/

namespace Sys2Proof.Machine

open Sys2Proof

/-! ### Combining entries (R178 to R181) -/

def ntEntry (s : State) (sk : Nat) : Option NtE := s.cache.nt.find? (·.sk == sk)

def onNt (sk : Nat) (f : NtE → NtE) (s : State) : State :=
  onCache (fun c => { c with nt := c.nt.map fun e => if e.sk = sk then f e else e }) s

/-- The counter of a write-out cause (R199). -/
def WoCause.ctr : WoCause → Nat
  | .full => Ctr.WBF_NT_WO_FULL | .age => Ctr.WBF_NT_WO_AGE | .hold => Ctr.WBF_NT_WO_HOLD
  | .capacity => Ctr.WBF_NT_WO_CAP | .conflict => Ctr.WBF_NT_WO_CONFLICT | .fence => Ctr.WBF_NT_WO_FENCE
  | .geyser => Ctr.WBF_NT_WO_FENCE

/-- Begin the write-out of an entry (R180): work without a tracker entry, which goes before what waits for the sector once no one
holds it. -/
def startWriteOut (sk : Nat) (c : WoCause) (s : State) : State :=
  match ntEntry s sk with
  | none => s
  | some e =>
    if e.out.isSome then s
    else
      let s := onNt sk (fun e => { e with out := some c }) s
      let s := if c = .geyser then s else tally c.ctr 1 s
      (admitTxn { Txn.blank with kind := .writeOut c, sk := sk, da := e.da, encl := e.encl } s).2

/-- Another request meets a combining entry of its sector (R179): it is written out with cause CONFLICT, and the request waits in the
conflict queue until that is done. -/
def gateNt (t : Txn) (s : State) : Gate :=
  if (ntEntry s t.sk).isNone then .pass
  else (gateSole t s).andThen fun _ => .moved (stepBack t (startWriteOut t.sk .conflict s))

/-- Every byte of an entry is valid. -/
def NtE.full (e : NtE) : Bool := e.lines.all fun l => l.2 == fullMask

/-- The oldest entry not being written out. -/
def oldestNt (s : State) : Option NtE :=
  bestBy (fun a b => a.at_ < b.at_) (s.cache.nt.filter (·.out.isNone))

/-- A combining entry for the sector that accepts bytes: open, or newly allocated; without a free one the oldest is
written out with cause CAPACITY (R178, step 1). -/
def gateEntry (t : Txn) (s : State) : Gate :=
  match ntEntry s t.sk with
  | some e => if e.out.isSome then .moved (stepBack t s) else .pass
  | none =>
    if s.cache.nt.length < 512 then
      let e : NtE := { sk := t.sk, da := t.da / 256 * 256, encl := t.encl, lines := List.replicate 4 (0, 0), items := [],
                       at_ := s.tb, out := none }
      .moved (peak Reg.WBF_PEAK 23 14 (s.cache.nt.length + 1) (onCache (fun c => { c with nt := c.nt ++ [e] }) s))
    else if t.ph = .buffer then .blocked
    else
      let s := if s.cache.ntFull then s else raise Ev.ntFull 0 0 (onCache (fun c => { c with ntFull := true }) s)
      let s := match oldestNt s with
        | some o => startWriteOut o.sk .capacity s
        | none => s
      .moved (setPh t.id .buffer s)

/-- Merge bytes into line j of the entry (R178, steps 3 and 4). -/
def mergeNt (t : Txn) (j : Nat) (data : Line) (m : LineMask) (s : State) : State :=
  let had := ((ntEntry s t.sk).map fun e => (e.lines.getD j (0, 0)).2 != 0).getD false
  let s := tally Ctr.WBF_NT_ACCEPT 1 (if had then tally Ctr.WBF_NT_MERGE 1 s else s)
  let item : NtItem := ⟨t.wport, t.wseq, j, t.resv == .armed, t.id⟩
  onNt t.sk (fun e => { e with lines := setAt e.lines j (fun l => (mergeBytes l.1 data m, l.2 ||| m)),
                               items := e.items ++ [item] }) s

/-- A filled entry is written out where FULL_WO is set (R180). -/
def fullOut (sk : Nat) (s : State) : State :=
  match ntEntry s sk with
  | some e => if e.full ∧ flag s Reg.WBF_NT_CFG 16 then startWriteOut sk .full s else s
  | none => s

/-- The end of a combined write: acknowledged at once under an Armed grant, else it waits for its media completion and
no longer holds its sector (R182). -/
def endNt (t : Txn) (s : State) : State :=
  let s := freeResv t.id (releaseCredit t s)
  if t.resv = .armed then
    match t.kind with
    | .fWrNA => fullOut t.sk (onTxn t.id (fun t => { t with holder := false, busy := false }) (setPh t.id .ack (respond t (reply t s Op.cmp) s)))
    | _ => fullOut t.sk (retire t.id (answer t "Cmp" none false s))
  else fullOut t.sk (onTxn t.id (fun t => { t with holder := false, busy := false }) (setPh t.id .media s))

/-- A WR_NA holds a class A reservation at its home (R264). -/
def gateNtResv (t : Txn) (s : State) : Gate :=
  if t.kind = .fWrNA then gateResv t true (64 * (t.lst.filter (· != .invalid)).length) s else .pass

/-- Copies of the sector at hosts and other devices, where it is resident. -/
def gateCopies (t : Txn) (s : State) : Gate :=
  match findWay s t.sk with
  | some k => (gateRemote t k s).andThen fun _ => gateHosts t k s
  | none => .pass

/-- A write-no-allocate (R178). -/
def actNt (t : Txn) (s : State) : Move :=
  (gateEncl t s).then_ fun _ =>
  (gateCopies t s).then_ fun _ =>
  (gateSole t s).then_ fun _ =>
  (gateNtResv t s).then_ fun _ =>
  (gateEntry t s).then_ fun _ =>
  some (endNt t (match t.kind with
    | .fWrNA => upTo 4 (fun j s => if t.lst.getD j .invalid = .invalid then s else
        mergeNt t j ((t.blk.getD j none).getD 0) (BitVec.ofNat 64 (bitsOf t.opnds (64 * j + 63) (64 * j))) s) s
    | _ => mergeNt t t.line t.data t.mask s))

/-! ### Ways for local sectors -/

/-- A way in which the sector is, or will be, installed: resident, or reserved and emptied. -/
def gatePlace (t : Txn) (s : State) : Gate :=
  match findWay s t.sk with
  | some _ => .pass
  | none =>
    (gateWay t s).andThen fun _ =>
      match reservedWay s t with
      | some k => gateEvict t k s
      | none => .blocked

/-! ### Remote sectors: the requester (R240 to R242, R263) -/

/-- Send a fabric request and wait for its answer (R253, R266 to R268). -/
def sendReq (t : Txn) (m : FMsg) (w : Option Nat) (s : State) : State :=
  let m := { m with tid := ownTid s t, src := ownNode s, dst := skHome t.sk * 64, sk := t.sk, time := s.tb, encl := t.encl,
                    tl := s.fab.locked }
  let (p, s) := sendVia none m 0 s
  let s := onFab (fun f => { f with reqs := f.reqs ++ [⟨t.id, m, s.tb, 0, p⟩] }) s
  tally Ctr.FX_REQ_SENT 1 (setPh t.id (.fabric w) (onTxn t.id (fun t => { t with found := 3 }) s))

/-- A message without data whose routing fields `sendReq` fills in. -/
def ask (opc : Nat) (z : Bool) : FMsg := { FMsg.mk0 opc 0 0 0 0 0 with flags := if z then 2 else 0 }

/-- The standing that a request needs of a remote sector: S for reads that leave hosts in S or I, else E (R240). -/
def Kind.needs : Kind → Nat
  | .rdS | .rdNA | .spec | .prefetch _ | .pin => 1
  | _ => 2

/-- A request about a remote sector may be sent: no WB of it awaits CMP (R242). -/
def gateAsk (t : Txn) (s : State) : Gate :=
  match t.ph with
  | .fabric _ => .blocked
  | _ =>
    (gateSole t s).andThen fun _ =>
    if leftAwaits s t.sk then waitIn t .buffer s
    else if s.rsv.pst ≠ .run then .blocked
    else .pass

/-- Hold a remote sector in the standing that the request needs; a way and, for exclusive copies, 256 B of the ledger are
reserved first (R241). `z`: no data is wanted. -/
def gateHave (t : Txn) (z : Bool) (s : State) : Gate :=
  let need := t.kind.needs
  let have_ := match findWay s t.sk with
    | some k => (wayAt s k).rstate
    | none => 0
  if need ≤ have_ then .pass
  else
    (gateAsk t s).andThen fun _ =>
    (gatePlace t s).andThen fun _ =>
    (if need = 2 then gateRsv2 t s else .pass).andThen fun _ =>
    match findWay s t.sk <|> reservedWay s t with
    | none => .blocked
    | some k =>
      let s := onWay k (fun w => { w with rsvBy := some t.id }) s
      let opc := if need = 1 then Op.rdS else if z ∨ have_ = 1 then Op.rdONA else Op.rdO
      .moved (sendReq t (ask opc z) (some k) s)

/-- A remote sector as a grant brings it (R241). -/
def remoteWay (s : State) (t : Txn) (encl rstate : Nat) (lst : List LS) (blk : List (Option Line)) : Way :=
  let wt := t.rsv2 == .wt
  { Way.empty with
    tag := tagOfSk s t.sk, remote := true, home := skHome t.sk, rstate := rstate, encl := encl,
    lines := (List.range 4).map fun j =>
      let l := lst.getD j .invalid
      { ls := l, stamp := 0, pend := false, wt := wt && l.charged,
        data := if l = .dirty ∨ l = .clean then (blk.getD j none).getD 0 else 0 } }

/-- The way that `gatePlace` has prepared, and whether the sector is new in it. -/
def placeOf (s : State) (t : Txn) : Option (Nat × Bool) :=
  match findWay s t.sk with
  | some k => some (k, false)
  | none => (reservedWay s t).map fun k => (k, true)

/-- Name a local sector in a way that holds none. -/
def nameWay (t : Txn) (k : Nat) (s : State) : State :=
  let encl := ((rangeOf s (skSo t.sk)).map (·.encl)).getD 0
  onWay k (fun w => { w with tag := tagOfSk s t.sk, remote := false, home := 0, rstate := 0, encl := encl,
                             keygen := genOfKey s encl, pin := false, rsvBy := none }) s

/-- Lines needed are filled into the sector's way, which is found or made (R143, R149). -/
def gateFill (t : Txn) (whole : Bool) (js : List Nat) (s : State) : Gate :=
  let miss := match findWay s t.sk with
    | some k => js.filter fun j => ((wayAt s k).line j).ls == LS.invalid
    | none => js
  if ¬ isLocal s t.sk then gateHave t false s
  else if miss.isEmpty then .pass
  else
    (gateSole t s).andThen fun _ =>
    (gatePlace t s).andThen fun _ =>
    match placeOf s t with
    | none => .blocked
    | some (k, _) => startFill t (some k) (fillLines s t (wayAt s k) whole js) s

/-- A way for a write: local sectors are placed without a fetch, remote ones held exclusively (R177, R240). -/
def gateRoom (t : Txn) (s : State) : Gate := if isLocal s t.sk then gatePlace t s else gateHave t false s

/-- The heat that a fill sets (R144). -/
def Txn.fillHeat (t : Txn) : Nat :=
  match t.kind with
  | .prefetch h => h
  | .pin | .spec => 0
  | _ => 1

/-- Companion fills of a PAGE fill (R143): the other sectors of the media page, at P3. -/
def companions (t : Txn) (s : State) : State :=
  let base := skSo t.sk / 16 * 16
  upTo 16 (fun i s =>
    let sk := skHome t.sk * 2 ^ 40 + base + i
    if sk = t.sk ∨ (findWay s sk).isSome then s
    else (admitTxn { Txn.blank with pool := .internal, src := .engine, kind := .prefetch 0, sk := sk, mv := .s } s).2) s

/-- A completed fill is installed: the request goes on with its lines present. A demand fill of PAGE width brings its companions. -/
def endFill (t : Txn) (s : State) : State :=
  let s := match placeOf s t with
    | some (k, fresh) => install t k fresh t.fillHeat s
    | none => s
  let s := if t.kind.isDemand ∧ t.width.getD (fld s Reg.TAG_FILL_CFG 1 0) = 2 then companions t s else s
  setPh t.id (.looked none) s

/-! ### Reads -/

/-- Give a host read its line: its port's copy is recorded, and the answer leaves (R145, R206, R213). -/
def giveLine (t : Txn) (k : Nat) (s : State) : State :=
  let l := (wayAt s k).line t.line
  let s := match t.src with
    | .hp p => if t.gone then s else setHost k t.line p t.leaves s
    | _ => s
  answer t (if t.kind = .own then "Cmp" else "MemData") (if t.kind = .own then none else some l.value) l.bad s

/-- The requested line of a fill has come, and other reads of the fill are outstanding: it is installed and answered at once, where its
snoop-filter entry can be had (R145). -/
def answerEarly (t : Txn) (k : Nat) (s : State) : Move :=
  let ready := (match t.kind with | .rdS | .rdO => true | _ => false) && !t.said && !t.reads.isEmpty && t.want.contains t.line &&
    (t.ownRd.map fun c => !t.reads.contains c).getD true && !s.sec.quenched
  if ready && !(wayAt s k).quar && ((sfFind s k).isSome || (sfPlace s k).isSome) then
    let s := install { t with want := [t.line] } k (findWay s t.sk).isNone t.fillHeat s
    let s := match gateLeave t k s with
      | .moved s => s
      | _ => s
    some (onTxn t.id (fun t => { t with said := true }) (giveLine t k s))
  else none

/-- The end of a host read of a present line. -/
def endRead (t : Txn) (k : Nat) (s : State) : State :=
  let bad := ((wayAt s k).line t.line).bad
  let s := demandDone t.id (if t.said then s else giveLine t k s)
  if t.want.isEmpty then retireWith t.id bad s else setPh t.id .dram s

/-- A host read of a local sector. -/
def actRead (t : Txn) (s : State) : Move :=
  (gateEncl t s).then_ fun _ =>
  (gateNt t s).then_ fun _ =>
  (gateCopies t s).then_ fun _ =>
  if t.kind = .rdNA ∧ ((findWay s t.sk).map fun k => ((wayAt s k).line t.line).ls == .invalid).getD true then
    if isLocal s t.sk then (gateSole t s).then_ fun _ => (startFill t none [t.line] s).then_ fun _ => none
    else (gateAsk t s).then_ fun _ => some (sendReq t (ask Op.rdNA false) none s)
  else
    (gateFill t false [t.line] s).then_ fun _ =>
    match findWay s t.sk with
    | none => none
    | some k =>
      (gateLeave t k s).then_ fun _ =>
      some (endRead t k s)

/-- A read-no-allocate's media data has arrived: returned and discarded (R146). -/
def endRdNA (t : Txn) (s : State) : State :=
  let (d, p) := fillLine s t t.line
  let s := eachIn (t.want.filter fun j => t.bad.contains j) (tellBadLine t) s
  retireWith t.id p (answer t "MemData" (some d) p s)

/-- A PREFETCH does not wait for the fill of a sector that has passed its checks (R95). -/
def gateIssued (t : Txn) (s : State) : Gate :=
  if t.kind = .prefetch 0 ∧ s.cache.ops.any fun o => o.waits.contains t.id then
    .moved (onCache (fun c => { c with ops := c.ops.map fun o => { o with waits := o.waits.filter (· != t.id) } }) s)
  else .pass

/-- Ways of a set that hold no fill for good: pinned, or an index's or spring's. -/
def pinnedWays (s : State) (set : Nat) : Nat :=
  ((waysOfSet set).filter fun k => (wayAt s k).pin || decide (k % 4 < fixedWays s (k / 4))).length

/-- MemSpecRd, a prefetch, a rewarm or a PIN fetch of a local sector. A MemSpecRd is for a line, the others for a sector. -/
def actFetch (t : Txn) (s : State) : Move :=
  (gateEncl t s).then_ fun _ =>
  (gateIssued t s).then_ fun _ =>
  (gateNt t s).then_ fun _ =>
  let full := decide (2 ≤ pinnedWays s (setOfSk s t.sk))
  let js := match t.kind with | .spec => [t.line] | _ => []
  match findWay s t.sk with
  | some k =>
    (gateFill t false js s).then_ fun _ =>
    let s := if t.kind = .pin then
        (if (wayAt s k).pin then s
         else if full then noteTxn t "PARTIAL" s
         else onWay k (fun w => { w with pin := true }) s)
      else s
    let s := match t.kind, t.src with
      | .prefetch _, .engine =>
        if t.tag ≠ 1 then s else tally (if t.want.isEmpty then Ctr.REWARM_SKIP else Ctr.REWARM_FILL) 1 s
      | _, _ => s
    some (if t.want.isEmpty then retire t.id s else setPh t.id .dram s)
  | none =>
    if t.kind = .pin ∧ full then some (retire t.id (noteTxn t "PARTIAL" s))
    else (gateFill t (t.kind != .spec) (if t.kind = .spec then js else [0, 1, 2, 3]) s).then_ fun _ => none

/-- UNPIN of a sector (R95). -/
def actUnpin (t : Txn) (s : State) : Move :=
  (gateEncl t s).then_ fun _ =>
  (gateNt t s).then_ fun _ =>
  some (retire t.id (match findWay s t.sk with
    | some k => onWay k (fun w => { w with pin := false }) s
    | none => s))

/-! ### Writes through the cache (R177, R190) -/

/-- A write-through copy can be taken now, or is not needed (R175). -/
def gateWt (t : Txn) (s : State) : Gate :=
  if t.resv = .wt ∧ isLocal s t.sk ∧ ¬ copyRoom s t.sk then waitIn t .buffer (tellWbFull s) else .pass

/-- After placement: an Armed write is acknowledged and its DRAM write completes; another takes a write-through copy and
waits for its media completion (R189, R190). The home of a remote sector is sent the line at once (R263). -/
def ackWrite (t : Txn) (k : Nat) (js : List Nat) (say : State → State) (s : State) : State :=
  let s := freeResv t.id (releaseCredit t s)
  if t.resv = .armed then setPh t.id .dram (say s)
  else if (wayAt s k).remote then setPh t.id .cmp (sendKeep k [t.id] s)
  else setPh t.id .media (copyLines k js .wt [t.id] s)

/-- The write-through copy of a line placed before a write-buffer entry was free: taken once one is, and no other copy of the line is in
flight (R167, R190). A line that is clean by then is at media. -/
def actCopy (t : Txn) (k j : Nat) (s : State) : Move :=
  if ¬ ((wayAt s k).line j).ls.charged then some (setPh t.id .media (onCache (fun c => { c with acks := c.acks ++ [t.id] }) s))
  else if inFlight s t.sk j ∨ ¬ copyRoom s t.sk then none
  else some (setPh t.id .media (copyLines k [j] .wt [t.id] s))

/-- A full-line or poisoned host write to a local sector. -/
def actWrite (t : Txn) (s : State) : Move :=
  (gateEncl t s).then_ fun _ =>
  (gateNt t s).then_ fun _ =>
  (gateCopies t s).then_ fun _ =>
  (gateSole t s).then_ fun _ =>
  (gateResv t false 64 s).then_ fun _ =>
  (gateWt t s).then_ fun _ =>
  (gateRoom t s).then_ fun _ =>
  match placeOf s t with
  | none => none
  | some (k, fresh) =>
    (gateLeave t k s).then_ fun _ =>
    let s := if fresh then heatSet k 1 (nameWay t k s) else demandDone t.id s
    let s := writeLine k t.line t.data t.mask t.poison (t.resv == .wt) s
    let s := match t.src with
      | .hp p => if t.gone then s else setHost k t.line p t.mv s
      | _ => s
    some (ackWrite t k [t.line] (answer t "Cmp" none false) s)

/-! ### Write-outs (R181) -/

/-- Requests whose unarmed bytes lie in line j of an entry. -/
def NtE.waiters (e : NtE) (j : Nat) : List Nat := (e.items.filter fun i => i.line == j && !i.armed).map (·.txn)

/-- Lines of an entry with a byte in it, and those only partly covered. -/
def NtE.used (e : NtE) : List Nat := [0, 1, 2, 3].filter fun j => (e.lines.getD j (0, 0)).2 != 0
def NtE.partly (e : NtE) : List Nat := e.used.filter fun j => (e.lines.getD j (0, 0)).2 != fullMask

/-- The entry is gone and the work that wrote it out with it. -/
def endOut (t : Txn) (s : State) : State := retire t.id (onCache (fun c => { c with nt := c.nt.filter (·.sk != t.sk) }) s)

/-- Unarmed lines of a local sector need an entry for their write-through copies (R175). -/
def gateOutRoom (t : Txn) (e : NtE) (s : State) : Gate :=
  if (e.items.any (!·.armed)) && isLocal s t.sk && !copyRoom s t.sk then waitIn t .buffer (tellWbFull s) else .pass

/-- Place the lines of an entry in a way: bytes merged, lines Dirty; unarmed ones take write-through copies. -/
def outToWay (t : Txn) (e : NtE) (k : Nat) (s : State) : State :=
  let s := e.used.foldl (fun s j =>
    let (d, m) := e.lines.getD j (0, 0)
    writeLine k j d m false (!(e.waiters j).isEmpty) s) s
  let un := e.used.filter fun j => !(e.waiters j).isEmpty
  let s := if un.isEmpty then s
    else if (wayAt s k).remote then sendKeep k (un.flatMap e.waiters) s
    else un.foldl (fun s j => copyLines k [j] .wt (e.waiters j) s) s
  endOut t s

/-- A line of an entry as an eviction copy: merged over what was read where it covers the line in part (R181, R678). -/
def outLine (s : State) (t : Txn) (e : NtE) (j : Nat) : Option CLine :=
  let (d, m) := e.lines.getD j (0, 0)
  if m = 0 then none
  else
    let (old, bad) := if m = fullMask then (0, false) else fillLine s t j
    some ⟨if bad then .poisonDirty else .dirty, if bad then 0 else mergeBytes old d m, 0, !(e.waiters j).isEmpty, e.waiters j⟩

/-- A write-out of a remote sector: into an exclusive copy, else as WR_NA to the home (R240). -/
def actOutRemote (t : Txn) (e : NtE) (s : State) : Move :=
  match findWay s t.sk with
  | some k => if (wayAt s k).rstate = 2 then some (outToWay t e k s) else sendOut
  | none => sendOut
where
  sendOut : Move :=
    (gateAsk t s).then_ fun _ =>
    some (sendReq t { ask Op.wrNA false with blk := e.lines.map fun l => some l.1, bmask := e.lines.map (·.2) } none s)

/-- A write-out. -/
def actOut (t : Txn) (c : WoCause) (s : State) : Move :=
  match ntEntry s t.sk with
  | none => some (retire t.id s)
  | some e =>
    if ¬ isLocal s t.sk then actOutRemote t e s else
    let reads := fun (js : List Nat) (s : State) => tally Ctr.WBF_NT_PARTIAL_READ js.length s
    match findWay s t.sk with
    | some k =>
      let need := e.partly.filter fun j => ((wayAt s k).line j).ls == .invalid
      if need.isEmpty then (gateOutRoom t e s).then_ fun _ => some (outToWay t e k s)
      else (startFill t (some k) need (reads need s)).then_ fun _ => none
    | none =>
      if c = .conflict then
        (gatePlace t s).then_ fun _ =>
        match placeOf s t with
        | none => none
        | some (k, _) =>
          let need := [0, 1, 2, 3].filter fun j => (e.lines.getD j (0, 0)).2 != fullMask
          if need.isEmpty ∨ t.want ≠ [] then (gateOutRoom t e s).then_ fun _ => some (outToWay t e k (heatSet k 1 (nameWay t k s)))
          else (startFill t (some k) need (reads e.partly s)).then_ fun _ => none
      else if ¬ wbRoom s true ∧ (wbEntry s t.sk).isNone then (waitIn t .buffer (tellWbFull s)).then_ fun _ => none
      else if e.partly.isEmpty ∨ t.want ≠ [] then
        let s := eachIn (t.want.filter fun j => t.bad.contains j) (tellBadLine t) s
        let s := tally Ctr.WBF_EVICT_COPY e.used.length s
        some (endOut t (putCopies t.sk e.encl .evict ((List.range 4).map (outLine s t e)) s))
      else (startFill t none e.partly (reads e.partly s)).then_ fun _ => none

/-! ### Zero-allocation, invalidation (R183, R97) -/

/-- Every line of a way becomes Dirty-Zero. -/
def zeroWay (k : Nat) (wt : Bool) (s : State) : State :=
  burstsWritten k [0, 1, 2, 3] <| markRegion (k / 4) (onWay k (fun w => { w with lines := w.lines.map fun l =>
    { ls := .dirtyZero, stamp := if l.pend then (l.stamp + 1) % 16 else l.stamp, pend := false,
      wt := if l.inCache then l.wt else wt, data := 0 } }) s)

/-- A write-out of the sector that has begun goes first. -/
def gateOut (t : Txn) (s : State) : Gate :=
  match ntEntry s t.sk with
  | some e => if e.out.isSome then .moved (stepBack t s) else .pass
  | none => .pass

/-- Writes that wait for media in a discarded combining entry need a write-buffer entry for the sector's copy (R175, R183). -/
def gateZeroRoom (t : Txn) (s : State) : Gate :=
  let waits := ((ntEntry s t.sk).map fun e => e.items.any (!·.armed)).getD false
  if waits && t.resv == .wt && isLocal s t.sk && !copyRoom s t.sk then waitIn t .buffer (tellWbFull s) else .pass

/-- The end of a sector's zero-allocation in way k. -/
def endZalloc (t : Txn) (k : Nat) (own : Option Nat) (r : Resv) (s : State) : State :=
  let waits := ((ntEntry s t.sk).map fun e => (e.items.filter (!·.armed)).map (·.txn)).getD []
  let s := onCache (fun c => { c with nt := c.nt.filter (·.sk != t.sk) }) s
  let s := zeroWay k (r == .wt) s
  let s := match own with
    | some e => onWay k (fun w => { w with encl := e }) s
    | none => s
  let s := tally Ctr.WBF_ZALLOC_SECT 1 (onTxn t.id (fun t => { t with resv := .none, rsz := 0, rsv2 := .none }) s)
  let s := if waits.isEmpty then s
    else if r = .armed then onCache (fun c => { c with acks := c.acks ++ waits }) s
    else if (wayAt s k).remote then sendKeep k waits s
    else copyLines k [0, 1, 2, 3] .wt waits s
  setPh t.id .dram s

/-- One sector of a ZALLOC. A combining entry is discarded; its waiting writes are acknowledged with the sector. -/
def actZalloc (t : Txn) (own : Option Nat) (s : State) : Move :=
  (gateEncl t s).then_ fun _ =>
  (gateOut t s).then_ fun _ =>
  (gateCopies t s).then_ fun _ =>
  (gateSole t s).then_ fun _ =>
  if ¬ isLocal s t.sk ∧ ((findWay s t.sk).map fun k => (wayAt s k).rstate == 2).getD false = false then
    (gateHave t true s).then_ fun _ => none
  else
    (gateResv t true 0 s).then_ fun _ =>
    (gatePlace t s).then_ fun _ =>
    (gateZeroRoom t s).then_ fun _ =>
    match placeOf s t with
    | none => none
    | some (k, fresh) => some (endZalloc t k own t.resv (if fresh then heatSet k 0 (nameWay t k s) else s))

/-- INVAL of one sector: host copies are back-invalidated; a clean sector is dropped, a dirty one stays whole and is reported (R97). -/
def actInval (t : Txn) (s : State) : Move :=
  (gateEncl t s).then_ fun _ =>
  (gateNt t s).then_ fun _ =>
  match findWay s t.sk with
  | none => some (retire t.id s)
  | some k =>
    (gateRemote t k s).then_ fun _ =>
    (gateHosts t k s).then_ fun _ =>
    let w := wayAt s k
    some (retire t.id (if w.dirty then noteTxn t "DIRTY_SKIPPED" s else if w.remote then evictWay k (flag s Reg.COH_DIR_CFG 1) s else clearWay k s))

/-! ### Atomics (R221 to R227) -/

/-- Bytes lo .. lo+n−1 of a line as a number. -/
def bytesOf (d : Line) (lo n : Nat) : Nat := d.toNat / 2 ^ (8 * lo) % 2 ^ (8 * n)

/-- A line with n bytes from lo replaced. -/
def putBytes (d : Line) (lo n v : Nat) : Line :=
  BitVec.ofNat 512 (d.toNat - bytesOf d lo n * 2 ^ (8 * lo) + v % 2 ^ (8 * n) * 2 ^ (8 * lo))

/-- The value as a signed number of n bytes. -/
def signedOf (n v : Nat) : Int := if v < 2 ^ (8 * n - 1) then (v : Int) else (v : Int) - 2 ^ (8 * n)

/-- The new value of an atomic operation on an old one (R100). -/
def Atom.run (a : Atom) (old : Nat) : Nat :=
  let v := a.opnd % 2 ^ (8 * a.width)
  match a.op with
  | .add => (old + v) % 2 ^ (8 * a.width)
  | .and => old &&& v
  | .or => old ||| v
  | .xor => old ^^^ v
  | .smin => if signedOf a.width v < signedOf a.width old then v else old
  | .smax => if signedOf a.width old < signedOf a.width v then v else old
  | .umin => min old v
  | .umax => max old v
  | .swap => v
  | .cas => if old = a.cmp % 2 ^ (8 * a.width) then v else old

/-- Before the ALU: range check, remote and host copies gone, the line present, a reservation (R221, R224). -/
def actAtom (t : Txn) (s : State) : Move :=
  (gateEncl t s).then_ fun _ =>
  (gateNt t s).then_ fun _ =>
  (gateCopies t s).then_ fun _ =>
  (gateSole t s).then_ fun _ =>
  (gateFill t false [t.line] s).then_ fun _ =>
  match findWay s t.sk with
  | none => none
  | some k =>
    (gateResv t false 64 s).then_ fun _ =>
    (gateWt t s).then_ fun _ =>
    some (setPh t.id (.alu k) s)

/-- An atomic or APPEND whose home is another device: own host copies first, then ATOM (R240). -/
def actAtomRemote (t : Txn) (a : Option Atom) (len : Nat) (s : State) : Move :=
  (gateEncl t s).then_ fun _ =>
  (gateNt t s).then_ fun _ =>
  (gateCopies t s).then_ fun _ =>
  (gateAsk t s).then_ fun _ =>
  some (sendReq t { ask Op.atom false with atom := a, alen := len, aux := t.line, blk := [some t.data] } none s)

/-- What an atomic or APPEND answers. -/
inductive AtomOut where
  | ok | poison | full | invalid | crossHome | disabled
  deriving DecidableEq, Repr

/-- The status of an answer over the mailbox (R95). -/
def AtomOut.text : AtomOut → String
  | .ok => "AtomicCpl" | .poison => "POISON" | .full => "FULL" | .invalid => "INVALID" | .crossHome => "CROSS_HOME"
  | .disabled => "DISABLED"

/-- The model's code of a status in ATOM_RES. -/
def AtomOut.code : AtomOut → Nat
  | .ok => 0 | .poison => 1 | .full => 2 | .invalid => 3 | .crossHome => 4 | .disabled => 5

def AtomOut.ofCode (n : Nat) : AtomOut :=
  match n with
  | 0 => .ok | 1 => .poison | 2 => .full | 3 => .invalid | 4 => .crossHome | _ => .disabled

/-- The result goes back: to a host, to the mailbox, or to the requester over the fabric; then the request is done but
for the requester's ACK. -/
def endAtom (t : Txn) (o : AtomOut) (old : Nat) (s : State) : State :=
  let s := onTxn t.id (fun t => { t with resv := .none, rsz := 0 }) s
  let s := demandDone t.id (releaseCredit t s)
  if t.isFab then
    setPh t.id .ack (respond t { reply t s Op.atomRes with blk := [some (BitVec.ofNat 512 old)], cause := o.code } s)
  else retireWith t.id (o == .poison) (answer t o.text (some (BitVec.ofNat 512 old)) (o == .poison) s)

/-- The ALU step of an atomic (R222, R223). -/
def runAtom (t : Txn) (a : Atom) (k : Nat) (s : State) : State :=
  let l := (wayAt s k).line t.line
  let s := tally Ctr.ATM_OP 1 (if t.want.isEmpty then s else tally Ctr.ATM_FILL 1 s)
  if l.bad then endAtom t .poison 0 (raise Ev.atmPoison (dataAddr 0 t.da) 0 s)
  else
    let old := bytesOf l.value a.off a.width
    let new := a.run old
    if new = old then endAtom t .ok old (tally Ctr.ATM_NOCHANGE 1 s)
    else
      let m : LineMask := BitVec.ofNat 64 ((2 ^ a.width - 1) * 2 ^ a.off)
      let s := writeLine k t.line (putBytes 0 a.off a.width new) m false (t.resv == .wt) s
      if t.resv = .armed then endAtom t .ok old s
      else
        setPh t.id (.copy k t.line) (onTxn t.id (fun t => { t with data := BitVec.ofNat 512 old, resv := .none, rsz := 0 }) s)

/-! ### Bounded append (R225 to R227) -/

/-- A descriptor as its line holds it: TAIL, LIMIT, BASE. -/
def descOf (d : Line) : Nat × Nat × Nat := (bytesOf d 0 8, bytesOf d 8 8, bytesOf d 16 8)

/-- What is wrong with a ring (R225), in the order of its checks: some byte with a remote home, some byte unmapped,
unbacked or not above the descriptor's sector. -/
def ringFault (s : State) (sk limit base : Nat) : Option AtomOut :=
  if limit = 0 then none
  else
    let w0 := base / 2 ^ 36
    let w1 := min 4096 ((base + limit - 1) / 2 ^ 36)
    let ws := (List.range (w1 + 1 - w0)).map (w0 + ·)
    let remote := ws.any fun w =>
      w < 4096 && (hmapEntry s w).valid && decide (w * 2 ^ 36 < s.hpt.dsize) && homeOf s (hmapEntry s w) != devId s
    let bad := ws.any fun w =>
      let lo := max base (w * 2 ^ 36)
      let hi := min (base + limit - 1) (w * 2 ^ 36 + (2 ^ 36 - 1))
      4096 ≤ w || (match mapDa s lo, mapDa s hi with
        | .ok a, .ok _ => decide (a ≤ sk)
        | _, _ => true)
    if remote then some .crossHome else if bad then some .invalid else none

/-- The sector keys and lines that a record of `len` bytes at a DA covers, ascending. -/
def recSectors (s : State) (da len : Nat) : List Nat :=
  let a := match mapDa s da with | .ok x => x | .error _ => 0
  let b := match mapDa s (da + len - 1) with | .ok x => x | .error _ => 0
  if a = b then [a] else [a, b]

/-- Lines of sector i (0 or 1) of a record that it covers, with the first byte, byte count, and offset in the record. -/
def recLines (da len : Nat) : List (Nat × Nat × Nat × Nat × Nat) :=
  let last := da + len - 1
  ((List.range (last / 64 + 1 - da / 64)).map (da / 64 + ·)).map fun l =>
    let lo := max da (64 * l)
    let hi := min last (64 * l + 63)
    (l / 4 - da / 256, l % 4, lo % 64, hi + 1 - lo, lo - da)

/-- The lines of a record's sector x that it covers. -/
def recJs (s : State) (da len x : Nat) : List Nat :=
  ((recLines da len).filter fun y => (recSectors s da len).getD y.1 0 == x).map (·.2.1)

/-- The record requests of an APPEND that stand ready for the ALU. -/
def recordsOf (s : State) (id : Nat) : List Txn := s.cache.txns.filter fun u => u.kind == .record id

/-- The write-buffer entries that the write-through copies of an APPEND need (R175). -/
def appendNeeds (s : State) (t : Txn) : Nat :=
  ((t :: recordsOf s t.id).filter fun u => u.resv == .wt && (wbEntry s u.sk).isNone).length

/-- An APPEND at its home up to the ALU: the descriptor's sector first, then the record's sectors in ascending order. With
APPEND_EN 0 it fails when its descriptor is to be read (R234, R235). -/
def actAppend (t : Txn) (len : Nat) (s : State) : Move :=
  (gateEncl t s).then_ fun _ =>
  (gateNt t s).then_ fun _ =>
  (gateCopies t s).then_ fun _ =>
  (gateSole t s).then_ fun _ =>
  (gateFill t false [t.line] s).then_ fun _ =>
  match findWay s t.sk with
  | none => none
  | some k =>
    let l := (wayAt s k).line t.line
    let (tail, limit, base) := descOf l.value
    let drop := fun (s : State) => eachIn (recordsOf s t.id) (fun u s => retire u.id s) s
    let reject := fun (s : State) => raise Ev.atmAppendReject (dataAddr 0 t.da) 0 s
    if ¬ flag s Reg.ATM_ATM_CFG 0 ∧ (recordsOf s t.id).isEmpty ∧ t.bad = [] then some (endAtom t .disabled 0 s)
    else if l.bad then some (endAtom t .poison 0 (raise Ev.atmPoison (dataAddr 0 t.da) 0 s))
    else if t.bad ≠ [] then some (endAtom t .poison 0 (drop s))
    else
      match ringFault s t.sk limit base with
      | some o => some (endAtom t o 0 (reject s))
      | none =>
        if limit < tail + len then some (endAtom t .full 0 (tally Ctr.ATM_APPEND_FULL 1 s))
        else
          let secs := recSectors s (base + tail) len
          let recs := recordsOf s t.id
          let ready := recs.all fun u => match u.ph with | .alu _ => true | _ => false
          match secs.find? fun x => !recs.any (·.sk == x) with
          | some x =>
            if ready then
              let js := recJs s (base + tail) len x
              some (admitTxn { Txn.blank with
                src := .engine, kind := .record t.id, sk := x, encl := t.encl, da := base + tail, data := t.data,
                line := js.headD 0, lst := [0, 1, 2, 3].map fun j => if js.contains j then .dirty else .invalid } s).2
            else none
          | none =>
            if ready then
              (gateResv t false 64 s).then_ fun _ => if wtRoom s (appendNeeds s t) then some (setPh t.id (.alu k) s) else none
            else none

/-- A record sector up to the ALU (R226, R221). -/
def actRecord (t : Txn) (desc : Nat) (s : State) : Move :=
  match txnAt s desc with
  | none => some (retire t.id s)
  | some _ =>
    let js := t.recLs
    (gateEncl t s).then_ fun _ =>
    (gateNt t s).then_ fun _ =>
    (gateCopies t s).then_ fun _ =>
    (gateSole t s).then_ fun _ =>
    (gateFill t false js s).then_ fun _ =>
    match findWay s t.sk with
    | none => none
    | some k => (gateResv t false (64 * js.length) s).then_ fun _ => some (setPh t.id (.alu k) s)

/-- The ALU step of an APPEND (R226): record first, then TAIL. -/
def runAppend (t : Txn) (len k : Nat) (s : State) : State :=
  let l := (wayAt s k).line t.line
  let (tail, _, base) := descOf l.value
  let recs := recordsOf s t.id
  let ways := (recSectors s (base + tail) len).map fun x => ((recs.find? (·.sk == x)), findWay s x)
  let parts := (recLines (base + tail) len).filterMap fun x =>
    match ways.getD x.1 (none, none) with
    | (some u, some w) => some (w, x.2.1, x.2.2.1, x.2.2.2.1, x.2.2.2.2, u.resv == .wt)
    | _ => none
  let drop := fun (s : State) => eachIn recs (fun u s => retire u.id (demandDone u.id s)) s
  let s := tally Ctr.ATM_OP 1 s
  if parts.any fun x => ((wayAt s x.1).line x.2.1).bad && decide (x.2.2.2.1 < 64) then
    endAtom t .poison 0 (raise Ev.atmPoison (dataAddr 0 t.da) 0 (drop s))
  else
    let s := parts.foldl (fun s (w, j, lo, n, off, wt) =>
      let m : LineMask := BitVec.ofNat 64 ((2 ^ n - 1) * 2 ^ lo)
      writeLine w j (putBytes 0 lo n (bytesOf t.data off n)) m false wt s) s
    let s := writeLine k t.line (BitVec.ofNat 512 (tail + len)) (BitVec.ofNat 64 255) false (t.resv == .wt) s
    let s := tally Ctr.ATM_APPEND_OK 1 (drop s)
    let un := parts.filter (·.2.2.2.2.2)
    if un.isEmpty ∧ t.resv = .armed then endAtom t .ok tail s
    else
      let s := un.foldl (fun s x => copyLines x.1 [x.2.1] .wt [t.id] s) s
      let s := if t.resv = .armed then s else copyLines k [t.line] .wt [t.id] s
      let n := un.length + (if t.resv = .armed then 0 else 1)
      setPh t.id .media (onTxn t.id (fun t => { t with data := BitVec.ofNat 512 tail, resv := .none, rsz := 0,
                                                       opnds := n }) s)

end Sys2Proof.Machine
end

