-- ==== Sys2Proof/Machine/Homes.lean ====
section
/-! DEFINITION. What a home does for requests, returned data and handbacks that come over the fabric (R256 to R259, R264,
R277, R278), and what a holder does for snoops (R260 to R262). -/

namespace Sys2Proof.Machine

open Sys2Proof

/-! ### Grants of the home (R247, R248, R256) -/

/-- The requester named as owner. -/
def DirE.owned (e : DirE) (q : Nat) : DirE := { e with excl := true, b := false, ptr := [some q, none, none] }

/-- The directory after the requester of a granted request is added (R248, R256); `excl`: it becomes the owner. -/
def dirGrant (k q : Nat) (excl : Bool) (s : State) : State :=
  match dirFind s k with
  | none => s
  | some i =>
    match tblFind s.cache.dir i with
    | none => s
    | some e =>
      if excl then putDir i (e.owned q) s
      else
        match addSharer s { e with excl := false } q with
        | .done e' => putDir i e' (if e'.b && !e.b then tally Ctr.DIR_OVERFLOW 1 s else s)
        | .flush => putDir i { e with excl := false, b := false, ptr := [some q, none, none] } s

/-- Adding the requester needs every sharer invalidated first (R248, case 5). -/
def gateShare (t : Txn) (k : Nat) (s : State) : Gate :=
  match dirAt s k with
  | none => .pass
  | some e =>
    if e.excl then .pass
    else
      match addSharer s e t.node with
      | .done _ => .pass
      | .flush =>
        if (e.devs s).isEmpty then .pass
        else .moved (setPh t.id (.recall none) (recallAll t.id k t.tid t.fgen t.sk none s))

/-- The hop count from device r to a member of r's domain; unknown is 0xF (R244). -/
def hops (s : State) (r c : Nat) : Nat :=
  match tblFind s.hpt.dom r, tblFind s.hpt.dom c with
  | some a, some b => if a % 64 = b % 64 then tblGet 0xF s.hpt.hop (64 * r + b / 64) else 0xF
  | _, _ => 0xF

/-- The home's own hop count to a device: HOPS of its route entry (R527). -/
def routeHops (s : State) (d : Nat) : Nat := bitsOf (route? s d) 16 13

/-- The sharer that R258 chooses to forward. -/
def nearest (s : State) (e : DirE) (q : Nat) : Option Nat :=
  let cs := e.named.filter fun c => decide (hops s q c < 0xF) && decide (hops s q c < routeHops s q)
  bestBy (fun a b => hops s q a < hops s q b) cs

/-- Ask the nearest sharer to forward, once: the directory is read for it as FWD_EN then stands (R258, R285). -/
def gateNear (t : Txn) (k : Nat) (s : State) : Gate :=
  match dirAt s k with
  | none => .pass
  | some e =>
    if e.excl ∨ t.near then .pass
    else
      let s := onTxn t.id (fun t => { t with near := true }) s
      match (if flag s Reg.COH_FX_CFG 18 then nearest s e t.node else none) with
      | none => .moved s
      | some c => .moved (setPh t.id (.recall none) (sendSnoop t.id Op.snpS c true false t.tid t.fgen t.sk s))

/-- Sharers of a resident sector, before a further one is served (R248, R258). -/
def gateSharers (t : Txn) (s : State) : Gate :=
  match findWay s t.sk with
  | some k => (gateShare t k s).andThen fun _ => gateNear t k s
  | none => .pass

/-- DATA from the home's way: the home keeps the charge of its dirty lines, so the copy is Clean or Poisoned clean. -/
def homeData (t : Txn) (k st : Nat) (s : State) : FMsg :=
  let w := wayAt s k
  { reply t s Op.data with
    st := st, encl := w.encl,
    lst := (List.range 4).map (fun j => if (w.line j).bad then .poisonClean else .clean),
    blk := wayBlk w }

/-- Respond and wait for the requester's ACK. -/
def endHome (t : Txn) (m : FMsg) (s : State) : State := setPh t.id .ack (respond t m s)

/-- A forwarder has sent the data: only the ACK is awaited. -/
def endForward (t : Txn) (s : State) : State := setPh t.id .ack s

/-- RD_S at its home (R256, R258). The recorded owner itself is served as if no device held the sector. -/
def actFRdS (t : Txn) (s : State) : Move :=
  (gateEncl t s).then_ fun _ =>
  (gateNt t s).then_ fun _ =>
  (gateCopies t s).then_ fun _ =>
  if t.sup then some (endForward t s)
  else
    (gateSharers t s).then_ fun _ =>
    (gateSole t s).then_ fun _ =>
    (gateFill t true [0, 1, 2, 3] s).then_ fun _ =>
    match findWay s t.sk with
    | none => none
    | some k =>
      (gateDir t k s).then_ fun _ =>
      let alone := ((dirAt s k).map fun e => (e.devs s).isEmpty || e.excl && e.named.contains t.node).getD true
      let st := if alone && flag s Reg.COH_DIR_CFG 0 && !hostCopies s k then Fs.e else Fs.s
      some (endHome t (homeData t k st s) (demandDone t.id (tally Ctr.FX_HOME_SUPPLY 1 s)))

/-- RD_O and RD_ONA at their home (R256). A grant without data needs the sector resident, not its lines. -/
def actFOwn (t : Txn) (z upgrade : Bool) (s : State) : Move :=
  (gateEncl t s).then_ fun _ =>
  (gateNt t s).then_ fun _ =>
  (gateCopies t s).then_ fun _ =>
  if t.sup then some (endForward t s)
  else
    (gateSole t s).then_ fun _ =>
    let named := ((findWay s t.sk).bind (dirAt s)).map (fun e => !e.excl && e.named.contains t.node) |>.getD false
    (gateFill t true (if (z || (upgrade && named)) && (findWay s t.sk).isSome then [] else [0, 1, 2, 3]) s).then_ fun _ =>
    match findWay s t.sk with
    | none => none
    | some k =>
      (gateHosts t k s).then_ fun _ =>
      (gateDir t k s).then_ fun _ =>
      if z ∨ (upgrade ∧ named) then some (endHome t { reply t s Op.gnt with st := Fs.e } (demandDone t.id s))
      else some (endHome t (homeData t k Fs.e s) (demandDone t.id <| tally Ctr.FX_HOME_SUPPLY 1 s))

/-- RD_NA at its home: no copy is kept and no ACK comes (R256, R259). -/
def actFRdNA (t : Txn) (s : State) : Move :=
  (gateEncl t s).then_ fun _ =>
  (gateNt t s).then_ fun _ =>
  (gateCopies t s).then_ fun _ =>
  if t.sup then some (retire t.id (dropRec t s))
  else
    (gateSole t s).then_ fun _ =>
    (gateFill t true [0, 1, 2, 3] s).then_ fun _ =>
    match findWay s t.sk with
    | none => none
    | some k => some (retire t.id (dropRec t (sendMsg (homeData t k Fs.i s) (demandDone t.id (tally Ctr.FX_HOME_SUPPLY 1 s)))))

/-! ### Returned data (R264, R265, R278) -/

/-- Write a whole line with its state as it arrives; the line-2 burst takes the heat with it (R130). -/
def putLine (k j : Nat) (ls : LS) (data : Line) (wt : Bool) (s : State) : State :=
  let s := burstsWritten k [j] s
  if setFailed s (k / 4) then s
  else markRegion (k / 4) (carryHeat k j (onWay k (fun w => w.onLine j fun l =>
    { ls := ls, stamp := if l.pend then (l.stamp + 1) % 16 else l.stamp, pend := false,
      wt := if l.inCache then l.wt else wt, data := if ls = .dirty then data else 0 }) s))

/-- A class B grant that the ledger gave is counted (R313). -/
def tellB (r : Option Resv) (s : State) : State :=
  match r with
  | some r => tellGrant false r s
  | none => s

/-- Place arriving dirty lines of a local sector, each under a reservation where the ledger can grant one (R264). Answers
whether every line was placed under an Armed grant; else the requests of `waits` wait for a copy. -/
def placeReturn (sk : Nat) (lst : List LS) (blk : List (Option Line)) (waits : List Nat) (s : State) : Bool × State :=
  let js := (List.range 4).filter fun j => (lst.getD j .invalid).charged
  let datum := fun j => (blk.getD j none).getD 0
  match findWay s sk with
  | some k =>
    let (un, s) := js.foldl (fun (un, s) j =>
      let g := tryB s 80
      let r := g.getD .wt
      let s := putLine k j (lst.getD j .invalid) (datum j) (r == .wt) (tellB g s)
      (if r = .armed then un else un ++ [j], s)) (([] : List Nat), s)
    if un.isEmpty then (true, s) else (false, copyLines k un .wt waits s)
  | none =>
    if js.isEmpty then (true, s)
    else
      let grant := fun (j : Nat) => tryB s (64 * ((js.takeWhile (· != j)).length + 1) + 16)
      let resv := fun (j : Nat) => (grant j).getD .wt
      let encl := ((rangeOf s (skSo sk)).map (·.encl)).getD 0
      let ls := (List.range 4).map fun j =>
        if js.contains j then
          some (CLine.mk (lst.getD j .invalid) (if lst.getD j .invalid = .dirty then datum j else 0) 0 (resv j == .wt)
            (if resv j = .armed then [] else waits))
        else none
      (js.all fun j => resv j == .armed, putCopies sk encl .evict ls (eachIn js (fun j => tellB (grant j)) s))

/-- The device is recorded as owner of a resident sector. -/
def isOwnerDev (s : State) (sk d : Nat) : Bool :=
  match findWay s sk with
  | some k => ((dirAt s k).map fun e => e.excl && e.named.contains d).getD false
  | none => false

/-- A snoop answered RSP_MISS with WB_PEND waits for the WB of this device (R280). -/
def wbAwaited (s : State) (sk d : Nat) : Bool := s.fab.snps.any fun x => x.sk == sk && x.holder == d && x.opc == Op.wb

/-- The mark of a sector is cleared. -/
def clearMark (sk : Nat) (s : State) : State := onFab (fun f => { f with marks := f.marks.filter (·.sk != sk) }) s

/-- A home accepts a handback (R278): as owner in the live directory or the restored snapshot, or as a party of an
unreleased hold. -/
def fhbParty (s : State) (sk d : Nat) : Bool :=
  isOwnerDev s sk d ||
    s.fab.marks.any (fun m => m.sk == sk && (m.owner == some d || (m.hold.map fun h => h.1 == d || h.2 == d).getD false)) ||
    s.fab.holds.any fun h => h.1 == sk && (h.2.1 == d || h.2.2 == d)

/-- The device is the forwarder of an unreleased hold whose requester has not handed back (R278). -/
def heldAside (s : State) (sk d : Nat) : Bool :=
  s.fab.marks.any (fun m => m.sk == sk && (m.hold.map (·.1)) == some d) || s.fab.holds.any fun h => h.1 == sk && h.2.1 == d

/-- CMP for returned data, then its record waits for ACK. A handback refused since the wait was forced carries cause 4 (R279). -/
def endReturn (t : Txn) (reject : Bool) (s : State) : State :=
  endHome t { reply t s Op.cmp with
    flags := if reject then 64 else 0, cause := if reject ∧ s.fab.forced then 4 else 0 } s

/-- The hold of a sector counts no more: what its forwarder or its requester hands back next is decisive (R278). -/
def settleHold (sk d : Nat) (s : State) : State :=
  onFab (fun f => { f with
    holds := f.holds.filter (·.1 != sk)
    marks := f.marks.map fun x => if x.sk = sk then { x with owner := some d, hold := none } else x }) s

/-- WB and FHB at the home. What a forwarder sends from a hold that is being recovered (R277) is placed, and the mark stays for the
requester's handback. -/
def actReturn (t : Txn) (s : State) : Move :=
  let d := t.node
  let fits := (findWay s t.sk).isSome || (wbEntry s t.sk).isSome || wbRoom s true
  let place := fun (after : State → State) =>
    if ¬ fits then (waitIn t .buffer (tellWbFull s)).then_ fun _ => none
    else
      let (armed, s) := placeReturn t.sk t.lst t.blk [t.id] s
      let s := after s
      some (if armed then endReturn t false s else setPh t.id .media s)
  match t.kind with
  | .fWb keep =>
    if isOwnerDev s t.sk d ∨ wbAwaited s t.sk d then
      place fun s =>
        let s := onFab (fun f => { f with snps := f.snps.filter fun x => !(x.sk == t.sk && x.holder == d && x.opc == Op.wb) }) s
        if keep then s
        else match findWay s t.sk with
          | some k => dirDrop k d s
          | none => s
    else some (endReturn t false s)
  | .fFhb held =>
    if ¬ fhbParty s t.sk d ∨ (s.fab.forced ∧ (s.fab.marks.any (·.sk == t.sk)) = false ∧ isOwnerDev s t.sk d = false) then
      some (endReturn t true (tally Ctr.FHB_REJECTED 1 s))
    else if held ∧ heldAside s t.sk d then
      let q := (s.fab.marks.findSome? fun x => if x.sk = t.sk then x.hold.map (·.2) else none) <|>
        ((s.fab.holds.find? (·.1 == t.sk)).map (·.2.2))
      let m := { FMsg.mk0 Op.fhb (ownNode s) t.peer t.tid t.fgen t.sk with
        lst := t.lst, blk := t.blk, flags := 16, aux := q.getD 4096 }
      let old := fun (y : FMsg) => y.tid == m.tid && y.sk == m.sk
      some (retire t.id (onFab (fun f => { f with aside := f.aside.filter (!old ·) ++ [m] }) (dropRec t s)))
    else
      place fun s =>
        let s := tally Ctr.FHB_APPLIED 1 s
        match s.fab.marks.findSome? fun x => if x.sk = t.sk then x.hold else none with
        | some (f, q) =>
          if f = d ∧ q ≠ d ∧ ¬ held then settleHold t.sk q s
          else clearMark t.sk (onFab (fun f => { f with holds := f.holds.filter (·.1 != t.sk) }) s)
        | none =>
          let s := match findWay s t.sk with
            | some k => dirDrop k d s
            | none => s
          clearMark t.sk (onFab (fun f => { f with holds := f.holds.filter (·.1 != t.sk) }) s)
  | _ => some (retire t.id s)

/-! ### Snoops at a holder (R260 to R262) -/

/-- The sector of a way leaves this device; a reservation of the way for a request stays (R280). -/
def dropCopy (k : Nat) (s : State) : State := onWay k (fun x => { Way.empty with rsvBy := x.rsvBy }) s

/-- The way as a Clean shared copy (R260): its RSTATE changes, so all four slices are written (R121). -/
def toShared (k : Nat) (s : State) : State :=
  carryHeat k 2 <| burstsWritten k [0, 1, 2, 3] <| onWay k (fun w => { w with
    rstate := 1,
    lines := w.lines.map fun l => match l.ls with
      | .dirty => { l with ls := .clean, pend := false, wt := false }
      | .dirtyZero => { l with ls := .clean, pend := false, wt := false, data := 0 }
      | .poisonDirty => { l with ls := .poisonClean, pend := false, wt := false }
      | _ => l }) s

/-- Line states as a Clean copy carries them. -/
def cleanLst (w : Way) : List LS := (List.range 4).map fun j => if (w.line j).bad then .poisonClean else .clean

/-- Only the dirty lines. -/
def dirtyLst (w : Way) : List LS := (List.range 4).map fun j => if (w.line j).ls.charged then (w.line j).ls else .invalid

/-- DATA to the requester that the snoop's TID names. -/
def fwdData (t : Txn) (w : Way) (st : Nat) (lst : List LS) (s : State) : State :=
  sendMsg { FMsg.mk0 Op.data (t.tid / 2 ^ 22) (ownNode s) t.tid t.fgen t.sk with
            st := st, encl := w.encl, lst := lst, blk := wayBlk w } s

/-- An answer to the home. -/
def tellHome (t : Txn) (opc st flags : Nat) (s : State) : State :=
  retire t.id (sendMsg { reply t s opc with st := st, flags := flags } s)

/-- SNPDATA to the home with the dirty lines. -/
def tellData (t : Txn) (w : Way) (st : Nat) (s : State) : State :=
  retire t.id (sendMsg { reply t s Op.snpData with st := st, lst := dirtyLst w, blk := wayBlk w } s)

/-- The answer of a holder once its hosts have answered (R260). -/
def answerSnoop (t : Txn) (k : Nat) (s : State) : State :=
  let w := wayAt s k
  let m := w.rstate == 2 && w.dirty
  match t.kind with
  | .snpS fwd =>
    let s := toShared k (if fwd.isSome then fwdData t w Fs.s (cleanLst w) s else s)
    if m then tellData t w Fs.s s
    else if fwd.isSome then tellHome t Op.rspFwd Fs.s 0 s
    else tellHome t Op.rspS Fs.s 0 s
  | .snpInv (some q) =>
    let s := fwdData t w Fs.e (if m then wayLst w else cleanLst w) s
    if m then
      tellHome t Op.rspFwd Fs.i 16 (onWay k (fun w => { w with fwd := some (q, t.tid), rsvBy := none }) s)
    else tellHome t Op.rspFwd Fs.i 0 (dropCopy k s)
  | .snpInv none => if m then tellData t w Fs.i (dropCopy k s) else tellHome t Op.rspI Fs.i 0 (dropCopy k s)
  | _ => tellHome t Op.rspFwd Fs.e 0 (fwdData t w Fs.i (cleanLst w) s)

/-- A snoop at a holder. A forward hold is no copy. -/
def actSnoop (t : Txn) (s : State) : Move :=
  match findWay s t.sk with
  | none => some (tellHome t Op.rspMiss Fs.i (if dataAwaits s t.sk then 8 else 0) s)
  | some k => (gateHosts t k s).then_ fun _ => some (answerSnoop t k s)

end Sys2Proof.Machine
end

