-- ==== Sys2Proof/Machine/Arrive.lean ====
section
/-! DEFINITION. How a message of a host port comes to its sector: decoded (R43, R48), mapped (R50, R53, R54), held while its
decoder is being changed (R48), or admitted (R82, R88); and the back-invalidation before a decoder or a home-map entry changes (R48,
R55). -/

namespace Sys2Proof.Machine

open Sys2Proof

/-- The decoder of port p that takes an HPA, while HDM is decoded (R613). -/
def decodeAt (s : State) (p hpa : Nat) : Option (Nat × Nat) :=
  if s.mgt.boot.hdm && s.sec.lock == 0 then decodeHpa (port s p) hpa else none

/-- Enclave ID of a request that decodes through decoder i of port p (R107). -/
def bindingOf (s : State) (p i : Nat) : Nat :=
  match tblFind s.sec.ideMem p with
  | some x => if x.est ∧ x.spdm then tblGet 0 s.sec.binds (4 * p + i) else 0
  | none => 0

/-- An SRAM upset met by the lookup of a sector (R131, R210, R211, R252). -/
def upsetAt (u : Upset) (sk : Nat) (s : State) : State :=
  match u, findWay s sk with
  | .none, _ => s
  | .tsc, _ => tscUpset (setOfSk s sk) s
  | .sfS, some k => sfParS k s
  | .sfA, some k => sfParA k s
  | .dirP, some k => dirParP k s
  | .dirA, some k => dirParA k s
  | _, none => s

/-- The credit of a message that takes no tracker entry goes back: a write's with its headroom. -/
def creditBack (h : HeldKind) (t : Txn) (p : Nat) (s : State) : State :=
  if t.gone then s else match h with | .write => oweRwd p s | _ => returnReq p s

/-- An unmapped message: R53's outcome for its class. -/
def turnAway (h : HeldKind) (t : Txn) (p : Nat) (s : State) : State :=
  let s := creditBack h t p s
  match h, t.kind with
  | .spec, _ => s
  | .req, .rdS | .req, .rdO | .req, .rdNA => answer t "MemData" none true s
  | _, _ => answer t "Cmp" none false s

/-! ### At the sector -/

/-- The BISnp outstanding to a port for a line. -/
def biFind (s : State) (p sk j : Nat) : Option Bi :=
  s.cache.bis.find? fun b => b.port == p && b.sk == sk && b.line == j && b.sent.isSome

/-- A line that failed parity has been written again: it is no longer in error (R425, R427). -/
def rewritten (k j : Nat) (s : State) : State :=
  let one := fun (x : Judge) => if x.key = k then { x with bad := x.bad.filter (· != j) } else x
  onCache (fun c => { c with txns := c.txns.map fun t => { t with judges := t.judges.map one } }) s

/-- The snoop writeback (R217): merged by the snooping transaction at once; it does not enter the conflict queue. -/
def snoopWriteback (t : Txn) (b : Bi) (k : Nat) (s : State) : State :=
  let mark := fun (x : Bi) => if x = b then { x with wb := true } else x
  let s := onCache (fun c => { c with bis := c.bis.map mark }) (tally Ctr.COH_SNOOP_WB 1 s)
  let s := writeLine k t.line t.data t.mask t.poison (t.resv == .wt) s
  let s := setHost k t.line b.port t.mv (rewritten k t.line s)
  if t.resv = .armed then oweRwd b.port (answer t "Cmp" none false s)
  else
    let (id, s) := admitTxn { t with pool := .none, resv := .none, rsz := 0 } s
    let s := onTxn id (fun t => { t with holder := true, seen := true, cred := false }) s
    let s := oweRwd b.port s
    if (wayAt s k).remote then setPh id .cmp (sendKeep k [id] s)
    else setPh id (.copy k t.line) s

/-- A write goes to its sector: a snoop writeback, a write-back where it is poisoned or is a full-line MemWr of a port that
holds a copy, else a write-no-allocate (R82, R112, R217). -/
def placeWrite (t : Txn) (p : Nat) (s : State) : State :=
  let held := match findWay s t.sk with
    | some k => hostSt s k t.line p != .i
    | none => false
  let t := { t with kind := if t.poison || (t.kind == .wb && held) then .wb else .wrNA, cred := !t.gone }
  match biFind s p t.sk t.line, findWay s t.sk with
  | some b, some k => snoopWriteback t b k s
  | _, _ => (admitTxn t s).2

/-- A clean eviction notice: the snoop filter shows I for the port; no entry is held (R82, R213). -/
def cleanAt (t : Txn) (p : Nat) (s : State) : State :=
  let s := match findWay s t.sk with
    | some k => if t.gone then s else setHost k t.line p .i s
    | none => s
  answer t "Cmp" none false (creditBack .clean t p s)

/-- A speculative read hint (R82, R92, R146): dropped without a free internal entry or from give-way step 1 on. -/
def hintAt (t : Txn) (p : Nat) (s : State) : State :=
  let s := creditBack .spec t p s
  if s.cache.shed = 0 ∧ poolUse s .internal < poolCap s .internal then
    (admitTxn { t with pool := .internal, src := .engine, gone := false } s).2
  else s

/-- A message with its DA: mapped (R50), it goes to its sector. -/
def toSector (h : HeldKind) (u : Upset) (t : Txn) (p : Nat) (s : State) : State :=
  match mapDa s t.da with
  | .error why => turnAway h t p (tellUnmapped why t.da p s)
  | .ok sk =>
    let t := { t with sk := sk, line := t.da / 64 % 4 }
    let s := upsetAt u sk s
    match h with
    | .req => (admitTxn t s).2
    | .write => placeWrite t p s
    | .clean => cleanAt t p s
    | .spec => hintAt t p s

/-! ### Decoding (R43, R48, R54) -/

/-- A walk of decoder i of port p runs. -/
def decWalks (s : State) (p i : Nat) : Bool := (port s p).walk.any (·.1 == i)

/-- The message is a snoop writeback under the present mapping. -/
def isSnoopWb (s : State) (h : HeldKind) (p da : Nat) : Bool :=
  h == .write && (match mapDa s da with
    | .ok sk => (biFind s p sk (da / 64 % 4)).isSome
    | .error _ => false)

/-- A CXL.mem message of port p with its HPA in `da`. While its decoder's walk runs it is held, but for the writebacks that the
walk itself brings. One that no committed decoder maps has no DA. -/
def ingress (h : HeldKind) (u : Upset) (t : Txn) (p : Nat) (s : State) : State :=
  match decodeAt s p t.da with
  | none => turnAway h t p (raise Ev.homeUnmapped (dataAddr 3 t.da) p s)
  | some (i, da) =>
    if decWalks s p i && !isSnoopWb s h p da then
      onPort p (fun x => { x with heldReqs := x.heldReqs ++ [⟨i, h, u, { t with arr := if t.arr = 0 then s.tb else t.arr }⟩] }) s
    else toSector h u { t with da := da, encl := bindingOf s p i } p s

/-! ### The walk before a decoder changes (R48) -/

/-- Lines of a port that the snoop filter tracks under a decoder's range: way, line. -/
def trackedIn (s : State) (p : Nat) (d : Hdm) : List (Nat × Nat) :=
  (s.cache.sf.filter fun e => !e.2.bsusp).flatMap fun e =>
    let k := 4 * (e.2.stag * 2 ^ 20 + e.1 / 8) + e.2.way
    let sk := skOfWay s k (wayAt s k)
    (List.range 4).filterMap fun j =>
      if sfSt s k j p ≠ .i ∧ (dasOfSk s sk).any (fun da => (d.toHpa (da + 64 * j)).isSome) then some (k, j) else none

/-- The walk's snoops for a decoder of port p. -/
def walkSnoops (p : Nat) (d : Hdm) (s : State) : State :=
  biPump (eachIn (trackedIn s p d) (fun x s => biAdd p x.1 x.2 false false s) s)

/-- A request that leaves its host a copy. -/
def Kind.copies : Kind → Bool
  | .rdS | .rdO | .own | .wb => true
  | _ => false

/-- The walk of decoder d at port p is not at its end: a snoop is not answered, a request accepted before may still leave a copy under
the old mapping, or a suspect walk has yet to find copies that nothing tracks. -/
def walkBusy (s : State) (p : Nat) (d : Hdm) : Bool :=
  s.cache.bis.any (fun b => b.port == p && (d.toDa b.hpa).isSome) || !(trackedIn s p d).isEmpty || !s.cache.walks.isEmpty ||
    s.cache.txns.any fun t => t.src == .hp p && t.kind.copies && !t.gone && (d.toHpa t.da).isSome

/-- The walk's change takes effect. -/
def setDec (p i : Nat) (d : Option Hdm) (s : State) : State :=
  onPort p (fun x => { x with hdm := setAt x.hdm i fun _ => d, walk := x.walk.filter (·.1 != i) }) s

/-- Messages whose decoder no longer walks are decoded under the new state. -/
def release (p : Nat) (s : State) : State :=
  let free := fun (h : HeldReq) => !decWalks s p h.dec
  let go := (port s p).heldReqs.filter free
  eachIn go (fun h s => ingress h.kind h.ups h.txn p s)
    (onPort p (fun x => { x with heldReqs := x.heldReqs.filter fun h => !free h }) s)

/-- The walks of a port go on: a change takes effect, held messages go on, or more copies are snooped. -/
def runWalk (p : Nat) (s : State) : Bool × State :=
  let old := fun (w : Nat × Option Hdm) => ((port s p).hdm.getD w.1 none)
  let ready := fun (w : Nat × Option Hdm) => ((old w).map fun d => !walkBusy s p d).getD true
  match (port s p).walk.find? ready with
  | some w => (true, setDec p w.1 w.2 s)
  | none =>
    if (port s p).heldReqs.any fun h => !decWalks s p h.dec then (true, release p s)
    else (false, eachIn ((port s p).walk.filterMap old) (walkSnoops p) s)

/-! ### The step before a home-map entry changes (R55) -/

/-- Ways whose lines the snoop filter tracks under a window: sectors of GA[59:36] = key. -/
def trackedWays (s : State) (key : Nat) : List Nat :=
  ((s.cache.sf.filter fun e => skOfSf s e.1 e.2 / 2 ^ 28 == key).map fun e =>
    4 * (e.2.stag * 2 ^ 20 + e.1 / 8) + e.2.way).filter (hostCopies s)

/-- Back-invalidate what is tracked of the window being invalidated, copies that an earlier request has left since included. -/
def pendSnoops (s : State) : State :=
  match s.hpt.pend with
  | some (_, key) => eachIn (trackedWays s key) snoopAll s
  | none => s

/-- Every walk goes on. -/
def runWalks (s : State) : Bool × State :=
  (List.range 4).foldl (fun (m, s) p => let (m', s) := runWalk p s; (m || m', s)) (false, pendSnoops s)

end Sys2Proof.Machine
end

