-- ==== Sys2Proof/Machine/Engine.lean ====
section
/-! DEFINITION. The engine that carries requests on: lookups (R132 to R142), what each request does next, copies completed
at media, range commands (R96), fences (R191 to R193), and the pump that runs after every command. -/

namespace Sys2Proof.Machine

open Sys2Proof

/-! ### Lookups (R132 to R141) -/

/-- The way in which the requested line is present. -/
def presentAt (s : State) (t : Txn) : Option Nat :=
  (findWay s t.sk).bind fun k => if ((wayAt s k).line t.line).ls = .invalid then none else some k

/-- Reads whose outcome trains the miss predictor (R137) and that may run ahead (R138). -/
def Kind.reading : Kind → Bool
  | .rdS | .rdO | .rdNA | .fRdS | .fRdO | .fRdNA => true
  | _ => false

/-- The lookup is decided. -/
def lookedUp (t : Txn) (out : Nat) (hit : Option Nat) (s : State) : State :=
  onTxn t.id (fun t => { t with found := out, look := some out, seen := true, ph := .looked hit, since := s.tb }) s

/-- A miss or a line miss. -/
def lookMiss (t : Txn) (s : State) : State := lookedUp t (if (findWay s t.sk).isSome then 2 else 1) none s

/-- Run-ahead fetches launched and not yet resolved (R159). -/
def specInflight (s : State) : Nat :=
  (s.cache.txns.filter fun t => t.spec && t.look.isNone).length + s.cache.specHeld.length

/-- Every port that the reads of a run-ahead fetch go to keeps MED_RSV slots free (R139). -/
def specRoom (s : State) (rs : List (Nat × Nat)) : Bool :=
  rs.all fun r =>
    let p := nsPort s r.1
    nsOk s r.1 && decide ((s.med.ports.getD p MPort.off).cmds.length + (rs.filter fun x => nsPort s x.1 == p).length +
      fld s Reg.TAG_SPEC_CFG 10 1 ≤ 1024)

/-- The lines that a run-ahead fetch brings. -/
def specLines (s : State) (t : Txn) : List Nat :=
  if t.kind = .rdNA ∨ (¬ t.isFab ∧ fld s Reg.TAG_FILL_CFG 1 0 = 0) then [t.line] else [0, 1, 2, 3]

/-- Launch a run-ahead fetch where R138 and R139 allow it: in Run, at the head of the conflict queue. -/
def runAhead (t : Txn) (s : State) : State :=
  let js := specLines s t
  let rs := readsFor s t.sk js
  if t.kind.reading ∧ isLocal s t.sk ∧ predictsMiss s (skSo t.sk) t.encl ∧ enclOk s t ∧ flag s Reg.TAG_SPEC_CFG 0 ∧ running s ∧
      (before s t).isEmpty ∧ (otherHolders s t).isEmpty ∧
      s.cache.shed = 0 ∧ specInflight s < fld s Reg.TAG_SPEC_CFG 22 11 ∧ specRoom s rs ∧ ¬ rs.isEmpty ∧
      ¬ ([0, 1, 2, 3].any fun j => inFlight s t.sk j) then
    match submitReads t rs s with
    | some (cids, s) =>
      tally Ctr.TAG_SPEC_LAUNCH 1
        (onTxn t.id (fun t => { t with spec := true, reads := cids, want := js, ownRd := ownRead s t rs cids }) s)
    | none => s
  else s

/-- The class of the DRAM reads of a request (R152). -/
def Kind.prio : Kind → Nat
  | .wb | .wrNA | .zalloc _ | .inval | .own | .fOwn _ | .fWrNA | .writeOut _ | .fWb _ | .fFhb _ => 1
  | .prefetch _ | .pin | .unpin | .flush | .spec | .evict | .cmd => 3
  | _ => 0

/-- Read bursts of some ways of the set for a lookup, at the class of the request (R132, R152). -/
def probe (t : Txn) (ws : List Nat) (s : State) : State :=
  emit (.dram "READ" ([t.id, t.gen, setOfSk s t.sk, t.line] ++ ws))
    (setPh t.id (.probe ws) (onTxn t.id (fun t => { t with prio := t.kind.prio, prioAt := s.tb }) s))

/-- A lookup to a set that the restart sweep has not reached reads its 16 bursts first (R386); a Rewarm restart writes them as well. What
they hold by then was decided with the class. -/
def sweepRead (set : Nat) (s : State) : State :=
  if s.rsv.sweep ∧ s.rsv.marks.getD (chanOf s set) 0 ≤ posOf s set then
    let s := tally Ctr.CCH_RD_BURST 16 s
    if s.mgt.boot.cls = some .rewarm ∧ fixedWays s set = 0 then tally Ctr.CCH_WR_BURST 16 s else s
  else s

/-- DECIDE (R133). What the rest of the lookup goes by is what the TSC and TRAIN_EN said here (R160). -/
def lookup (t : Txn) (s : State) : State :=
  let set := setOfSk s t.sk
  let s := onTxn t.id (fun t => { t with tscWas := tscHit s set, train := flag s Reg.TAG_MISSPRED_CFG 3 }) (tally Ctr.TAG_LOOKUP 1 s)
  if tscHit s set then
    let s := tally Ctr.TAG_TSC_HIT 1 s
    match presentAt s t with
    | some k => probe t [k % 4] s
    | none => lookMiss t s
  else
    let s := runAhead t (tally Ctr.TAG_TSC_MISS 1 (sweepRead set s))
    let (w, conf) := wayPred s set
    if flag s Reg.TAG_WAYPRED_CFG 0 && conf then probe t [w] s
    else probe t [0, 1, 2, 3] (tally Ctr.TAG_PROBE_ALL 1 s)

/-- Every present line of a way becomes poisoned by the rule of R155. -/
def poisonWay (k : Nat) (s : State) : State :=
  upTo 4 (fun j s =>
    let l := (wayAt s k).line j
    if l.ls = .invalid then s else poisonLine k j (l.ls.charged || !tscHit s (k / 4)) s) s

/-- An undecoded line of an identified way (R155). A way that holds nothing is left as it is where a fill has reserved it, where it is
a fixed way, or where its sector is resident in another way. -/
def poisonLost (k j : Nat) (s : State) : State :=
  let w := wayAt s k
  let l := w.line j
  if w.quar ∨ (¬ w.res ∧ (w.rsvBy.isSome ∨ k % 4 < fixedWays s (k / 4) ∨ (findWay s (skOfWay s k w)).isSome)) then s
  else poisonLine k j (l.ls.charged || !tscHit s (k / 4)) s

/-- What the slices of a way say of it (R155): the value of the replicated fields in every slice that decodes; a value that at least
three hold, with the lines of the others; nothing, or no such value. -/
inductive Ident where
  | agree (v : Nat) | majority (v : Nat) (minor : List Nat) | lost
  deriving DecidableEq, Repr

def Ident.agrees : Ident → Bool
  | .agree _ => true
  | _ => false

/-- Slice by line, none for one that does not decode. -/
def identify (sl : List (Option Nat)) : Ident :=
  let vs := (sl.filterMap id).map identOf
  match vs with
  | [] => .lost
  | v :: _ =>
    if vs.all (· == v) then .agree v
    else
      match vs.find? fun u => decide (3 ≤ (vs.filter (· == u)).length) with
      | some u => .majority u ((List.range 4).filter fun j => ((sl.getD j none).map identOf) != some u)
      | none => .lost

/-- The replicated fields of a way take the value that its slices identify it by. -/
def nameAs (k v : Nat) (s : State) : State :=
  if identOf (sliceWord (wayAt s k) 0) = v then s
  else onWay k (fun w => { w with tag := bitsOf v 15 0, remote := v.testBit 16, home := bitsOf v 28 17, rstate := bitsOf v 30 29 }) s

/-- The four slices of a way have been read (R155, R156). -/
def slicesRead (k : Nat) (sl : List (Option Nat)) (s : State) : State :=
  if (wayAt s k).quar ∨ setFailed s (k / 4) then s
  else
    match identify sl with
    | .agree v => eachIn ((List.range 4).filter fun j => (sl.getD j none).isNone) (fun j s => poisonLost k j s) (nameAs k v s)
    | .majority v minor =>
      raise Ev.tagMetaMismatch (dataLoc (k / 4) (k % 4)) (256 * (k % 4))
        (eachIn minor (fun j s => poisonLine k j true s) (nameAs k v s))
    | .lost => quarantine k s

/-- One burst of a way on the way to its four slices: its slice, if it decodes. A split poisons the way (R420). -/
def sliceRead (k : Nat) (rd : Rd) (j : Nat) (s : State) : Option Nat × State :=
  match readBurst (k / 4) (k % 4) j rd s with
  | (⟨.good, sl⟩, s) => (some sl, s)
  | (⟨.bad, _⟩, s) => (none, s)
  | (⟨.split, _⟩, s) => (some (sliceWord (wayAt s k) j), poisonWay k s)

/-- Read the bursts of some lines of a way. -/
def readLines (k : Nat) (rd : Rd) (js : List Nat) (s : State) : List (Option Nat) × State :=
  match js with
  | [] => ([], s)
  | j :: js =>
    let (x, s) := sliceRead k rd j s
    let (xs, s) := readLines k rd js s
    (x :: xs, s)

/-- Read the four bursts of a way. -/
def readSlices (k : Nat) (rd : Rd) (s : State) : List (Option Nat) × State := readLines k rd [0, 1, 2, 3] s

/-- Line j of a way has not decoded, and the other three bursts are read to identify the way. -/
def readOthers (k j : Nat) (rd : Rd) (s : State) : List (Option Nat) × State :=
  let (xs, s) := readLines k rd ([0, 1, 2, 3].filter (· != j)) s
  (xs.take j ++ none :: xs.drop j, s)

/-- A burst that does not decode (R155, R156): the TSC identifies the way, or its other slices do. -/
def badBurst (k j : Nat) (rd : Rd) (s : State) : State :=
  if (wayAt s k).quar ∨ setFailed s (k / 4) then s
  else if tscHit s (k / 4) then poisonLine k j ((wayAt s k).line j).ls.charged s
  else
    let (sl, s) := readOthers k j rd s
    slicesRead k sl s

/-- A request waits for a way's parity error to be judged; host copies go first (R425). -/
def awaitJudge (id : Nat) (x : Judge) (s : State) : State :=
  snoopAll x.key (onTxn id (fun t => { t with judges := t.judges ++ [x] }) s)

/-- A parity error in a way that the TSC does not hold: the slices that decode identify it and tell what is dirty (R425). -/
def blindJudge (id k j : Nat) (rd : Rd) (s : State) : State :=
  let (sl, s) := readOthers k j rd s
  match identify sl with
  | .agree v => awaitJudge id ⟨k, (List.range 4).filter fun i => (sl.getD i none).isNone, true⟩ (nameAs k v s)
  | _ => slicesRead k sl s

/-- A burst of a probe does not decode. -/
def probeBad (id k j : Nat) (rd : Rd) (s : State) : State :=
  if s.cch.mode ∧ (wayAt s k).res ∧ ¬ (wayAt s k).quar then
    if tscHit s (k / 4) then awaitJudge id ⟨k, [j], false⟩ s else blindJudge id k j rd s
  else badBurst k j rd s

/-- Read the burst of one way for a lookup. A quarantined way is passed over (R156). -/
def probeWay (t : Txn) (w : Nat) (rd : Rd) (s : State) : State :=
  let k := 4 * setOfSk s t.sk + w
  if (wayAt s k).quar then s
  else
    match readBurst (setOfSk s t.sk) w t.line rd s with
    | (⟨.good, sl⟩, s) =>
      if identOf sl = identOf (sliceWord (wayAt s k) t.line) then s
      else onTxn t.id (fun t => { t with other := t.other ++ [w] }) s
    | (⟨.split, _⟩, s) => poisonWay k s
    | (⟨.bad, _⟩, s) => probeBad t.id k t.line rd s

/-- A parity error, judged once host copies are gone (R425). -/
def judgeParity (x : Judge) (s : State) : State :=
  let w := wayAt s x.key
  let at_ := dataLoc (x.key / 4) (x.key % 4)
  let tells := fun (j : Nat) => !(x.blind && x.bad.contains j)
  if (List.range 4).any fun j => tells j && (w.line j).ls.charged then
    if x.bad.isEmpty then s
    else raise Ev.dirtyParityFatal at_ (256 * (x.key % 4)) (eachIn x.bad (fun j s => poisonLine x.key j true s) s)
  else tally Ctr.CCH_FJ2200_REFETCH 1 <| raise Ev.fj2200Refetch at_ (256 * (x.key % 4)) <|
    burstsWritten x.key [0, 1, 2, 3] (onWay x.key (fun w => { Way.empty with rsvBy := w.rsvBy }) s)

/-- The compare over the ways read (R134), and what follows. -/
def compare_ (t : Txn) (ws : List Nat) (s : State) : State :=
  let set := setOfSk s t.sk
  let trains := t.train && t.kind.reading && isLocal s t.sk && !t.tscWas
  match (presentAt s t).bind fun k => if ws.contains (k % 4) && !t.other.contains (k % 4) then some k else none with
  | some k =>
    let s := if t.tscWas then s
      else
        let s := if ws.length = 1 then tally Ctr.TAG_WAYPRED_OK 1 s else s
        let s := trainWay set (k % 4) s
        let s := if trains then trainMiss (skSo t.sk) t.encl false s else s
        tscFillOnHit set (k % 4) s
    lookedUp t 0 (some k) (squash t s)
  | none =>
    if ws.length = 1 ∧ ¬ t.tscWas then
      probe t ([0, 1, 2, 3].filter fun w => !ws.contains w) (tally Ctr.TAG_WAYPRED_BAD 1 s)
    else lookMiss t (if trains then trainMiss (skSo t.sk) t.encl true s else s)

/-- The parity errors of a probe are judged, and the compare goes on. -/
def actJudge (t : Txn) (ws : List Nat) (s : State) : Move :=
  if t.judges.any fun x => biBusy s (skOfWay s x.key (wayAt s x.key)) then none
  else
    some (compare_ t ws (onTxn t.id (fun t => { t with judges := [] }) (eachIn t.judges judgeParity s)))

/-- The bursts of a probe return (R134, R155, R425). -/
def probeReturn (t : Txn) (ws : List Nat) (rds : List Rd) (s : State) : State :=
  let s := upTo ws.length (fun i s => probeWay t (ws.getD i 0) (rds.getD i ⟨[]⟩) s) s
  match txnAt s t.id with
  | none => s
  | some u => if u.judges.isEmpty then compare_ u ws s else setPh t.id (.judge ws) s

/-! ### What a request does next -/

/-- Reads that complete after a Quench cannot be decrypted: their lines go to the requester as poison, and nothing is installed,
reported or listed (R568). -/
def lostFill (t : Txn) (s : State) : State :=
  let w := (findWay s t.sk).map (wayAt s) |>.getD Way.empty
  let gone := fun (j : Nat) => t.want.contains j || (w.line j).bad
  let m := { reply t s Op.data with
    st := (match t.kind with | .fRdS => Fs.s | .fRdNA => Fs.i | _ => Fs.e)
    lst := (List.range 4).map fun j => if gone j then .poisonClean else .clean
    blk := (List.range 4).map fun j => some (if gone j then 0 else (w.line j).value) }
  match t.kind with
  | .rdS | .rdO | .rdNA | .own | .wb | .wrNA | .atomic _ | .append _ | .record _ => failTxn t 0 s
  | .fRdNA => retire t.id (dropRec t (sendMsg m s))
  | .fRdS | .fRdO | .fOwn _ => endHome t m s
  | .fAtom _ => endAtom t .poison 0 s
  | _ => retire t.id s

/-- The reads of a fill have all been consumed. -/
def endReads (t : Txn) (s : State) : State :=
  if s.sec.quenched then lostFill t s else
  match t.kind with
  | .rdNA => endRdNA t s
  | .writeOut c =>
    if c = .conflict ∨ (findWay s t.sk).isSome then endFill t s else setPh t.id (.looked none) s
  | _ => endFill t s

/-- The way that holds the sector leaves the cache: a policy EVICT (R470), which is rejected and counted where it no longer can, or a sector handed back to a restarted peer, which
TAG 1 marks and which a pin does not keep (R276). -/
def actEvict (t : Txn) (s : State) : Move :=
  (gateNt t s).then_ fun _ =>
  let turned := fun (s : State) => some (retire t.id (match t.src with
    | .policy _ _ => tally Ctr.PLC_CP3_REJECT 1 s
    | _ => s))
  match findWay s t.sk with
  | none => turned s
  | some k =>
    let w := wayAt s k
    if (w.pin && t.tag == 0) || (t.poison && w.dirty) then turned s
    else if w.rsvBy ≠ some t.id then
      some (onWay k (fun w => { w with rsvBy := some t.id }) (onTxn t.id (fun t => { t with evc := flag s Reg.COH_DIR_CFG 1 }) s))
    else
      match gateEvict t k s with
      | .moved s => some s
      | _ => none

/-- A sector of a FLUSH (R95): every dirty line of it is on its way to the journal, or home. A line written since its copy was taken is
copied again once that copy is complete (R167). -/
def actFlush (t : Txn) (s : State) : Move :=
  (gateEncl t s).then_ fun _ =>
  (gateNt t s).then_ fun _ =>
  let out := fun (s : State) =>
    let note := fun (o : RangeOp) => if o.waits.contains t.id then { o with flushing := o.flushing ++ [t.sk] } else o
    some (retire t.id (onCache (fun c => { c with ops := c.ops.map note }) s))
  match findWay s t.sk with
  | none => out s
  | some k =>
    let js := evictLines (wayAt s k)
    if js.isEmpty then out s
    else if (wayAt s k).remote then out (sendKeep k [] s)
    else if js.any fun j => inFlight s t.sk j then none
    else if copyRoom s t.sk then out (copyLines k js .wb [] s)
    else (waitIn t .buffer (tellWbFull s)).then_ fun _ => none

/-- What a request that meets a set of a failed channel still does as elsewhere: it reads and writes no line of the set itself, or what it
takes from there is poison already (R423). -/
def Kind.spared : Kind → Bool
  | .unpin | .flush | .cmd | .inval | .writeOut _ | .evict | .snpS _ | .snpInv _ | .snpCur _ => true
  | _ => false

/-- A request to a set whose channel has failed (R423): reads return poison, writes complete with their data discarded, and nothing is
fetched. -/
def actFailed (t : Txn) (s : State) : Move :=
  (gateEncl t s).then_ fun _ =>
  some (match t.kind with
    | .fRdS | .fRdO | .fRdNA | .fOwn _ | .fAtom _ => lostFill { t with want := [0, 1, 2, 3] } s
    | .fWrNA => endHome t (reply t s Op.cmp) (releaseCredit t s)
    | .fWb _ | .fFhb _ => endReturn t false s
    | .zalloc _ | .pin | .prefetch _ | .spec => retire t.id (releaseCredit t s)
    | _ => failTxn t 0 s)

/-- The effect of a request that holds its sector and whose lookup is decided. -/
def effect (t : Txn) (s : State) : Move :=
  if setFailed s (setOfSk s t.sk) ∧ ¬ t.kind.spared then actFailed t s else
  match t.kind with
  | .rdS | .rdO | .rdNA | .own => actRead t s
  | .wb => actWrite t s
  | .wrNA | .fWrNA => actNt t s
  | .atomic a => if isLocal s t.sk then actAtom t s else actAtomRemote t (some a) 0 s
  | .append len => if isLocal s t.sk then actAppend t len s else actAtomRemote t none len s
  | .record d => actRecord t d s
  | .spec | .prefetch _ | .pin => actFetch t s
  | .unpin => actUnpin t s
  | .flush => actFlush t s
  | .cmd => none
  | .inval => actInval t s
  | .zalloc own => actZalloc t own s
  | .writeOut c => actOut t c s
  | .evict => actEvict t s
  | .fRdS => actFRdS t s
  | .fRdO => actFOwn t false false s
  | .fOwn z => actFOwn t z true s
  | .fRdNA => actFRdNA t s
  | .fAtom _ => actAtom t s
  | .fWb _ | .fFhb _ => actReturn t s
  | .snpS _ | .snpInv _ | .snpCur _ => actSnoop t s

/-- A queued request that cannot hold its sector yet has waited: once in its conflict queue, once behind an OFENCE (R199). -/
def noteWait (t : Txn) (s : State) : Move :=
  if t.kind = .cmd then none
  else if ¬ t.told ∧ ¬ queueFree s t then
    some (tally Ctr.TRK_CONFLICT_WAIT 1 (onTxn t.id (fun t => { t with told := true }) s))
  else if ¬ t.toldF ∧ ofenceHolds s t then
    some (tally Ctr.TRK_OFENCE_HOLD 1 (onTxn t.id (fun t => { t with toldF := true }) s))
  else none

/-- Prefetches are suspended from give-way step 2 on; rewarm is paced by step 3 (R92, R143). -/
def suspended (s : State) (t : Txn) : Bool :=
  decide (2 ≤ s.cache.shed) && !t.holder &&
    (match t.kind with | .prefetch _ => !(t.src == .engine && t.tag == 1) | _ => false)

/-- A write keeps its credit where it still needs a write-buffer entry that is not free (R91). -/
def entryFree (s : State) (t : Txn) : Bool := t.resv == .armed || !isLocal s t.sk || copyRoom s t.sk

/-- One step of a request, where it can make one. -/
def act (t : Txn) (s : State) : Move :=
  match t.ph with
  | .entry | .dram | .media | .cmp | .ack | .alu _ | .probe _ | .fabric _ => none
  | .recall _ => if snpBusy s t.id then none else some (setPh t.id (.looked none) s)
  | .fill k =>
    if t.reads.isEmpty then some (endReads t s)
    else k.bind fun k => answerEarly t k s
  | .copy k j => actCopy t k j s
  | .judge ws => actJudge t ws s
  | _ =>
    if s.rsv.pst = .geyser ∧ t.kind.looks then none
    else if suspended s t then none
    else if ¬ t.holder then
      if mayHold s t then
        let s := onTxn t.id (fun t => { t with holder := true, busy := !t.kind.shares, seen := !t.kind.looks }) s
        some (if t.kind = .wb ∧ entryFree s t then releaseCredit t s else s)
      else noteWait t s
    else if ¬ t.seen ∧ ¬ setFailed s (setOfSk s t.sk) then some (lookup t s)
    else effect t s

/-- Let one request go on for as long as it can. -/
def runTxn (n id : Nat) (moved : Bool) (s : State) : Bool × State :=
  match n with
  | 0 => (moved, s)
  | n + 1 =>
    match txnAt s id with
    | none => (moved, s)
    | some t =>
      match act t s with
      | some s => runTxn n id true s
      | none => (moved, s)

/-- Let every request go on, in arrival order. -/
def runTxns (s : State) : Bool × State :=
  (s.cache.txns.map (·.id)).foldl (fun (m, s) id =>
    let (m', s) := runTxn 48 id false s
    (m || m', s)) (false, s)

/-! ### Copies completed at media (R182, R190, R264) -/

/-- A request whose copies are all complete. -/
def copyDone (t : Txn) (s : State) : State :=
  match t.kind with
  | .atomic _ | .append _ | .fAtom _ => endAtom t .ok t.data.toNat s
  | .fWrNA => endHome t (reply t s Op.cmp) s
  | .fWb _ | .fFhb _ => endReturn t false s
  | _ => retire t.id (answer t "Cmp" none false s)

/-- One copy of a request has completed. -/
def ackOne (id : Nat) (s : State) : State :=
  match txnAt s id with
  | some t =>
    match t.ph with
    | .media | .cmp =>
      if 1 < t.opnds ∧ t.kind ≠ .fWrNA then onTxn id (fun t => { t with opnds := t.opnds - 1 }) s else copyDone t s
    | _ => onFab (fun f => { f with snps := f.snps.filter fun x => !(x.txn == id && x.opc == Op.snpData) }) s
  | none => onFab (fun f => { f with snps := f.snps.filter fun x => !(x.txn == id && x.opc == Op.snpData) }) s

def runAcks (s : State) : Bool × State :=
  if s.cache.acks.isEmpty then (false, s)
  else (true, eachIn s.cache.acks ackOne (onCache (fun c => { c with acks := [] }) s))

/-! ### Range commands (R95 to R97, R183) -/

abbrev Mb.zalloc := 0xC000
abbrev Mb.prefetch := 0xC001
abbrev Mb.pin := 0xC002
abbrev Mb.unpin := 0xC003
abbrev Mb.flush := 0xC004
abbrev Mb.inval := 0xC005
abbrev Mb.create := 0xC031
abbrev Mb.destroy := 0xC032

def onOp (p opc : Nat) (f : RangeOp → RangeOp) (s : State) : State :=
  onCache (fun c => { c with ops := c.ops.map fun o => if o.port = p ∧ o.opcode = opc then f o else o }) s

/-- The next sector of a command's remaining ranges is behind it. -/
def RangeOp.advance (o : RangeOp) : RangeOp :=
  match o.segs with
  | [] => o
  | (a, b) :: r => if a + 1 < b then { o with segs := (a + 1, b) :: r } else { o with segs := r }

/-- The rest of the present window is behind it. -/
def RangeOp.skipWindow (o : RangeOp) : RangeOp :=
  match o.segs with
  | [] => o
  | (a, b) :: r =>
    let e := (a / 2 ^ 28 + 1) * 2 ^ 28
    if e < b then { o with segs := (e, b) :: r } else { o with segs := r }

/-- Nothing of the sector is on its way to the journal or its home any more. -/
def flushed (s : State) (sk : Nat) : Bool :=
  (ntEntry s sk).isNone && !([0, 1, 2, 3].any fun j => inFlight s sk j) && !wbAwaits s sk

/-- An internal request of a range command about a sector, which the command waits for. Tag 1 marks an enclave command's, whose own
flush is not checked. -/
def spawn (o : RangeOp) (da sk : Nat) (k : Kind) (s : State) : State :=
  let (id, s) := admitTxn { Txn.blank with
    pool := .internal, src := .mbox o.port, kind := k, tag := if o.setEncl.isSome then 1 else 0, da := da, sk := sk, encl := o.encl } s
  onOp o.port o.opcode (fun o => { o with waits := o.waits ++ [id] }) s

/-- One sector of a range command, or none where it must wait (R92, R96, R97). -/
def opSector (o : RangeOp) (s : State) : Move :=
  match o.segs with
  | [] => none
  | (a, _) :: _ =>
    let da := 256 * a
    let here := onOp o.port o.opcode
    match (if o.setEncl.isSome then .ok (devId s * 2 ^ 40 + a) else mapDa s da) with
    | .error why =>
      let s := tellUnmapped why da o.port s
      some (here (fun o => (noteStatus (da / 2 ^ 36) "UNMAPPED" o).skipWindow) s)
    | .ok sk =>
      let go := fun (k : Kind) => some (here RangeOp.advance (spawn o da sk k s))
      if o.stage = 2 then go .flush
      else if o.opcode = Mb.unpin then go .unpin
      else if o.opcode = Mb.prefetch then if 2 ≤ s.cache.shed then none else go (.prefetch 0)
      else if o.opcode = Mb.pin then go .pin
      else if o.opcode = Mb.inval then go .inval
      else go (.zalloc (o.setEncl.map (·.2)))

/-- The output payload: a byte for each window, with codes of the model's own. -/
def RangeOp.payload (o : RangeOp) : List Byte :=
  let ws := (o.all.flatMap fun r => if r.1 < r.2 then
    (List.range ((r.2 - 1) / 2 ^ 28 + 1 - r.1 / 2 ^ 28)).map (r.1 / 2 ^ 28 + ·) else []).eraseDups
  ws.map fun w => BitVec.ofNat 8 (((o.status.find? (·.1 == w)).map fun x => statusRank x.2).getD 0)

/-- A range command is complete. -/
def closeOp (o : RangeOp) (status : String) (s : State) : State :=
  let s := onCache (fun c => { c with ops := c.ops.filter fun x => !(x.port == o.port && x.opcode == o.opcode) }) s
  bgDone o.port o.opcode status (if o.setEncl.isSome then [] else o.payload) s

/-- The ranges of an enclave. -/
def onRanges (e : Nat) (f : Range → Option Range) (s : State) : State :=
  onSec (fun x => { x with ranges := x.ranges.filterMap fun r =>
    if r.2.encl = e then (f r.2).map fun n => (r.1, n) else some r }) s

/-- The step after an enclave command's area write, zero-allocation or flush (R553, R554). KEY_ESCROW and KEY_ROTATE wait for
their area write as the last stage does. -/
def enclaveNext (o : RangeOp) (e : Nat) (s : State) : State :=
  let here := onOp o.port o.opcode
  match o.stage with
  | 0 => here (fun o => { o with stage := 1, segs := o.all }) s
  | 1 => here (fun o => { o with stage := 2, segs := o.all }) s
  | 2 =>
    if o.opcode = Mb.create then
      let s := onRanges e (fun r => some { r with st := if r.st = .creating then .active else r.st }) s
      here (fun o => { o with stage := 3 }) (writeArea (areaEscrow s) s).2
    else
      let s := clearMissTag e (onRanges e (fun r => if r.st = .destroying then none else some r) s)
      let s := onSec (fun x => { x with media := tblDel x.media e }) s
      let s := onJrnl (fun j => { j with rot := j.rot.filter (·.key != e) }) s
      here (fun o => { o with stage := 3 }) (writeArea (areaEscrow s) s).2
  | _ =>
    let s := if o.opcode = Mb.create then
        onSec (fun x => { x with binds := o.binds.foldl (fun b k => tblPut b k e) x.binds }) s else s
    closeOp o "SUCCESS" (if o.opcode = Mb.create ∨ o.opcode = Mb.destroy then raiseE Ev.enclaveChange 0 0 e s else s)

/-- A range command whose sectors have all been done. -/
def opEnd (o : RangeOp) (s : State) : Move :=
  match o.setEncl with
  | some (e, _) =>
    if (o.stage = 0 ∨ o.stage = 3) ∧ ¬ s.sec.areaQ.isEmpty then none else some (enclaveNext o e s)
  | none => some (closeOp o "SUCCESS" s)

/-- One move of a range command that holds its entry. Zero-allocation goes on sector by sector on its own commands. -/
def runOp (o : RangeOp) (s : State) : Move :=
  if ¬ cmdHeld s o.port o.opcode then none else
  let fl := o.flushing.filter fun sk => !flushed s sk
  if fl ≠ o.flushing then some (onOp o.port o.opcode (fun o => { o with flushing := fl }) s)
  else if ¬ o.segs.isEmpty ∧ o.stage ≠ 0 then
    if o.stage = 1 ∧ (o.opcode = Mb.zalloc ∨ o.setEncl.isSome) then none else opSector o s
  else if o.waits.isEmpty ∧ o.flushing.isEmpty then opEnd o s
  else none

/-- Every range command, at most 64 moves each. -/
def runOps (s : State) : Bool × State :=
  (s.cache.ops.map fun o => (o.port, o.opcode)).foldl (fun (m, s) key =>
    (List.range 64).foldl (fun (m, s) _ =>
      match s.cache.ops.find? fun o => (o.port, o.opcode) == key with
      | none => (m, s)
      | some o =>
        match runOp o s with
        | some s => (true, s)
        | none => (m, s)) (m, s)) (false, s)

/-! ### Fences (R101 to R104, R191 to R193) -/

/-- Requests that a fence can cover. -/
def Kind.fenced : Kind → Bool
  | .wb | .wrNA | .atomic _ => true
  | _ => false

/-- A covered item is still to be waited for: not yet visible for an OFENCE, not yet inside for a DFENCE. -/
def fenceWaits (f : Fence) (t : Txn) : Bool :=
  t.kind.fenced && f.limits.any (fun l => l.1 == t.wport && decide (t.wseq ≤ l.2)) &&
    (match t.ph with
     | .dram => false
     | .copy _ _ | .media | .cmp => f.dfence
     | _ => true)

/-- A fence is complete once nothing it covers is waited for: no request, no write that a decoder's walk holds, and, for an OFENCE, no
write that is combined here for another device and not yet visible at its home (R191). -/
def fenceReady (s : State) (f : Fence) : Bool :=
  !s.cache.txns.any (fenceWaits f) && !s.hpt.ports.any (fun p => p.heldReqs.any fun h => fenceWaits f h.txn) &&
    (f.dfence || !s.cache.nt.any fun e => !isLocal s e.sk && e.items.any fun i =>
      f.limits.any fun l => l.1 == i.port && decide (i.wseq ≤ l.2))

/-- A fence covers an item of a combining entry. -/
def Fence.covers (f : Fence) (i : NtItem) : Bool := f.limits.any fun l => l.1 == i.port && decide (i.wseq ≤ l.2)

/-- Combining entries that a DFENCE writes out: those with a covered item that is not yet inside, at any time while it is outstanding
(R101, R192). -/
def fenceOuts (s : State) : List Nat :=
  (s.cache.nt.filter fun e => e.out.isNone &&
    e.items.any fun i => !i.armed && s.cache.fences.any fun f => f.dfence && f.covers i).map (·.sk)

/-- FENCE_DONE of port p as it reads at 0x804 of its BAR2 block (R104). -/
def fenceDone (s : State) (p : Nat) : Nat :=
  (port s p).doneSeq % 2 ^ 16 + (if (port s p).doneKind then 2 ^ 16 else 0) + if (port s p).ovf then 2 ^ 17 else 0

/-- A fence is complete (R102 to R104). -/
def closeFence (f : Fence) (s : State) : State :=
  if ¬ (port s f.port).up then s
  else
    let s := tally Ctr.HPT_FENCE_DONE 1 s
    match f.via with
    | .mailbox => bgDone f.port (if f.dfence then 0xC010 else 0xC011) "SUCCESS" [] s
    | .gpf => emit (.cxl f.port 0 "GPFPhase2Cpl" none false) s
    | .doorbell seq irq =>
      let s := onPort f.port (fun x => { x with doneSeq := seq, doneKind := f.dfence }) s
      if irq then onIo (signal (env s) f.port 1 0) s else s

/-- A doorbell fence completes only after the earlier ones of its port (R104); a mailbox fence needs its entry (R96). -/
def fenceTurn (s : State) (f : Fence) : Bool :=
  match f.via with
  | .mailbox => cmdHeld s f.port (if f.dfence then 0xC010 else 0xC011)
  | .doorbell _ _ =>
    match s.cache.fences.find? fun g => g.port == f.port && (match g.via with | .doorbell _ _ => true | _ => false) with
    | some g => g == f
    | none => true
  | _ => true

def runFences (s : State) : Bool × State :=
  match fenceOuts s with
  | sk :: _ => (true, startWriteOut sk .fence s)
  | [] =>
    match s.cache.fences.find? fun f => fenceReady s f && fenceTurn s f with
    | none => (false, s)
    | some f => (true, closeFence f (onCache (fun c => { c with fences := c.fences.erase f }) s))

/-! ### The pump -/

/-- The journal packs what waits: at once where a fence or FLUSH waits for it (R322). -/
def packs (s : State) : State :=
  if s.cache.wb.isEmpty ∨ s.rsv.pst = .geyser then s
  else packWb (s.cache.fences.any (·.dfence) || s.cache.ops.any (·.stage == 2)) s

/-- Carry everything on until nothing moves, at most n rounds. -/
def pump (n : Nat) (s : State) : State :=
  match n with
  | 0 => s
  | n + 1 =>
    let (a, s) := runAcks s
    let (b, s) := runTxns s
    let (c, s) := runOps s
    let (d, s) := runFences s
    let (e, s) := runWalks s
    if a || b || c || d || e then pump n s else s

/-- A shortage (R92): a host or fabric request waits for a tracker entry, or a write-back for a media slot or a write-buffer entry. -/
def short (s : State) : Bool :=
  (waiting s).any (fun t => t.pool != .internal && t.pool != .none && t.kind != .cmd) || s.cache.wbFull ||
    s.med.jrnl.staging.any (fun p => p.cid.isNone && !p.done)

/-- A shortage begins: give-way takes its first step at once, and STEP leaving 0 raises its event (R92, R94); or it ends. -/
def giveWay (s : State) : State :=
  if ¬ short s then onCache (fun c => { c with shedAt := none }) s
  else
    let s := if s.cache.shedAt.isNone then onCache (fun c => { c with shedAt := some s.tb }) s else s
    if s.cache.shed = 0 then raise Ev.trkShed 1 0 (onCache (fun c => { c with shed := 1 }) s) else s

/-- A full buffer's occurrence ends once it has room again (R198). -/
def unfull (s : State) : State :=
  onCache (fun c => { c with wbFull := c.wbFull && !wbRoom s false, ntFull := c.ntFull && decide (512 ≤ c.nt.length) }) s

/-- A suspect walk whose snoops are all answered ends: its suspect entry is cleared (R211). -/
def walkEnd (s : State) : State :=
  match s.cache.walks with
  | [] => s
  | w :: rest =>
    if ¬ w.visited ∨ s.cache.bis.any (fun b => b.walk && sfSet (setOfSk s b.sk) == w.set) then s
    else onCache (fun c => { c with walks := rest, sf := c.sf.filter fun e => !(e.2.bsusp && e.1 == w.ent) }) s

/-- The journal is below reserve only while a class A grant is held for space (R336). -/
def unbelow (s : State) : State :=
  if s.med.jrnl.below ∧ ¬ (waitsA s ∧ jrnlFree s < drainReserve s + 80) then onJrnl (fun j => { j with below := false }) s
  else s

/-- The journal is at its high watermark (R335). -/
def jrnlHigh (s : State) : Bool :=
  match s.med.media.set_ with
  | none => false
  | some m => decide (fld s Reg.LDG_JRNL_CFG 13 7 * jrnlTotal m ≤ 100 * jrnlUsed s) ||
      decide (jrnlFree s < drainReserve s + 2 ^ 30 * fld s Reg.LDG_JRNL_CFG 18 14)

/-- Entry to the high watermark raises its event (R335). -/
def tellHigh (s : State) : State :=
  let h := jrnlHigh s
  let was := s.med.jrnl.high
  let s := onJrnl (fun j => { j with high := h }) s
  if h && !was && running s then raise Ev.jrnlHigh 0 0 s else s

/-- What follows every command on the data path. -/
def settle (s : State) : State :=
  let s := pump (s.cache.txns.length + s.cache.ops.length + 24) (biPump (walkEnd s))
  let s := areaPump (submitPages (packs s))
  tellHigh (unbelow (giveWay (unfull (rstateNow (calPump (peakD (fabPump (corrPump s))))))))

/-- Admit a request and let it go on. -/
def serve (t : Txn) (s : State) : State := settle (admitTxn t s).2

end Sys2Proof.Machine
end

