-- ==== Sys2Proof/Machine/Copying.lean ====
section
/-! DEFINITION. The TSC's fills and the stalls of the tag pipeline (R126, R127, R150, R155), the write-back scheduler (R173 to
R176, R263), the clean queue, the write-outs of combining entries by time (R180), ledger grants to waiting requests (R295),
and the suspect walk of the snoop filter (R208, R211). -/

namespace Sys2Proof.Machine

open Sys2Proof

/-! ### Tag pipeline -/

/-- The four slices of way w of a set, as a TSC fill finds them (R155). -/
def fillWay (set w : Nat) (rd : Rd) (s : State) : State :=
  let (sl, s) := readSlices (4 * set + w) rd s
  slicesRead (4 * set + w) sl s

/-- TSC_FILL_DONE (R127, R152, R155): the last burst of the fill of a set has been read; `rds` says how the bursts of each way
return. -/
def execTscFillDone (set : Nat) (rds : List Rd) (s : State) : Res :=
  match tscAt s set with
  | none => .next s
  | some e =>
    if e.usable ∨ ¬ ((e.access s set).map (served s)).getD true then .next s
    else .next (settle (tscReady set (upTo 4 (fun w s => fillWay set w (rds.getD w ⟨[]⟩) s) s)))

/-- TSC_FILL_BUDGET_RESET (R126): TB reaches the next multiple of 1,000 ns. -/
def execTscFillBudgetReset (s : State) : Res :=
  let s := until_ ((s.tb / 1000 + 1) * 1000) s
  .next (onCache (fun c => { c with tscFills := [], tscSlot := s.tb / 1000 }) s)

/-- A request that has waited for 100 µs since `at_`, and was not reported yet, is reported once. -/
def stall (id : Nat) (at_ : Txn → Option Nat) (told : Txn → Bool) (mark : Txn → Txn) (e : Ev) (s : State) : State :=
  match txnAt s id with
  | none => s
  | some t =>
    match at_ t with
    | some w => if told t then s else raise e 0 0 (onTxn id mark (until_ (w + 100000) s))
    | none => s

/-- VICTIM_STALL_TIMEOUT (R150): once per fill. -/
def execVictimStallTimeout (id : Nat) (s : State) : Res :=
  .next (stall id (·.vicAt) (·.vicTold) (fun t => { t with vicTold := true }) Ev.victimStall s)

/-- SF_STALL_TIMEOUT (R208): once per request. -/
def execSfStallTimeout (id : Nat) (s : State) : Res :=
  .next (stall id (·.sfAt) (·.sfTold) (fun t => { t with sfTold := true }) Ev.cohSfStall s)

/-! ### The write-back scheduler (R173 to R176) -/

/-- Modes of the scheduler (R174), in the codes of SCHED_STS.MODE (R196). -/
inductive Mode where
  | idle | background | pressure | through
  deriving DecidableEq, Repr

def Mode.code : Mode → Nat
  | .idle => 0 | .background => 1 | .pressure => 2 | .through => 3

/-- The mode that the reserve state and the ladder set. -/
def schedMode (s : State) : Mode :=
  match s.ldg.st with
  | .unarmed | .disarmed => .through
  | .overdrawn => .pressure
  | .armed =>
    if 1 ≤ rungOf s then .pressure
    else if dAmount s = 0 then .idle else .background

/-- Dirty lines of a way that the scheduler may copy: none with a copy under way, of this or an earlier content (R123, R167). -/
def copyable (s : State) (k : Nat) : List Nat :=
  let w := wayAt s k
  if w.quar || w.fwd.isSome then []
  else (List.range 4).filter fun j => (w.line j).ls.charged && !(w.line j).pend && !inFlight s (skOfWay s k w) j

/-- Keys of ways with work for the scheduler, in the walk's order: ascending from its position, then from the start. -/
def walkOrder (s : State) : List Nat :=
  let ks := (s.cache.ways.filter fun e =>
    s.cache.regions.contains (e.1 / 4 / 4096) && !(copyable s e.1).isEmpty).map (·.1)
  ks.filter (fun k => decide (s.cache.walkPos ≤ k)) ++ ks.filter fun k => decide (k < s.cache.walkPos)

/-- Background passes over hot sectors (R174). -/
def tooHot (s : State) (k : Nat) : Bool :=
  let h := fld s Reg.WBF_WB_CFG 15 8
  schedMode s == .background && h != 0 && decide (h ≤ heatOf s k)

/-- A region that the walk has passed from key a to key b, around the end where b lies below a. -/
def passed (a b r : Nat) : Bool :=
  let x := a / 4 / 4096
  let y := b / 4 / 4096
  if a ≤ b then decide (x ≤ r) && decide (r < y) else decide (x ≤ r) || decide (r < y)

/-- Clear the bits of regions that the walk found without a dirty line (R173). -/
def clearRegions (gone : Nat → Bool) (s : State) : State :=
  let dirty := fun (r : Nat) => s.cache.ways.any fun e => e.1 / 4 / 4096 == r && e.2.dirty
  onCache (fun c => { c with regions := c.regions.filter fun r => !gone r || dirty r }) s

/-- The copy of a way's first copyable line: its burst is read (R165, R171), remote sectors are sent home (R263). -/
def schedCopy (k : Nat) (r : Rd) (s : State) : State :=
  let w := wayAt s k
  match copyable s k with
  | [] => s
  | j :: _ =>
    if w.remote then sendKeep k [] s
    else if (w.line j).ls ≠ .dirty then copyLines k [j] .wb [] s
    else
      match readBurst (k / 4) (k % 4) j r s with
      | (⟨.good, _⟩, s) => copyLines k [j] .wb [] s
      | (⟨.split, _⟩, s) => copyLines k [j] .wb [] (poisonWay k s)
      | (⟨.bad, _⟩, s) =>
        let s := if s.cch.mode then raise Ev.dirtyParityFatal (dataLoc (k / 4) (k % 4)) (256 * (k % 4)) s else s
        let ho := 256 * skSo (skOfWay s k w) + 64 * j
        copyLines k [j] .wb [] (raise Ev.wbPoisonCopy (dataAddr 1 ho) 0 (poisonLine k j true s))

/-- BG_RATE paces the copies of Background mode (R174). -/
def slowCopy (s : State) : State :=
  let s := until_ s.cache.wbAt s
  onCache (fun c => { c with wbAt := paced s.tb 64 (fld s Reg.WBF_WB_CFG 7 0) }) s

/-- WB_SCHEDULER_COPY (R173 to R176): the walk goes on to the next dirty line and takes its copy, which `r` says how the
burst decodes. BG_RATE 0 takes none in Background mode. -/
def execWbSchedulerCopy (r : Rd) (s : State) : Res :=
  let m := schedMode s
  if ¬ running s ∨ m = .idle ∨ (m = .background ∧ fld s Reg.WBF_WB_CFG 7 0 = 0) then .next s
  else
    let order := walkOrder s
    let hot := order.takeWhile (tooHot s)
    let s := tally Ctr.WBF_HOT_SKIP hot.length (onCache (fun c => { c with skipping := !hot.isEmpty }) s)
    match order.dropWhile (tooHot s) with
    | [] => .next (clearRegions (fun _ => true) s)
    | k :: _ =>
      let w := wayAt s k
      let full := !w.remote && !wbRoom s false && (wbEntry s (skOfWay s k w)).isNone
      let s := clearRegions (passed s.cache.walkPos k) s
      if full then .next (tellWbFull (onCache (fun c => { c with walkPos := k }) s))
      else if w.remote ∧ m = .background then .next (onCache (fun c => { c with walkPos := k + 1 }) s)
      else
        let next := if w.remote || (copyable s k).length ≤ 1 then k + 1 else k
        let s := if m = .background then slowCopy s else s
        .next (settle (schedCopy k r (onCache (fun c => { c with walkPos := next }) s)))

/-- WB_STAGE_STALL_TIMEOUT (R172), for the entry of a sector. -/
def execWbStageStallTimeout (sk : Nat) (s : State) : Res :=
  match wbEntry s sk with
  | none => .next s
  | some e =>
    if e.told then .next s
    else
      let s := onCache (fun c => { c with wb := c.wb.map fun x => if x.sk = sk then { x with told := true } else x })
        (until_ (e.at_ + 10000000) s)
      .next (raise Ev.wbStageStall 0 0 s)

/-- JOURNAL_PACK_TIMEOUT (R322): 1 µs after its first record a page is packed. -/
def execJournalPackTimeout (s : State) : Res :=
  match s.cache.wb with
  | [] => .next s
  | e :: _ => .next (settle (packWb true (until_ (e.at_ + 1000) s)))

/-- NT_AGE_WRITEOUT (R180), for the entry of a sector. -/
def execNtAgeWriteout (sk : Nat) (s : State) : Res :=
  match ntEntry s sk with
  | none => .next s
  | some e =>
    if e.out.isSome then .next s
    else .next (settle (startWriteOut sk .age (until_ (e.at_ + 1000 * fld s Reg.WBF_NT_CFG 9 0) s)))

/-- NT_HOLD_WRITEOUT (R180): only while the reserve is not Armed. -/
def execNtHoldWriteout (sk : Nat) (s : State) : Res :=
  match ntEntry s sk with
  | none => .next s
  | some e =>
    if e.out.isSome ∨ s.ldg.st = .armed then .next s
    else .next (settle (startWriteOut sk .hold (until_ (e.at_ + 1000 * fld s Reg.WBF_NT_CFG 15 10) s)))

/-! ### Ledger grants (R295) -/

/-- The oldest waiting class B request, with a grant. -/
def grantB (s : State) : Option State :=
  match s.cache.txns.find? fun t => t.resv == .waiting && !t.kind.classA with
  | none => none
  | some t => (tryB s (t.rsz + 16)).map fun r =>
      tellGrant false r (onTxn t.id (fun t => { t with resv := r, ph := .looked none }) s)

/-- The oldest waiting class A request, with a grant: a request's own or its 256 B, or a port's headroom. -/
def grantA (s : State) : Option State :=
  let head := bestBy (fun (a b : Nat × Nat) => a.2 < b.2)
    ((List.range 4).filterMap fun p => ((port s p).owed.head?).map fun a => (p, a))
  let txn := s.cache.txns.find? fun t => (t.resv == .waiting && t.kind.classA) || t.rsv2 == .waiting
  let serveTxn := fun (t : Txn) =>
    let size := if t.rsv2 = .waiting then 272 else t.rsz + 16
    match tryA s size with
    | .error _ => none
    | .ok r => some (tellGrant true r (onTxn t.id (fun t =>
        if t.rsv2 = .waiting then { t with rsv2 := r, ph := .looked none } else { t with resv := r, ph := .looked none }) s))
  match head, txn with
  | some h, some t => if h.2 ≤ t.arr then returnRwd h.1 s else serveTxn t
  | some h, none => returnRwd h.1 s
  | none, some t => serveTxn t
  | none, none => none

/-- RESERVATION_GRANT (R295): class B before class A, each in arrival order. -/
def execReservationGrant (s : State) : Res :=
  match grantB s with
  | some s => .next (settle s)
  | none =>
    match grantA s with
    | some s => .next (settle s)
    | none => .next s

/-! ### The suspect walk (R211) -/

/-- Resident ways of the cache sets of a snoop-filter set that no valid entry names. -/
def untracked (s : State) (x : Nat) : List Nat :=
  (s.cache.ways.filter fun e => sfSet (e.1 / 4) == x && e.2.res && !e.2.quar && e.2.fwd.isNone &&
    (sfFind s e.1).isNone).map (·.1)

/-- The visits of a walk: BISnpInv for every present line of an untracked sector, to every port. -/
def walkVisit (x : Nat) (s : State) : State :=
  eachIn (untracked s x) (fun k s =>
    upTo 4 (fun j s =>
      if ((wayAt s k).line j).ls = .invalid then s
      else upTo (portCount s) (fun p s => biAdd p k j false true s) s) s) s

/-- SF_SUSPECT_WALK (R211): the first queued walk visits its sets. It ends when its snoops are answered. -/
def execSfSuspectWalk (s : State) : Res :=
  match s.cache.walks with
  | [] => .next s
  | w :: _ =>
    if w.visited then .next s
    else
      let mark := fun (l : List Walk) => match l with | [] => [] | y :: r => { y with visited := true } :: r
      let s := onCache (fun c => { c with walks := mark c.walks }) s
      .next (settle (walkVisit w.set s))

end Sys2Proof.Machine
end

