-- ==== Sys2Proof/Machine/Channels.lean ====
section
/-! DEFINITION. The cache channels' own work (R404, R414 to R416, R421 to R423): patrol scrub, refresh, thermal polling, failures and
resilvering. -/

namespace Sys2Proof.Machine

open Sys2Proof

/-! ### Patrol scrub (R414, R415, R425) -/

/-- The set at position q of channel c, or of pair c (R65). -/
def setAtPos (s : State) (c q : Nat) : Nat :=
  let k := s.hpt.chBits
  q * 2 ^ k + (c ^^^ (q * 2 ^ k / 256 % 2 ^ k))

/-- The channel whose record holds the scrub position of channel or pair c. -/
def scrubChan (s : State) (c : Nat) : Nat := if s.hpt.mirror then 2 * c else c

/-- The lines of a way whose bursts the slot corrects and rewrites (R414), or writes from one copy of a pair to the other (R419). -/
def fixesOf (s : State) (set w : Nat) (rd : Rd) : List Nat :=
  let copy := fun (c : Nat) (pick : BurstErr → Flips) (j : Nat) =>
    decodeCopy s ⟨c, set, w, j⟩ ((rd.others j).map pick) (pick (rd.of j))
  (List.range 4).filter fun j =>
    let a := copy (servingChan s set) (·.a) j
    if inLock s (chanOf s set) then
      let b := copy (2 * chanOf s set + 1) (·.b) j
      match a.worth, b.worth with
      | .clean, .clean => liveSame s (4 * set + w) j a.left b.left && a.left != b.left
      | .corr, .corr => liveSame s (4 * set + w) j a.left b.left
      | .bad, .bad => false
      | _, _ => true
    else a.worth == .corr

/-- A parity error that scrub meets (R425): judged at once where no host has a copy, else at the slot's next try. -/
def scrubParity (k : Nat) (sl : List (Option Nat)) (s : State) : State :=
  let bad := (List.range 4).filter fun j => (sl.getD j none).isNone
  let blind := !tscHit s (k / 4)
  if blind ∧ ¬ (identify sl).agrees then slicesRead k sl s
  else if hostCopies s k then snoopAll k s
  else judgeParity ⟨k, bad, blind⟩ s

/-- The four bursts of a way in a slot. -/
def scrubWay (set w : Nat) (rd : Rd) (s : State) : State :=
  let k := 4 * set + w
  if (wayAt s k).quar then tally Ctr.CCH_RD_BURST 4 s
  else
    let waits := s.cch.corrWb
    let fixes := fixesOf s set w rd
    let (sl, s) := readSlices k rd s
    let s := burstsWritten k fixes (onCch (fun c => { c with corrWb := waits }) (tally Ctr.CCH_SCRUB_FIX fixes.length s))
    if s.cch.mode ∧ (wayAt s k).res ∧ sl.contains none then scrubParity k sl s
    else if tscHit s set then
      eachIn ((List.range 4).filter fun j => (sl.getD j none).isNone) (fun j s => poisonLost k j s) s
    else slicesRead k sl s

/-- A way of the set waits for its host copies before its parity error can be judged. -/
def scrubWaits (s : State) (set : Nat) : Bool :=
  s.cch.mode && (waysOfSet set).any fun k => (wayAt s k).res && biBusy s (skOfWay s k (wayAt s k))

/-- The position of a channel moves on; the last one ends a pass. -/
def scrubNext (s : State) (c : Chan) : Chan :=
  if c.scrub + 1 < 2 ^ (s.hpt.setBits - s.hpt.chBits) then { c with scrub := c.scrub + 1 }
  else { c with scrub := 0, passes := satAdd 65535 c.passes 1 }

/-- SCRUB_SLOT (R414): the 16 bursts of one set, way by way. -/
def execScrubSlot (c : Nat) (rds : List Rd) (s : State) : Res :=
  if ¬ running s ∨ ¬ flag s Reg.CCH_SCRUB_CFG 8 ∨ 2 ^ s.hpt.chBits ≤ c then .next s
  else
    let i := scrubChan s c
    let set := setAtPos s c ((chan s i).scrub % 2 ^ (s.hpt.setBits - s.hpt.chBits))
    if scrubWaits s set ∨ setFailed s set then .next s
    else
      let s := upTo 4 (fun w s => scrubWay set w (rds.getD w ⟨[]⟩) s) s
      let s := tally Ctr.CCH_SCRUB_SLOT 1 s
      .next (settle (if scrubWaits s set then s else onChan i (scrubNext s) s))

/-- QUARANTINE_REWRITE (R156, R415): the way at key k, 4 × set + way, holds nothing again, once no host or device has a copy of what it
held (R201). Its charge stays (R291). Scrub has stopped at Fence (R416). -/
def execQuarantineRewrite (k : Nat) (s : State) : Res :=
  if (wayAt s k).quar ∧ running s ∧ sfFind s k = none ∧ dirFind s k = none then
    .next (settle (burstsWritten k [0, 1, 2, 3] (clearWay k (tally Ctr.CCH_SCRUB_SLOT 1 s))))
  else .next s

/-! ### Refresh and temperature (R404) -/

/-- A channel that is populated and serves. -/
def Chan.on (c : Chan) : Bool := c.st == .up || c.st == .target

/-- REFRESH_INTERVAL (R404). -/
def execRefreshInterval (c : Nat) (s : State) : Res :=
  if (chan s c).on then .next (emit (.dram "REFSB" [c]) (tally Ctr.CCH_REFRESH 1 s)) else .next s

/-- THERMAL_POLL (R404): the highest sensor of the channel in °C. -/
def execThermalPoll (c temp : Nat) (s : State) : Res :=
  if ¬ (chan s c).on then .next s
  else
    let hot := decide (85 < temp)
    let was := (chan s c).ref2x
    let s := onChan c (fun x => { x with temp := temp % 256, ref2x := hot }) s
    let s := if hot then tally Ctr.CCH_REF2X_MS 1 s else s
    .next (if hot && !was then raise Ev.cchThermal 0 c s else s)

/-! ### Failures (R421, R423) -/

/-- The only copy of a way's lines is lost: what is read of them is poison (R423). -/
def Way.lose (w : Way) : Way :=
  { w with lines := w.lines.map fun l =>
      if l.ls = .invalid then l
      else { l with ls := if l.ls.charged then .poisonDirty else .poisonClean, data := 0, pend := false } }

/-- A channel's content is lost: unmirrored, or both channels of a pair (R423). -/
def chanLost (c : Nat) (s : State) : State :=
  let s := onCache (fun x => { x with ways := x.ways.map fun e => if setFailed s (e.1 / 4) then (e.1, e.2.lose) else e }) s
  raise Ev.cchChannelFailed 0 c (keepRecord s)

/-- CHANNEL_FAIL_DETECT (R421, R423). -/
def execChannelFailDetect (c : Nat) (s : State) : Res :=
  if ¬ (chan s c).on then .next s
  else
    let other := if c % 2 = 0 then c + 1 else c - 1
    let alone := ¬ s.cch.mirror ∨ (chan s other).st = .failed
    let survivor := s.cch.mirror && !decide alone &&
      ((pairAt s (c / 2)).broken || (pairAt s (c / 2)).resilver.isSome) && (if (pairAt s (c / 2)).odd then c % 2 == 1 else c % 2 == 0)
    let s := onChan c (fun x => { x with st := .failed }) s
    if alone ∨ survivor then .next (settle (chanLost c s))
    else .next (settle (raise Ev.mirrorFailover 0 c (breakPair (c / 2) (c % 2 == 0) s)))

/-- RESILVER_SET_COPY (R422): the next set of pair p. A write to the set drops its copy, which is then tried again. -/
def execResilverSetCopy (p : Nat) (dropped : Bool) (s : State) : Res :=
  match (pairAt s p).resilver with
  | none => .next s
  | some q =>
    let s := if dropped then s else tally Ctr.CCH_RD_BURST 16 (tally Ctr.CCH_WR_BURST 16 s)
    if ¬ running s ∨ dropped then .next s
    else if q + 1 < 2 ^ (s.hpt.setBits - s.hpt.chBits) then
      .next (onPair p (fun x => { x with resilver := some (q + 1) }) s)
    else
      let t := if (pairAt s p).odd then 2 * p else 2 * p + 1
      let s := onChan t (fun x => { x with st := .up }) (onPair p (fun _ => Pair.whole) s)
      .next (settle (raise Ev.cchResilverDone 0 p (keepRecord s)))

end Sys2Proof.Machine
end

