-- ==== Sys2Proof/Machine/Fabric.lean ====
section
/-! DEFINITION. Fabric messages that arrive (R253 to R282, R528): requests, returned data and handbacks at a home, snoops at a
holder, answers at home and requester, and the timers of fabric transactions. -/

namespace Sys2Proof.Machine

open Sys2Proof

/-! ### Reception -/

/-- A message for another device goes on (R528): its flits stay in the receive buffer until they leave. -/
def transit (p lane : Nat) (m : FMsg) (s : State) : State :=
  fabPump (onFab (fun f => { f with queue := f.queue ++ [⟨m, lane, s.tb, some (p, lane)⟩] }) s)

/-- A message is taken: in Run and start-up; in Fence all but requests, returned data until the absorb step ends and the rest
until placement ends (R282, R371). -/
def taken (m : FMsg) (s : State) : Bool :=
  match s.rsv.pst with
  | .run | .startup => true
  | .fence =>
    if vcOf m.opc = .req then false
    else decide (s.tb ≤ s.rsv.trigAt + (if vcOf m.opc = .dat ∧ m.opc ≠ Op.data then 4320 else 6320))
  | _ => false

/-- A message arrives on port p. This device takes messages at endpoint 0 alone: one for another endpoint of it is discarded
and counted (R509). Once Fence has ended, a device takes no coherence message any more (R282, R376), nor while another
device ID is pending (R526); its flits leave the buffer. `free`: the flits leave the buffer at once (R255). -/
def receive (p lane seq : Nat) (m : FMsg) (free : Bool) (f : FMsg → State → State) (s : State) : Res :=
  let (ok, s) := rxAccept p lane seq m s
  if ¬ ok then .next s
  else if m.dst / 64 ≠ devId s then .next (transit p lane m s)
  else
    let out := fun (s : State) => rxRelease p (vcOf m.opc) lane (flitsOf m.opc) s
    if m.dst % 64 ≠ 0 then .next (out (tally Ctr.FX_STALE_DROP 1 s))
    else if s.fab.idPending ∨ ¬ taken m s then .next (out s)
    else .next (settle (f m (if free then out s else s)))

/-- Half of TO_US, in ns (R259, R269). -/
def halfTo (s : State) : Nat := 500 * fld s Reg.COH_FX_CFG 13 0

/-- TO_US in ns, and MAX_REISSUE. -/
def fullTo (s : State) : Nat := 1000 * fld s Reg.COH_FX_CFG 13 0
def maxReissue (s : State) : Nat := max 1 (fld s Reg.COH_FX_CFG 17 14)

/-- A message that answers nothing is dropped (R269, R271). -/
def stale (m : FMsg) (s : State) : State :=
  raise Ev.fxStale (dataPeer (m.src / 64) 0 m.tid) 0 (tally Ctr.FX_STALE_DROP 1 s)

/-- Record a failed transaction (R268, R272, R284). -/
def fxFail (dev cause tid : Nat) (s : State) : State :=
  raise Ev.fxFail (dataPeer dev cause tid) 0
    (hwFld Reg.COH_FX_FAIL 11 0 dev (hwFld Reg.COH_FX_FAIL 15 12 cause s))

/-! ### Requests at the home (R256, R266, R269, R270) -/

/-- The record of a TID. -/
def recOf (s : State) (tid : Nat) : Option HRec := s.fab.recs.find? (·.tid == tid)

def onRec (tid : Nat) (f : HRec → HRec) (s : State) : State :=
  onFab (fun x => { x with recs := x.recs.map fun r => if r.tid = tid then f r else r }) s

/-- GEN b is higher than GEN a (R270). GEN has 4 bits, and the spec does not say when one is higher modulo 16: DESIGN CHOICE, when it is
1 to 7 steps ahead (log 73). -/
def genAfter (a b : Nat) : Bool := decide (0 < (b + 16 - a) % 16) && decide ((b + 16 - a) % 16 < 8)

/-- A request with the TID of a recorded transaction (R270). What a forwarder without a hold has sent the home sends itself. -/
def duplicate (r : HRec) (m : FMsg) (s : State) : State :=
  if ¬ genAfter r.gen m.gen then s
  else
    let s := onTxn r.txn (fun t => if t.tid = r.tid then { t with fgen := m.gen } else t) (onRec r.tid (fun r => { r with gen := m.gen }) s)
    match r.hold, r.resp with
    | some x, _ =>
      sendMsg { msgTo s Op.snpRefwd (x * 64) r.tid m.gen r.sk with aux := r.req } (tally Ctr.FX_DEDUP 1 (tally Ctr.FX_REFWD 1 s))
    | none, some a =>
      let a := { a with gen := m.gen }
      sendMsg a (tally Ctr.FX_DEDUP 1 (onRec r.tid (fun r => { r with resp := some a, respAt := s.tb }) s))
    | none, none =>
      if ((txnAt s r.txn).map (·.sup)).getD false then
        tally Ctr.FX_DEDUP 1 (setPh r.txn (.looked none) (onTxn r.txn (fun t => { t with sup := false }) s))
      else s

/-- An immediate refusal (R54, R239). -/
def refuse (m : FMsg) (cause : Nat) (s : State) : State :=
  sendMsg { msgTo s Op.err m.src m.tid m.gen m.sk with cause := cause } s

/-- The transaction of a message: its tracker class, kind, and what it carries. -/
def fabTxn (p lane : Nat) (m : FMsg) (pool : Pool) (k : Kind) : Txn :=
  { Txn.blank with pool := pool, src := .fab m.src, kind := k, tag := lane, da := 256 * skSo m.sk + 64 * m.aux, sk := m.sk,
                   line := m.aux % 4, encl := m.encl, tid := m.tid, fgen := m.gen, peer := m.src, fport := p,
                   data := (m.blk.getD 0 none).getD 0, blk := m.blk, lst := m.lst }

/-- A record from arrival to ACK (R270). -/
def newRec (m : FMsg) (id : Nat) (s : State) : State :=
  onFab (fun f => { f with recs := f.recs ++
    [⟨m.tid, m.gen, m.src, m.sk, id, none, 0, 0, none⟩] }) s

/-- A request is too old (R269). -/
def aged (m : FMsg) (s : State) : Bool := vcOf m.opc == .req && s.fab.locked && m.tl && decide (m.time + halfTo s < s.tb)

/-- A request arrives at its home. `any`: kinds that a non-caching agent may send. -/
def homeReq (p lane : Nat) (m : FMsg) (ctr : Nat) (any rec : Bool) (t : Txn) (s : State) : State :=
  let out := fun (s : State) => rxRelease p (vcOf m.opc) lane (flitsOf m.opc) s
  match recOf s m.tid with
  | some r => out (duplicate r m s)
  | none =>
    if aged m s then out (stale m s)
    else
      let s := tally ctr 1 s
      if ¬ any ∧ m.src % 64 ≠ 0 then out (refuse m 4 s)
      else if skHome m.sk ≠ devId s then out (refuse m 1 s)
      else if homeCap s ≤ 256 * skSo m.sk then out (refuse m 2 s)
      else
        let (id, s) := admitTxn t s
        if rec then newRec m id s else s

/-- RD_S (R256). -/
def execRdS (p lane seq : Nat) (m : FMsg) (s : State) : Res :=
  receive p lane seq { m with opc := Op.rdS } false
    (fun m s => homeReq p lane m Ctr.FX_RD_S false true (fabTxn p lane m .fabReq .fRdS) s) s

/-- RD_O (R256). -/
def execRdO (p lane seq : Nat) (m : FMsg) (s : State) : Res :=
  receive p lane seq { m with opc := Op.rdO } false
    (fun m s => homeReq p lane m Ctr.FX_RD_O false true (fabTxn p lane m .fabReq .fRdO) s) s

/-- RD_ONA (R256). -/
def execRdOna (p lane seq : Nat) (m : FMsg) (s : State) : Res :=
  receive p lane seq { m with opc := Op.rdONA } false
    (fun m s => homeReq p lane m Ctr.FX_RD_ONA false true (fabTxn p lane m .fabReq (.fOwn (m.flag Fl.z))) s) s

/-- RD_NA (R256, R259): no record is kept. -/
def execRdNa (p lane seq : Nat) (m : FMsg) (s : State) : Res :=
  receive p lane seq { m with opc := Op.rdNA } false
    (fun m s => homeReq p lane m Ctr.FX_RD_NA true false (fabTxn p lane m .fabReq .fRdNA) s) s

/-- The masks of a WR_NA as one number, and a line state for each line with a byte in it. -/
def maskBits (bm : List LineMask) : Nat :=
  (List.range 4).foldl (fun n j => n + (bm.getD j 0).toNat * 2 ^ (64 * j)) 0

def maskLst (bm : List LineMask) : List LS := (List.range 4).map fun j => if bm.getD j 0 = 0 then .invalid else .dirty

/-- WR_NA (R256). -/
def execWrNa (p lane seq : Nat) (m : FMsg) (s : State) : Res :=
  receive p lane seq { m with opc := Op.wrNA } false (fun m s =>
    let t := { fabTxn p lane m .fabReq .fWrNA with opnds := maskBits m.bmask, lst := maskLst m.bmask, wport := 4 }
    homeReq p lane m Ctr.FX_WR_NA true true t s) s

/-- ATOM (R256): an atomic, or an APPEND where a length comes with it. -/
def execAtom (p lane seq : Nat) (m : FMsg) (s : State) : Res :=
  receive p lane seq { m with opc := Op.atom } false (fun m s =>
    let k := match m.atom with
      | some a => Kind.fAtom a
      | none => Kind.append m.alen
    homeReq p lane m Ctr.FX_ATOM true true (fabTxn p lane m .fabReq k) s) s

/-- A request of a caching agent that takes no entry: one from another endpoint is refused, an aged one dropped (R239, R269). -/
def plainReq (m : FMsg) (f : FMsg → State → State) (s : State) : State :=
  if aged m s then stale m s else if m.src % 64 ≠ 0 then refuse m 4 s else f m s

/-- EVC_E (R281): from the recorded owner the entry goes; from another device nothing changes. CMP is sent either way. -/
def execEvcE (p lane seq : Nat) (m : FMsg) (s : State) : Res :=
  receive p lane seq { m with opc := Op.evcE } true (plainReq · fun m s =>
    let d := m.src / 64
    let s := if isOwnerDev s m.sk d then
        (match findWay s m.sk with
         | some k => dirDrop k d s
         | none => s) else s
    sendMsg (msgTo s Op.cmp m.src m.tid m.gen m.sk) s) s

/-! ### Returned data and handbacks at the home (R264, R277 to R279) -/

/-- WB (R264). -/
def execWb (p lane seq : Nat) (m : FMsg) (s : State) : Res :=
  receive p lane seq { m with opc := Op.wb } false (fun m s =>
    let keep := m.flag Fl.keep
    homeReq p lane m (if keep then Ctr.FX_WB_KEEP_RX else Ctr.FX_WB_RX) false true (fabTxn p lane m .fabRet (.fWb keep)) s) s

/-- FHB (R278). -/
def execFhb (p lane seq : Nat) (m : FMsg) (s : State) : Res :=
  receive p lane seq { m with opc := Op.fhb } false (fun m s =>
    homeReq p lane m Ctr.FX_WB_RX false true (fabTxn p lane m .fabRet (.fFhb (m.flag Fl.held))) s) s

/-- Every line of a home sector is written Poisoned dirty (R272, R277, R279). -/
def poisonSector (sk : Nat) (s : State) : State :=
  match findWay s sk with
  | some k => upTo 4 (fun j s => poisonLine k j true s) s
  | none =>
    let encl := ((rangeOf s (skSo sk)).map (·.encl)).getD 0
    let l : CLine := ⟨.poisonDirty, 0, 0, false, []⟩
    upTo 4 (fun j s => addPoison sk j s) (putCopies sk encl .evict [some l, some l, some l, some l] s)

/-- A handback kept aside is applied, or refused (R278). -/
def endAside (f : FMsg) (apply : Bool) (s : State) : State :=
  let s := onFab (fun x => { x with aside := x.aside.filter fun y => !(y.tid == f.tid && y.sk == f.sk) }) s
  if apply then
    let (id, s) := admitTxn (fabTxn 4 0 f .none (.fFhb false)) (settleHold f.sk (f.src / 64) s)
    newRec f id s
  else sendMsg { msgTo s Op.cmp f.src f.tid f.gen f.sk with flags := 64, cause := if s.fab.forced then 4 else 0 } (tally Ctr.FHB_REJECTED 1 s)

/-- One mark when the handback of device d ends without an FHB for its sector (R277, R278). A hold of which one party is still awaited
stays marked for that one. -/
def endMark (d : Nat) (lost : Bool) (x : HbMark) (s : State) : State :=
  let fell := fun (s : State) =>
    let s := onFab (fun y => { y with holds := y.holds.filter (·.1 != x.sk) }) (clearMark x.sk s)
    if lost then raise Ev.fhbLost (dataPeer d 0 0) 0 (poisonSector x.sk s) else s
  match x.hold with
  | some (f, q) =>
    if q = d ∧ f = d then fell s
    else if q = d then
      match s.fab.aside.find? fun m => m.sk == x.sk with
      | some m => if lost then fell (endAside m false s) else endAside m true s
      | none => if lost then fell s else settleHold x.sk f s
    else if f ≠ d ∨ s.fab.aside.any (·.sk == x.sk) then s
    else if s.fab.waiting.contains q then settleHold x.sk q s
    else fell s
  | none => if x.owner = some d then fell s else s

/-- The wait for handbacks is over once every device has sent FHB_DONE (R279). -/
def handedBack (s : State) : State :=
  if s.fab.waiting.isEmpty ∧ ¬ (s.rsv.pst = .startup ∧ s.fab.hold_) then
    onMedia (fun m => { m with snapshot := if s.fab.marks.isEmpty then none else m.snapshot })
      (onFab (fun f => { f with hold_ := false }) s)
  else s

/-- FHB_DONE (R277 to R279): what was kept aside for a handback that brought its own FHB is refused. -/
def execFhbDone (p lane seq : Nat) (m : FMsg) (s : State) : Res :=
  receive p lane seq { m with opc := Op.fhbDone } true (plainReq · fun m s =>
    let d := m.src / 64
    let s := eachIn s.fab.marks (endMark d (m.flag Fl.dirtyLost)) s
    let s := eachIn (s.fab.aside.filter fun y => y.aux == d && !s.fab.marks.any (·.sk == y.sk)) (fun y s => endAside y false s) s
    handedBack (onFab (fun f => { f with waiting := f.waiting.filter (· != d),
                                         doneFrom := if f.doneFrom.contains d then f.doneFrom else d :: f.doneFrom }) s)) s

/-! ### Snoops at a holder (R260 to R262) -/

/-- A snoop takes an entry of its class. -/
def holderSnoop (p lane : Nat) (m : FMsg) (k : Kind) (s : State) : State := (admitTxn (fabTxn p lane m .fabSnp k) s).2

/-- The requester that a snoop's TID names. -/
def FMsg.requester (m : FMsg) : Nat := m.tid / 2 ^ 22

/-- SNP_S (R260). -/
def execSnpS (p lane seq : Nat) (m : FMsg) (s : State) : Res :=
  receive p lane seq { m with opc := Op.snpS } false
    (fun m s => holderSnoop p lane m (.snpS (if m.flag Fl.fwd then some m.requester else none)) s) s

/-- SNP_INV (R260). -/
def execSnpInv (p lane seq : Nat) (m : FMsg) (s : State) : Res :=
  receive p lane seq { m with opc := Op.snpInv } false
    (fun m s => holderSnoop p lane m (.snpInv (if m.flag Fl.fwd then some m.requester else none)) s) s

/-- SNP_CUR (R260). -/
def execSnpCur (p lane seq : Nat) (m : FMsg) (s : State) : Res :=
  receive p lane seq { m with opc := Op.snpCur } false (fun m s => holderSnoop p lane m (.snpCur m.requester) s) s

/-- The forward hold that a TID names. -/
def holdOf (s : State) (sk tid : Nat) : Option Nat :=
  (findHold s sk).bind fun k => if ((wayAt s k).fwd.map (·.2)) = some tid then some k else none

/-- SNP_REFWD (R262, R281): the held data goes again to the node named; to the home as SNPDATA. -/
def execSnpRefwd (p lane seq : Nat) (m : FMsg) (s : State) : Res :=
  receive p lane seq { m with opc := Op.snpRefwd } true (fun m s =>
    match holdOf s m.sk m.tid with
    | none => sendMsg (msgTo s Op.rspMiss m.src m.tid m.gen m.sk) s
    | some k =>
      let w := wayAt s k
      if m.aux = m.src then
        sendMsg { msgTo s Op.snpData m.src m.tid m.gen m.sk with lst := dirtyLst w, blk := wayBlk w, encl := w.encl } s
      else
        sendMsg { msgTo s Op.data m.aux m.tid m.gen m.sk with st := Fs.e, encl := w.encl, lst := wayLst w, blk := wayBlk w } s) s

/-! ### Answers at the home -/

/-- The snoop that an answer of device d about a sector answers. -/
def snpOf (s : State) (m : FMsg) : Option SnpOut :=
  s.fab.snps.find? fun x => x.holder == m.src / 64 && x.sk == m.sk && x.opc != Op.wb && x.opc != Op.snpData

def dropSnp (x : SnpOut) (s : State) : State := onFab (fun f => { f with snps := f.snps.erase x }) s

/-- Change the directory entry of a resident sector. -/
def onDirOf (sk : Nat) (f : Nat → State → State) (s : State) : State :=
  match findWay s sk with
  | some k => f k s
  | none => s

/-- An owner that keeps an S copy (R247). -/
def ownerShares (k : Nat) (s : State) : State :=
  match dirFind s k with
  | none => s
  | some i =>
    match tblFind s.cache.dir i with
    | none => s
    | some e => putDir i { e with excl := false } s

/-- A pseudo-transaction of a directory entry (R251, R252) is over: the entry is freed once all have answered. -/
def endRecall (x : SnpOut) (s : State) : State :=
  if x.txn < 2 ^ 20 ∨ snpBusy s x.txn then s
  else
    let i := x.txn - 2 ^ 20
    if (tblFind s.cache.dir i).isSome then dirFree i s else s

/-- All sharers beyond the pointers have answered once no snoop of the transaction is left: B is cleared (R250). -/
def clearOverflow (x : SnpOut) (s : State) : State :=
  if x.opc ≠ Op.snpInv ∨ snpBusy s x.txn then s
  else onDirOf x.sk (fun k s =>
    match dirFind s k with
    | none => s
    | some i =>
      match tblFind s.cache.dir i with
      | some e => if e.b then putDir i { e with b := false } s else s
      | none => s) s

/-- A snoop is answered. -/
def answered (x : SnpOut) (s : State) : State := endRecall x (clearOverflow x (dropSnp x s))

/-- An answer at the home. -/
def homeRsp (p lane seq : Nat) (m : FMsg) (f : SnpOut → FMsg → State → State) (s : State) : Res :=
  receive p lane seq m true (fun m s =>
    match snpOf s m with
    | none => stale m s
    | some x => f x m s) s

/-- RSP_I (R249). -/
def execRspI (p lane seq : Nat) (m : FMsg) (s : State) : Res :=
  homeRsp p lane seq { m with opc := Op.rspI } (fun x _ s => answered x (onDirOf x.sk (fun k s => dirDrop k x.holder s) s)) s

/-- RSP_S (R260). -/
def execRspS (p lane seq : Nat) (m : FMsg) (s : State) : Res :=
  homeRsp p lane seq { m with opc := Op.rspS } (fun x _ s => answered x (onDirOf x.sk ownerShares s)) s

/-- A forwarder no longer has the data it held for a requester (R281): the home answers from its record, or serves the
request from its own copy, once it has what a restarted forwarder hands back. -/
def holdGone (r : HRec) (s : State) : State :=
  let s := onFab (fun f => { f with holds := f.holds.filter fun h => !(h.1 == r.sk && some h.2.1 == r.hold) })
    (onRec r.tid (fun r => { r with hold := none }) s)
  let s := match s.fab.aside.find? (fun m => m.sk == r.sk && some (m.src / 64) == r.hold), r.hold with
    | some m, _ => endAside m true s
    | none, some x => if s.fab.marks.any (fun y => y.sk == r.sk && y.hold.isSome) then settleHold r.sk x s else s
    | none, none => s
  match r.resp with
  | some a => sendMsg a (onRec r.tid (fun r => { r with respAt := s.tb }) s)
  | none => setPh r.txn (.looked none) (onTxn r.txn (fun t => { t with sup := false }) s)

/-- RSP_MISS (R258, R280, R281): with WB_PEND the snoop is answered by the WB that is on its way. -/
def execRspMiss (p lane seq : Nat) (m : FMsg) (s : State) : Res :=
  receive p lane seq { m with opc := Op.rspMiss } true (fun m s =>
    match snpOf s m with
    | none =>
      match recOf s m.tid with
      | some r => if r.hold = some (m.src / 64) then holdGone r (tally Ctr.FX_SNP_STALE 1 s) else stale m s
      | none => stale m s
    | some x =>
      if m.flag Fl.wbPend then
        onFab (fun f => { f with snps := f.snps.map fun y => if y = x then { y with opc := Op.wb } else y }) s
      else answered x (tally Ctr.FX_SNP_STALE 1 (onDirOf x.sk (fun k s => dirDrop k x.holder s) s))) s

/-- The requester has been supplied by a forwarder: the owner, or a chosen sharer (R256, R258). -/
def supplied (x : SnpOut) (s : State) : State :=
  tally (if isOwnerDev s x.sk x.holder then Ctr.FX_FWD_OWNER else Ctr.FX_FWD_NEAREST) 1 (onTxn x.txn (fun t => { t with sup := true }) s)

/-- RSP_FWD (R262): the data has gone to the requester; a hold is recorded. FX_HOLD (R287) counts here, at the home that learns of the hold:
the spec does not say at which device, DESIGN CHOICE (log 74). -/
def execRspFwd (p lane seq : Nat) (m : FMsg) (s : State) : Res :=
  homeRsp p lane seq { m with opc := Op.rspFwd } (fun x m s =>
    let s := supplied x s
    let s := if m.st = Fs.i then onDirOf x.sk (fun k s => dirDrop k x.holder s) s
      else if m.st = Fs.s then onDirOf x.sk ownerShares s else s
    let s := if m.flag Fl.held then
        let s := onFab (fun f => { f with holds := f.holds ++ [(x.sk, x.holder, m.requester / 64)] }) s
        tally Ctr.FX_HOLD 1 (onRec m.tid (fun r => { r with hold := some x.holder }) s)
      else s
    answered x s) s

/-- SNPDATA (R264): dirty lines come home within the snooping transaction; or a hold is resolved towards the home (R262,
R277). -/
def execSnpdata (p lane seq : Nat) (m : FMsg) (s : State) : Res :=
  receive p lane seq { m with opc := Op.snpData } true (fun m s =>
    let s := tally Ctr.FX_SNPDATA_RX 1 s
    match snpOf s m with
    | some x =>
      let s := if x.fwd then supplied x s else s
      let (armed, s) := placeReturn m.sk m.lst m.blk [x.txn] s
      let s := if m.st = Fs.s then onDirOf x.sk ownerShares s else onDirOf x.sk (fun k s => dirDrop k x.holder s) s
      if armed then answered x s
      else onFab (fun f => { f with snps := f.snps.map fun y => if y = x then { y with opc := Op.snpData } else y }) s
    | none =>
      if s.fab.holds.any fun h => h.1 == m.sk && h.2.1 == m.src / 64 then
        let (id, s) := admitTxn { fabTxn p lane m .none (.fFhb false) with fport := 4 } s
        newRec m id s
      else stale m s) s

/-- RSP_PEND (R259, R261, R267): the timer of the waiting party starts again. -/
def execRspPend (p lane seq : Nat) (m : FMsg) (s : State) : Res :=
  receive p lane seq { m with opc := Op.rspPend } true (fun m s =>
    onFab (fun f => { f with
      snps := f.snps.map fun x => if x.holder = m.src / 64 ∧ x.sk = m.sk then { x with at_ := s.tb } else x,
      reqs := f.reqs.map fun r => if r.msg.tid = m.tid ∧ r.msg.sk = m.sk then { r with at_ := s.tb } else r,
      wbs := f.wbs.map fun w => if w.tid = m.tid ∧ w.sk = m.sk then { w with at_ := s.tb } else w }) s) s

/-- The requester's copy enters the directory (R247, R248, R256). -/
def recordGrant (r : HRec) (s : State) : State :=
  match txnAt s r.txn with
  | none => s
  | some t =>
    let refused := (r.resp.map (·.opc == Op.err)).getD false
    let excl := match r.resp with
      | some a => a.st == Fs.e
      | none => t.sup && t.kind != .fRdS
    match t.kind with
    | .fRdS | .fRdO | .fOwn _ =>
      if refused then s
      else onDirOf r.sk (fun k s => match dirFind s k, dirPlace s k with
        | none, some i => dirGrant k (r.req / 64) excl (tally Ctr.DIR_ALLOC 1
            (onCache (fun c => { c with dir := tblPut c.dir i ⟨k % 4, k / 4 / 2 ^ 18, false, false, 0, [none, none, none]⟩ }) s))
        | _, _ => dirGrant k (r.req / 64) excl s) s
    | _ => s

/-- A record ends: its transaction retires and Busy clears. -/
def endRec (r : HRec) (s : State) : State :=
  retire r.txn (onFab (fun f => { f with recs := f.recs.filter (·.tid != r.tid) }) s)

/-- ACK (R259, R262): what a restarted forwarder handed back from its hold is superseded (R278). -/
def execAck (p lane seq : Nat) (m : FMsg) (s : State) : Res :=
  receive p lane seq { m with opc := Op.ack } true (fun m s =>
    match recOf s m.tid with
    | none => s
    | some r =>
      let s := recordGrant r s
      let s := match r.hold with
        | some x =>
          let s := sendMsg (msgTo s Op.rls (x * 64) r.tid r.gen r.sk) s
          let s := eachIn (s.fab.aside.filter fun y => y.sk == r.sk && y.src / 64 == x) (fun y s => endAside y false s) s
          onFab (fun f => { f with
            holds := f.holds.filter fun h => !(h.1 == r.sk && h.2.1 == x)
            marks := f.marks.filter fun y => !(y.sk == r.sk && y.hold.map (·.1) == some x) }) s
        | none => s
      endRec r s) s

/-! ### Answers at the requester (R241, R268, R271) -/

/-- The outstanding request that a TID names. -/
def reqOf (s : State) (tid : Nat) : Option ReqOut := s.fab.reqs.find? (·.msg.tid == tid)

def dropReq (tid : Nat) (s : State) : State := onFab (fun f => { f with reqs := f.reqs.filter (·.msg.tid != tid) }) s

/-- The ACK of a response to its home. -/
def ackTo (m : FMsg) (s : State) : State := sendMsg (msgTo s Op.ack (skHome m.sk * 64) m.tid m.gen m.sk) s

/-- A response is accepted only for the live transaction (R271). -/
def requesterRsp (p lane seq : Nat) (m : FMsg) (f : ReqOut → Txn → FMsg → State → State) (s : State) : Res :=
  receive p lane seq m true (fun m s =>
    match reqOf s m.tid with
    | none => if m.requester = ownNode s then ackTo m s else stale m s
    | some r =>
      if r.msg.sk ≠ m.sk ∨ r.msg.gen ≠ m.gen then stale m s
      else
        match txnAt s r.txn with
        | none => ackTo m (dropReq m.tid s)
        | some t => f r t m (dropReq m.tid s)) s

/-- The way a fabric request of a transaction goes into. -/
def Txn.fabWay (t : Txn) (s : State) : Option Nat :=
  findWay s t.sk <|> (match t.ph with | .fabric w => w | _ => none)

/-- A grant with data is installed (R241). -/
def installRemote (t : Txn) (m : FMsg) (k : Nat) (s : State) : State :=
  let heat := match t.kind with | .prefetch h => h | .pin | .spec => 0 | _ => 1
  let w := remoteWay s t m.encl m.st m.lst m.blk
  let s := heatSet k heat (onWay k (fun x => { w with pin := x.pin && x.res && wayNames s t.sk x }) s)
  let s := if w.dirty then markRegion (k / 4) s else s
  let s := burstsWritten k [0, 1, 2, 3] s
  onTxn t.id (fun t => { t with rsv2 := .none, want := [0, 1, 2, 3], ph := .looked none, since := s.tb }) s

/-- A grant for a way that nothing identifies any more (R156): the request starts again. -/
def lostWay (t : Txn) (s : State) : State := onTxn t.id (fun t => { t with ph := .looked none, since := s.tb }) s

/-- DATA (R241, R256). -/
def execData (p lane seq : Nat) (m : FMsg) (s : State) : Res :=
  requesterRsp p lane seq { m with opc := Op.data } (fun r t m s =>
    if r.msg.opc = Op.rdNA then
      let bad := m.lst.getD t.line .invalid == .poisonClean || m.lst.getD t.line .invalid == .poisonDirty
      if m.encl ≠ t.encl then failTxn t 3 (tellViolation t s)
      else retireWith t.id bad (answer t "MemData" (some ((m.blk.getD t.line none).getD 0)) bad s)
    else
      match t.fabWay s with
      | none => ackTo m s
      | some k => ackTo m (if (wayAt s k).quar then lostWay t s else installRemote t m k s)) s

/-- GNT (R241): ownership of a copy that is held, or of a sector whose data is not wanted. -/
def execGnt (p lane seq : Nat) (m : FMsg) (s : State) : Res :=
  requesterRsp p lane seq { m with opc := Op.gnt } (fun r t m s =>
    match t.fabWay s with
    | none => ackTo m s
    | some k =>
      if (wayAt s k).quar then ackTo m (lostWay t s)
      else if r.msg.flag Fl.z then
        let own := match t.kind with | .zalloc e => e | _ => none
        let s := onWay k (fun w => if w.res then { w with rstate := 2, rsvBy := none } else
          { Way.empty with tag := tagOfSk s t.sk, remote := true, home := skHome t.sk, rstate := 2, encl := m.encl }) s
        ackTo m (endZalloc t k own t.rsv2 s)
      else
        let s := carryHeat k 2 (burstsWritten k [0, 1, 2, 3] (onWay k (fun w => { w with rstate := 2, rsvBy := none }) s))
        ackTo m (onTxn t.id (fun t => { t with rsv2 := .none, ph := .looked none, since := s.tb }) s)) s

/-- The lines of a KEEP write-back that have not been written since are cleaned (R265). -/
def cleanKept (w : WbOut) (s : State) : State :=
  match findWay s w.sk with
  | none => s
  | some k => upTo 4 (fun j s =>
      match w.lines.getD j none with
      | none => s
      | some c =>
        let l := (wayAt s k).line j
        if l.pend ∧ l.ls.charged ∧ l.stamp = c.stamp then makeClean k j s else s) s

/-- Foreign records that no CMP has retired yet (R275). -/
def foreignLeft (s : State) : List Foreign := s.med.media.foreign.filter fun f => !s.med.jrnl.retired.contains f.sk

/-- CMP for returned data, an eviction notice or a handback (R265, R275, R279). -/
def endWb (w : WbOut) (m : FMsg) (s : State) : State :=
  let s := if w.keep then cleanKept w s else s
  let waits := w.lines.flatMap fun c => (c.map (·.wait)).getD []
  let s := onCache (fun c => { c with acks := c.acks ++ waits.eraseDups }) s
  let s := onFab (fun f => { f with wbs := f.wbs.filter (· != w) }) s
  let s := if w.fhb then
      if (foreignLeft s).any (·.sk == w.sk) then onJrnl (fun j => { j with retired := w.sk :: j.retired }) s else s
    else s
  let s := if w.fhb && m.flag Fl.reject && m.cause == 4 then raise Ev.fhbLost (dataPeer w.home 0 w.tid) 0 s else s
  if w.lines.isEmpty ∧ ¬ w.fhb then s else ackTo m s

/-- A write-no-allocate sent home is complete, or has failed: its bytes are done with (R182, R268). -/
def endWrNa (t : Txn) (s : State) : State :=
  let items := ((ntEntry s t.sk).map fun e => (e.items.filter (!·.armed)).map (·.txn)).getD []
  endOut t (onCache (fun c => { c with acks := c.acks ++ items }) s)

/-- CMP (R265, R264): for returned data, for a WR_NA, or for held data sent to the home. -/
def execCmp (p lane seq : Nat) (m : FMsg) (s : State) : Res :=
  receive p lane seq { m with opc := Op.cmp } true (fun m s =>
    match s.fab.wbs.find? fun w => w.tid == m.tid && w.sk == m.sk with
    | some w => endWb w m s
    | none =>
      match holdOf s m.sk m.tid with
      | some k => ackTo m (clearWay k s)
      | none =>
        match reqOf s m.tid with
        | none => if m.requester = ownNode s then ackTo m s else stale m s
        | some r =>
          if r.msg.sk ≠ m.sk ∨ r.msg.gen ≠ m.gen then stale m s
          else
            match txnAt s r.txn with
            | none => ackTo m (dropReq m.tid s)
            | some t => ackTo m (endWrNa t (dropReq m.tid s))) s

/-- RLS (R262). -/
def execRls (p lane seq : Nat) (m : FMsg) (s : State) : Res :=
  receive p lane seq { m with opc := Op.rls } true (fun m s =>
    match holdOf s m.sk m.tid with
    | some k => clearWay k s
    | none => s) s

/-- A fabric request of this device fails (R53, R268): the sector's reservation goes, the requester gets its outcome. -/
def failReq (t : Txn) (cause : Nat) (s : State) : State :=
  match t.kind with
  | .writeOut _ => endWrNa t s
  | _ => failTxn t cause (dropReserved t (onTxn t.id (fun t => { t with rsv2 := .none }) s))

/-- ERR (R54, R268). -/
def execErr (p lane seq : Nat) (m : FMsg) (s : State) : Res :=
  requesterRsp p lane seq { m with opc := Op.err } (fun _ t m s =>
    let s := if m.cause = 1 then tellUnmapped .unmapped t.da 0 s
      else if m.cause = 2 then tellUnmapped .unbacked t.da 0 s
      else if m.cause = 3 then tellViolation t s else s
    ackTo m (failReq t m.cause s)) s

/-- ATOM_RES (R254). -/
def execAtomRes (p lane seq : Nat) (m : FMsg) (s : State) : Res :=
  requesterRsp p lane seq { m with opc := Op.atomRes } (fun _ t m s =>
    ackTo m (endAtom t (AtomOut.ofCode m.cause) (((m.blk.getD 0 none).getD 0).toNat) s)) s

/-- TRANSIT_MESSAGE (R528): a message for another device. -/
def execTransitMessage (p lane seq : Nat) (m : FMsg) (s : State) : Res := receive p lane seq m true (fun m s => stale m s) s

/-! ### Timers (R259, R261, R267 to R272, R279) -/

/-- The timeout of a fabric request (R268). -/
def reqTimeout (r : ReqOut) (s : State) : State :=
  let s := until_ (r.at_ + fullTo s) s
  let home := r.msg.dst / 64
  if r.reissue < maxReissue s then
    let s := raise Ev.fxTimeout (dataPeer home 0 r.msg.tid) 0 (tally Ctr.FX_REISSUE 1 s)
    let m := { r.msg with gen := (r.msg.gen + 1) % 16, time := s.tb, tl := s.fab.locked }
    let (q, s) := sendVia (some r.port) m 0 s
    let again : ReqOut → ReqOut := fun x => if x = r then { x with msg := m, at_ := s.tb, reissue := r.reissue + 1, port := q } else x
    onFab (fun f => { f with reqs := f.reqs.map again }) s
  else
    let s := fxFail home 1 r.msg.tid (dropReq r.msg.tid s)
    match txnAt s r.txn with
    | some t => failReq t 0 s
    | none => s

/-- Returned data is sent again under the next GEN (R266, R268). -/
def resendWb (w : WbOut) (s : State) : State :=
  let datum := fun (j : Nat) => match w.lines.getD j none with
    | some c => some c.data
    | none => some 0
  let m := { msgTo s (if w.lines.isEmpty ∧ ¬ w.fhb then Op.evcE else if w.fhb then Op.fhb else Op.wb) (w.home * 64) w.tid
               ((w.gen + 1) % 16) w.sk with
             flags := (if w.keep ∧ ¬ w.lines.isEmpty then 4 else 0) + (if w.held then 16 else 0), time := s.tb, tl := s.fab.locked,
             lst := (List.range 4).map (fun j => ((w.lines.getD j none).map (·.ls)).getD .invalid),
             blk := (List.range 4).map datum }
  let (q, s) := sendVia (some w.port) m 0 s
  let again : WbOut → WbOut := fun x => if x = w then { x with gen := (w.gen + 1) % 16, at_ := s.tb, reissue := w.reissue + 1, port := q } else x
  onFab (fun f => { f with wbs := f.wbs.map again }) s

/-- The timeout of returned data: it never fails, and EV_FX_FAIL tells every MAX_REISSUE-th timeout (R268). -/
def wbTimeout (w : WbOut) (s : State) : State :=
  let s := until_ (w.at_ + fullTo s) s
  let s := raise Ev.fxTimeout (dataPeer w.home 0 w.tid) 0 (tally Ctr.FX_REISSUE 1 s)
  resendWb w (if (w.reissue + 1) % maxReissue s = 0 then fxFail w.home 1 w.tid s else s)

/-- FX_TIMEOUT (R267, R268): the timer of the transaction with a TID. -/
def execFxTimeout (tid : Nat) (s : State) : Res :=
  match reqOf s tid with
  | some r => .next (settle (reqTimeout r s))
  | none =>
    match s.fab.wbs.find? (·.tid == tid) with
    | some w => .next (settle (wbTimeout w s))
    | none => .next s

/-- No ACK has come for a response (R270). When the record is freed, the requester may hold what it was granted, so the directory names
it. -/
def respTimeout (r : HRec) (a : FMsg) (s : State) : State :=
  let s := until_ (r.respAt + fullTo s) s
  if r.resends < maxReissue s then
    sendMsg a (onRec r.tid (fun r => { r with respAt := s.tb, resends := r.resends + 1 }) s)
  else fxFail (r.req / 64) 1 r.tid (endRec r (recordGrant r s))

/-- HOME_RESPONSE_TIMEOUT (R270). -/
def execHomeResponseTimeout (tid : Nat) (s : State) : Res :=
  match recOf s tid with
  | none => .next s
  | some r =>
    match r.resp with
    | none => .next s
    | some a => .next (settle (respTimeout r a s))

/-- A holder has not answered a snoop (R272). -/
def snpTimeout (x : SnpOut) (s : State) : State :=
  let s := until_ (x.at_ + fullTo s) s
  let t := (txnAt s x.txn).getD { Txn.blank with tid := ownNode s * 2 ^ 22 }
  if x.resends < maxReissue s then
    let m := { msgTo s (if x.opc = Op.wb then Op.snpInv else x.opc) (x.holder * 64) t.tid t.fgen x.sk with
      flags := if x.fwd then 1 else 0 }
    let again : SnpOut → SnpOut := fun y => if y = x then { y with at_ := s.tb, resends := x.resends + 1 } else y
    sendMsg m (onFab (fun f => { f with snps := f.snps.map again }) s)
  else
    let owner := isOwnerDev s x.sk x.holder
    let s := hwFld Reg.COH_FX_FAIL 11 0 x.holder (hwFld Reg.COH_FX_FAIL 15 12 2 s)
    let s := raise Ev.fxHolderLost (dataPeer x.holder 2 t.tid) 0 s
    let s := onDirOf x.sk (fun k s => dirDrop k x.holder s) s
    answered x (if owner then poisonSector x.sk s else s)

/-- HOME_SNOOP_TIMEOUT (R272). -/
def execHomeSnoopTimeout (sk dev : Nat) (s : State) : Res :=
  match s.fab.snps.find? fun x => x.sk == sk && x.holder == dev && x.opc != Op.snpData with
  | none => .next s
  | some x => .next (settle (snpTimeout x s))

/-- The start of the present half-timeout interval of a transaction (R259, R261). -/
def Txn.pendFrom (t : Txn) : Nat := max t.arr t.pendAt

/-- The waiting party of a transaction is told that it goes on. -/
def tellPend (t : Txn) (s : State) : State :=
  let s := until_ (t.pendFrom + halfTo s) s
  tally Ctr.FX_PEND_SENT 1 (sendMsg (reply t s Op.rspPend) (onTxn t.id (fun t => { t with pendAt := s.tb }) s))

/-- RSP_PEND_INTERVAL (R259, R261): a transaction of another device goes on. One that has been answered, and waits for ACK, is no longer
at work. -/
def execRspPendInterval (id : Nat) (s : State) : Res :=
  match txnAt s id with
  | none => .next s
  | some t => if ¬ t.isFab ∨ t.ph = .ack then .next s else .next (settle (tellPend t s))

/-- DIR_STALL_TIMEOUT (R251). -/
def execDirStallTimeout (id : Nat) (s : State) : Res :=
  .next (stall id (·.dirAt) (·.dirTold) (fun t => { t with dirTold := true }) Ev.dirStall s)

/-! ### Incarnations and handback (R275 to R279) -/

/-- Ways, forward holds included, that hold sectors of a home. -/
def waysOfHome (s : State) (d : Nat) : List Nat :=
  (s.cache.ways.filter fun e => e.2.remote && e.2.home == d && (e.2.res || e.2.fwd.isSome)).map (·.1)

/-- Send FHB_DONE to the peers whose sectors have all gone back. -/
def backPump (s : State) : State :=
  eachIn s.fab.back (fun d s =>
    if (waysOfHome s d).isEmpty ∧ ¬ s.fab.wbs.any (fun w => w.home == d && w.fhb) ∧
        ¬ (foreignLeft s).any (·.home == d) then
      let s := onFab (fun f => { f with back := f.back.filter (· != d) }) s
      sendMsg { msgTo s Op.fhbDone (d * 64) (ownNode s * 2 ^ 22) 0 (d * 2 ^ 40) with time := s.tb, tl := s.fab.locked } s
    else s) s

/-- The holder's part (R276): dirty lines go back as FHB, forward holds with HELD, the sectors leave; requests to the peer
fail, and a WB in flight is sent again as FHB: one with KEEP as part of its sector's, which holds the same lines, or newer. Each that fails raises EV_FX_FAIL with cause 3 of R284, which R286 does not list: DESIGN
CHOICE (log 75). -/
def handBack (d : Nat) (s : State) : State :=
  let toFhb : WbOut → WbOut := fun w => if w.home = d ∧ ¬ w.lines.isEmpty then { w with fhb := true, keep := false } else w
  let part := fun (w : WbOut) => w.home == d && w.keep && (w.lines.isEmpty || (findWay s w.sk).isSome)
  let fresh := (s.fab.wbs.filter fun w => w.home == d && !w.fhb && !part w).length
  let s := onFab (fun f => { f with
    back := if f.back.contains d then f.back else f.back ++ [d], wbs := (f.wbs.filter (!part ·)).map toFhb }) (tally Ctr.FHB_SENT fresh s)
  let s := eachIn (s.fab.wbs.filter fun w => w.home == d && w.fhb) resendWb s
  let s := eachIn (s.fab.reqs.filter fun r => r.msg.dst / 64 == d) (fun r s =>
    let s := fxFail d 3 r.msg.tid (dropReq r.msg.tid s)
    match txnAt s r.txn with
    | some t => failReq t 5 s
    | none => s) s
  eachIn (waysOfHome s d) (fun k s =>
    let w := wayAt s k
    if w.fwd.isSome then clearWay k (sendWb w (skOfWay s k w) false true true [] s)
    else (admitTxn { Txn.blank with src := .engine, kind := .evict, tag := 1, sk := skOfWay s k w, encl := w.encl } s).2) s

/-- The home's part (R277). -/
def markPeer (d : Nat) (s : State) : State :=
  let owned := s.cache.dir.filterMap fun (i, e) => if e.excl ∧ e.named.contains d then some (skOfDir s i e) else none
  let holds := s.fab.holds.filter fun h => h.2.1 == d || h.2.2 == d
  let marks := owned.map (fun sk => HbMark.mk sk (some d) none) ++ holds.map fun h => HbMark.mk h.1 none (some (h.2.1, h.2.2))
  let s := eachIn s.cache.dir (fun e s => putDir e.1 (e.2.without d) s) s
  let s := onFab (fun f => { f with marks := f.marks ++ marks,
                                    snps := f.snps.filter fun x => x.holder != d,
                                    waiting := if marks.isEmpty ∨ f.waiting.contains d then f.waiting else f.waiting ++ [d],
                                    waitAt := if f.waiting.isEmpty then s.tb else f.waitAt }) s
  eachIn (holds.filter fun h => h.2.2 == d && h.2.1 != d) (fun h s =>
    let r := s.fab.recs.find? fun r => r.sk == h.1 && r.hold == some h.2.1
    let tid := (r.map (·.tid)).getD 0
    sendMsg { msgTo s Op.snpRefwd (h.2.1 * 64) tid ((r.map (·.gen)).getD 0) h.1 with aux := ownNode s } (tally Ctr.FX_REFWD 1 s)) s

/-- A device learns the incarnation of a peer (R276, R277): a first one is only noted. -/
def learnIncarn (d inc : Nat) (s : State) : State :=
  match tblFind s.fab.incarn d with
  | none => onFab (fun f => { f with incarn := tblPut f.incarn d inc }) s
  | some old =>
    if old = inc then s
    else
      let s := onFab (fun f => { f with incarn := tblPut f.incarn d inc }) s
      backPump (markPeer d (handBack d (raise Ev.peerRestart (dataPeer d 0 0) 0 s)))

/-- PEER_INCARNATION_CHANGE (R276, R277). -/
def execPeerIncarnationChange (dev inc : Nat) (s : State) : Res :=
  if dev = devId s then .next s else .next (settle (learnIncarn dev inc s))

/-- FHB_WAIT_TIMEOUT (R279). -/
def execFhbWaitTimeout (s : State) : Res :=
  if s.fab.waiting.isEmpty ∨ s.fab.waitTold then .next s
  else
    let s := until_ (s.fab.waitAt + 1000000 * max 1 (fld s Reg.COH_FHB_CFG 15 0)) s
    .next (raise Ev.fhbWait 0 0 (onFab (fun f => { f with waitTold := true }) s))

/-- FORCE ends the wait (R279): sectors still marked are poisoned and recorded in FX_FAIL (R284), later handbacks are refused. -/
def fhbForce (s : State) : State :=
  if s.fab.waiting.isEmpty ∧ s.fab.marks.isEmpty then s
  else
    let dev := fun (x : HbMark) => (x.owner <|> x.hold.map (·.1)).getD 0
    let s := eachIn s.fab.marks (fun x s => hwFld Reg.COH_FX_FAIL 11 0 (dev x) (hwFld Reg.COH_FX_FAIL 15 12 4
      (clearMark x.sk (poisonSector x.sk s)))) s
    let s := onFab (fun f => { f with forced := true }) s
    let s := eachIn s.fab.aside (fun m s => endAside m false s) s
    let s := onFab (fun f => { f with waiting := [], hold_ := false, holds := [] }) s
    settle (handedBack (raise Ev.fhbForced 0 0 s))

end Sys2Proof.Machine
end

