-- ==== Sys2Proof/Machine/HostPorts.lean ====
section
/-! DEFINITION. What arrives at host ports: links (R81, R85, R110), HDM decoders (R43 to R48), CXL.mem requests (R82, R83),
snoop responses (R215 to R219), AtomicOps (R105), and the grants and completions that carry requests on. -/

namespace Sys2Proof.Machine

open Sys2Proof

/-- The port exists on this part and its link is up. -/
def portUp (s : State) (p : Nat) : Bool := decide (p < portCount s) && (port s p).up

/-- The port takes commands and requests: its link is up, and the device is in Run (R372, R376). -/
def serves (s : State) (p : Nat) : Bool := portUp s p && running s

/-- A port offers more than its mailbox: not in Tamper-Lock, in recovery mode, or without a usable cache or media set (R569,
R613, R622). -/
def offers (s : State) (p : Nat) : Bool := serves s p && s.mgt.boot.hdm && s.sec.lock == 0

/-- Writes under granted credits still arrive: in Run, and in Fence until the absorb step ends (R371, step 4). -/
def absorbs (s : State) : Bool := running s || (s.rsv.pst == .fence && decide (s.tb ≤ s.rsv.trigAt + 4320))

/-! ### Arrival of CXL.mem requests -/

/-- A request of port p. -/
def hostTxn (p tag hpa : Nat) (k : Kind) (mv : HSt) : Txn :=
  { Txn.blank with pool := .host p, src := .hp p, kind := k, tag := tag, da := hpa, mv := mv }

/-- A message arrives, and the work inside the device goes on. -/
def ingressNow (h : HeldKind) (u : Upset) (t : Txn) (p : Nat) (s : State) : State := settle (ingress h u t p s)

/-- A request under a Req credit arrives; one sent without a credit is not accepted, and one that arrives once Fence has begun
gets no response (R372). -/
def onReqCredit (p : Nat) (f : State → State) (s : State) : State :=
  if portUp s p ∧ 0 < (port s p).req then
    let s := tally Ctr.HPT_REQ_RX 1 (onPort p (fun x => { x with req := x.req - 1 }) s)
    if running s then f s else s
  else s

/-- The request class of a read (R82). -/
def readKind (dat : Bool) (mv : HSt) : Kind :=
  if dat then .rdS else match mv with | .s => .rdS | .a => .rdO | .i => .rdNA

/-- MEM_RD (R82). `dat`: MemRdData. -/
def execMemRd (p tag hpa : Nat) (mv : HSt) (dat : Bool) (u : Upset) (s : State) : Res :=
  .next (onReqCredit p (ingressNow .req u (hostTxn p tag hpa (readKind dat mv) mv) p) s)

/-- A clean eviction notice arrives (R82, R213). -/
def cleanNotice (p tag hpa : Nat) (s : State) : State := ingressNow .clean .none (hostTxn p tag hpa .rdS .i) p s

/-- MEM_INV (R82): an ownership upgrade with MetaValue A, a clean eviction notice with MetaValue I. The spec gives MetaValue
S no meaning for it, and such a message is not accepted. -/
def execMemInv (p tag hpa : Nat) (mv : HSt) (_nt : Bool) (u : Upset) (s : State) : Res :=
  match mv with
  | .a => .next (onReqCredit p (ingressNow .req u (hostTxn p tag hpa .own .a) p) s)
  | .i => .next (onReqCredit p (cleanNotice p tag hpa) s)
  | .s => .next s

/-- MEM_CLN_EVCT (R82, R213). -/
def execMemClnEvct (p tag hpa : Nat) (s : State) : Res := .next (onReqCredit p (cleanNotice p tag hpa) s)

/-- MEM_SPEC_RD (R82, R92, R146). -/
def execMemSpecRd (p hpa : Nat) (s : State) : Res :=
  .next (onReqCredit p (ingressNow .spec .none (hostTxn p 0 hpa .spec .i) p) s)

/-! ### Writes (R82, R83, R112, R177, R178, R217) -/

/-- A write arrives under an RwD credit: its headroom becomes its reservation (R294). Without a headroom it is a link
protocol error: discarded, and the link goes down. After the absorb step it is discarded and counted (R372). -/
def writeIn (p : Nat) (u : Upset) (t : Txn) (s : State) : State :=
  if ¬ portUp s p then s
  else if ¬ absorbs s then tally Ctr.RSV_FENCE_LATE_WR 1 s
  else
    match convertHead p s with
    | none => settle (hostDown p s)
    | some (r, s) =>
      let s := tally Ctr.HPT_RWD_RX 1 (onPort p (fun x => { x with rwd := x.rwd - 1 }) s)
      let s := if t.poison then raise Ev.hpPoisonRx (dataAddr 3 t.da) p (tally Ctr.HPT_POISON_RX 1 s) else s
      let n := s.cache.wseq.getD p 0 + 1
      let s := onCache (fun c => { c with wseq := setAt c.wseq p fun _ => n }) s
      ingressNow .write u { t with resv := r, rsz := 64, wseq := n, wport := p, arr := s.tb } p s

/-- MEM_WR (R82): a full line. -/
def execMemWr (p tag hpa : Nat) (mv : HSt) (data : Line) (poison : Bool) (u : Upset) (s : State) : Res :=
  .next (writeIn p u { hostTxn p tag hpa .wb mv with data := data, mask := fullMask, poison := poison } s)

/-- MEM_WR_PTL (R82, R178): the enabled bytes of a line. -/
def execMemWrPtl (p tag hpa : Nat) (mv : HSt) (data : Line) (mask : LineMask) (poison : Bool) (s : State) : Res :=
  .next (writeIn p .none { hostTxn p tag hpa .wrNA mv with data := data, mask := mask, poison := poison } s)

/-! ### Links (R81, R85, R108 to R110, R294) -/

/-- HOST_LINK_UP (R85, R114, R294): full credits of every channel, one headroom for each RwD credit; FENCE_DONE reads 0. -/
def execHostLinkUp (p width : Nat) (full : Bool) (bisnp : Nat) (s : State) : Res :=
  if portCount s ≤ p ∨ ¬ s.mgt.boot.linksOn ∨ ¬ running s then .next s
  else
    let s := if (port s p).up then portDown p s else s
    let wt := s.ldg.st != .armed
    let s := onPort p (fun x => { x with
      up := true, width := width, full := full, req := 512, rwd := 256, head := 256,
      headWt := if wt then 256 else 0, owed := [], bisnp := bisnp, reqKept := 0, gpf := false,
      ioCr := List.replicate 3 ⟨64, 256⟩, doneSeq := 0, doneKind := false, ovf := false }) s
    let s := if width < 16 ∨ ¬ full then raise Ev.hpLinkDegraded 0 p s else s
    .next (settle s)

/-- HP_LINK_DOWN (R110), PERST_N on the port included. -/
def execHpLinkDown (p : Nat) (_perst : Bool) (s : State) : Res := .next (settle (hostDown p s))

/-- CORRECTABLE_LINK_ERROR (R109). -/
def execCorrectableLinkError (p : Nat) (s : State) : Res :=
  if portUp s p then .next (raise Ev.hpLinkCorr 0 p (tally Ctr.HPT_LINK_CORR 1 s)) else .next s

/-- IDE_INTEGRITY_FAIL (R108). -/
def execIdeIntegrityFail (p : Nat) (mem : Bool) (s : State) : Res :=
  if ¬ portUp s p ∨ (tblFind (if mem then s.sec.ideMem else s.sec.ideIo) p).isNone then .next s
  else
    let s := onSec (fun x => { x with binds := x.binds.filter fun b => b.1 / 4 != p }) s
    .next (settle (hostDown p (raise Ev.hpIdeFail 0 p s)))

/-! ### HDM decoders (R43 to R48) -/

/-- DA ranges of two decoders overlap. -/
def Hdm.clash (a b : Hdm) : Bool := a.da < b.da + b.span && b.da < a.da + a.span

/-- A decoder may be committed on a port at index i (R44): its DA range meets no other committed decoder's, nor one that a walk is
about to commit. -/
def hdmOk (pt : Port) (i : Nat) (d : Hdm) : Bool :=
  d.ok &&
    ((List.range 4).all fun n => n == i || (match pt.hdm.getD n none with
      | some e => !(e.committed && d.clash e)
      | none => true)) &&
    pt.walk.all fun w => w.1 == i || (match w.2 with
      | some e => !d.clash e
      | none => true)

/-- The same mapping. -/
def Hdm.same (a b : Hdm) : Bool :=
  a.hpa == b.hpa && a.size == b.size && a.ways == b.ways && a.gran == b.gran && a.pos == b.pos && a.da == b.da

/-- Change decoder i of port p (R48): at once where its mapping stays or it had none, else after a walk, which a later change of the
same decoder redirects. A walk that has nothing to wait for ends at once. -/
def changeHdm (p i : Nat) (d : Option Hdm) (s : State) : State :=
  let keeps := match (port s p).hdm.getD i none, d with
    | some old, some n => !old.committed || n.same old
    | some old, none => !old.committed
    | none, _ => true
  settle (if keeps then setDec p i d s
    else onPort p (fun x => { x with walk := x.walk.filter (·.1 != i) ++ [(i, d)] }) s)

/-- Decoder i of a port is locked, or about to be. -/
def hdmLocked (pt : Port) (i : Nat) : Bool :=
  let lock := fun (d : Option Hdm) => (d.map (·.locked)).getD false
  lock (pt.hdm.getD i none) || pt.walk.any fun w => w.1 == i && lock w.2

/-- HDM_DECODER_COMMIT (R43, R44, R48). -/
def execHdmDecoderCommit (p i : Nat) (d : Hdm) (s : State) : Res :=
  if ¬ serves s p ∨ 4 ≤ i ∨ hdmLocked (port s p) i then .next s
  else if hdmOk (port s p) i d then .next (changeHdm p i (some { d with committed := true }) s)
  else .next (emit (.cxl p 0 "ErrorNotCommitted" none false) s)

/-- HDM_DECODER_UNCOMMIT (R48). -/
def execHdmDecoderUncommit (p i : Nat) (s : State) : Res :=
  if ¬ serves s p ∨ 4 ≤ i ∨ hdmLocked (port s p) i then .next s else .next (changeHdm p i none s)

/-! ### Snoop responses (R216, R218, R219) -/

/-- A BIRsp: I, S or E. -/
inductive BiRsp where
  | i | s | e
  deriving DecidableEq, Repr

/-- The outstanding BISnp of an address. -/
def biAt (s : State) (p hpa : Nat) : Option Bi :=
  s.cache.bis.find? fun b => b.port == p && b.hpa == hpa && b.sent.isSome

/-- BIRSP (R209, R216). A BISnp that is sent again takes a credit again. -/
def execBirsp (p hpa kind : Nat) (s : State) : Res :=
  let r : BiRsp := match kind with | 0 => .i | 1 => .s | _ => .e
  match biAt s p hpa with
  | none => .next s
  | some b =>
    let legal := match r with | .i => true | .s => b.dat | .e => false
    let s := match r with
      | .i => tally Ctr.COH_BIRSP_I 1 s
      | .s => tally Ctr.COH_BIRSP_S 1 s
      | .e => s
    if legal then
      let s := if r = .i ∧ sfSt s b.way b.line b.port = .a ∧ ¬ b.wb then tally Ctr.COH_BISNP_STALE 1 s else s
      .next (settle (biDone b (if r = .i then .i else .s) s))
    else if b.tries < fld s Reg.COH_BI_CFG 23 22 then
      let again := fun (x : Bi) => if x = b then { x with tries := x.tries + 1, sent := none } else x
      .next (settle (onCache (fun c => { c with bis := c.bis.map again }) s))
    else
      let s := raise Ev.cohBirspIllegal (dataAddr 3 hpa) p s
      .next (settle (hostDown p (rcFlag Reg.COH_SF_STS 17 s)))

/-- BICONFLICT (R218): acknowledged at once, with its Req credit. Answers leave in the order in which they are given, so the one to a
request that has been answered already goes before this. -/
def execBiconflict (p tag hpa : Nat) (s : State) : Res :=
  .next (onReqCredit p (fun s =>
    returnReq p (answer (hostTxn p tag hpa .rdS .i) "BIConflictAck" none false (tally Ctr.COH_BICONFLICT 1 s))) s)

/-- A BISnp has not been answered in time (R219). -/
def biTimeout (b : Bi) (s : State) : State :=
  hostDown b.port (rcFlag Reg.COH_SF_STS 17 (raise Ev.cohBisnpTimeout (dataAddr 3 b.hpa) b.port s))

/-- BISNP_TIMEOUT (R219). -/
def execBisnpTimeout (p hpa : Nat) (s : State) : Res :=
  match biAt s p hpa with
  | none => .next s
  | some b =>
    .next (settle (biTimeout b (until_ (b.sent.getD 0 + 1000000 * max 1 (fld s Reg.COH_BI_CFG 9 0)) s)))

/-- HOST_BISNP_CREDIT (R86, R215). -/
def execHostBisnpCredit (p n : Nat) (s : State) : Res :=
  if portUp s p then .next (settle (onPort p (fun x => { x with bisnp := x.bisnp + n }) s)) else .next s

/-! ### BAR4 (R84, R105) -/

/-- BAR4's size: D_SIZE rounded up to a power of two. -/
def bar4Size (s : State) : Nat := (((List.range 64).map (2 ^ ·)).find? fun n => decide (s.hpt.dsize ≤ n)).getD 0

/-- BAR4's type field (PCIe): a 64-bit, prefetchable memory BAR. -/
abbrev bar4Type : Nat := 0b1100

/-- BAR4 takes the offset. One past its end does not reach it. -/
def inBar4 (s : State) (p da : Nat) : Bool := offers s p && decide (da < bar4Size s)

/-- Operations and widths of PCIe AtomicOps (R105). -/
def pcieAtomic (a : Atom) : Bool :=
  match a.op with
  | .add | .swap => a.width == 4 || a.width == 8
  | .cas => a.width == 4 || a.width == 8 || a.width == 16
  | _ => false

/-- ATOMIC_OP (R105): misaligned, Completer Abort; an operation that is not supported is no AtomicOp (R84). -/
def execAtomicOp (p tag da : Nat) (a : Atom) (s : State) : Res :=
  if ¬ inBar4 s p da then .next s
  else
    let t := { hostTxn p tag da (.atomic { a with off := da % 64 }) .i with wport := p }
    if ¬ pcieAtomic a then
      .next (answer t "UR" none false (raise Ev.hpBar4Ur (dataAddr 0 da) p s))
    else if da % a.width ≠ 0 then .next (answer t "CA" none false s)
    else
      let n := s.cache.wseq.getD p 0 + 1
      let s := onCache (fun c => { c with wseq := setAt c.wseq p fun _ => n }) s
      match mapDa s da with
      | .error why => .next (answer t "AtomicCpl" none true (tellUnmapped why da p s))
      | .ok sk => .next (serve { t with sk := sk, line := da / 64 % 4, wseq := n } s)

/-- BAR4_NON_ATOMIC (R84). -/
def execBar4NonAtomic (p tag da : Nat) (s : State) : Res :=
  if ¬ inBar4 s p da then .next s
  else .next (answer (hostTxn p tag da .rdNA .i) "UR" none false (raise Ev.hpBar4Ur (dataAddr 0 da) p s))

/-- ATM_ALU_DONE (R222, R223, R226). -/
def execAtmAluDone (id : Nat) (s : State) : Res :=
  match txnAt s id with
  | none => .next s
  | some t =>
    match t.ph, t.kind with
    | .alu k, .atomic a | .alu k, .fAtom a => .next (settle (runAtom t a k s))
    | .alu k, .append len =>
      if wtRoom s (appendNeeds s t) then .next (settle (runAppend t len k s)) else .next (tellWbFull s)
    | _, _ => .next s

/-! ### Grants and completions inside the device -/

/-- TRK_ENTRY_GRANT (R90): a free entry goes to the oldest waiting request that may have one. -/
def execTrkEntryGrant (s : State) : Res :=
  match nextGrant s with
  | none => .next s
  | some (t, p) => .next (settle (giveEntry t p s))

/-- SHED_STEP_ESCALATE (R92): a further 1 µs of shortage. -/
def execShedStepEscalate (s : State) : Res :=
  match s.cache.shedAt with
  | none => .next s
  | some t =>
    let s := until_ (t + 1000) s
    .next (settle (onCache (fun c => { c with shed := min 4 (c.shed + 1), shedAt := some s.tb }) s))

/-- DRAM_READ_RETURN (R134, R152, R155): the bursts of a lookup's probe, in the order in which they were asked for. A return of
an old generation is dropped (R188); none comes before what a higher class has to be served first. -/
def execDramReadReturn (id gen : Nat) (rds : List Rd) (s : State) : Res :=
  match txnAt s id with
  | none => .next (raise Ev.trkStaleRsp gen 0 (tally Ctr.TRK_STALE_RSP 1 s))
  | some t =>
    if t.gen ≠ gen then .next (raise Ev.trkStaleRsp gen 0 (tally Ctr.TRK_STALE_RSP 1 s))
    else
      match t.ph with
      | .probe ws => if ((t.access s).map (served s)).getD true then .next (settle (probeReturn t ws rds s)) else .next s
      | _ => .next s

/-- DRAM_WRITE_COMPLETION (R145, R188, R220): the DRAM writes of a request are done; its sector's Busy clears. A completion of an old
generation is dropped. -/
def execDramWriteCompletion (r : Echo) (s : State) : Res :=
  let stale := Host.Outcome.next (raise Ev.trkStaleRsp r.gen 0 (tally Ctr.TRK_STALE_RSP 1 s))
  match txnAt s r.id with
  | none => stale
  | some t => if t.gen ≠ r.gen then stale else if t.ph = .dram then .next (settle (retire r.id s)) else .next s

/-- PRIORITY_PROMOTION (R152): a P2 or P3 access has waited 4 µs and goes up one class. -/
def execPriorityPromotion (s : State) : Res :=
  match nextPromoted s with
  | none => .next s
  | some a => .next (promote a (until_ (a.at_ + 4000) s))

end Sys2Proof.Machine
end

