-- ==== Sys2Proof/Machine/Sintering.lean ====
section
/-! DEFINITION. Sintering (R334, R335, R338), the journal's head (R321, R339), checkpoints (R340, R341) and key rotation on
media (R337, R343, R344). -/

namespace Sys2Proof.Machine

open Sys2Proof

/-! ### A home page (R69, R334) -/

/-- Home pages of the media set. -/
def homePages (s : State) : Nat := homeCap s / 4096

/-- The locators of every sector of home page p: sector, line, locator. -/
def pageLocs (s : State) (p : Nat) : List (Nat × Nat × Loc) :=
  (List.range 16).flatMap fun q => (List.range 4).filterMap fun l =>
    (locOf s.med.jrnl (16 * p + q) l).map fun x => (16 * p + q, l, x)

/-- The page at a locator is still staged. -/
def stagedLoc (s : State) (x : Loc) : Bool := s.med.jrnl.staging.any fun q => q.ns == x.ns && q.page == x.page

/-- Media reads that the image of a page needs: journal pages named by its locators and, where a line has none, the home
page. -/
def pageReads (s : State) (p : Nat) (locs : List (Nat × Nat × Loc)) : List (Nat × Nat) :=
  let js := locs.filterMap fun x =>
    if x.2.2.ls = .dirty ∧ ¬ x.2.2.persist ∧ ¬ stagedLoc s x.2.2 then
      some (x.2.2.ns, 256 + x.2.2.page % max 1 (mset s).jl) else none
  (if locs.length < 64 then [mediaLoc (mset s) p] else []) ++ js.eraseDups

/-- The record line at a locator, staged or on media. -/
def lineAt (s : State) (so l : Nat) (x : Loc) : Option CLine :=
  match s.med.jrnl.staging.find? fun q => q.ns == x.ns && q.page == x.page with
  | some q => recLine q.recs x.rec_ so l
  | none => (tblFind s.med.media.pages (pageKey x.ns x.page)).bind fun q => recLine q.recs x.rec_ so l

/-- The image's content of a line (R334). A record that has been packed again since is found at its new place. -/
def imageLine (s : State) (locs : List (Nat × Nat × Loc)) (so l : Nat) : Line :=
  match locs.find? fun x => x.1 == so && x.2.1 == l with
  | none => homeLine s so l
  | some (_, _, x) =>
    if x.ls ≠ .dirty ∨ x.persist then 0
    else
      match lineAt s so l x with
      | some c => c.data
      | none => (srcData s (devId s * 2 ^ 40 + so) l (lineSrc s (devId s * 2 ^ 40 + so) l)).1

/-! ### Steps of a sinter -/

def onSinter (p : Nat) (f : Sinter → Sinter) (s : State) : State :=
  onJrnl (fun j => { j with sinters := j.sinters.map fun x => if x.p = p then f x else x }) s

/-- The page is unlocked. -/
def unlock (p : Nat) (s : State) : State := onJrnl (fun j => { j with sinters := j.sinters.filter (·.p != p) }) s

/-- Lock page p and read what its image needs. None while a command slot is missing. -/
def startSinter (p : Nat) (rotate : Bool) (s : State) : Option State :=
  let locs := pageLocs s p
  let go := (pageReads s p locs).foldl (fun acc r => acc.bind fun s => (submit r.1 r.2 (.sinterRd p) true s).map (·.2)) (some s)
  go.map fun s => onJrnl (fun j => { j with sinters := j.sinters ++
    [⟨p, locs, (pageReads s p locs).length, rotate, false, false⟩] }) s

/-- Records of a page under the new generation (R343, step 1): every line, with its state. -/
def rotateRecs (s : State) (x : Sinter) (key : Nat) : List JRec :=
  (List.range 16).map fun q =>
    let so := 16 * x.p + q
    let ls := (List.range 4).map fun l =>
      let st := ((x.locs.find? fun y => y.1 == so && y.2.1 == l).map fun y => y.2.2.ls).getD LS.dirty
      some (CLine.mk st (if st = .dirty then imageLine s x.locs so l else 0) 0 false [])
    { ty := sectorType ls, so := so, run := 0, encl := key, keygen := genOfKey s key, home := 0, held := false, carry := false,
      free_ := true, kind := .evict, secs := [ls], body := [] }

/-- Append records that replace locators only where these still name `olds`. Answers none without room for all. -/
def appendRecs (rs : List JRec) (olds : List (Option (Nat × Nat × Nat))) (s : State) : Option State :=
  ((splitPages rs).foldl (fun acc p => acc.bind fun (n, s) =>
    (packPage none p ((olds.drop n).take p.length) s).map fun s => (n + p.length, s)) (some (0, s))).map (·.2)

/-- Write the image home with FUA. -/
def writeHome (x : Sinter) (s : State) : State :=
  let ml := mediaLoc (mset s) x.p
  match submit ml.1 ml.2 (.sinterWr x.p) false s with
  | some (_, s) => s
  | none => s

/-- A command of a page's home write is outstanding. -/
def homeBusy (s : State) (p : Nat) : Bool :=
  (s.med.ports.flatMap (·.cmds)).any fun c => c.what == .sinterWr p

/-- The ROTATE record of a key (R343). -/
def rotateRec (r : Rot) : JRec :=
  { plainRec .rotate (2 ^ 16) [r.cursor, r.newGen, r.oldGen, r.key] with free_ := true }

/-- The ROTATE record with cursor p + 1 is appended once page p is written home. -/
def closeRotate (p : Nat) (s : State) : State :=
  match s.med.jrnl.rot with
  | none => s
  | some r =>
    if s.med.jrnl.staging.any fun q => q.recs.any fun e => e.ty == .rotate && e.body.getD 0 0 == p + 1 then s
    else (packPage none [rotateRec { r with cursor := p + 1 }] [] s).getD s

/-- A page whose reads are all consumed goes on: a bad read abandons it; a rotation step first appends the page under the
new generation; then the image is written home. -/
def sinterNext (x : Sinter) (s : State) : State :=
  if x.written then closeRotate x.p s
  else if x.reads ≠ 0 ∨ homeBusy s x.p then s
  else if x.bad then unlock x.p s
  else
    match x.rotate, s.med.jrnl.rot with
    | true, some r =>
      if r.walked then writeHome x s
      else
        let rs := (rotateRecs s x r.key).filter fun e => (List.range 4).all fun l =>
          locOf s.med.jrnl e.so l == ((x.locs.find? fun y => y.1 == e.so && y.2.1 == l).map (·.2.2))
        match appendRecs rs [] s with
        | none => s
        | some s =>
          let s := onJrnl (fun j => { j with rot := j.rot.map fun r => { r with walked := true } }) s
          let x := { x with locs := pageLocs s x.p }
          writeHome x (onSinter x.p (fun _ => x) s)
    | _, _ => writeHome x s

/-- Every page goes on as far as it can. -/
def sinterPump (s : State) : State := eachIn s.med.jrnl.sinters sinterNext s

/-- The home page of an image could not be read: so are its lines that no locator names (R349). -/
def badHome (x : Sinter) (ns lba : Nat) (s : State) : State :=
  if mediaLoc (mset s) x.p ≠ (ns, lba) then s
  else
    upTo 64 (fun i s =>
      let so := 16 * x.p + i / 4
      if (x.locs.any fun y => y.1 == so && y.2.1 == i % 4) ∨ (locOf s.med.jrnl so (i % 4)).isSome then s
      else tellBadLine { Txn.blank with sk := devId s * 2 ^ 40 + so } (i % 4) s) s

/-- A read for the image of page p has been consumed. Lines that a failed record read held become poisoned (R349). -/
def sinterRead (p ns lba : Nat) (ok : Bool) (s : State) : State :=
  let s := onSinter p (fun x => { x with reads := x.reads - 1, bad := x.bad || !ok }) s
  let s := if ok then s
    else
      match s.med.jrnl.sinters.find? (·.p == p) with
      | none => s
      | some x => eachIn x.locs (fun y s =>
          if y.2.2.ls = .dirty ∧ y.2.2.ns = ns ∧ 256 + y.2.2.page % max 1 (mset s).jl = lba ∧
              locOf s.med.jrnl y.1 y.2.1 = some y.2.2 then
            tellBadLine { Txn.blank with sk := devId s * 2 ^ 40 + y.1 } y.2.1 s
          else s) (badHome x ns lba s)
  sinterPump s

/-- Persistent poison locators (R338). -/
def persistCount (s : State) : Nat :=
  sumN (s.med.jrnl.idx.map fun e => (e.2.locs.filter fun l => (l.map (·.persist)).getD false).length)

/-- Write one locator of a sector. -/
def setLoc (so l : Nat) (x : Option Loc) (s : State) : State :=
  match tblFind s.med.jrnl.idx so with
  | none => s
  | some e => onJrnl (putEntry so { e with locs := setAt e.locs l fun _ => x }) s

/-- A captured locator after the home write: cleared if unchanged; a poisoned line's becomes persistent (R334, R338). -/
def settleLoc (y : Nat × Nat × Loc) (s : State) : State :=
  if locOf s.med.jrnl y.1 y.2.1 ≠ some y.2.2 then tally Ctr.SINTER_STALE_LOC 1 s
  else if y.2.2.persist then s
  else if y.2.2.ls = .poisonDirty then
    if persistCount s < 65536 then setLoc y.1 y.2.1 (some { y.2.2 with persist := true }) s
    else raise Ev.medPoisonFull 0 0 s
  else setLoc y.1 y.2.1 none s

/-- The image is on media. -/
def putHome (x : Sinter) (s : State) : State :=
  let image := (List.range 16).flatMap fun q => (List.range 4).map fun l =>
    (4 * (16 * x.p + q) + l, imageLine s x.locs (16 * x.p + q) l)
  onMedia (fun m => { m with homeLines := image.foldl (fun t e => tblPut t e.1 e.2) m.homeLines }) s

/-- Clear a page's locators and unlock it. -/
def endSinter (x : Sinter) (s : State) : State :=
  unlock x.p (tally Ctr.SINTER_PAGE 1 (eachIn x.locs settleLoc s))

/-- A home write completed (R334). A rotation step appends its ROTATE record and keeps the locators until that is on
media. -/
def homeWritten (p : Nat) (s : State) : State :=
  match s.med.jrnl.sinters.find? (·.p == p) with
  | none => s
  | some x =>
    let s := putHome x s
    match x.rotate, s.med.jrnl.rot with
    | true, some _ =>
      closeRotate p (onSinter p (fun x => { x with written := true }) s)
    | _, _ => endSinter x s

/-- The home write failed: the records stay live (R350). -/
def homeFailed (p : Nat) (s : State) : State :=
  let s := match s.med.jrnl.sinters.find? (·.p == p) with
    | some x => if x.rotate then onJrnl (fun j => { j with rot := j.rot.map fun r => { r with walked := false } }) s else s
    | none => s
  unlock p s

/-- A ROTATE record is on media (R324, R343): it is its key's latest, the cursor moves on, and the page's records need live no longer. -/
def rotateDone (r : JRec) (s : State) : State :=
  let c := r.body.getD 0 0
  let s := if r.carry then s else onMedia (fun m => { m with rotates := tblPut m.rotates (r.body.getD 3 0) (c, r.body.getD 1 0) }) s
  match s.med.jrnl.rot with
  | none => s
  | some x =>
    if x.key ≠ r.body.getD 3 0 ∨ r.carry then s
    else
      let s := onJrnl (fun j => { j with rot := some { x with cursor := c, walked := false } }) s
      match s.med.jrnl.sinters.find? fun y => y.rotate && y.p + 1 == c with
      | some y => tally Ctr.JRNL_ROTATE_PAGE 1 (endSinter y s)
      | none => s

/-! ### Which page is sintered (R329, R334, R335) -/

/-- Chains that are full for a waiting record. -/
def fullChains (s : State) : List Nat :=
  (s.cache.wb.filter fun e => isLocal s e.sk && (entryFor s.med.jrnl (skSo e.sk)).isNone).flatMap fun e =>
    chainOf s.med.jrnl.nb (skSo e.sk / 16)

/-- Pages whose index entries stand in some buckets. -/
def bucketPages (s : State) (bs : List Nat) : List Nat :=
  ((s.med.jrnl.idx.filter fun e => bs.contains e.2.bucket).map fun e => e.1 / 16).eraseDups

/-- Pages named by the records of a stream's head slot, in record order. -/
def headPages (s : State) (ns : Nat) : List Nat :=
  ((liveRecs s ns (streamAt s ns).head).flatMap fun (_, _, r) =>
    match r.ty with
    | .data | .zero | .poison => (List.range r.secs.length).map fun q => (r.so + q) / 16
    | _ => []).eraseDups

/-- A page can be sintered now. -/
def sinterable (s : State) (p : Nat) : Bool :=
  !s.med.jrnl.sinters.any (·.p == p) && nsOk s (mediaLoc (mset s) p).1 &&
    (pageLocs s p).any fun x => !x.2.2.persist

/-- Sintering runs: from LOW_PCT on unless give-way is at step 4; at the high watermark always (R335). -/
def sintering (s : State) : Bool :=
  match s.med.media.set_ with
  | none => false
  | some m => running s && (jrnlHigh s || !(fullChains s).isEmpty ||
      (decide (fld s Reg.LDG_JRNL_CFG 6 0 * jrnlTotal m ≤ 100 * jrnlUsed s) && decide (s.cache.shed < 4)))

/-- Sintering runs at the full rate: at the high watermark, or for a full chain (R329, R335). -/
def fullRate (s : State) : Bool := jrnlHigh s || !(fullChains s).isEmpty

/-- Background sintering is paced by BG_RATE of home writes. -/
def paceSinter (s : State) : State :=
  if fullRate s then s
  else
    let s := until_ s.med.jrnl.sinterAt s
    onJrnl (fun j => { j with sinterAt := paced s.tb 4096 (fld s Reg.LDG_SINTER_CFG 7 0) }) s

/-- SINTER_PAGE (R334, R335): the next page of a full chain, else of the head slot of stream ns. -/
def execSinterPage (ns : Nat) (s : State) : Res :=
  if ¬ sintering s ∨ (¬ fullRate s ∧ fld s Reg.LDG_SINTER_CFG 7 0 = 0) ∨ max 1 (fld s Reg.LDG_SINTER_CFG 17 8) ≤ (s.med.jrnl.sinters.filter (!·.rotate)).length then .next s
  else
    let cs := bucketPages s (fullChains s)
    match (if cs.isEmpty then headPages s ns else cs).find? (sinterable s) with
    | none => .next s
    | some p =>
      match startSinter p false s with
      | some s => .next (settle (sinterPump (paceSinter s)))
      | none => .next s

/-! ### The head (R321, R339) -/

/-- A carried record: the lines that a locator still names, without charge. -/
def carried (s : State) (ns page i : Nat) (r : JRec) : JRec :=
  let live := fun (q l : Nat) => match locOf s.med.jrnl (r.so + q) l with
    | some x => !x.persist && x.ns == ns && x.page == page && x.rec_ == i
    | none => false
  let keep := fun (q : Nat) (ls : List (Option CLine)) => (List.range 4).map fun l =>
    if r.ty == .foreign || live q l then (ls.getD l none).map fun c => { c with wait := [] } else none
  { r with carry := true, free_ := true, kind := .evict,
           secs := (List.range r.secs.length).map fun q => keep q (r.secs.getD q []) }

/-- Copy the live records of a slot to the tail (R339). -/
def carrySlot (ns : Nat) (live : List (Nat × Nat × JRec)) (s : State) : Option State :=
  let rs := live.map fun (pg, i, r) => carried s ns pg i r
  let olds := live.map fun (pg, i, _) => some (ns, pg, i)
  (if rs.isEmpty then some s else appendRecs rs olds s).map fun s =>
    tally Ctr.JRNL_CARRY rs.length s

/-- Bytes of carried and stranded records that are live (R339): LDG.CARRY. -/
def carryBytes (s : State) : Nat :=
  sumN (s.med.media.pages.flatMap fun e => e.2.recs.zipIdx.filterMap fun x =>
    let away := (x.1.ty == .data || x.1.ty == .zero || x.1.ty == .poison) && !nsOk s (mediaLoc (mset s) (pageOfSo x.1.so)).1
    if (x.1.carry || away) && recLive s (e.1 / 2 ^ 40) (e.1 % 2 ^ 40) x.2 x.1 then some x.1.size else none)

/-- JOURNAL_HEAD_ADVANCE (R321, R339): the head of stream ns passes its slot, if nothing live stays in it and the
checkpoints allow it. -/
def execJournalHeadAdvance (ns : Nat) (s : State) : Res :=
  let t := streamAt s ns
  let live := liveRecs s ns t.head
  let staged := (outstanding s ns).any fun p => p.page / 64 == t.head
  if ¬ running s ∨ (mset s).n ≤ ns ∨ t.tail ≤ t.head ∨ headLimit s ns ≤ t.head ∨ staged ∨
      !(live.all fun x => mustCarry s x.2.2) then .next s
  else
    match carrySlot ns live s with
    | none => .next s
    | some s =>
      if (liveRecs s ns t.head).all fun x => x.2.2.ty != .data && x.2.2.ty != .zero && x.2.2.ty != .poison then
        let gone := fun (k : Nat) (_ : JPage) => !(k / 2 ^ 40 == ns && k % 2 ^ 40 / 64 == t.head)
        let s := onMedia (fun m => { m with pages := tblFilter gone m.pages }) s
        let s := if (s.med.ports.getD (nsPort s ns) MPort.off).ctl.dsm then
            emit (.nvme (nsPort s ns) 0 "DEALLOCATE" ns (256 + 64 * t.head % max 1 (mset s).jl)) s else s
        .next (settle (onStream ns (fun t => { t with head := t.head + 1 }) s))
      else .next (settle s)

/-! ### Checkpoints (R340, R341) -/

/-- JSN (R320) of the records on media for which `p` holds. -/
def jsnsOf (s : State) (p : JRec → Bool) : List Nat :=
  s.med.media.pages.flatMap fun e => e.2.recs.zipIdx.filterMap fun x => if p x.1 then some (256 * e.2.pseq + x.2) else none

/-- MGT.DEV_ID.STEPPING. -/
def stepping (s : State) : Nat := fld s Reg.MGT_DEV_ID 7 0

/-- The checkpoint that would begin now. -/
def newCkpt (s : State) : Ckpt :=
  { series := s.med.jrnl.series + 1, pseqAt := s.med.jrnl.pseq, heads := s.med.jrnl.streams.map (·.head),
    tails := s.med.jrnl.streams.map (·.tail), d := dAmount s, rot := s.med.jrnl.rot,
    poison := s.med.jrnl.idx.flatMap fun e => (List.range 4).filterMap fun l =>
      if ((e.2.locs.getD l none).map (·.persist)).getD false then some (4 * e.1 + l) else none,
    retired := s.med.jrnl.retired, gen := s.plc.doneGen, incarn := s.mgt.nv.incarn, copies := 0, anchors := [],
    tops := (List.range (mset s).n).map fun ns => maxN ((s.med.media.pages.filter fun e => e.1 / 2 ^ 40 == ns).map (·.1 % 2 ^ 40)),
    geom := [(mset s).jgib, (mset s).n, s.med.jrnl.nb, stepping s], rots := s.med.media.rotates,
    retiredJsn := jsnsOf s fun r => r.ty == .foreign && s.med.jrnl.retired.contains (r.home * 2 ^ 40 + r.so),
    springJsn := (jsnsOf s fun r => r.ty == .spring && r.body.headD 0 % 2 ^ 32 == s.plc.doneGen).foldl min (2 ^ 64 - 1),
    segs := 1, places := [] }

/-- What a checkpoint holds (R340), in 64-bit words. The spec gives their order in the table of R340 and no layout: the model's own
(log 67). -/
def Ckpt.words (c : Ckpt) : List Nat :=
  [c.series, c.pseqAt, c.heads.length] ++ c.heads ++ c.tails ++ c.tops ++ c.geom ++
    (c.rots.length :: c.rots.flatMap fun e => [e.1, e.2.1, e.2.2]) ++ (c.poison.length :: c.poison) ++
    (c.retiredJsn.length :: c.retiredJsn) ++ [c.springJsn, c.incarn, c.d]

/-- The CKPT records of a copy: segments of at most 4,000 B, each of which names its series first. -/
def Ckpt.recs (c : Ckpt) : List JRec :=
  let ps := (List.range (max 1 (ceilDiv c.words.length 499))).map fun i => (c.words.drop (499 * i)).take 499
  ps.zipIdx.map fun x =>
    { plainRec .ckpt (x.2 + 2 ^ 16 * ps.length + 2 ^ 32 * (c.series % 256)) (c.series :: x.1) with free_ := true }

/-- Streams for the two copies (R341): of two ports; else of two namespaces; else twice the same. -/
def copyStreams (s : State) : Option (Nat × Nat) :=
  match pickStream none s with
  | none => none
  | some a =>
    let cs := (List.range (mset s).n).filter fun b => streamOk s b && b != a
    let b := (cs.find? fun b => nsPort s b != nsPort s a) <|> cs.head?
    some (a, b.getD a)

/-- Pack the records of a copy on a stream, a page each: the place of the first, none without room for all. -/
def packCopy (ns : Nat) (rs : List JRec) (s : State) : Option (Nat × State) :=
  (rs.foldl (fun acc r => acc.bind fun s => packOn ns [r] [] s) (some s)).map fun t =>
    (((t.med.jrnl.staging.filter (·.ns == ns)).reverse.getD (rs.length - 1) ⟨0, 0, 0, [], none, false, false, false, 0⟩).page, t)

/-- Begin a checkpoint: both copies are packed. None without room. -/
def startCkpt (s : State) : Option State :=
  let c := newCkpt s
  match copyStreams s with
  | none => none
  | some (a, b) =>
    (packCopy a c.recs s).bind fun (pa, s) =>
    (packCopy b c.recs s).map fun (pb, s) => onJrnl (fun j => { j with
      ckpt := some { c with segs := c.recs.length, places := [(a, pa), (b, pb)] }, series := c.series }) s

/-- CHECKPOINT_TIMER (R340): CKPT_MS after the last completed one. -/
def execCheckpointTimer (s : State) : Res :=
  if ¬ running s ∨ s.med.media.set_.isNone ∨ s.med.jrnl.ckpt.isSome ∨ s.med.jrnl.making.isSome then .next s
  else
    let s := until_ (s.med.jrnl.ckptAt + 1000000 * fld s Reg.LDG_JRNL_CFG 30 19) s
    match startCkpt s with
    | some s => .next (settle s)
    | none => .next s

/-- An anchor write of a namespace is outstanding. -/
def anchorBusy (s : State) (ns : Nat) : Bool :=
  (s.med.ports.flatMap (·.cmds)).any fun c => c.ns == ns && (match c.what with | .anchor _ => true | _ => false)

/-- With both copies complete, the anchors are written to slot SERIES mod 64 of every admitted namespace (R341). -/
def ckptPump (s : State) : State :=
  match s.med.jrnl.ckpt with
  | none => s
  | some c =>
    if c.copies < 2 * c.segs then s
    else eachIn (liveNs s) (fun ns s =>
      if c.anchors.contains ns ∨ anchorBusy s ns then s
      else
        match submit ns (64 + c.series % 64) (.anchor c.series) false s with
        | some (_, s) => s
        | none => s) s

/-- A segment of a copy of the running checkpoint is on media. -/
def ckptCopy (series : Nat) (s : State) : State :=
  match s.med.jrnl.ckpt with
  | none => s
  | some c =>
    if c.series = series then ckptPump (onJrnl (fun j => { j with ckpt := some { c with copies := c.copies + 1 } }) s) else s

/-- Records of a key at its old generation that the journal still holds from the heads of a checkpoint on (R344). -/
def oldRecs (s : State) (r : Rot) (c : Ckpt) : Bool :=
  let old := fun (x : JRec) => x.keygen == r.oldGen && (match x.ty with
    | .data | .zero | .poison => x.encl == r.key
    | .foreign => r.key == 0
    | _ => false)
  s.med.media.pages.any (fun e => decide (c.heads.getD (e.1 / 2 ^ 40) 0 ≤ e.1 % 2 ^ 40 / 64) && e.2.recs.any old) ||
    s.med.jrnl.staging.any fun p => p.recs.any old

/-- The next home page owned by key k from page c on (R74, R343). -/
def nextOwned (s : State) (k c : Nat) : Option Nat :=
  let rs := s.sec.ranges.map (·.2)
  let p :=
    let skip := fun (c : Nat) => rs.foldl (fun c r => if r.base ≤ c ∧ c ≤ r.last then r.last + 1 else c) c
    if k = 0 then some (upTo (rs.length + 1) (fun _ c => skip c) c)
    else
      bestBy (fun (a b : Nat) => a < b)
        ((rs.filter fun r => r.encl == k && decide (c ≤ r.last)).map fun r => max c r.base)
  p.bind fun p => if p < homePages s then some p else none

/-- A rotation is complete (R344): the old key is destroyed. -/
def rotateEnd (c : Ckpt) (s : State) : State :=
  match s.med.jrnl.rot with
  | none => s
  | some r =>
    if (nextOwned s r.key r.cursor).isSome ∨ oldRecs s r c then s
    else
      let drop := fun (k : Nat) (x : MediaKey) => if k = r.key then { x with old := none } else x
      let s := onSec (fun x => { x with media := tblMap drop x.media }) s
      let s := onJrnl (fun j => { j with rot := none }) s
      raise Ev.jrnlRotateDone 0 0 (writeArea (areaEscrow s) s).2

/-- A copy of the CLOSE record that this Geyser packs is on media already. -/
def closeHere (s : State) : Bool :=
  s.rsv.pst == .geyser && s.rsv.drain == 6 &&
    decide ((s.med.jrnl.staging.filter fun p => p.recs.any (·.ty == .close)).length < 2)

/-- An anchor has completed on a namespace; the checkpoint is complete with two of them, or with all (R341). -/
def anchorDone (series ns : Nat) (s : State) : State :=
  let s := tally Ctr.JRNL_ANCHOR 1 s
  match s.med.jrnl.ckpt with
  | none => s
  | some c =>
    if c.series ≠ series then s
    else
      let c := { c with anchors := ns :: c.anchors }
      if min 2 (liveNs s).length ≤ c.anchors.length then
        let s := onMedia (fun m => { m with
          ckpts := (c :: m.ckpts).take 2, foreign := m.foreign.filter fun f => !c.retired.contains f.sk, closed := if closeHere s then m.closed else none }) s
        rotateEnd c (tally Ctr.JRNL_CKPT 1 (onJrnl (fun j => { j with ckpt := none, ckptAt := s.tb }) s))
      else onJrnl (fun j => { j with ckpt := some c }) s

/-! ### Key rotation and the index -/

/-- ROTATE_PAGE_STEP (R343): the walk locks its next page. -/
def execRotatePageStep (s : State) : Res :=
  match s.med.jrnl.rot with
  | none => .next s
  | some r =>
    if ¬ running s ∨ s.med.jrnl.sinters.any (·.rotate) then .next s
    else
      match nextOwned s r.key r.cursor with
      | none => .next s
      | some p =>
        if s.med.jrnl.sinters.any (·.p == p) then .next s
        else
          match startSinter p true s with
          | some s => .next (settle (sinterPump s))
          | none => .next s

/-- INDEX_BUCKET_REBUILD (R330): the sector of bucket b failed. Summary and staging pages give the entries that it held,
so the index reads as before. -/
def execIndexBucketRebuild (b : Nat) (s : State) : Res :=
  if b < s.med.jrnl.nb then .next (raise Ev.jrnlIndexRebuild 0 0 s) else .next s

end Sys2Proof.Machine
end

