-- ==== Sys2Proof/Machine/Drain.lean ====
section
/-! DEFINITION. Fence (R369 to R372) and Geyser (R374, R375): how they begin, the placement of writes, what is packed and in
which order, and the spring records that step 3 writes (R488 to R490). A trigger's command holds the whole of Fence. -/

namespace Sys2Proof.Machine

open Sys2Proof

/-! ### Spring records (R487 to R490) -/

/-- A spring entry as 8 B (R487). -/
def SprEnt.word (e : SprEnt) : Nat :=
  e.so % 2 ^ 40 + 2 ^ 40 * (e.heat % 256) + (if e.remove then 2 ^ 48 else 0) + (if e.pin then 2 ^ 49 else 0)

/-- The entry an 8 B word holds. -/
def SprEnt.ofWord (w : Nat) : SprEnt := ⟨bitsOf w 39 0, bitsOf w 47 40, bitsOf w 48 48 == 1, bitsOf w 49 49 == 1⟩

/-- A SPRING record: segment header, then up to 498 entries (R488). -/
def springRec (s : State) (src : Nat) (genEnd geyser : Bool) (es : List SprEnt) : JRec :=
  let flags := (if genEnd then 1 else 0) + (if geyser then 2 else 0)
  let head := s.plc.gen % 2 ^ 32 + 2 ^ 32 * es.length + 2 ^ 48 * flags + 2 ^ 56 * src
  { plainRec .spring (s.plc.segs % 2 ^ 16 + 2 ^ 32 * (s.plc.gen % 256)) (head :: s.tb % 2 ^ 64 :: es.map (·.word) ++ List.replicate (es.length % 2) 0) with
    free_ := true }

/-- Write one SPRING record; it fills a page. None without room. -/
def packSpring (src : Nat) (genEnd geyser : Bool) (es : List SprEnt) (s : State) : Option State :=
  (packPage none [springRec s src genEnd geyser es] [] s).map (onPlc fun p => { p with segs := p.segs + 1 })

def onCore (c : Nat) (f : Core → Core) (s : State) : State := onPlc (fun p => { p with cores := setAt p.cores c f }) s

/-- Entries that wait in the rings of all cores. -/
def ringLeft (s : State) : Nat := sumN (s.plc.cores.map (·.ring.length))

/-- One record of core c's ring. GEN_END goes into the last record of a generation that is closed. -/
def packRing (c : Nat) (s : State) : Option State :=
  let r := (s.plc.cores.getD c (Core.reset 0)).ring
  let es := r.take 498
  let last := s.plc.closing && decide (ringLeft s = es.length)
  if es.isEmpty then none
  else
    (packSpring c last false es s).map fun s =>
      let s := onCore c (fun x => { x with ring := x.ring.drop 498, ringAt := s.tb }) s
      if last then onPlc (fun p => { p with closing := false, building := false }) s else s

/-- Flush every ring into records as far as there is room. A closed generation with nothing left to write ends with a record
of one ignored entry. -/
def flushRings (s : State) : State :=
  let s := upTo 8 (fun c s => upTo 17 (fun _ s => (packRing c s).getD s) s) s
  if s.plc.closing ∧ ringLeft s = 0 then
    match packSpring 0 true false [⟨0, 0, false, false⟩] s with
    | some s => onPlc (fun p => { p with closing := false, building := false }) s
    | none => s
  else s

/-- A SPRING record is on media: GEN_END completes its generation (R489). -/
def springDone (r : JRec) (s : State) : State :=
  let h := r.body.getD 0 0
  if bitsOf h 48 48 = 1 then raise Ev.springGenDone (h % 2 ^ 32) 0 (onPlc (fun p => { p with doneGen := h % 2 ^ 32 }) s)
  else s

/-- The entries of the Geyser snapshot (R490). -/
def snapEntries (s : State) : List SprEnt :=
  if ¬ flag s Reg.PLC_SPRING_CFG 24 then []
  else
    s.cache.tsc.flatMap fun e =>
      if ¬ e.2.usable then [] else
        (waysOfSet e.1).filterMap fun k =>
          let w := wayAt s k
          let h := heatOf s k
          if w.res ∧ ¬ w.remote ∧ ¬ w.quar ∧ max 1 (fld s Reg.PLC_SPRING_CFG 7 0) ≤ h then
            some ⟨skSo (skOfWay s k w), h, false, w.pin⟩ else none

/-! ### Fence (R369, R371, R372) -/

/-- Coprocessor instructions that are squashed in what their contexts wait for are counted (R471, R475). -/
def tellSquash (ws : List CtxWait) (s : State) : State :=
  let pure_ := (ws.filter fun w => match w with | .heat _ _ => true | _ => false).length
  let eff := (ws.filter fun w => match w with | .outq _ => true | _ => false).length
  tally Ctr.PLC_CP3_SQUASH eff (tally Ctr.PLC_CP_PURE_SQUASH pure_ s)

/-- Every context of the policy cores stops; undelivered operations are discarded (R459). -/
def stopPlc (s : State) : State :=
  let s := tellSquash ((s.plc.cores.take 8).flatMap fun c => c.ctxs.map (·.wait)) s
  let ctx := fun (c : Ctx) => if c.st = .notStarted then c else
    { c with st := .stopped, cause := 0x11, wait := .none, slot := none, shadow := false, heldPre := false }
  let core := fun (c : Core) => { c with ctxs := c.ctxs.map ctx, outq := [] }
  onPlc (fun p => { p with cores := (p.cores.take 8).map core ++ p.cores.drop 8, fenced := true }) s

/-- Valid banks carry the bus; a bank that discharges stops its bleed and joins it (R371, R392). -/
def holdBanks (s : State) : State :=
  onRsv (fun r => { r with banks := r.banks.map fun b =>
    if b.st = .discharging then { b with st := .holding, disReq := true, bleed := false }
    else if b.valid then { b with st := .holding, bleed := false } else b }) s

/-- A transfer of firmware stops; its slot is invalid since the transfer began (R114, R619). -/
def dropTransfer (s : State) : State := onBoot (fun b => { b with transfer := none }) s

/-- Fence steps 2 and 3: no more grants, run-ahead fetches, frames, prefetch, rewarm, sinters, rotation steps or checkpoints;
range commands are abandoned, snoop-filter evictions and walks, resilvering, and the invalidation of a window (R58, R114, R231, R353,
R371, R427). A decoder's walk ends
without its change, and what it held goes on under the old mapping. -/
def stopWork (s : State) : State :=
  let s := onJrnl (fun j => { j with
    sinters := [], ckpt := none, rot := j.rot.map fun r => { r with walked := false } }) (dropTransfer (stopPlc s))
  let s := onCch (fun c => { c with pairs := c.pairs.map fun p =>
    if p.resilver.isSome then { p with broken := true, resilver := none } else p }) s
  let s := onHpt (fun h => { h with ports := h.ports.map (fun p => { p with walk := [] }), cutWin := h.pend.map (·.1) }) s
  onCache (fun c => { c with ops := [], walks := [] }) (onRsv (fun r => { r with rewarm := false }) s)

/-- Fence steps 1 to 3 (R371), from the trigger edge; with `banks`, the banks take over the bus (not for a reset drain,
R615). -/
def beginFence (trigger : Nat) (banks : Bool) (s : State) : State :=
  let s := tally Ctr.RSV_FENCE 1 (raise Ev.rsvFence trigger 0 s)
  let s := onRsv (fun r => { r with pst := .fence, trigAt := s.tb, drain := 0, last := { r.last with
    trigger := trigger, fenceDone := false, drainDone := false, dormant := false, dormLost := false, restart := 0 } }) s
  let s := onLdg (fun l => { l with cal := none }) s
  let s := stopWork (if banks then holdBanks s else s)
  settle (onBoot (fun b => { b with release := none }) s)

/-! ### Placement (R372) -/

/-- Writes that Fence places. -/
def Kind.writes : Kind → Bool
  | .wb | .wrNA | .fWrNA | .fWb _ | .fFhb _ => true
  | _ => false

/-- Placed already: what is left of the request waits for nothing that Fence drops. -/
def Phase.placed : Phase → Bool
  | .dram | .copy _ _ | .media | .cmp => true
  | _ => false

/-- A placed write is acknowledged under an Armed grant; else its completion follows its media completion (R38). -/
def ackPlaced (t : Txn) (s : State) : State :=
  let s := onTxn t.id (fun t => { t with resv := .none, rsz := 0, cred := false, holder := false, busy := false }) s
  if t.resv = .armed then
    match t.kind with
    | .fWrNA => retire t.id (sendMsg (reply t s Op.cmp) s)
    | _ => retire t.id (answer t "Cmp" none false s)
  else setPh t.id .media s

/-- A host write into a resident way: the line is there, or the write brings all of it. -/
def placeWay (t : Txn) (s : State) : Option State :=
  (findWay s t.sk).bind fun k =>
    let w := wayAt s k
    if (w.remote && w.rstate != 2) || ((w.line t.line).ls == .invalid && !(t.poison || t.mask == fullMask)) then none
    else some (ackPlaced t (writeLine k t.line t.data t.mask t.poison (t.resv == .wt) s))

/-- Merge a write into the combining entry of its sector, an open one or a free one. -/
def placeNt (t : Txn) (s : State) : Option State :=
  let put := fun (s : State) =>
    match t.kind with
    | .fWrNA => upTo 4 (fun j s => if t.lst.getD j .invalid = .invalid then s else
        mergeNt t j ((t.blk.getD j none).getD 0) (BitVec.ofNat 64 (bitsOf t.opnds (64 * j + 63) (64 * j))) s) s
    | _ => mergeNt t t.line t.data t.mask s
  if t.poison then none
  else
    match ntEntry s t.sk with
    | some e => if e.out.isSome then none else some (ackPlaced t (put s))
    | none =>
      if 512 ≤ s.cache.nt.length then none
      else
        let e : NtE := { sk := t.sk, da := t.da / 256 * 256, encl := t.encl, lines := List.replicate 4 (0, 0), items := [],
                         at_ := s.tb, out := none }
        some (ackPlaced t (put (onCache (fun c => { c with nt := c.nt ++ [e] }) s)))

/-- A full line, or a poisoned one, into the write-back buffer as an eviction copy. -/
def placeBuf (t : Txn) (s : State) : Option State :=
  if (t.poison || t.mask == fullMask) && ((wbEntry s t.sk).isSome || wbRoom s true) then
    let c : CLine := ⟨if t.poison then .poisonDirty else .dirty, if t.poison then 0 else t.data, 0, t.resv == .wt,
      if t.resv = .armed then [] else [t.id]⟩
    some (ackPlaced t (putCopies t.sk t.encl .evict ((List.range 4).map fun j => if j = t.line then some c else none) s))
  else none

/-- Place one write, or leave it waiting for an entry. A write from the fabric that holds no reservation is not placed
(R296). -/
def placeOne (t : Txn) (s : State) : State :=
  match t.kind with
  | .fWb _ | .fFhb _ =>
    if (findWay s t.sk).isSome ∨ (wbEntry s t.sk).isSome ∨ wbRoom s true then
      let (armed, s) := placeReturn t.sk t.lst t.blk [t.id] s
      if armed then retire t.id (sendMsg (reply t s Op.cmp) s) else setPh t.id .media s
    else s
  | .fWrNA => (placeNt t s).getD s
  | _ => (((placeWay t s) <|> (placeNt t s)) <|> (placeBuf t s)).getD s

/-- Writes that are still to be placed, oldest first. -/
def unplaced (s : State) : List Txn :=
  s.cache.txns.filter fun t => t.kind.writes && !t.ph.placed && (t.kind.isReturn || t.resv == .armed || t.resv == .wt)

/-- Every write is placed as far as there is room. -/
def placeAll (s : State) : State := eachIn (unplaced s) placeOne s

/-- An ALU step that runs completes (R231). -/
def finishAlu (s : State) : State :=
  eachIn s.cache.txns (fun t s =>
    match t.ph, t.kind with
    | .alu k, .atomic a | .alu k, .fAtom a => runAtom t a k s
    | .alu k, .append len => runAppend t len k s
    | _, _ => s) s

/-- A write whose write-through copy was still to be taken: the drain takes its line instead (R374), which its completion then waits
for; a line that is clean by then is at media. -/
def Txn.drainCopy (t : Txn) : Txn :=
  match t.ph with
  | .copy _ _ => { t with ph := .media }
  | _ => t

def Txn.copyClean (s : State) (t : Txn) : Bool :=
  match t.ph with
  | .copy k j => !((wayAt s k).line j).ls.charged
  | _ => false

/-- What is abandoned when placement ends: every other request, with its snoops and reservations of ways (R157, R231,
R282). Fabric messages but ACK and CMP are dropped (R376). -/
def abandon (s : State) : State :=
  let keep := fun (t : Txn) => (t.ph.placed && t.ph != .dram) || (unplaced s).any (·.id == t.id)
  let park := fun (t : Txn) => if t.ph.placed then t.drainCopy else { t with ph := .buffer, holder := false, busy := false, seen := true, reads := [] }
  let free := fun (_ : Nat) (w : Way) => { w with rsvBy := none }
  let s := onCache (fun c => { c with
    acks := c.acks ++ (c.txns.filter (Txn.copyClean s)).map (·.id), txns := (c.txns.filter keep).map park, ways := (tblMap free c.ways).filter fun e => e.2 != Way.empty,
    bis := [], specHeld := [], nt := c.nt.map fun e => { e with out := none } }) s
  let s := onFab (fun f => { f with
    recs := [], snps := [], reqs := [], queue := f.queue.filter fun q => q.msg.opc == Op.ack || q.msg.opc == Op.cmp }) s
  onHpt (fun h => { h with ports := h.ports.map fun p => { p with heldReqs := [], walk := [], owed := [] } }) s

/-! ### Geyser (R374) -/

/-- Where the content of a drained record stands. -/
inductive DSrc where
  /-- A write-back buffer entry, or a combining entry of a remote sector. -/
  | wb (sk : Nat)
  | nt (sk : Nat)
  /-- Charged lines of a way. -/
  | way (k : Nat)
  /-- Dirty data on its way home (R282). -/
  | home (tid : Nat)
  deriving DecidableEq, Repr

/-- A FOREIGN record (R274). -/
def foreignRec (sk encl : Nat) (held : Bool) (ls : List (Option CLine)) (s : State) : JRec :=
  { ty := .foreign, so := skSo sk, run := 0, encl := encl, keygen := genOfKey s 0, home := skHome sk, held := held,
    carry := false, free_ := false, kind := .wb, secs := [ls], body := [] }

/-- Requests whose line of a sector is placed in the cache and waits for its media completion. -/
def lineWaits (s : State) (sk j : Nat) : List Nat :=
  (s.cache.txns.filter fun t => t.ph == .media && t.sk == sk && t.line == j).map (·.id)

/-- The record of a way's charged lines that no copy in flight covers. -/
def wayRec (k : Nat) (s : State) : JRec :=
  let w := wayAt s k
  let sk := skOfWay s k w
  let js := evictLines w
  let ls := (List.range 4).map fun j => if js.contains j then some ((w.line j).copy (lineWaits s sk j)) else none
  if w.remote then foreignRec sk w.encl w.fwd.isSome ls s
  else
    { ty := sectorType ls, so := skSo sk, run := 0, encl := w.encl, keygen := genOfKey s w.encl, home := 0, held := false,
      carry := false, free_ := false, kind := .wb, secs := [ls], body := [] }

/-- The lines of a remote combining entry. Bytes that no write brought are free values where the line is not resident. -/
def ntLines (e : NtE) (free : Nat) (s : State) : List (Option CLine) :=
  (List.range 4).map fun j =>
    let (d, m) := e.lines.getD j (0, 0)
    let old := match findWay s e.sk with
      | some k => ((wayAt s k).line j).value
      | none => BitVec.ofNat 512 free
    if m = 0 then none else some ⟨.dirty, mergeBytes old d m, 0, !(e.waiters j).isEmpty, e.waiters j⟩

/-- What step 1 drains: buffer entries and remote combining entries. -/
def items1 (free : Nat) (s : State) : List (JRec × DSrc) :=
  s.cache.wb.map (fun e => (recordOf s e, .wb e.sk)) ++
    (s.cache.nt.filter fun e => !isLocal s e.sk).map fun e => (foreignRec e.sk e.encl false (ntLines e free s) s, .nt e.sk)

/-- What step 2 drains: charged lines of the cache, in the order of the walk, and dirty data on its way home. -/
def items2 (s : State) : List (JRec × DSrc) :=
  (s.cache.ways.filter fun e => !e.2.quar && !setFailed s (e.1 / 4) && !(evictLines e.2).isEmpty).map (fun e => (wayRec e.1 s, .way e.1)) ++
    (s.fab.wbs.filter fun w => !w.free_).map fun w => (foreignRec w.sk 0 w.held w.lines s, .home w.tid)

/-- A record has been packed: its source holds the charge no longer. A foreign record of a sector stands for it anew. -/
def drained (r : JRec) (d : DSrc) (s : State) : State :=
  let s := if r.ty = .foreign then
      onJrnl (fun j => { j with retired := j.retired.filter (· != r.home * 2 ^ 40 + r.so) }) s else s
  match d with
  | .wb sk => onCache (fun c => { c with wb := c.wb.filter (·.sk != sk) }) s
  | .nt sk => onCache (fun c => { c with nt := c.nt.filter (·.sk != sk) }) s
  | .way k => onWay k (fun w => (evictLines w).foldl (fun w j => w.onLine j fun l => { l with pend := true }) w) s
  | .home tid => onFab (fun f => { f with wbs := f.wbs.map fun w => if w.tid = tid then { w with free_ := true } else w }) s

/-- Records for which the index has an entry or room for one (R329). -/
def roomInIndex (s : State) (is : List (JRec × DSrc)) : List (JRec × DSrc) :=
  (is.foldl (fun (j, ok) i =>
    if i.1.ty = .foreign then (j, ok ++ [i])
    else
      match entryFor j i.1.so with
      | some e => ({ j with idx := tblPut j.idx i.1.so e }, ok ++ [i])
      | none => (j, ok)) (s.med.jrnl, ([] : List (JRec × DSrc)))).2

/-- Pack as many pages of items as there is room for. -/
def packItems (is : List (JRec × DSrc)) (s : State) : State :=
  let is := roomInIndex s is
  ((splitPages (is.map (·.1))).foldl (fun (n, go, s) p =>
    if go then
      match packPage none p [] s with
      | some s => (n + p.length, true, eachIn ((is.drop n).take p.length) (fun i s => drained i.1 i.2 s) s)
      | none => (n, false, s)
    else (n, go, s)) (0, true, s)).2.2

/-- Steps 1 and 2 have packed everything. -/
def dataPacked (s : State) : Bool :=
  s.cache.wb.isEmpty && s.cache.nt.isEmpty && (unplaced s).isEmpty && (items2 s).isEmpty

/-- The items of a directory snapshot (R274). -/
def snapItems (s : State) : List (Nat × Nat × Nat) :=
  (s.cache.dir.filterMap fun e =>
    if e.2.excl then (e.2.named.head?).map fun d => (skSo (skOfDir s e.1 e.2), d, 4096) else none) ++
  s.fab.holds.map fun h => (skSo h.1, h.2.1, h.2.2)

/-- Pieces of n elements, at least one. -/
def pieces {α : Type} (n : Nat) (l : List α) : List (List α) :=
  (List.range (max 1 (ceilDiv l.length n))).map fun i => (l.drop (n * i)).take n

/-- DIRSNAP records of up to 250 items; SEG and SEGS in the record's SO. -/
def snapRecs (s : State) : List JRec :=
  let ps := pieces 250 (snapItems s)
  (List.range ps.length).map fun i =>
    { plainRec .dirsnap (i + 2 ^ 16 * ps.length)
        ((ps.getD i []).flatMap fun x => [x.1 + (if x.2.2 = 4096 then 0 else 2 ^ 40), x.2.1 + 2 ^ 16 * x.2.2]) with free_ := true }

/-- A DIRSNAP record is on media: the first piece starts a new snapshot. -/
def snapDone (r : JRec) (s : State) : State :=
  let items := (List.range (r.body.length / 2)).map fun i =>
    (r.body.getD (2 * i) 0 % 2 ^ 40, r.body.getD (2 * i + 1) 0 % 2 ^ 16, r.body.getD (2 * i + 1) 0 / 2 ^ 16)
  onMedia (fun m => { m with snapshot := some (if r.so % 2 ^ 16 = 0 then items else m.snapshot.getD [] ++ items) }) s

/-- The CLOSE record: D at the close, the drain-complete flag, INCARN. -/
def closeRec (s : State) : JRec := { plainRec .close (2 ^ 16) [s.ldg.dClose, 1, s.mgt.nv.incarn, 0, 0, 0, 0, 0] with free_ := true }

/-- The CLOSE record goes on two namespaces. -/
def packClose (s : State) : Option State :=
  (copyStreams s).bind fun (a, b) => (packOn a [closeRec s] [] s).bind (packOn b [closeRec s] [])

def setDrain (n : Nat) (s : State) : State := onRsv (fun r => { r with drain := n }) s

/-- The next step that can be packed now. -/
def drainStep (s : State) : State :=
  match s.rsv.drain with
  | 0 =>
    let (f, s) := draw s
    let s := packItems (items1 f s) (placeAll s)
    let s := if s.cache.wb.isEmpty && s.cache.nt.isEmpty && (unplaced s).isEmpty then packItems (items2 s) s else s
    if dataPacked s then setDrain 1 s else s
  | 1 =>
    let s := flushRings s
    if ringLeft s = 0 ∧ ¬ s.plc.closing then setDrain 2 (onPlc (fun p => { p with snap := snapEntries s }) s) else s
  | 2 =>
    let s := upTo (ceilDiv s.plc.snap.length 498) (fun _ s =>
      match packSpring 0xFF false true (s.plc.snap.take 498) s with
      | some s => onPlc (fun p => { p with snap := p.snap.drop 498 }) s
      | none => s) s
    if s.plc.snap.isEmpty then setDrain 3 s else s
  | 3 =>
    match appendRecs (snapRecs s) [] s with
    | some s => setDrain 4 s
    | none => s
  | 4 =>
    match startCkpt s with
    | some s => setDrain 5 s
    | none => s
  | 5 =>
    match packClose s with
    | some s => setDrain 6 s
    | none => s
  | _ => s

/-- Geyser goes on: write-outs of combining entries begin (R180), then whatever step can be packed is packed. -/
def drainPump (s : State) : State :=
  if s.rsv.pst ≠ .geyser then s
  else
    let s := eachIn (s.cache.nt.filter fun e => isLocal s e.sk) (fun e s => startWriteOut e.sk .geyser s) s
    let s := upTo 8 (fun _ s => drainStep s) (settle s)
    submitPages (ckptPump s)

/-- Every step is packed, every completion consumed and every clean applied (R374, step 5). -/
def drainedAll (s : State) : Bool :=
  s.rsv.drain == 6 && s.med.jrnl.staging.isEmpty && s.cache.cleanQ.isEmpty && s.med.jrnl.ckpt.isNone

/-- Fence steps 5 and 6 (R371, R372, R296), then Geyser begins. -/
def endFence (s : State) : State :=
  let s := abandon (placeAll (finishAlu s))
  let s := onHpt (fun h => { h with ports := h.ports.map fun p => { p with head := 0, headWt := 0 } }) s
  let s := onLdg (fun l => { l with closed := true, dClose := dAmount s, shut := (rungOf s, causeOf s) }) s
  let ns := s.tb - s.rsv.trigAt
  let s := onRsv (fun r => { r with pst := .geyser, geyserAt := s.tb, drain := 0,
                                    last := { r.last with fenceDone := true, fenceNs := min ns 0xFFFF } }) s
  drainPump s

/-- A write on the wire arrives in the absorb step. -/
def absorbWr (w : WireWr) (s : State) : State :=
  let k : Kind := if w.ptl then .wrNA else .wb
  writeIn w.port .none { hostTxn w.port w.tag w.hpa k w.mv with data := w.data, mask := w.mask, poison := w.poison } s

/-- The state a meaning answers. -/
def after (r : Res) (s : State) : State :=
  match r with
  | .next s' => s'
  | _ => s

/-- A fabric message arrives in the absorb step (R282). A request is not served any more. -/
def absorbMsg (w : WireMsg) (s : State) : State :=
  let go := fun (f : Nat → Nat → Nat → FMsg → State → Res) => after (f w.port w.lane w.seq w.msg s) s
  if w.msg.dst / 64 ≠ devId s then go execTransitMessage
  else if w.msg.opc = Op.wb then go execWb
  else if w.msg.opc = Op.fhb then go execFhb
  else if w.msg.opc = Op.snpData then go execSnpdata
  else if w.msg.opc = Op.data then go execData
  else if w.msg.opc = Op.ack then go execAck
  else if w.msg.opc = Op.cmp then go execCmp
  else if w.msg.opc = Op.gnt then go execGnt
  else if w.msg.opc = Op.rspI then go execRspI
  else if w.msg.opc = Op.rspS then go execRspS
  else if w.msg.opc = Op.rspMiss then go execRspMiss
  else if w.msg.opc = Op.rspFwd then go execRspFwd
  else if w.msg.opc = Op.snpS then go execSnpS
  else if w.msg.opc = Op.snpInv then go execSnpInv
  else if w.msg.opc = Op.snpCur then go execSnpCur
  else if w.msg.opc = Op.rls then go execRls
  else s

/-- Ticks that fall within Fence (R30). LDG still evaluates until it closes; PLC starts nothing (R33). The ADC's figures are those of
the last tick. -/
def fenceTicks (s : State) : State :=
  upTo 4 (fun _ s =>
    match s.epochEnd with
    | some t => if t ≤ s.rsv.trigAt + 7320 then tickLedger (tickHead t (until_ t s)) else s
    | none => s) s

/-- A tick that is due when a trigger comes (R33): Fence takes precedence. The counters are copied; the evaluation is abandoned, and
PLC starts no frame. -/
def cutTick (s : State) : State :=
  match s.epochEnd with
  | some t => if t ≤ s.tb then tally Ctr.LDG_EVAL_ABANDON 1 (tickHead t s) else s
  | none => s

/-- Fence from its trigger to its end (R371): what is on the wire is absorbed, then placement, the close, and Geyser. -/
def fence (trigger : Nat) (banks : Bool) (wires : List WireWr) (msgs : List WireMsg) (s : State) : State :=
  let s := beginFence trigger banks s
  let s := fenceTicks (eachIn msgs absorbMsg (eachIn wires absorbWr s))
  endFence (until_ (s.rsv.trigAt + 7320) s)

/-! ### Pages at media -/

/-- A record is on media. -/
def recDone (r : JRec) (s : State) : State :=
  match r.ty with
  | .ckpt => ckptCopy (r.body.headD 0) s
  | .rotate => rotateDone r s
  | .spring => springDone r s
  | .dirsnap => snapDone r s
  | .close => onMedia (fun m => { m with closed := some (r.body.getD 1 0 == 1) }) s
  | .foreign =>
    let ls := r.secs.headD []
    let f : Foreign := { home := r.home, sk := r.home * 2 ^ 40 + r.so, held := r.held,
                         ls := ls.map fun c => (c.map (·.ls)).getD .invalid, data := ls.map fun c => c.map (·.data) }
    if r.carry then s else onMedia (fun m => { m with foreign := m.foreign.filter (·.sk != f.sk) ++ [f] }) s
  | _ => s

/-- A page's completion is consumed, where the clean queue has room (R169), with what its records bring. -/
def finishPage (pseq : Nat) (s : State) : State :=
  match s.med.jrnl.staging.find? (·.pseq == pseq) with
  | none => s
  | some p =>
    let s := consumePage pseq s
    if s.med.jrnl.staging.any (·.pseq == pseq) then s else eachIn p.recs recDone s

/-- Pages that waited for the clean queue go on. -/
def finishDone (s : State) : State := eachIn ((s.med.jrnl.staging.filter (·.done)).map (·.pseq)) finishPage s

/-- CLEAN_QUEUE_APPLY (R130, R169): the oldest queued clean is written to DRAM, with the heat where it is of line 2; completions that waited for room go on. -/
def execCleanQueueApply (s : State) : Res :=
  match s.cache.cleanQ with
  | [] => .next s
  | q :: rest => .next (drainPump (settle (finishDone (burstsWritten (q.1 / 4) [q.1 % 4]
      (carryHeat (q.1 / 4) (q.1 % 4) (onCache (fun c => { c with cleanQ := rest }) s))))))

/-! ### Triggers (R369, R370, R615) -/

/-- A trigger in Run starts Fence; in a reset drain it makes it an ordinary Geyser on the banks (R615). -/
def trip (trigger : Nat) (wires : List WireWr) (msgs : List WireMsg) (s : State) : State :=
  if running s then fence trigger true wires msgs (cutTick s)
  else if s.rsv.pst = .geyser ∧ s.mgt.boot.drain.isSome then
    holdBanks (onBoot (fun b => { b with drain := none })
      (onRsv (fun r => { r with last := { r.last with trigger := trigger } }) s))
  else s

/-- Main power lapses in Dormant or Off before RAILS_GOOD has risen: MAIN_EN returns low (R665). -/
def powerLapse (s : State) : State :=
  if (s.rsv.pst = .dormant ∨ s.rsv.pst = .off) ∧ s.rsv.mainEn ∧ ¬ s.rsv.railsGood then
    emit (.pin "MAIN_EN" false) (onRsv (fun r => { r with mainEn := false }) s)
  else s

/-- PWRFAIL_N_ASSERT (R369): the pin has been low for 250 ns. -/
def execPwrfailNAssert (wires : List WireWr) (msgs : List WireMsg) (s : State) : Res :=
  .next (trip 1 wires msgs (powerLapse (onRsv (fun r => { r with pfLow := true }) s)))

/-- BUS_TRIP (R369): the bus has been below VIN_TRIP for 250 ns. -/
def execBusTrip (wires : List WireWr) (msgs : List WireMsg) (s : State) : Res :=
  let s := powerLapse (onRsv (fun r => { r with busLow := true }) s)
  if flag s Reg.RSV_PF_CFG 8 then .next (trip 2 wires msgs s) else .next s

/-- POWER_FAIL_GLITCH (R369): a pulse shorter than 250 ns. -/
def execPowerFailGlitch (s : State) : Res :=
  if running s then .next (raise Ev.rsvPfGlitch 0 0 (tally Ctr.RSV_PF_GLITCH 1 s)) else .next s

end Sys2Proof.Machine
end

