-- ==== Sys2Proof/Machine/Mram.lean ====
section
/-! DEFINITION. The records of the configuration NVM as bytes, and the comparison of their two copies (R599, R601, R602). -/

namespace Sys2Proof.Machine

open Sys2Proof

/-! ### CRC-32C (R467) -/

/-- One bit of the reflected Castagnoli division. -/
def crcStep (c : BitVec 32) : BitVec 32 := if c.getLsbD 0 then (c >>> 1) ^^^ 0x82F63B78#32 else c >>> 1

def crcByte (c : BitVec 32) (b : Byte) : BitVec 32 :=
  (List.range 8).foldl (fun c _ => crcStep c) (c ^^^ b.setWidth 32)

/-- CRC-32C of bytes: initial value and final XOR all ones. -/
def crc32c (bs : List Byte) : BitVec 32 := ~~~(bs.foldl crcByte 0xFFFFFFFF#32)

/-! ### A bank record (R599) -/

/-- TYPE, FLAGS, COUNT and the words ADDR to VALUE3. -/
def NvRec.fields : NvRec → Nat × Nat × Nat × List Nat
  | .header gen => (1, 0, 0, [gen])
  | .change a m v => (2, 0, 0, [a, m, v])
  | .run a vs => (3, 0, vs.length, a :: vs)
  | .commit n first => (4, 0, n, [first])
  | .imageCommit f => (5, f.toNat, 0, [])
  | .ignored => (0, 0, 0, [])

/-- Bytes 0 to 27. -/
def NvSlot.body28 (x : NvSlot) : List Byte :=
  let (ty, fl, n, ws) := x.body.fields
  bytesLe 4 x.seq ++ bytesLe 1 ty ++ bytesLe 1 fl ++ bytesLe 2 n ++ (List.range 5).flatMap fun i => bytesLe 4 (ws.getD i 0)

/-- The 32 bytes of a slot as they are written. -/
def NvSlot.bytes (x : NvSlot) : List Byte := x.body28 ++ bytesLe 4 (crc32c x.body28).toNat

/-- The value of n bytes at a place. -/
def leAt (bs : List Byte) (i n : Nat) : Nat := ((bs.drop i).take n).foldr (fun b a => b.toNat + 256 * a) 0

/-- The record that 32 bytes hold; an empty slot or a reserved TYPE is ignored. -/
def NvSlot.ofBytes (bs : List Byte) : NvSlot :=
  let w := fun (i : Nat) => leAt bs (8 + 4 * i) 4
  ⟨leAt bs 0 4, match leAt bs 4 1 with
    | 1 => .header (w 0)
    | 2 => .change (w 0) (w 1) (w 2)
    | 3 => .run (w 0) ((List.range (min 4 (leAt bs 6 2))).map fun i => w (1 + i))
    | 4 => .commit (leAt bs 6 2) (w 0)
    | 5 => .imageCommit (leAt bs 5 1 % 2 == 1)
    | _ => .ignored⟩

/-- CRC is right. -/
def crcRight (bs : List Byte) : Bool := leAt bs 28 4 == (crc32c (bs.take 28)).toNat

/-! ### Two copies (R601) -/

/-- Live content: bytes 0 to 19 but for reserved FLAGS and for VALUE outside MASK, and bytes 20 to 27 of a RUN of 3 or more. -/
def liveContent (bs : List Byte) : List Nat :=
  let ty := leAt bs 4 1
  [leAt bs 0 4, ty, if ty = 5 then leAt bs 5 1 % 2 else 0, leAt bs 6 2, leAt bs 8 4, leAt bs 12 4,
   if ty = 2 then leAt bs 16 4 &&& leAt bs 12 4 else leAt bs 16 4,
   if ty = 3 ∧ 3 ≤ leAt bs 6 2 then leAt bs 20 8 else 0]

/-- What the comparison of two copies comes to: the copy used, with a benign divergence or with the other rewritten; or neither. -/
inductive Resolved where
  | same (bs : List Byte) (benign : Bool)
  | rewrite (bs : List Byte)
  | split
  deriving DecidableEq, Repr

/-- The table of R601. -/
def resolve (a b : List Byte) : Resolved :=
  if liveContent a = liveContent b then .same a (a != b)
  else if crcRight a && !crcRight b then .rewrite a
  else if crcRight b && !crcRight a then .rewrite b
  else .split

/-- A copy of a slot as it stands: what was written, and the bytes that have changed since. -/
def slotCopy (hits : List NvHit) (bank i : Nat) (copyB : Bool) (x : NvSlot) : List Byte :=
  (hits.filter fun h => h.bank == bank && h.slot == i && h.copyB == copyB).foldl (fun bs h => bs.set h.byte h.val) x.bytes

/-- The slots of a bank that changed bytes touch, in order. -/
def hitSlots (hits : List NvHit) (bank n : Nat) : List Nat :=
  (List.range n).filter fun i => hits.any fun h => h.bank == bank && h.slot == i

/-- A bank read under R601: its slots, the slots that cannot be resolved, how many divergences are benign, and the changed bytes that
stay: a rewritten slot has none any more. -/
def readBank (hits : List NvHit) (bank : Nat) (b : List NvSlot) : List NvSlot × List Nat × Nat × List NvHit :=
  (hitSlots hits bank b.length).foldl (fun (r : List NvSlot × List Nat × Nat × List NvHit) i =>
    let x := b.getD i ⟨0, .ignored⟩
    match resolve (slotCopy hits bank i false x) (slotCopy hits bank i true x) with
    | .same bs benign => (r.1.set i (NvSlot.ofBytes bs), r.2.1, r.2.2.1 + (if benign then 1 else 0), r.2.2.2)
    | .rewrite bs =>
      (r.1.set i (NvSlot.ofBytes bs), r.2.1, r.2.2.1, r.2.2.2.filter fun h => !(h.bank == bank && h.slot == i))
    | .split => (r.1, r.2.1 ++ [i], r.2.2.1, r.2.2.2)) (b, [], 0, hits)

end Sys2Proof.Machine
end

