-- ==== Sys2Proof/Machine/Walni.lean ====
section
/-! DEFINITION. How a Walni context executes (R433 to R458): its registers, the checks before an instruction, exceptions and
preemption, commit with delay slot, loops and mode shadow, and sampling. A command names the context and the instruction it
has fetched; the model does not read instruction memory. -/

namespace Sys2Proof.Machine

open Sys2Proof

/-! ### Contexts -/

def coreAt (s : State) (k : Nat) : Core := s.plc.cores.getD k (Core.reset 0)

/-- The context of a command. -/
def ctxAt (s : State) (e : Ex) : Ctx := (coreAt s e.core).ctxs.getD e.ctx Ctx.reset

def onCtx (e : Ex) (f : Ctx → Ctx) (s : State) : State :=
  onCore e.core (fun c => { c with ctxs := setAt c.ctxs e.ctx f }) s

/-- The core is the Walni-M. -/
def Ex.isM (e : Ex) : Bool := e.core == 8

/-- The context of the core exists in this part (R3, R433). -/
def ctxExists (s : State) (e : Ex) : Bool :=
  (e.core < coreCount s && e.ctx < 4) || (e.isM && e.ctx == 0)

/-- A general register; g0 reads as 0 (R437). -/
def Ctx.reg (x : Ctx) (n : Nat) : Word := if n = 0 then 0 else x.g.getD n 0

/-- Write a general register; writes of g0 are discarded (R437). -/
def Ctx.setReg (x : Ctx) (n : Nat) (w : Word) : Ctx := if n = 0 then x else { x with g := setAt x.g n fun _ => w }

/-- Where exception vectors begin (R452, R593): RAM, or the ROM where the baseline policy or the boot ROM runs. -/
def vecBase (s : State) (e : Ex) : Word :=
  if (coreAt s e.core).baseline then (if e.isM then 0x40000 else 0x10000) else 0

/-- Fetch is possible at an address (R435, R593). -/
def fetchable (e : Ex) (a : Word) : Bool := if e.isM then a.toNat < 0x60000 else a.toNat < 0x20000

/-- Unit of an event of a context (R630). -/
def Ex.unit (e : Ex) : Nat := e.core + 256 * e.ctx

/-! ### Loops (R447 to R450) -/

/-- Level 1 (0) is active and ends at the present instruction. -/
def Ctx.ends1 (x : Ctx) : Bool := x.lct1 != 0 && x.lpe1 == x.pc
def Ctx.ends0 (x : Ctx) : Bool := x.lct0 != 0 && x.lpe0 == x.pc

/-- The present instruction is the last of an active loop. -/
def Ctx.atEnd (x : Ctx) : Bool := x.ends0 || x.ends1

/-- Level 0 advances: the next PC. -/
def Ctx.advance0 (x : Ctx) : Ctx :=
  if 1 < x.lct0.toNat then { x with lct0 := x.lct0 - 1, pc := x.lps0 } else { x with lct0 := 0, pc := x.pc + 4 }

/-- The instruction at the PC has committed: loops advance (R447), level 1 before level 0. -/
def Ctx.advance (x : Ctx) : Ctx :=
  if x.el then { x with pc := x.pc + 4 }
  else if x.ends1 then
    if 1 < x.lct1.toNat then { x with lct1 := x.lct1 - 1, pc := x.lps1 }
    else if x.ends0 then { x with lct1 := 0 }.advance0
    else { x with lct1 := 0, pc := x.pc + 4 }
  else if x.ends0 then x.advance0
  else { x with pc := x.pc + 4 }

/-! ### Frames and preemption (R456, R458) -/

/-- A frame starts in a context. -/
def Ctx.start (x : Ctx) (s : State) : Ctx :=
  { x with st := .running, task := false, el := false, active := true, ended := false, seq := s.epochCnt % 2 ^ 14,
           pc := BitVec.ofNat 32 (4 * x.entry), slot := none, shadow := false, heldPre := false, wait := .none,
           frameAt := s.tb }

/-- What a squash clears in the pending slot is counted (R471, R475). A stream read that waits is completed after the tick for the
frame that is overrun, so that its entry is gone (R492, R499). -/
def squashSlot (e : Ex) (s : State) : State :=
  match (ctxAt s e).wait with
  | .stream _ => onPlc (fun p => { p with table := p.table.tail }) s
  | w => tellSquash [w] s

/-- A context is preempted and starts its new frame (R458). -/
def preempt (e : Ex) (s : State) : State :=
  let s := tally Ctr.PLC_PREEMPT 1 (squashSlot e s)
  onCtx e (fun x => { x with epc := x.pc, cause := 0x10, lct0 := 0, lct1 := 0, ovr := true }.start s) s

/-! ### Exceptions (R446, R450 to R455) -/

/-- Exception entry of a context (R452). The branch of an excepting delay slot gives EPC and restores its checkpoint (R446). -/
def Ctx.except (x : Ctx) (base : Word) (cause : Nat) : Ctx :=
  let x := match x.slot with
    | some b => { x with epc := b.branch, ds := true, ghist := b.ghist, rstack := b.rstack }
    | none => { x with epc := x.pc, ds := false }
  { x with cause := cause, ms := x.shadow, loopEnd := x.atEnd, pmode := x.task, task := false, el := true,
           pc := base + 0x400 + BitVec.ofNat 32 (0x20 * cause), slot := none, shadow := false, wait := .none }

/-- Log of the last double fault or memory error of a core (R453, R473). -/
def logExc (e : Ex) (cause : Nat) (double : Bool) (s : State) : State :=
  let pc := (ctxAt s e).pc
  onCore e.core (fun c => { c with excLog := some (cause, e.ctx, pc, double) }) s

/-- An exception is raised at the present instruction: entry, or a double fault inside a handler (R453). A preemption held over
the mode shadow follows (R454). -/
def raiseExc (e : Ex) (cause : Nat) (s : State) : State :=
  if (ctxAt s e).el then
    let s := raise Ev.walniDouble cause e.unit (logExc e cause true s)
    onCtx e (fun x => { x with st := .stopped, wait := .none, slot := none, shadow := false, heldPre := false }) s
  else
    let held := (ctxAt s e).heldPre
    let s := tally Ctr.PLC_EXC 1 (onCtx e (fun x => x.except (vecBase s e) cause) s)
    if held then preempt e s else s

/-- A corrected memory error (R436). -/
def memCorr (e : Ex) (s : State) : State := raise Ev.walniMemcorr 0 e.unit (rcCount Reg.PLC_MEM_ERR 15 0 1 s)

/-- An uncorrectable memory error (R436): MEMERR. -/
def memErr (e : Ex) (s : State) : State :=
  let s := raise Ev.walniMemerr 0 e.unit (rcCount Reg.PLC_MEM_ERR 23 16 1 (logExc e 0x08 false s))
  raiseExc e 0x08 s

/-! ### Commit -/

/-- CCLK cycles since the frame started. -/
def frameCycles (s : State) (x : Ctx) : Nat := (s.tb - x.frameAt) * 8 / 5

/-- A sample record of a committed instruction (R647). -/
def instrSample (e : Ex) (skid : Bool) (pc word : Word) (s : State) : State :=
  let x := ctxAt s e
  let v := 2 + (if skid then 16 else 0) + 2 ^ 8 * (e.core % 8 + 8 * e.ctx) + 2 ^ 16 * x.seq + 2 ^ 32 * pc.toNat
    + 2 ^ 64 * (frameCycles s x % 2 ^ 32) + 2 ^ 96 * word.toNat + 2 ^ 224 * (s.tb % 2 ^ 32)
  onIo (sampPush (env s) (BitVec.ofNat 256 v)) s

/-- The sampling engine sees a committed instruction of a selected policy core (R646). -/
def sampleInstr (e : Ex) (pc word : Word) (s : State) : State :=
  if s.rsv.pst ≠ .run ∨ e.isM ∨ ¬ flag s Reg.EVT_SAMPLE_CFG 2 ∨ ¬ flag s Reg.EVT_SAMPLE_SEL (18 + e.core) then s
  else
    let (take, io) := sampTake true s.io
    let s := { s with io := io }
    if take then instrSample e (fld s Reg.EVT_SAMPLE_CFG 1 0 == 2) pc word s else s

/-- Where the context goes on after a committed instruction that is no branch: out of an open branch's delay slot to its
target, or on under R447. -/
def Ctx.goOn (x : Ctx) : Ctx :=
  match x.slot with
  | some b => { x with pc := b.target.getD (b.branch + 8), slot := none }
  | none => x.advance

/-- An instruction commits: `go` moves the context on; the mode shadow ends with it, and a preemption held over it is taken
(R454). `shadows` says that the instruction opens a new shadow. -/
def commit (e : Ex) (word : Word) (shadows : Bool) (go : Ctx → Ctx) (s : State) : State :=
  let pc := (ctxAt s e).pc
  let s := tally Ctr.PLC_COMMIT 1 (tally Ctr.PLC_CYCLE_BUSY 1 s)
  let s := onCtx e (fun x => { go { x with wait := .none } with shadow := shadows }) (sampleInstr e pc word s)
  if (ctxAt s e).heldPre ∧ ¬ shadows then preempt e s else s

/-- The usual commit. -/
def commitNext (e : Ex) (word : Word) (f : Ctx → Ctx) (s : State) : State :=
  commit e word false (fun x => (f x).goOn) s

/-! ### Execution of one instruction -/

/-- An instruction as the checks before it see it: its word, whether its fields make it ILLEGAL on this core, whether it is of
the kinds that R445 and R449 forbid in a delay slot and at a loop's end, the registers it writes, Kernel only. -/
structure Instr0 where
  word : Word
  illegal : Bool
  noSlot : Bool
  noEnd : Bool
  writes : List Nat
  kernel : Bool
  deriving DecidableEq, Repr

/-- The context can execute now. -/
def canRun (s : State) (e : Ex) : Bool :=
  let x := ctxAt s e
  ctxExists s e && x.st == .running && x.wait == .none && fetchable e x.pc

/-- It writes a register, other than g0, that the open branch read (R445). -/
def hurtsBranch (x : Ctx) (i : Instr0) : Bool :=
  match x.slot with
  | some b => i.noSlot || (b.rs != 0 && i.writes.contains b.rs)
  | none => false

/-- The first exception that the checks at decode raise (R445, R449, R451). -/
def decodeExc (x : Ctx) (i : Instr0) : Option Nat :=
  if i.illegal then some 0x01
  else if hurtsBranch x i then some 0x02
  else if x.atEnd && (i.noEnd || x.slot.isSome) then some 0x03
  else if i.kernel && x.task then some 0x04
  else none

/-- A context executes an instruction: its fetch, the checks at decode, then what it does. -/
def runInstr (e : Ex) (i : Instr0) (act : State → State) (s : State) : Res :=
  if ¬ canRun s e then .next s
  else
    let s := if e.fixed then memCorr e s else s
    match decodeExc (ctxAt s e) i with
    | some c => .next (raiseExc e c s)
    | none => .next (act s)

/-! ### Encodings (R440) -/

def encR (op rd rs rt fn : Nat) : Word :=
  BitVec.ofNat 32 (2 ^ 26 * (op % 64) + 2 ^ 21 * (rd % 32) + 2 ^ 16 * (rs % 32) + 2 ^ 11 * (rt % 32) + fn % 2048)

def encI (op rd rs : Nat) (imm : BitVec 16) : Word :=
  BitVec.ofNat 32 (2 ^ 26 * (op % 64) + 2 ^ 21 * (rd % 32) + 2 ^ 16 * (rs % 32) + imm.toNat)

def encB (op : Nat) (a : Bool) (cond rs : Nat) (off : BitVec 16) : Word :=
  BitVec.ofNat 32 (2 ^ 26 * (op % 64) + (if a then 2 ^ 25 else 0) + 2 ^ 21 * (cond % 16) + 2 ^ 16 * (rs % 32) + off.toNat)

/-- LI: the level, the count in [24:16]. L has the register in [20:16]. -/
def encL (op level count : Nat) (off : BitVec 16) : Word :=
  BitVec.ofNat 32 (2 ^ 26 * (op % 64) + 2 ^ 25 * (level % 2) + 2 ^ 16 * (count % 512) + off.toNat)

/-! ### Which words are defined (R441 to R443) -/

/-- Functions of opcode 0x00. -/
def aluFns : List Nat :=
  [0x000, 0x001, 0x002, 0x003, 0x004, 0x005, 0x006, 0x007, 0x008, 0x009, 0x00A, 0x00B, 0x010, 0x011, 0x012, 0x013, 0x014,
   0x015, 0x016, 0x020, 0x021, 0x022, 0x030, 0x031]

/-- A word is an instruction of the core: its opcode, function, condition and special register are listed, every field that
must be 0 is 0, and the core has the instruction. -/
def wordDefined (m : Bool) (w : Word) : Bool :=
  let f := fun hi lo => bitsOf w.toNat hi lo
  let (rd, rs, rt, fn) := (f 25 21, f 20 16, f 15 11, f 10 0)
  match f 31 26 with
  | 0x00 => aluFns.contains fn && (rt == 0 || (fn != 0x030 && fn != 0x031))
  | 0x01 | 0x02 | 0x03 | 0x04 | 0x05 | 0x06 => true
  | 0x07 => rs == 0
  | 0x10 | 0x11 | 0x12 | 0x13 | 0x14 | 0x18 | 0x19 | 0x1A => true
  | 0x1C => fn == 0
  | 0x20 | 0x21 => decide (f 24 21 ≤ 8) && (f 24 21 != 0 || rs == 0)
  | 0x22 => f 24 21 == 0
  | 0x23 => true
  | 0x24 => (fn == 0 && rd == 0 && rt == 0) || (fn == 1 && rt == 0)
  | 0x30 =>
    match fn with
    | 1 | 2 | 3 | 4 | 6 => true
    | 5 => !m
    | 8 => decide (rt ≤ 11)
    | 9 => decide (rt ≤ 11) && rt != 0 && rt != 3 && !(m && rt == 11)
    | _ => false
  | 0x38 => !m && (fn == 1 || fn == 2)
  | 0x39 => fn == 1 || fn == 2
  | 0x3A => !m && decide (1 ≤ fn) && decide (fn ≤ 5)
  | _ => false

/-- An instruction that writes rd and that no rule keeps out of a delay slot or a loop's end. -/
def Ex.plain (e : Ex) (word : Word) (rd : Nat) : Instr0 := ⟨word, !wordDefined e.isM word, false, false, [rd], false⟩

/-! ### Faults of the fetch, and undefined words -/

/-- INSTRUCTION_FETCH_FAULT (R435, R436): the fetch lies outside the instruction space, or its word is uncorrectable. -/
def execInstructionFetchFault (e : Ex) (s : State) : Res :=
  let x := ctxAt s e
  if ¬ ctxExists s e ∨ x.st ≠ .running ∨ x.wait ≠ .none then .next s
  else if fetchable e x.pc then .next (memErr e s)
  else .next (raiseExc e 0x06 s)

/-- UNDEFINED_INSTRUCTION (R441, R451): the word has an opcode, function, condition or field that is not defined. -/
def execUndefinedInstruction (e : Ex) (w : Word) (s : State) : Res :=
  if wordDefined e.isM w then .next s else runInstr e ⟨w, true, false, false, [], false⟩ id s

end Sys2Proof.Machine
end

