-- ==== Sys2Proof/Machine/WalniAlu.lean ====
section
/-! DEFINITION. The arithmetic and logic instructions of Walni (R442): register and immediate forms. -/

namespace Sys2Proof.Machine

open Sys2Proof

/-- A three-register instruction. -/
def aluR (e : Ex) (fn : Nat) (rd rs rt : Fin 32) (f : Word → Word → Word) (s : State) : Res :=
  let w := encR 0x00 rd rs rt fn
  runInstr e (e.plain w rd) (commitNext e w fun x => x.setReg rd (f (x.reg rs) (x.reg rt))) s

/-- A shift by the rt field as a constant. -/
def aluK (e : Ex) (fn : Nat) (rd rs k : Fin 32) (f : Word → Nat → Word) (s : State) : Res :=
  let w := encR 0x00 rd rs k fn
  runInstr e (e.plain w rd) (commitNext e w fun x => x.setReg rd (f (x.reg rs) k)) s

/-- An immediate instruction. -/
def aluI (e : Ex) (op : Nat) (rd rs : Fin 32) (imm : BitVec 16) (f : Word → Word) (s : State) : Res :=
  let w := encI op rd rs imm
  runInstr e (e.plain w rd) (commitNext e w fun x => x.setReg rd (f (x.reg rs))) s

def bit (b : Bool) : Word := if b then 1 else 0

/-- Shift amount rt[4:0]. -/
def amount (w : Word) : Nat := w.toNat % 32

def sext16 (i : BitVec 16) : Word := i.signExtend 32
def zext16 (i : BitVec 16) : Word := i.setWidth 32

/-- High 32 bits of the signed product. -/
def mulHighS (a b : Word) : Word := BitVec.ofInt 32 (a.toInt * b.toInt / 2 ^ 32)

/-- High 32 bits of the unsigned product. -/
def mulHighU (a b : Word) : Word := BitVec.ofNat 32 (a.toNat * b.toNat / 2 ^ 32)

/-- Leading zeros. -/
def leadingZeros (a : Word) : Nat := ((List.range 32).find? fun i => a.getMsbD i).getD 32

/-- Set bits. -/
def onesOf (a : Word) : Nat := ((List.range 32).filter fun i => a.getLsbD i).length

def execAdd (e : Ex) (rd rs rt : Fin 32) (s : State) : Res := aluR e 0x000 rd rs rt (· + ·) s
def execSub (e : Ex) (rd rs rt : Fin 32) (s : State) : Res := aluR e 0x001 rd rs rt (· - ·) s
def execAnd (e : Ex) (rd rs rt : Fin 32) (s : State) : Res := aluR e 0x002 rd rs rt (· &&& ·) s
def execOr (e : Ex) (rd rs rt : Fin 32) (s : State) : Res := aluR e 0x003 rd rs rt (· ||| ·) s
def execXor (e : Ex) (rd rs rt : Fin 32) (s : State) : Res := aluR e 0x004 rd rs rt (· ^^^ ·) s
def execNor (e : Ex) (rd rs rt : Fin 32) (s : State) : Res := aluR e 0x005 rd rs rt (fun a b => ~~~(a ||| b)) s
def execLts (e : Ex) (rd rs rt : Fin 32) (s : State) : Res := aluR e 0x006 rd rs rt (fun a b => bit (a.slt b)) s
def execLtu (e : Ex) (rd rs rt : Fin 32) (s : State) : Res := aluR e 0x007 rd rs rt (fun a b => bit (a.ult b)) s
def execMin (e : Ex) (rd rs rt : Fin 32) (s : State) : Res := aluR e 0x008 rd rs rt (fun a b => if a.slt b then a else b) s
def execMax (e : Ex) (rd rs rt : Fin 32) (s : State) : Res := aluR e 0x009 rd rs rt (fun a b => if a.slt b then b else a) s
def execMinu (e : Ex) (rd rs rt : Fin 32) (s : State) : Res := aluR e 0x00A rd rs rt (fun a b => if a.ult b then a else b) s
def execMaxu (e : Ex) (rd rs rt : Fin 32) (s : State) : Res := aluR e 0x00B rd rs rt (fun a b => if a.ult b then b else a) s
def execShl (e : Ex) (rd rs rt : Fin 32) (s : State) : Res := aluR e 0x010 rd rs rt (fun a b => a <<< amount b) s
def execShr (e : Ex) (rd rs rt : Fin 32) (s : State) : Res := aluR e 0x011 rd rs rt (fun a b => a >>> amount b) s
def execSar (e : Ex) (rd rs rt : Fin 32) (s : State) : Res := aluR e 0x012 rd rs rt (fun a b => a.sshiftRight (amount b)) s
def execRor (e : Ex) (rd rs rt : Fin 32) (s : State) : Res := aluR e 0x013 rd rs rt (fun a b => a.rotateRight (amount b)) s
def execShlk (e : Ex) (rd rs k : Fin 32) (s : State) : Res := aluK e 0x014 rd rs k (fun a n => a <<< n) s
def execShrk (e : Ex) (rd rs k : Fin 32) (s : State) : Res := aluK e 0x015 rd rs k (fun a n => a >>> n) s
def execSark (e : Ex) (rd rs k : Fin 32) (s : State) : Res := aluK e 0x016 rd rs k (fun a n => a.sshiftRight n) s
def execMul (e : Ex) (rd rs rt : Fin 32) (s : State) : Res := aluR e 0x020 rd rs rt (· * ·) s
def execMulhu (e : Ex) (rd rs rt : Fin 32) (s : State) : Res := aluR e 0x021 rd rs rt mulHighU s
def execMulhs (e : Ex) (rd rs rt : Fin 32) (s : State) : Res := aluR e 0x022 rd rs rt mulHighS s
/-- CLZ; an rt that is not 0 is ILLEGAL. -/
def execClz (e : Ex) (rd rs rt : Fin 32) (s : State) : Res :=
  aluR e 0x030 rd rs rt (fun a _ => BitVec.ofNat 32 (leadingZeros a)) s
/-- ONES; an rt that is not 0 is ILLEGAL. -/
def execOnes (e : Ex) (rd rs rt : Fin 32) (s : State) : Res := aluR e 0x031 rd rs rt (fun a _ => BitVec.ofNat 32 (onesOf a)) s

def execAddk (e : Ex) (rd rs : Fin 32) (imm : BitVec 16) (s : State) : Res := aluI e 0x01 rd rs imm (· + sext16 imm) s
def execAndk (e : Ex) (rd rs : Fin 32) (imm : BitVec 16) (s : State) : Res := aluI e 0x02 rd rs imm (· &&& zext16 imm) s
def execOrk (e : Ex) (rd rs : Fin 32) (imm : BitVec 16) (s : State) : Res := aluI e 0x03 rd rs imm (· ||| zext16 imm) s
def execXork (e : Ex) (rd rs : Fin 32) (imm : BitVec 16) (s : State) : Res := aluI e 0x04 rd rs imm (· ^^^ zext16 imm) s
def execLtsk (e : Ex) (rd rs : Fin 32) (imm : BitVec 16) (s : State) : Res :=
  aluI e 0x05 rd rs imm (fun a => bit (a.slt (sext16 imm))) s
def execLtuk (e : Ex) (rd rs : Fin 32) (imm : BitVec 16) (s : State) : Res :=
  aluI e 0x06 rd rs imm (fun a => bit (a.ult (sext16 imm))) s
/-- HIK; an rs that is not 0 is ILLEGAL. -/
def execHik (e : Ex) (rd rs : Fin 32) (imm : BitVec 16) (s : State) : Res := aluI e 0x07 rd rs imm (fun _ => zext16 imm <<< 16) s

end Sys2Proof.Machine
end

