-- ==== Sys2Proof/Machine/WalniFlow.lean ====
section
/-! DEFINITION. Branches with their delay slots and predictors (R443 to R446, R461 to R465), hardware loops (R447 to R449) and
the system instructions of Walni (R438, R439, R442, R454, R457). -/

namespace Sys2Proof.Machine

open Sys2Proof

/-! ### Predictors (R461 to R465) -/

/-- The shared tables may be trained by the context: its ETAG is the owner tag (R465). -/
def trains (s : State) (e : Ex) : Bool := (coreAt s e.core).owner == (ctxAt s e).etag

/-- Index of the direction counters. -/
def ctrIdx (pc : Word) : Nat := bitsOf pc.toNat 12 2

/-- Index of the indirect-target table. -/
def indIdx (pc : Word) (ghist : Nat) : Nat :=
  let i := bitsOf pc.toNat 13 2 ^^^ ghist
  (i % 512) ^^^ (i / 512 % 8)

/-- The counter's prediction; an unlisted counter holds 0b01. -/
def predictTaken (s : State) (e : Ex) : Bool := decide (2 ≤ tblGet 1 (coreAt s e.core).ctrs (ctrIdx (ctxAt s e).pc))

/-- Train a direction counter at commit (R464). -/
def trainCtr (e : Ex) (taken : Bool) (s : State) : State :=
  if trains s e then
    let i := ctrIdx (ctxAt s e).pc
    let next := fun (n : Nat) => if taken then min 3 (n + 1) else n - 1
    onCore e.core (fun c => { c with ctrs := tblSet 1 c.ctrs i (next (tblGet 1 c.ctrs i)) }) s
  else s

/-- Train the indirect-target table at commit (R464). -/
def trainInd (e : Ex) (target : Word) (s : State) : State :=
  if trains s e then
    let i := indIdx (ctxAt s e).pc (ctxAt s e).ghist
    onCore e.core (fun c => { c with ind := tblPut c.ind i (BitVec.ofNat 32 (4 * bitsOf target.toNat 17 2)) }) s
  else s

/-- A branch commits; a wrong prediction is counted (R475). -/
def tellBranch (right : Bool) (s : State) : State :=
  let s := tally Ctr.PLC_BR 1 s
  if right then s else tally Ctr.PLC_BR_MISPRED 1 s

/-- Flush of the shared tables. -/
def flushPred (k : Nat) (s : State) : State := onCore k (fun c => { c with ctrs := [], ind := [] }) s

/-- PREDICTOR_TAG_FLUSH (R465): F1 selects a context whose ETAG is not the owner tag. -/
def execPredictorTagFlush (e : Ex) (s : State) : Res :=
  if ctxExists s e ∧ (ctxAt s e).st = .running ∧ ¬ trains s e then
    let t := (ctxAt s e).etag
    .next (tally Ctr.PLC_PRED_FLUSH_TAG 1 (onCore e.core (fun c => { c with owner := t }) (flushPred e.core s)))
  else .next s

/-! ### Branches (R443, R444) -/

/-- A condition on rs. -/
def condHolds (c : Nat) (a : Word) : Bool :=
  match c with
  | 0x0 => true
  | 0x1 => a == 0
  | 0x2 => a != 0
  | 0x3 => a.slt 0
  | 0x4 => !a.slt 0
  | 0x5 => (0 : Word).slt a
  | 0x6 => !(0 : Word).slt a
  | 0x7 => a.getLsbD 0
  | 0x8 => !a.getLsbD 0
  | _ => false

/-- Push on the return stack: eight entries, a full one loses its oldest. -/
def pushRet (r : List Word) (a : Word) : List Word := (a :: r).take 8

/-- The return stack as it reads once a push is undone: the pointer comes back, an overwritten oldest entry does not. -/
def unpushRet (r : List Word) (a : Word) : List Word := if r.length < 8 then r else r.take 7 ++ [a]

/-- After a branch: its delay slot is next, or, annulled, the instruction after that (R444). `r` is the return stack that the
branch leaves, `chk` what its checkpoint restores. -/
def Ctx.branched (x : Ctx) (rs : Nat) (annul : Bool) (target : Option Word) (gh : Nat) (r chk : List Word) : Ctx :=
  if annul && target.isNone then { x with pc := x.pc + 8, ghist := gh, rstack := r }
  else { x with pc := x.pc + 4, ghist := gh, rstack := r,
                slot := some { branch := x.pc, rs := rs, target := target, ghist := x.ghist, rstack := chk } }

/-- BR and BRL. -/
def branch (e : Ex) (op : Nat) (a : Bool) (cond rs : Nat) (off : BitVec 16) (link : Bool) (s : State) : Res :=
  let w := encB op a cond rs off
  runInstr e ⟨w, !wordDefined e.isM w, true, true, if link then [31] else [], false⟩ (fun s =>
    let x := ctxAt s e
    let taken := condHolds cond (x.reg rs)
    let target := x.pc + 4 * sext16 off
    let right := cond == 0 || predictTaken s e == taken
    let s := tellBranch right (if cond = 0 then s else trainCtr e taken s)
    commit e w false (fun x =>
      let gh := if cond = 0 then x.ghist else (2 * x.ghist + (if taken then 1 else 0)) % 4096
      let ret := x.pc + 8
      let y := if link && taken then x.setReg 31 ret else x
      if link && taken then
        y.branched rs a (some target) gh (pushRet x.rstack ret) (unpushRet x.rstack ret)
      else y.branched rs a (if taken then some target else none) gh x.rstack x.rstack) s) s

/-- BR (R443): a condition above 8, or ALWAYS with rs not 0, is ILLEGAL. -/
def execBr (e : Ex) (a : Bool) (cond : Fin 16) (rs : Fin 32) (off : BitVec 16) (s : State) : Res :=
  branch e 0x20 a cond rs off false s

/-- BRL. -/
def execBrl (e : Ex) (a : Bool) (cond : Fin 16) (rs : Fin 32) (off : BitVec 16) (s : State) : Res :=
  branch e 0x21 a cond rs off true s

/-- Where a JMP or JML is predicted to go: the return stack for a return, else the indirect table, else the next
instruction. -/
def predictJump (s : State) (e : Ex) (ret : Bool) : Word :=
  let x := ctxAt s e
  match ret, x.rstack with
  | true, a :: _ => a
  | _, _ => (tblFind (coreAt s e.core).ind (indIdx x.pc x.ghist)).getD (x.pc + 8)

/-- JMP and JML. -/
def jump (e : Ex) (link : Bool) (rd rs rt : Nat) (s : State) : Res :=
  let w := encR 0x24 rd rs rt (if link then 1 else 0)
  runInstr e ⟨w, !wordDefined e.isM w, true, true, if link then [rd] else [], false⟩ (fun s =>
    let x := ctxAt s e
    let target := x.reg rs
    let ret := !link && rs == 31
    let popped := ret && !x.rstack.isEmpty
    let s := tellBranch (predictJump s e ret == target) (if popped then s else trainInd e target s)
    commit e w false (fun x =>
      let back := x.pc + 8
      let y := if link then x.setReg rd back else x
      if link && rd == 31 then
        y.branched rs false (some target) x.ghist (pushRet x.rstack back) (unpushRet x.rstack back)
      else y.branched rs false (some target) x.ghist (if ret then x.rstack.tail else x.rstack) x.rstack) s) s

/-- JMP; rd and rt must be 0. -/
def execJmp (e : Ex) (rd rs rt : Fin 32) (s : State) : Res := jump e false rd rs rt s

/-- JML; rt must be 0. -/
def execJml (e : Ex) (rd rs rt : Fin 32) (s : State) : Res := jump e true rd rs rt s

/-! ### Loops (R448) -/

/-- The exception of a LOOP: an offset below 1, or a level 1 that does not lie within an active level 0. -/
def loopBad (x : Ctx) (level : Nat) (off : BitVec 16) : Bool :=
  decide (off.toInt < 1) ||
    (level == 1 && x.lct0 != 0 &&
      !(x.lps0.ule (x.pc + 4) && (x.pc + 4 * sext16 off).ule x.lpe0))

/-- LOOP and LOOPI. A count of 0 goes on after the body. -/
def startLoop (e : Ex) (w : Word) (level : Nat) (count : Ctx → Word) (off : BitVec 16) (s : State) : Res :=
  runInstr e ⟨w, !wordDefined e.isM w, true, true, [], false⟩ (fun s =>
    if loopBad (ctxAt s e) level off then raiseExc e 0x03 s
    else
      commit e w false (fun x =>
        let n := count x
        let (a, b) := (x.pc + 4, x.pc + 4 * sext16 off)
        let y := if level = 0 then { x with lps0 := a, lpe0 := b, lct0 := n } else { x with lps1 := a, lpe1 := b, lct1 := n }
        { y with pc := if n = 0 then b + 4 else x.pc + 4 }) s) s

/-- LOOP. -/
def execLoop (e : Ex) (level : Fin 2) (rs : Fin 32) (off : BitVec 16) (s : State) : Res :=
  startLoop e (encL 0x22 level rs off) level (fun x => x.reg rs) off s

/-- LOOPI. -/
def execLoopi (e : Ex) (level : Fin 2) (count : Fin 512) (off : BitVec 16) (s : State) : Res :=
  startLoop e (encL 0x23 level count off) level (fun _ => BitVec.ofNat 32 count) off s

/-! ### System instructions -/

/-- MODE (R442, R454): Kernel only; the next instruction is the mode shadow. -/
def execMode (e : Ex) (rs : Fin 32) (s : State) : Res :=
  let w := encR 0x30 0 rs 0 1
  runInstr e ⟨w, !wordDefined e.isM w, true, true, [], true⟩
    (commit e w true fun x => { x with task := (x.reg rs).getLsbD 0 }.goOn) s

/-- XRET (R442, R454). -/
def execXret (e : Ex) (s : State) : Res :=
  let w := encR 0x30 0 0 0 2
  runInstr e ⟨w, !wordDefined e.isM w, true, true, [], true⟩
    (commit e w true fun x => { x with pc := x.epc, task := x.pmode, el := false }) s

/-- TRAP (R451). -/
def execTrap (e : Ex) (s : State) : Res :=
  let w := encR 0x30 0 0 0 3
  runInstr e ⟨w, !wordDefined e.isM w, true, true, [], false⟩ (raiseExc e 0x09) s

/-- DEBUG (R451). -/
def execDebug (e : Ex) (s : State) : Res :=
  let w := encR 0x30 0 0 0 4
  runInstr e ⟨w, !wordDefined e.isM w, false, false, [], false⟩ (raiseExc e 0x0A) s

/-- Every effecting operation of the context has been delivered. -/
def delivered (s : State) (e : Ex) : Bool := !((coreAt s e.core).outq.any fun o => o.ctx == e.ctx)

/-- FEND commits (R457): FRAME_END for its context. -/
def endFrame (e : Ex) (w : Word) (s : State) : State :=
  let n := frameCycles s (ctxAt s e)
  peak Reg.PLC_FRAME_PEAK 17 0 n
    (commitNext e w (fun x => { x with st := .asleep, active := false, ovr := false, ended := true }) s)

/-- FEND (R457): it commits once everything is delivered. -/
def execFend (e : Ex) (s : State) : Res :=
  let w := encR 0x30 0 0 0 5
  runInstr e ⟨w, !wordDefined e.isM w, true, true, [], false⟩ (fun s =>
    if delivered s e then endFrame e w s else onCtx e (fun x => { x with wait := .fend, iw := w }) s) s

/-- PFLUSH (R465): in either mode; the owner tag stays. -/
def execPflush (e : Ex) (s : State) : Res :=
  let w := encR 0x30 0 0 0 6
  runInstr e (e.plain w 0) (fun s => commitNext e w id (tally Ctr.PLC_PRED_FLUSH_SW 1 (flushPred e.core s))) s

/-! ### Special registers (R438, R439) -/

def flagBit (b : Bool) (n : Nat) : Nat := if b then 2 ^ n else 0

/-- What SRD reads. -/
def srdWord (e : Ex) (x : Ctx) (n : Nat) : Word :=
  match n with
  | 0 => x.pc
  | 1 => x.epc
  | 2 => BitVec.ofNat 32 (x.cause % 32 + flagBit x.ds 5 + flagBit x.ms 6 + flagBit x.pmode 7 + flagBit x.el 8 + flagBit x.loopEnd 9)
  | 3 => bit x.task
  | 4 => x.lps0
  | 5 => x.lpe0
  | 6 => x.lct0
  | 7 => x.lps1
  | 8 => x.lpe1
  | 9 => x.lct1
  | 10 => BitVec.ofNat 32 (e.ctx % 4 + 4 * (e.core % 8) + 32 * (x.etag % 1024))
  | 11 => if e.isM then 0
    else BitVec.ofNat 32 (x.entry % 2 ^ 16 + flagBit x.active 16 + flagBit x.ovr 17 + 2 ^ 18 * (x.seq % 2 ^ 14))
  | _ => 0

/-- What SWR writes: only the fields that software may write. -/
def swrCtx (x : Ctx) (n : Nat) (w : Word) : Ctx :=
  let b := fun i => w.getLsbD i
  match n with
  | 1 => { x with epc := w }
  | 2 => { x with cause := w.toNat % 32, ds := b 5, ms := b 6, pmode := b 7, el := b 8, loopEnd := b 9 }
  | 4 => { x with lps0 := w }
  | 5 => { x with lpe0 := w }
  | 6 => { x with lct0 := w }
  | 7 => { x with lps1 := w }
  | 8 => { x with lpe1 := w }
  | 9 => { x with lct1 := w }
  | 10 => { x with etag := bitsOf w.toNat 14 5 }
  | 11 => { x with entry := w.toNat % 2 ^ 16 }
  | _ => x

/-- SRD: a number above 11 is ILLEGAL. -/
def execSrd (e : Ex) (rd n : Fin 32) (s : State) : Res :=
  let w := encR 0x30 rd 0 n 8
  runInstr e (e.plain w rd) (commitNext e w fun x => x.setReg rd (srdWord e x n)) s

/-- SWR: numbers above 11, PC and MODE are ILLEGAL, FRAME too on the Walni-M; in Task mode only the loop registers can be
written. -/
def execSwr (e : Ex) (rs n : Fin 32) (s : State) : Res :=
  let w := encR 0x30 0 rs n 9
  runInstr e ⟨w, !wordDefined e.isM w, true, false, [], n < 4 || 9 < n⟩ (commitNext e w fun x => swrCtx x n (x.reg rs)) s

end Sys2Proof.Machine
end

