-- ==== Sys2Proof/Machine/WalniCp.lean ====
section
/-! DEFINITION. The coprocessors of Walni (R466 to R471): pure operations, effecting operations with their outbound queue, and
what each does where it is delivered (R470, R481, R484, R485, R498). -/

namespace Sys2Proof.Machine

open Sys2Proof

/-- The bytes of a word, little-endian. -/
def wordBytes (w : Word) : List Byte := (List.range 4).map fun i => (w >>> (8 * i)).setWidth 8

/-! ### Operands (R467) -/

/-- A set index of this device. -/
def setOk (s : State) (w : Word) : Bool := decide (w.toNat < 2 ^ s.hpt.setBits)

/-- The sector offset of rs and rt[7:0]. -/
def soArg (rs rt : Word) : Nat := rs.toNat + 2 ^ 32 * bitsOf rt.toNat 7 0

/-- Sectors so to so + count − 1 lie within the home capacity. -/
def soOk (s : State) (so count : Nat) : Bool := decide ((so + count) * 256 ≤ homeCap s)

/-! ### Pure operations (R468) -/

/-- The sector of a way as SCAN shows it: index and spring sectors are pinned, marked remote (R326, R491). -/
def scanWay (s : State) (k : Nat) : Bool × Bool × Bool × Bool :=
  let w := wayAt s k
  if k % 4 < fixedWays s (k / 4) then (true, false, true, true)
  else (w.res && !w.quar, w.dirty && !w.quar, w.pin && !w.quar, w.remote && w.res && !w.quar)

/-- The coldest way that is resident and not pinned. -/
def coldWay (s : State) (set : Nat) : Option Nat :=
  (bestBy (fun a b => heatOf s a < heatOf s b) ((waysOfSet set).filter fun k => (scanWay s k).1 && !(scanWay s k).2.2.1)).map (· % 4)

/-- The result of SCAN. -/
def scanWord (s : State) (set : Nat) : Word :=
  if tscHit s set then
    let mask := fun (f : Bool × Bool × Bool × Bool → Bool) =>
      sumN ((List.range 4).map fun i => if f (scanWay s (4 * set + i)) then 2 ^ i else 0)
    let cold := (coldWay s set).map fun w => 2 ^ 16 * w + 2 ^ 18
    BitVec.ofNat 32 (mask (·.1) + 2 ^ 4 * mask (·.2.1) + 2 ^ 8 * mask (·.2.2.1) + 2 ^ 12 * mask (·.2.2.2) + cold.getD 0 + 2 ^ 31)
  else 0

/-- The result of HEATRD, from the heat of each way. -/
def heatWord (s : State) (set : Nat) (h : Nat → Nat) : Word :=
  BitVec.ofNat 32 (sumN ((List.range 4).map fun i =>
    let k := 4 * set + i
    if (wayAt s k).res ∧ ¬ (wayAt s k).quar then h k % 256 * 2 ^ (8 * i) else 0))

/-- A pure operation that has its result at once. -/
def pureOp (e : Ex) (op fn : Nat) (rd rs rt : Fin 32) (ok : Ctx → Bool) (f : Ctx → Word) (s : State) : Res :=
  let w := encR op rd rs rt fn
  runInstr e (e.plain w rd) (fun s =>
    if ¬ ok (ctxAt s e) then raiseExc e 0x07 s
    else commitNext e w (fun x => x.setReg rd (f x)) (tally Ctr.PLC_CP_PURE 1 s)) s

/-- SCAN: rt must be g0. -/
def execScan (e : Ex) (rd rs rt : Fin 32) (s : State) : Res :=
  pureOp e 0x38 1 rd rs rt (fun x => rt == 0 && setOk s (x.reg rs)) (fun x => scanWord s (x.reg rs).toNat) s

/-- HEATRD (R468): at once from the TSC, else it waits for the DRAM. -/
def execHeatrd (e : Ex) (rd rs rt : Fin 32) (s : State) : Res :=
  let w := encR 0x38 rd rs rt 2
  let set := ((ctxAt s e).reg rs).toNat
  if tscHit s set then
    pureOp e 0x38 2 rd rs rt (fun x => rt == 0 && setOk s (x.reg rs)) (fun _ => heatWord s set (heatOf s)) s
  else
    runInstr e (e.plain w rd) (fun s =>
      if rt ≠ 0 ∨ ¬ setOk s ((ctxAt s e).reg rs) then raiseExc e 0x07 s
      else onCtx e (fun x => { x with wait := .heat rd set, iw := w }) (tally Ctr.PLC_CP_PURE 1 s)) s

/-- The heat of a way from its line-2 slice, read for a HEATRD; where that does not decode, which R155 settles for the way, the heat
is a free value. -/
def heatRead (set w : Nat) (rd : Rd) (s : State) : Nat × State :=
  match readBurst set w 2 rd s with
  | (⟨.good, sl⟩, s) => (bitsOf sl 45 38, s)
  | (⟨.split, _⟩, s) => ((wayAt s (4 * set + w)).heat, poisonWay (4 * set + w) s)
  | (⟨.bad, _⟩, s) =>
    let (f, s) := draw s
    (f % 256, badBurst (4 * set + w) 2 rd s)

/-- The line-2 slices of the ways from w on. -/
def heatReads (set w : Nat) (rds : List Rd) (s : State) : List Nat × State :=
  match rds with
  | [] => ([], s)
  | rd :: rds =>
    let (h, s) := heatRead set w rd s
    let (hs, s) := heatReads set (w + 1) rds s
    (h :: hs, s)

/-- CP_RESULT_RETURN (R468, R471): the line-2 slices of the four ways have been read. A result whose instruction was squashed is
dropped. -/
def execCpResultReturn (e : Ex) (rds : List Rd) (s : State) : Res :=
  let x := ctxAt s e
  match x.wait with
  | .heat rd set =>
    let (hs, s) := heatReads set 0 rds s
    .next (commitNext e x.iw (fun x => x.setReg rd (heatWord s set fun k => hs.getD (k % 4) 0)) s)
  | _ => .next s

/-- HASH.SET: the set of R64 for a sector of device D. -/
def execHashSet (e : Ex) (rd rs rt : Fin 32) (s : State) : Res :=
  let so := fun (x : Ctx) => soArg (x.reg rs) (x.reg rt)
  let dev := fun (x : Ctx) => bitsOf (x.reg rt).toNat 19 8
  pureOp e 0x39 1 rd rs rt
    (fun x => bitsOf (x.reg rt).toNat 31 20 == 0 && (dev x != devId s || soOk s (so x) 1))
    (fun x => BitVec.ofNat 32 (setOf s.hpt.setBits (so x) (dev x))) s

/-- HASH.MIX: CRC-32C of rs and rt. -/
def execHashMix (e : Ex) (rd rs rt : Fin 32) (s : State) : Res :=
  pureOp e 0x39 2 rd rs rt (fun _ => true) (fun x => crc32c (wordBytes (x.reg rs) ++ wordBytes (x.reg rt))) s

/-! ### Effecting operations (R469) -/

/-- An operation goes into the outbound queue as its instruction commits. -/
def sendOp (e : Ex) (w : Word) (op : CpOp) (s : State) : State :=
  let x := ctxAt s e
  let o : OutOp := ⟨e.ctx, x.seq, x.etag, op⟩
  commitNext e w id (onCore e.core (fun c => { c with outq := c.outq ++ [o] }) s)

/-- A cp3 instruction: operand check, then commit where the queue of 16 has room. -/
def effOp (e : Ex) (fn : Nat) (rd rs rt : Fin 32) (ok : Word → Word → Bool) (op : Word → Word → CpOp) (s : State) : Res :=
  let w := encR 0x3A rd rs rt fn
  runInstr e (e.plain w 0) (fun s =>
    let x := ctxAt s e
    let (a, b) := (x.reg rs, x.reg rt)
    if rd ≠ 0 ∨ ¬ ok a b then raiseExc e 0x07 s
    else if (coreAt s e.core).outq.length < 16 then sendOp e w (op a b) s
    else tally Ctr.PLC_OUTQ_FULL 1 (onCtx e (fun x => { x with wait := .outq (op a b), iw := w }) s)) s

/-- EVICT: [1:0] way, [2] CLEAN_ONLY. -/
def execEvict (e : Ex) (rd rs rt : Fin 32) (s : State) : Res :=
  effOp e 1 rd rs rt (fun a b => setOk s a && bitsOf b.toNat 31 3 == 0)
    (fun a b => .evict a.toNat (bitsOf b.toNat 1 0) (b.getLsbD 2)) s

/-- PREFETCH: [15:8] heat, [19:16] count − 1. -/
def execPolicyPrefetch (e : Ex) (rd rs rt : Fin 32) (s : State) : Res :=
  effOp e 2 rd rs rt
    (fun a b => bitsOf b.toNat 31 20 == 0 && soOk s (soArg a b) (bitsOf b.toNat 19 16 + 1))
    (fun a b => .prefetch (soArg a b) (bitsOf b.toNat 15 8) (bitsOf b.toNat 19 16 + 1)) s

/-- Operands of PIN and UNPIN: [11:8] count − 1. -/
def pinOk (s : State) (a b : Word) : Bool :=
  bitsOf b.toNat 31 12 == 0 && soOk s (soArg a b) (bitsOf b.toNat 11 8 + 1)

/-- PIN. -/
def execPolicyPin (e : Ex) (rd rs rt : Fin 32) (s : State) : Res :=
  effOp e 3 rd rs rt (pinOk s) (fun a b => .pin (soArg a b) (bitsOf b.toNat 11 8 + 1)) s

/-- UNPIN. -/
def execPolicyUnpin (e : Ex) (rd rs rt : Fin 32) (s : State) : Res :=
  effOp e 4 rd rs rt (pinOk s) (fun a b => .unpin (soArg a b) (bitsOf b.toNat 11 8 + 1)) s

/-- HINT_WRITE: [1:0] WAY, [2] VALID, [31:24] DECAY. -/
def execHintWrite (e : Ex) (rd rs rt : Fin 32) (s : State) : Res :=
  effOp e 5 rd rs rt (fun a b => setOk s a && bitsOf b.toNat 23 3 == 0)
    (fun a b => .hint a.toNat (bitsOf b.toNat 1 0) (b.getLsbD 2) (bitsOf b.toNat 31 24)) s

/-! ### Delivery (R470) -/

/-- Capability bit of an operation (R498). -/
def CpOp.cap : CpOp → Nat
  | .prefetch _ _ _ => 0 | .pin _ _ | .unpin _ _ => 1 | .evict _ _ _ => 2 | .hint _ _ _ _ => 5

/-- A capability is in force for a core; the ROM baseline is not limited by an image's. -/
def capOn (s : State) (k b : Nat) : Bool := (coreAt s k).baseline || bitsOf s.plc.caps b b == 1

/-- The heat of every resident way of a set falls (R470, R484), where the TSC holds the set: an operation that is committed there uses
its entry (R128). -/
def decaySet (set n : Nat) (s : State) : State :=
  if tscHit s set then
    tscTouch set (eachIn ((waysOfSet set).filter fun k => (wayAt s k).res) (fun k s => changeHeat k (· - n) s) s)
  else tally Ctr.PLC_DECAY_DROP 1 s

/-- A victim hint is stored (R481), whoever wrote the entry before. -/
def storeHint (writer seq set way : Nat) (valid : Bool) (s : State) : State :=
  onPlc (fun p => { p with hints := tblPut p.hints (tscSet set) ⟨set / 2 ^ 17 % 2 ^ 15, way, valid, seq, writer⟩ }) s

/-- What an operation does where it is delivered. -/
def effectOp (k : Nat) (o : OutOp) (s : State) : State :=
  let own := fun (so : Nat) => devId s * 2 ^ 40 + so
  let ask := fun (kind : Kind) (so : Nat) (s : State) =>
    (admitTxn { Txn.blank with pool := .internal, src := .policy k o.ctx, kind := kind, sk := own so, encl := o.etag } s).2
  match o.op with
  | .evict set way clean =>
    let v := 4 * set + way
    if eligible s v ∧ ¬ (clean ∧ (wayAt s v).dirty) then
      (admitTxn { Txn.blank with pool := .internal, src := .policy k o.ctx, kind := .evict, poison := clean,
                                 sk := skOfWay s v (wayAt s v), encl := o.etag } s).2
    else tally Ctr.PLC_CP3_REJECT 1 s
  | .prefetch so heat count =>
    let x := ctxAt s ⟨k, o.ctx, false⟩
    if 2 ≤ s.cache.shed ∨ 256 ≤ x.build.length ∨ (List.range count).any fun i => !rangeOk s (so + i) o.etag none then
      tally Ctr.PLC_PREFETCH_DROP 1 s
    else onCtx ⟨k, o.ctx, false⟩ (fun x => { x with build := x.build ++ [⟨so, heat, count, o.etag⟩] }) s
  | .pin so count => upTo count (fun i s => ask .pin (so + i) s) s
  | .unpin so count =>
    upTo count (fun i s => ask .unpin (so + i) s) s
  | .hint set way valid decay => decaySet set decay (storeHint (4 * k + o.ctx) o.seq set way valid s)

/-- An operation is delivered, or dropped where its capability is not in force (R498). -/
def deliver (k : Nat) (o : OutOp) (s : State) : State :=
  let s := tally Ctr.PLC_CP3_SENT 1 s
  if capOn s k o.op.cap then effectOp k o s else tally Ctr.PLC_CP3_REJECT 1 s

/-- Contexts of a core that waited for room or for delivery go on. -/
def wakeCtx (k : Nat) (s : State) : State :=
  upTo 4 (fun c s =>
    let e : Ex := ⟨k, c, false⟩
    let x := ctxAt s e
    match x.wait with
    | .outq op => if (coreAt s k).outq.length < 16 then sendOp e x.iw op s else s
    | .fend => if delivered s e then endFrame e x.iw s else s
    | _ => s) s

/-- CP3_DELIVERY (R470): the operation at the head of a core's outbound queue is accepted by its target. -/
def execCp3Delivery (k : Nat) (s : State) : Res :=
  match (coreAt s k).outq with
  | [] => .next s
  | o :: r => .next (settle (wakeCtx k (deliver k o (onCore k (fun c => { c with outq := r }) s))))

end Sys2Proof.Machine
end

