-- ==== Sys2Proof/Machine/Policy.lean ====
section
/-! DEFINITION. The policy interface (R476 to R495): the policy window as a context sees it, what a tick does with the outputs of
the frames (R456, R478, R483, R485, R488, R489, R493), demotion (R479), the ROM baseline policy (R495), the prefetch issue
(R486) and the spring stream (R492). -/

namespace Sys2Proof.Machine

open Sys2Proof

/-! ### The policy window (R480) -/

/-- A prefetch queue entry (R485). -/
def PfEnt.bits (e : PfEnt) : Nat := e.so % 2 ^ 40 + 2 ^ 40 * (e.heat % 256) + 2 ^ 48 * ((e.count - 1) % 16) + 2 ^ 63

/-- The half of an 8 B entry at a word index. -/
def halfWord (v i : Nat) : Word := BitVec.ofNat 32 (if i % 2 = 0 then v else v / 2 ^ 32)

/-- LOAD. -/
def loadWord (s : State) : Nat :=
  s.cache.shed % 8 + 2 ^ 3 * s.ldg.st.code + 2 ^ 5 * (s.ldg.rung % 4) + flagBit s.med.jrnl.high 7 + flagBit s.rsv.rewarm 8

/-- Read a word of the window; SPRING_RD_LO is read by SPRING_STREAM_READ. None where the address is not readable. -/
def winRead (e : Ex) (off : Nat) (s : State) : Option (Word × State) :=
  let x := ctxAt s e
  let n := fun (v : Nat) => some (BitVec.ofNat 32 v, s)
  if off % 4 ≠ 0 then none
  else if 0x1000 ≤ off ∧ off < 0x1800 then
    some (if capOn s e.core 3 then tblGet 0 x.springStage ((off - 0x1000) / 4) else 0, s)
  else if 0x2000 ≤ off ∧ off < 0x2800 then
    some (if capOn s e.core 4 then tblGet 0 x.schedStage ((off - 0x2000) / 4) else 0, s)
  else if 0x3000 ≤ off ∧ off < 0x3800 then
    some (((x.issue[(off - 0x3000) / 8]?).map fun p => halfWord p.bits (off / 4)).getD 0, s)
  else
    match off with
    | 0x0000 => n (s.hpt.setBits + 2 ^ 6 * s.hpt.chBits + flagBit s.hpt.mirror 9)
    | 0x0004 => n (devId s + 2 ^ 12 * e.core + 2 ^ 15 * e.ctx)
    | 0x0008 => n (fld s Reg.CTR_EPOCH 13 0)
    | 0x000C => n x.seq
    | 0x0010 => some (BitVec.ofNat 32 s.tb, onCtx e (fun x => { x with tbHi := BitVec.ofNat 32 (s.tb / 2 ^ 32) }) s)
    | 0x0014 => some (x.tbHi, s)
    | 0x0018 =>
      let t := s.epochEnd.getD 0
      some (BitVec.ofNat 32 t, onCtx e (fun x => { x with tickHi := BitVec.ofNat 32 (t / 2 ^ 32) }) s)
    | 0x001C => some (x.tickHi, s)
    | 0x0020 => n (loadWord s)
    | 0x0024 => n s.plc.caps
    | 0x0028 => n (s.plc.gen % 2 ^ 16 + flagBit s.plc.building 16)
    | 0x0100 => n (if capOn s e.core 3 then x.springCnt else 0)
    | 0x0108 => n (if capOn s e.core 4 then x.schedCnt else 0)
    | 0x0204 => some (x.springHi, s)
    | _ => none

/-- Write a word of the window. None where the address is not writable. A staging area without its capability ignores the
write (R498). -/
def winWrite (e : Ex) (off : Nat) (w : Word) (s : State) : Option State :=
  let put := fun (cap : Nat) (f : Ctx → Ctx) => some (if capOn s e.core cap then onCtx e f s else s)
  if off % 4 ≠ 0 then none
  else if 0x1000 ≤ off ∧ off < 0x1800 then
    put 3 fun x => { x with springStage := tblSet 0 x.springStage ((off - 0x1000) / 4) w }
  else if 0x2000 ≤ off ∧ off < 0x2800 then
    put 4 fun x => { x with schedStage := tblSet 0 x.schedStage ((off - 0x2000) / 4) w }
  else
    match off with
    | 0x0100 => put 3 fun x => { x with springCnt := min 256 w.toNat }
    | 0x0104 => put 3 fun x => { x with springStart := x.springStart || w.getLsbD 0, springEnd := x.springEnd || w.getLsbD 1 }
    | 0x0108 => put 4 fun x => { x with schedCnt := min 256 w.toNat }
    | _ => none

/-- SPRING_STREAM_READ (R492): the next entry of the spring table has been fetched for a context that reads SPRING_RD_LO; the read
consumes it. After the last entry both words read 0. -/
def execSpringStreamRead (e : Ex) (s : State) : Res :=
  let x := ctxAt s e
  match x.wait with
  | .stream rd =>
    let v := (s.plc.table.head?).map (·.word)
    let s := onPlc (fun p => { p with table := p.table.tail }) s
    let s := onCtx e (fun x => { x with springHi := halfWord (v.getD 0) 1 }) s
    .next (commitNext e x.iw (fun x => x.setReg rd (halfWord (v.getD 0) 0)) s)
  | _ => .next s

/-! ### Spring map (R488, R489) -/

/-- START opens the next generation unless one is being built. What waits in the rings belongs to the old one. -/
def openGen (s : State) : State :=
  if s.plc.building then s
  else onPlc (fun p => { p with gen := p.gen + 1, building := true, segs := 0 }) (flushRings s)

/-- END closes a generation that is being built; its last record carries GEN_END. -/
def closeGen (s : State) : State :=
  if s.plc.building then flushRings (onPlc (fun p => { p with closing := true }) s) else s

/-- Pack every full record of a core's ring. -/
def packFull (k : Nat) (s : State) : State :=
  upTo 17 (fun _ s => if 498 ≤ (coreAt s k).ring.length then (packRing k s).getD s else s) s

/-- Entries go into a core's ring; those that do not fit are dropped (R488). -/
def toRing (k : Nat) (es : List SprEnt) (s : State) : State :=
  let r := (coreAt s k).ring
  let fit := es.take (8192 - r.length)
  let lost := es.length - fit.length
  let s := onCore k (fun c => { c with
    ring := c.ring ++ fit, ringAt := if c.ring.isEmpty then s.tb else c.ringAt,
    ringMax := max c.ringMax (c.ring.length + fit.length) }) s
  let s := tally Ctr.SPRING_ENTRY fit.length s
  let s := if lost = 0 then s
    else
      let s := tally Ctr.SPRING_DROP lost s
      if s.plc.dropTold then s else raise Ev.springDrop 0 k (onPlc (fun p => { p with dropTold := true }) s)
  packFull k s

/-- SPRING_PACK_TIMEOUT (R488): 1 ms after the oldest entry that waits in a core's ring. -/
def execSpringPackTimeout (k : Nat) (s : State) : Res :=
  if (coreAt s k).ring.isEmpty ∨ ¬ running s then .next s
  else
    let s := until_ ((coreAt s k).ringAt + 1000000) s
    .next (settle ((packRing k s).getD s))

/-- The 8 B entries of a staging area. -/
def staged (t : Tbl Word) (n : Nat) : List Nat :=
  (List.range n).map fun i => (tblGet 0 t (2 * i)).toNat + 2 ^ 32 * (tblGet 0 t (2 * i + 1)).toNat

/-! ### The tick (R31 step 3) -/

/-- Policy contexts of the part. -/
def policyCtxs (s : State) : List Ex :=
  (List.range (coreCount s)).flatMap fun k => (List.range 4).map fun c => ⟨k, c, false⟩

/-- A context has run a frame that did not reach FRAME_END (R32, R453). -/
def overran (s : State) (e : Ex) : Bool := (ctxAt s e).active

/-- What the frame that ended leaves (R478): whether it reached FRAME_END, and the prefetch queue. -/
def recordFrame (e : Ex) (s : State) : State :=
  let x := ctxAt s e
  let ok := x.ended && !x.active
  tally Ctr.PREFQ_DISCARD x.issue.length
    (onCtx e (fun x => { x with reached := ok, issue := if ok then x.build else [], build := [] }) s)

/-- Entries of a rewarm queue that come from a staging area (R493). -/
def toSched (k : Nat) (vs : List Nat) (s : State) : State :=
  let es := (vs.map fun v => (bitsOf v 35 0, bitsOf v 51 36, bitsOf v 59 52)).filter fun e => e.2.1 != 0
  let fit := es.take (1024 - (coreAt s k).sched.length)
  tally Ctr.SCHED_ENTRY fit.length (tally Ctr.SCHED_DROP (es.length - fit.length)
    (onCore k (fun c => { c with sched := c.sched ++ fit }) s))

/-- The rewarm schedule comes from the firmware (R493, R495). -/
def schedByPcf (s : State) : Bool :=
  flag s Reg.PLC_POLICY_CFG 0 && bitsOf s.plc.caps 4 4 == 1 && (List.range (coreCount s)).any fun k => !(coreAt s k).baseline

/-- Staged entries of the frames that reached FRAME_END are released: STARTs first, ENDs last (R488, R489, R493). -/
def releaseStaged (s : State) : State :=
  let done := (policyCtxs s).filter fun e => (ctxAt s e).reached
  let s := if done.any fun e => (ctxAt s e).springStart && capOn s e.core 3 then openGen s else s
  let s := eachIn done (fun e s =>
    let x := ctxAt s e
    let s := if capOn s e.core 3 then toRing e.core ((staged x.springStage x.springCnt).map SprEnt.ofWord) s else s
    if schedByPcf s && !(coreAt s e.core).baseline then toSched e.core (staged x.schedStage x.schedCnt) s else s) s
  let s := if done.any fun e => (ctxAt s e).springEnd && capOn s e.core 3 then closeGen s else s
  eachIn (policyCtxs s) (fun e s =>
    onCtx e (fun x => { x with springCnt := 0, schedCnt := 0, springStart := false, springEnd := false }) s) s

/-- A policy context of the PCF at a tick: preempted, or its next frame starts (R456, R458). -/
def nextFrame (e : Ex) (s : State) : State :=
  let x := ctxAt s e
  if x.active then
    let s := raise Ev.frameOverrun 0 e.unit s
    if x.shadow ∧ x.st = .running then onCtx e (fun x => { x with heldPre := true }) s else preempt e s
  else if x.st = .asleep then onCtx e (fun x => x.start s) s
  else s

/-! ### The ROM baseline policy (R495) -/

/-- Stride of the TSC set indices of a context: 32, or 16 on the -PM. -/
def baseStride (s : State) : Nat := 4 * coreCount s

/-- The TSC set indices that a context visits, from a position on, are those x for which this position lies in the window. -/
def basePosOf (s : State) (e : Ex) (x : Nat) : Option Nat :=
  if x % baseStride s = 4 * e.core + e.ctx then some (x / baseStride s) else none

/-- Positions in one turn of a context. -/
def baseTurn (s : State) : Nat := 2 ^ 17 / baseStride s

/-- Cache sets with a usable TSC entry that a context visits in n positions from `pos` on: by position, then by set. -/
def baseSets (s : State) (e : Ex) (pos n : Nat) : List Nat :=
  let turn := baseTurn s
  let hit := s.cache.tsc.filterMap fun t =>
    if t.2.usable then
      (basePosOf s e (tscSet t.1)).bind fun p =>
        let d := (p + turn - pos % turn) % turn
        if d < n then some (d, t.1) else none
    else none
  (hit.foldl (fun l a => insertBy (fun x y => x.1 < y.1 || (x.1 == y.1 && x.2 < y.2)) a l) []).map (·.2)

/-- Spring entries of a set for the baseline pass. -/
def baseSpring (s : State) (set : Nat) : List SprEnt :=
  (waysOfSet set).filterMap fun k =>
    let w := wayAt s k
    if w.res ∧ ¬ w.remote ∧ ¬ w.quar ∧ max 1 (fld s Reg.PLC_SPRING_CFG 7 0) ≤ heatOf s k then
      some ⟨skSo (skOfWay s k w), heatOf s k, false, w.pin⟩ else none

/-- A frame of a baseline context: 128 visits with their hints and decays, and the spring pass's share of 64. -/
def baseFrame (e : Ex) (s : State) : State :=
  let x := ctxAt s e
  let seq := s.epochCnt % 2 ^ 14
  let s := eachIn (baseSets s e x.basePos 128) (fun set s =>
    let cold := coldWay s set
    tally Ctr.PLC_CP3_SENT 1
      (decaySet set 1 (storeHint (4 * e.core + e.ctx) seq set (cold.getD 0) cold.isSome s))) s
  let s := if s.plc.passLeft = 0 then s
    else toRing e.core (((baseSets s e (baseTurn s - s.plc.passLeft) 64).flatMap (baseSpring s)).take 256) s
  onCtx e (fun x => { x with st := .asleep, active := false, ended := true, seq := seq, frameAt := s.tb,
                             basePos := (x.basePos + 128) % baseTurn s }) s

/-- The baseline contexts run their frame; a spring pass that has visited all its sets closes its generation. -/
def baseFrames (s : State) : State :=
  let es := (policyCtxs s).filter fun e => (coreAt s e.core).baseline && (ctxAt s e).st != .notStarted
  let s := eachIn es baseFrame s
  if s.plc.passLeft = 0 ∨ es.isEmpty then s
  else
    let s := onPlc (fun p => { p with passLeft := p.passLeft - 64 }) s
    if s.plc.passLeft = 0 then closeGen s else s

/-- BASELINE_SPRING_PASS (R495): GEN_MS after the start of the last pass. -/
def execBaselineSpringPass (s : State) : Res :=
  let base := (policyCtxs s).any fun e => (coreAt s e.core).baseline && (ctxAt s e).st != .notStarted
  if ¬ running s ∨ ¬ base ∨ s.plc.passLeft ≠ 0 then .next s
  else
    let s := until_ (s.plc.passAt + 1000000 * max 100 (fld s Reg.PLC_SPRING_CFG 23 8)) s
    .next (settle (openGen (onPlc (fun p => { p with passAt := s.tb, passLeft := baseTurn s }) s)))

/-! ### Step 3 as a whole -/

/-- A scrub visit (R483). -/
def scrubHint (seq i : Nat) (t : Tbl Hint) : Tbl Hint :=
  match tblFind t i with
  | some h => if 2 ^ 13 < (seq + 2 ^ 14 - h.epoch) % 2 ^ 14 then tblPut t i { h with valid := false } else t
  | none => t

/-- 32 entries of the victim-hint table are scrubbed. -/
def scrubHints (s : State) : State :=
  let seq := s.epochCnt % 2 ^ 14
  onPlc (fun p => { p with
    hints := (List.range 32).foldl (fun t i => scrubHint seq ((p.scrubPos + i) % 2 ^ 17) t) p.hints,
    scrubPos := (p.scrubPos + 32) % 2 ^ 17 }) s

/-- Overruns of a core's contexts at consecutive ticks (R479). -/
def countOverruns (late : List Ex) (s : State) : State :=
  upTo (coreCount s) (fun k s => onCore k (fun c =>
    let n := if late.any (·.core == k) then c.overruns + 1 else 0
    { c with overruns := n, due := decide (max 1 (fld s Reg.PLC_POLICY_CFG 8 1) ≤ n), ringMax := c.ring.length }) s) s

/-- A core is demoted (R479): its contexts stop, and it goes on under the ROM baseline from the next tick. -/
def demote (k : Nat) (s : State) : State :=
  let stop := fun (x : Ctx) => { x with
    st := .stopped, active := false, ended := false, wait := .none, slot := none, shadow := false, heldPre := false,
    build := [], springStage := [], schedStage := [], springCnt := 0, schedCnt := 0, springStart := false,
    springEnd := false, basePos := 0 }
  let s := tellSquash ((coreAt s k).ctxs.map (·.wait)) s
  let s := onCore k (fun c => { c with
    baseline := true, demoted := true, due := false, overruns := 0, ctxs := c.ctxs.map stop }) s
  raise Ev.pcfDemoted 0 k s

/-- Cores whose demotion is due and has not come yet: the baseline runs at this tick (R479). -/
def demoteDue (s : State) : State :=
  eachIn ((List.range (coreCount s)).filter fun k => (coreAt s k).due && !(coreAt s k).baseline) demote s

/-- Step 3 of a tick. Nothing starts once Fence has begun (R33, R459). -/
def policyTick (s : State) : State :=
  if s.plc.fenced then s
  else
    let s := demoteDue s
    let late := (policyCtxs s).filter (overran s)
    let s := onPlc (fun p => { p with dropTold := false }) (countOverruns late s)
    let s := eachIn (policyCtxs s) recordFrame s
    let s := releaseStaged s
    let s := if s.plc.closing then flushRings s else s
    let idle := (List.range (coreCount s)).all fun k => (coreAt s k).sched.isEmpty
    let s := onPlc (fun p => { p with selfRead := if idle && !late.isEmpty then 1024 else 0 }) s
    let s := eachIn ((policyCtxs s).filter fun e => !(coreAt s e.core).baseline) nextFrame s
    scrubHints (baseFrames s)

/-- PCF_DEMOTE (R479): the contexts stop and the core goes on under the ROM baseline from the next tick. -/
def execPcfDemote (k : Nat) (s : State) : Res :=
  let c := coreAt s k
  if coreCount s ≤ k ∨ ¬ c.due ∨ c.baseline then .next s else .next (demote k s)

/-! ### Prefetch issue (R486) -/

/-- The contexts in round-robin order after the one served last. -/
def rrOrder (n last : Nat) : List Nat := (List.range n).map fun i => (last + 1 + i) % n

/-- PREFETCH_ISSUE (R486): one sector of the next issue queue. -/
def execPrefetchIssue (s : State) : Res :=
  if 2 ≤ s.cache.shed ∨ ¬ running s then .next s
  else
    let ex := fun (i : Nat) => (⟨i / 4, i % 4, false⟩ : Ex)
    match (rrOrder (4 * coreCount s) s.plc.rrCtx).find? fun i => !(ctxAt s (ex i)).issue.isEmpty with
    | none => .next s
    | some i =>
      match (ctxAt s (ex i)).issue with
      | [] => .next s
      | p :: r =>
        let rest := if p.count ≤ 1 then r else { p with so := p.so + 1, count := p.count - 1 } :: r
        let s := onPlc (fun q => { q with rrCtx := i }) (onCtx (ex i) (fun x => { x with issue := rest }) s)
        let sk := devId s * 2 ^ 40 + p.so
        if (findWay s sk).isSome then .next s
        else
          .next (serve { Txn.blank with pool := .internal, src := .policy (i / 4) (i % 4), kind := .prefetch p.heat, sk := sk,
                                        encl := p.etag } (tally Ctr.PREFQ_ISSUE 1 s))

end Sys2Proof.Machine
end

