-- ==== Sys2Proof/Machine/FabMgmt.lean ====
section
/-! DEFINITION. The fabric's links and their upkeep: ACKs, NAKs and replay (R511, R514, R515), lane degrade (R516), links going up
and down (R517), FEC (R518), discovery and election (R519 to R522), the fabric manager's timers (R523, R524), and time-base
synchronisation (R530, R531). -/

namespace Sys2Proof.Machine

open Sys2Proof

/-! ### ACKs, credits and replay -/

/-- SEQ a lies at or after SEQ b (modulo 4,096, within half the range). -/
def seqCovers (a b : Nat) : Bool := decide ((a + 4096 - b) % 4096 < 2048)

/-- Flits up to an ACK leave the replay buffer (R514). -/
def ackFlits (p ack : Nat) (s : State) : State :=
  onFPort p (fun x => { x with replay := x.replay.dropWhile fun r => seqCovers ack ((r.seq + r.flits - 1) % 4096) }) s

/-- IDLE_FLIT (R506): an ACK and a return of credits for one virtual channel and lane. -/
def execIdleFlit (p ack : Nat) (vc : VC) (lane n : Nat) (s : State) : Res :=
  if ¬ fpOk s p ∨ ¬ (fport s p).carries ∨ 2 ≤ lane then .next s
  else
    let i := vcl vc lane
    let s := onFPort p (fun x => { x with credits := setAt x.credits i fun c => min (grantOf i) (c + n) }) (ackFlits p ack s)
    .next (settle (fabPump s))

/-- A port's replay budget is exceeded: lane degrade, or link down in Geyser and at a second degrade within 1 ms (R516, R517,
R532). -/
def degrade (p : Nat) (s : State) : State :=
  let soon := match (fport s p).lastDegrade with
    | some t => decide (s.tb < t + 1000000)
    | none => false
  if s.rsv.pst == .geyser || soon then fabDown p false s else startDegrade p s

/-- A NAK is sent or received: the episode opens or goes on, within its budget (R515). -/
def nakked (p : Nat) (f : State → State) (s : State) : State :=
  let s := openEpisode p s
  if overBudget s p then degrade p s else f s

/-- FLIT_FAILED (R504, R505, R514): a flit fails its CRC or FEC, or a message flit is out of sequence. `again` says that it is the
replayed flit ACK + 1, so that another NAK may be sent. -/
def execFlitFailed (p : Nat) (uncorr again : Bool) (s : State) : Res :=
  if ¬ fpOk s p ∨ ¬ (fport s p).carries then .next s
  else
    let s := if uncorr then tally Ctr.FAB_FEC_UNCORR 1 s else s
    if (fport s p).nakking && !again then .next s
    else
      let s := onFPort p (fun x => { x with nakking := true }) s
      .next (settle (nakked p (fun s => emit (.link p "NAK" [(fport s p).rxSeq]) (tally Ctr.FAB_NAK 1 s)) s))

/-- Every flit after the last ACK is sent again, in order (R514). -/
def resend (p : Nat) (s : State) : State :=
  eachIn (fport s p).replay (fun r s =>
    emit (.link p "REPLAY" [r.seq, r.vc.code, r.lane, r.msg.opc, r.msg.tid]) (tally Ctr.FAB_REPLAY_FLIT r.flits s)) s

/-- NAK (R514). -/
def execNak (p ack : Nat) (s : State) : Res :=
  if ¬ fpOk s p ∨ ¬ (fport s p).carries then .next s
  else .next (settle (nakked p (resend p) (ackFlits p ack s)))

/-- REPLAY_EPISODE_END (R515): 2 µs without a NAK; an episode that is still open WIN_US after its first NAK exceeds its budget. -/
def execReplayEpisodeEnd (p : Nat) (s : State) : Res :=
  match (fport s p).episode with
  | none => .next s
  | some e =>
    let limit := e.start + 1000 * clampTo 2 20 (fld s Reg.FAB_REPLAY_CFG 8 4)
    if limit < e.last + 2000 then .next (settle (degrade p (until_ limit s))) else
    let s := until_ (e.last + 2000) s
    .next (settle (fabPump (onFPort p (fun x =>
      { x with episode := none, st := if x.st = .replaying then .up else x.st }) s)))

/-! ### Lane degrade, link up and down -/

/-- The widest width whose lanes all passed (R503): 0 x8, 1 x4, 2 x2. -/
def widest (lanes : List Bool) : Option Nat :=
  let ok := fun (is : List Nat) => is.all fun i => lanes.getD i false
  if ok [0, 1, 2, 3, 4, 5, 6, 7] then some 0
  else if ok [0, 1, 2, 3] || ok [4, 5, 6, 7] then some 1
  else if ok [0, 1] || ok [2, 3] || ok [4, 5] || ok [6, 7] then some 2
  else none

/-- Our own grants go out afresh, as many as the buffers have free (R511, R512). -/
def sendGrants (p : Nat) (s : State) : State :=
  upTo 8 (fun i s => emit (.link p "GRANT" [i, grantOf i - (fport s p).rxFlits.getD i 0]) s) s

/-- Credits that the peer grants, less the flits that are to be sent again. -/
def freshCredits (x : FPort) (grants : List Nat) : List Nat :=
  (List.range 8).map fun i =>
    min (grantOf i) (grants.getD i 0) - sumN ((x.replay.filter fun r => vcl r.vc r.lane == i).map (·.flits))

/-- Steps 3 to 5 of R516: the width from the lanes that passed, credits, and replay from the peer's last ACK. -/
def endDegrade (p ack : Nat) (lanes : List Bool) (grants : List Nat) (s : State) : State :=
  let x := fport s p
  match widest lanes with
  | none => fabDown p false s
  | some w =>
    let w := if x.wide then w else max w x.width
    if min 2 (fld s Reg.FAB_LINK_CFG 5 4) < w then fabDown p false s
    else
      let s := onFPort p (fun x => { x with st := .up, width := w, wide := false, nakking := false, episode := none }) (ackFlits p ack s)
      let s := onFPort p (fun x => { x with
        credits := freshCredits x grants, kept := List.replicate 8 0
        rxFlits := (List.range 8).map fun i => x.rxFlits.getD i 0 - x.kept.getD i 0 }) s
      let s := if w = 0 then s else raise Ev.fabLaneDegraded w p s
      fabPump (resend p (sendGrants p s))

/-- LANE_DEGRADE (R515, R516): the retrain of a port whose budget is exceeded, at the latest when the episode has been open for
WIN_US, comes to its end. -/
def execLaneDegrade (p ack : Nat) (lanes : List Bool) (grants : List Nat) (s : State) : Res :=
  if ¬ fpOk s p then .next s
  else
    let s := match (fport s p).episode with
      | some e =>
        if (fport s p).st = .replaying then
          degrade p (until_ (e.start + 1000 * clampTo 2 20 (fld s Reg.FAB_REPLAY_CFG 8 4)) s)
        else s
      | none => s
    if (fport s p).st = .degrading then .next (settle (endDegrade p ack lanes grants s)) else .next s

/-- FAB_LINK_DOWN (R517): lock is lost, or a degrade does not end in time. -/
def execFabLinkDown (p : Nat) (s : State) : Res :=
  if fpOk s p ∧ ((fport s p).carries ∨ (fport s p).st = .degrading) then .next (settle (fabDown p false s)) else .next s

/-- This device as a candidate. -/
def selfCand (s : State) : Option Cand :=
  let pri := fld s Reg.MGT_FAB_PRI 7 0
  if pri = 0 then none else some ⟨pri, s.fab.serial, devId s, 0, s.tb⟩

/-- The better candidate: higher priority, then lower serial number. -/
def Cand.better (a b : Cand) : Bool := decide (b.pri < a.pri) || (a.pri == b.pri && decide (a.serial < b.serial))

/-- The best candidate among itself and what its neighbours advertise. -/
def bestCand (s : State) : Option Cand :=
  bestBy Cand.better ((selfCand s).toList ++ s.fab.ports.filterMap fun x => if x.carries then x.peer.bind (·.cand) else none)

/-- A HELLO on a port (R519). -/
def sendHello (p : Nat) (s : State) : State :=
  let f := s.fab
  let best := match bestCand s with
    | some c => [c.pri, c.hops, c.serial, c.id]
    | none => [0, 0, 0, 0]
  let x := [f.serial, devId s, if s.mgt.nv.devId.isSome then 1 else 0, p, s.mgt.nv.incarn, fld s Reg.MGT_FAB_PRI 7 0,
            if f.locked then 1 else 0, ((f.fm.map (·.hops)).getD 0)] ++ best
  emit (.link p "HELLO" x) (onFPort p (fun x => { x with helloAt := s.tb }) s)

/-- FAB_LINK_UP (R511, R519): a port that trains comes up at a width, with the peer's grants. -/
def execFabLinkUp (p : Nat) (width : Fin 3) (grants : List Nat) (s : State) : Res :=
  if ¬ fpOk s p ∨ (fport s p).st ≠ .training ∨ s.rsv.pst = .geyser ∨ s.rsv.pst = .fence then .next s
  else
    let s := onFPort p (fun x => { FPort.off with
      st := .up, width := width.val, credits := freshCredits FPort.off grants, lastDegrade := x.lastDegrade }) s
    let s := emit (.link p "REPORT_UP" [s.fab.serial, p]) (raise Ev.fabLinkUp 0 p s)
    .next (settle (fabPump (sendHello p (sendGrants p s))))

/-- A retrain that software asks for (R516, R517, R534): of a link that is up, or of a port held down by command. -/
def linkRetrain (p : Nat) (s : State) : State :=
  let x := fport s p
  if ¬ fpOk s p ∨ ¬ flag s Reg.FAB_LINK_CFG p then s
  else if x.carries then onFPort p (fun x => { x with st := .degrading, episode := none, wide := true }) s
  else if x.st = .down then onFPort p (fun x => { x with st := .training, cmdDown := false }) s
  else s

/-- A port is taken down by command or by clearing EN (R517). -/
def linkDown (p : Nat) (s : State) : State := if fpOk s p then settle (fabDown p true s) else s

/-- ROUTE_HOLD_TIMEOUT (R517): a queued message, by its position, has waited HOLD_US without a port. -/
def execRouteHoldTimeout (i : Nat) (s : State) : Res :=
  match s.fab.queue[i]? with
  | none => .next s
  | some q =>
    if ¬ (routePorts s (route? s (q.msg.dst / 64)) q.lane).isEmpty then .next s
    else
      let s := until_ (q.since + 1000 * fld s Reg.FAB_ROUTE_CFG 15 0) s
      let s := onFab (fun f => { f with queue := f.queue.eraseIdx i }) s
      .next (settle (leftQueue q (tally Ctr.FAB_HOLD_DROP 1 s)))

/-- FEC_INTERVAL (R518): the symbols corrected on a port in 1 ms. -/
def execFecInterval (p n : Nat) (s : State) : Res :=
  if ¬ fpOk s p then .next s
  else
    let s := rcCount (Reg.FAB_ERR_CNT + 4 * p) 15 0 n (tally Ctr.FAB_FEC_CORR n s)
    .next (if fld s Reg.FAB_FEC_CFG 15 0 < n then raiseAtMost 1000000000 p Ev.fabFecHigh n p s else s)

/-! ### Discovery and election (R519 to R522) -/

/-- LOCKED changes, with its event (R531). -/
def setLocked (b : Bool) (s : State) : State :=
  if s.fab.locked = b then s
  else raise (if b then Ev.fabSyncLocked else Ev.fabSyncLost) 0 0 (onFab (fun f => { f with locked := b }) s)

/-- The fabric manager as this device knows it changes; a master FM that owned the device owns it no longer (R522, R591). -/
def setFm (n : Option Fm) (s : State) : State :=
  let changed := (s.fab.fm.map (·.serial)) != n.map (·.serial)
  let s := onFab (fun f => { f with fm := n }) s
  if changed then vacateIf .fm s else s

/-- The candidates have changed: an FM that is not the best stops at once (R522). -/
def elect (s : State) : State :=
  let own := ((bestCand s).map fun c => c.hops == 0).getD false
  if own then onFab (fun f => { f with bestSince := some (f.bestSince.getD s.tb) }) s
  else
    let was := s.fab.isFm
    let s := onFab (fun f => { f with bestSince := none, isFm := false }) s
    if was then setFm none s else s

/-- The sync parent (R530, R531): the neighbour nearest to the FM, the lowest port on ties; one that the FM has named (R524) is kept
while its link carries and no neighbour is nearer. -/
def chooseParent (s : State) : State :=
  let take := fun (p : Nat) => onFab (fun f => { f with parent := some p, parentSet := false }) s
  if s.fab.isFm then onFab (fun f => { f with parent := none, parentSet := false }) s
  else
    let hops := fun (p : Nat) => ((fport s p).peer.map (·.fmHops)).getD 32
    let ps := (List.range (fabPortCount s)).filter fun p => (fport s p).carries && (fport s p).peer.isSome
    match bestBy (fun a b => hops a < hops b) ps with
    | none => s
    | some p =>
      match s.fab.parent with
      | some q => if (fport s q).carries ∧ s.fab.parentSet ∧ hops q ≤ hops p then s else take p
      | none => take p

/-- A new incarnation of a peer is reported to COH (R276, R519), whatever was known. -/
def newIncarn (d inc : Nat) (s : State) : State :=
  let s := onFab (fun f => { f with incarn := tblPut f.incarn d inc }) s
  backPump (markPeer d (handBack d (raise Ev.peerRestart (dataPeer d 0 0) 0 s)))

/-- HELLO (R519, R521, R530). -/
def execHello (p : Nat) (h : Hello) (s : State) : Res :=
  if ¬ fpOk s p ∨ ¬ (fport s p).carries then .next s
  else
    let old := (fport s p).peer
    let cand := h.best.bind fun (pri, hops, serial, id) =>
      if hops < 16 ∧ pri ≠ 0 then some (Cand.mk pri serial id (hops + 1) s.tb) else none
    let peer : Peer := ⟨h.serial, h.id, h.idValid, h.port, h.incarn, h.locked, h.fmHops, cand⟩
    let s := chooseParent (elect (onFPort p (fun x => { x with peer := some peer }) s))
    if ¬ h.idValid ∨ h.id = devId s then .next s
    else if (old.map fun o => o.serial != h.serial).getD false then .next (settle (newIncarn h.id h.incarn s))
    else .next (settle (learnIncarn h.id h.incarn s))

/-- HELLO_TIMER (R519): every 100 µs. -/
def execHelloTimer (p : Nat) (s : State) : Res :=
  if ¬ fpOk s p ∨ ¬ (fport s p).carries then .next s
  else .next (sendHello p (until_ ((fport s p).helloAt + 100000) s))

/-- FM_CANDIDATE_EXPIRE (R521): a neighbour's candidate has not been refreshed for 10 ms. -/
def execFmCandidateExpire (p : Nat) (s : State) : Res :=
  match (fport s p).peer.bind (·.cand) with
  | none => .next s
  | some c =>
    let s := until_ (c.at_ + 10000000) s
    .next (elect (onFPort p (fun x => { x with peer := x.peer.map fun q => { q with cand := none } }) s))

/-- An FMC message goes out on every port that carries. -/
def flood (m : List Nat) (avoid : Option Nat) (s : State) : State :=
  upTo (fabPortCount s) (fun p s => if (fport s p).carries ∧ some p ≠ avoid then emit (.link p "FMC" m) s else s) s

/-- A beacon of this device. -/
def beacon (s : State) : State :=
  flood [0, devId s, fld s Reg.MGT_FAB_PRI 7 0, s.fab.serial, 0] none (onFab (fun f => { f with beaconAt := s.tb }) s)

/-- FM_ELECTED (R521): 5 ms as its own best candidate. -/
def execFmElected (s : State) : Res :=
  match s.fab.bestSince with
  | none => .next s
  | some t =>
    if s.fab.isFm ∨ ¬ running s then .next s
    else
      let s := until_ (t + 5000000) s
      let s := setFm (some ⟨devId s, fld s Reg.MGT_FAB_PRI 7 0, s.fab.serial, 0, s.tb⟩) s
      let s := onFab (fun f => { f with isFm := true, parent := none, offset := 0 }) s
      .next (beacon (setLocked true (raise Ev.fabFmElected (dataPeer (devId s) 0 0) 0 s)))

/-- FM_LOST (R522): no beacon for 10 ms. -/
def execFmLost (s : State) : Res :=
  match s.fab.fm with
  | none => .next s
  | some f =>
    if s.fab.isFm then .next s
    else
      let s := until_ (f.beaconAt + 10000000) s
      .next (elect (raise Ev.fabFmLost (dataPeer f.id 0 0) 0 (setFm none s)))

/-- FM_BEACON_TIMER (R523): every 1 ms, not in Geyser (R532). -/
def execFmBeaconTimer (s : State) : Res :=
  if s.fab.isFm ∧ running s then .next (beacon (until_ (s.fab.beaconAt + 1000000) s)) else .next s

/-- A route entry keeps the part of R529 that one entry can show: no dateline port in the lane-1 mask. -/
def routeFit (e : Nat) : Bool := bitsOf e 7 4 &&& bitsOf e 11 8 == 0

/-- This device's own route-table entry is written by the FM (R527, R536). -/
def putRoute (dst e : Nat) (s : State) : State :=
  raise Ev.fabRouteUpdate (dataPeer dst 0 0) 0 (onFab (fun f => { f with routes := tblSet 0 f.routes dst (e % 2 ^ 18) }) s)

/-- FMC_RESEND_TIMEOUT (R524): a message has not been acknowledged for 10 ms. -/
def execFmcResendTimeout (tag : Nat) (s : State) : Res :=
  match s.fab.fmcOut.find? (·.tag == tag) with
  | none => .next s
  | some m =>
    let s := until_ (m.at_ + 10000000) s
    .next (emit (.link 0 "FMC" [tag, m.dev]) (onFab (fun f =>
      { f with fmcOut := f.fmcOut.map fun x => if x.tag = tag then { x with at_ := s.tb } else x }) s))

/-! ### Time base (R530, R531) -/

/-- A SYNC answer gives the offset to the parent: a device behind by more than 1 µs steps forward; any other correction is
slewed. -/
def applySync (off : Int) (s : State) : State :=
  let s := onFab (fun f => { f with offset := off, lastSync := s.tb }) s
  let s := if 1000 < off then until_ (s.tb + off.toNat) s else s
  setLocked (decide (-16 ≤ off) && decide (off ≤ 16)) (onFab (fun f => { f with lastSync := s.tb }) s)

/-- SYNC (R530): a child's question is answered; a parent's answer arrives now, which is t4. -/
def execSync (p : Nat) (m : SyncMsg) (s : State) : Res :=
  if ¬ fpOk s p ∨ ¬ (fport s p).carries then .next s
  else
    match m with
    | .ask t1 => .next (emit (.link p "SYNC" [t1, s.tb, s.tb]) s)
    | .answer t1 t2 t3 =>
      if s.fab.parent = some p ∧ ¬ s.fab.isFm ∧ flag s Reg.FAB_SYNC_CFG 0 then
        .next (applySync ((((t2 : Int) - t1) - ((s.tb : Int) - t3)) / 2) s)
      else .next s

/-- SYNC_EXCHANGE_TIMER (R530): a child starts an exchange every INTERVAL_US. -/
def execSyncExchangeTimer (s : State) : Res :=
  match s.fab.parent with
  | some p =>
    if (fport s p).carries ∧ flag s Reg.FAB_SYNC_CFG 0 ∧ ¬ s.fab.isFm then
      let s := until_ (s.fab.syncAt + 1000 * clampTo 10 500 (fld s Reg.FAB_SYNC_CFG 9 1)) s
      .next (emit (.link p "SYNC" [s.tb]) (onFab (fun f => { f with syncAt := s.tb }) s))
    else .next s
  | none => .next s

/-- SYNC_HOLDOVER_EXPIRE (R531): 10 ms without SYNC. -/
def execSyncHoldoverExpire (s : State) : Res :=
  if s.fab.locked ∧ ¬ s.fab.isFm then .next (setLocked false (until_ (s.fab.lastSync + 10000000) s)) else .next s

end Sys2Proof.Machine
end

