-- ==== Sys2Proof/Machine/Mailbox.lean ====
section
/-! DEFINITION. Mailbox commands (R95 to R100) but for those of SEC and of the media set, and the fence doorbell (R104). -/

namespace Sys2Proof.Machine

open Sys2Proof

/-! ### What every mailbox command passes (R98, R99, R558) -/

/-- Commands that Recovery mode and Tamper-Lock accept (R99). -/
def lockedOk (opc : Nat) : Bool := [0x4000, 0x0100, 0x0101, 0x0200, 0x0201, 0x0202, 0xC030].contains opc

/-- Commands that ROM recovery accepts, from any master (R622). -/
def romOk (opc : Nat) : Bool := [0x4000, 0x0200, 0x0201, 0x0202].contains opc

/-- The master behind a mailbox. -/
def mailboxOf (p : Nat) : Master := .hm (Fin.ofNat 4 p)

/-- Why a mailbox command fails before its own checks, if it does. -/
def mboxDeny (p opc : Nat) (owner : Bool) (s : State) : Option String :=
  if s.mgt.boot.mode = 2 then (if romOk opc then none else some "UNSUPPORTED")
  else if (s.mgt.boot.mode = 1 ∨ s.sec.lock ≠ 0) ∧ ¬ lockedOk opc then some "LOCKED"
  else if owner ∧ (¬ isOwner s (mailboxOf p) ∨ s.mgt.own.handover.isSome) then some "NOT_OWNER"
  else none

/-- Run a mailbox command of port p, or answer why not. -/
def mbox (p opc : Nat) (owner : Bool) (f : State → State) (s : State) : Res :=
  if ¬ serves s p then .next s
  else
    let s := tally Ctr.HPT_MBOX_CMD 1 s
    match mboxDeny p opc owner s with
    | some st => .next (mboxDone p opc st [] s)
    | none => .next (f s)

/-- The answer of a command that completes at once, with the fields of its payload: bytes and value of each. -/
def done (p opc : Nat) (payload : List (Nat × Nat)) (s : State) : State := mboxDone p opc "SUCCESS" (payloadOf payload) s

def invalid (p opc : Nat) (s : State) : State := mboxDone p opc "INVALID_INPUT" [] s

/-- A valid binding on port p names enclave e; open memory needs none (R551). -/
def bindingNames (s : State) (p e : Nat) : Bool := e == 0 || (List.range 4).any fun i => bindingOf s p i == e

/-- The trailer's checks (R551, R558): the session is established on the port, SEQ rises, the MAC is right. -/
def trailerOk (s : State) (p : Nat) (t : Trailer) : Bool :=
  t.macOk && s.sec.sessions.any (fun x => x.id == t.session && x.port == p && x.established && decide (x.lastSeq < t.seq))

/-- Take a trailer: its enclave and the state with its SEQ recorded; or the failure, reported. -/
def takeTrailer (p : Nat) (t : Trailer) (s : State) : Option Nat × State :=
  if trailerOk s p t then
    if bindingNames s p t.encl then
      (some t.encl, onSec (fun x => { x with sessions := x.sessions.map fun y =>
        if y.id = t.session then { y with lastSeq := t.seq } else y }) s)
    else (none, s)
  else (none, raise Ev.spdmAuthFail 0 p (tally Ctr.SEC_AUTH_FAIL 1 s))

/-- A command that may carry a trailer: its enclave, 0 without one. -/
def withEnclave (p opc : Nat) (tr : Option Trailer) (f : Nat → State → State) (s : State) : State :=
  match tr with
  | none => f 0 s
  | some t =>
    match takeTrailer p t s with
    | (some e, s) => f e s
    | (none, s) => mboxDone p opc "ENCLAVE_DENIED" [] s

/-- A background command runs on the port's mailbox. -/
def bgBusy (s : State) (p : Nat) : Bool :=
  s.cache.ops.any (·.port == p) || s.cache.fences.any (fun f => f.port == p && f.via == .mailbox) ||
    s.mgt.boot.transfer == some p || s.rsv.waiters.any (·.1 == p) || s.sec.unlock == some p || (s.mgt.nv.job.bind NvJob.stage) == some p

/-- Start a background command unless one runs: it takes its tracker entry (R96). -/
def background (p opc : Nat) (f : State → State) (s : State) : State :=
  if bgBusy s p then mboxDone p opc "BUSY" [] s else f (cmdBegin p opc s)

/-- A background command ends with a status. -/
def bgEnd (p opc : Nat) (status : String) (s : State) : State := bgDone p opc status [] s

/-! ### Immediate commands -/

/-- IDENTIFY_MEMORY_DEVICE (R80). -/
def execIdentifyMemoryDevice (p : Nat) (s : State) : Res :=
  mbox p 0x4000 false (done p 0x4000 [(8, s.hpt.dsize), (8, 0), (8, 2 ^ 28)]) s

/-- The severity of a CXL event log: Fatal 0, Failure 1, Warning 2, Informational 3 (R638). -/
def logSev (log : Nat) : Sev :=
  match log with
  | 0 => .critical | 1 => .error | 2 => .warning | _ => .info

/-- Events that hosts see as General Media Event Records (R111, R638). -/
def generalMedia (e : QEntry) : Bool := [Ev.cchUncorr.code, Ev.medReadErr.code, Ev.hpPoisonRx.code].contains e.code

/-- The CXL event record of an entry (R638): its kind, 0 a General Media and 1 a Vendor Specific Event Record, and its handle; then a
General Media record's time and what the event says of the place, or the 32 B of the entry. -/
def eventRecord (e : QEntry) : List (Nat × Nat) :=
  if generalMedia e then [(1, 0), (2, e.seq % 65536), (8, e.tb), (8, e.data)]
  else [(1, 1), (2, e.seq % 65536)] ++ (List.range 8).map fun i => (4, (entryWord e i).toNat)

/-- GET_EVENT_RECORDS (R111, R638): the live entries of a log, with the overflow indication and their number first; READ is not set. -/
def execGetEventRecords (p log : Nat) (s : State) : Res :=
  mbox p 0x0100 false (fun s =>
    let es := s.io.q.filter (·.sev == logSev log)
    let ovf := if (regOf s.io Reg.EVT_DROP).toNat = 0 then 0 else 1
    done p 0x0100 ((1, ovf) :: (2, es.length) :: es.flatMap eventRecord) s) s

/-- Release the live entry with a record handle, the lower SEQ first (R638). -/
def releaseHandle (h : Nat) (s : State) : State :=
  match s.io.q.find? fun e => e.seq % 65536 == h % 65536 with
  | some e => onIo (qRelease (env s) e.seq) s
  | none => s

/-- CLEAR_EVENT_RECORDS (R638). -/
def execClearEventRecords (p : Nat) (handles : List Nat) (s : State) : Res :=
  mbox p 0x0101 true (fun s => done p 0x0101 [] (eachIn handles releaseHandle s)) s

/-- Lines with a persistent poison locator, as GA[59:6] (R338). -/
def persistLines (s : State) : List Nat :=
  s.med.jrnl.idx.flatMap fun e => (List.range 4).filterMap fun j =>
    if ((e.2.locs.getD j none).map (·.persist)).getD false then some (4 * (devId s * 2 ^ 40 + e.1) + j) else none

/-- GET_POISON_LIST (R111, R338). -/
def execGetPoisonList (p : Nat) (s : State) : Res :=
  mbox p 0x4300 false (fun s =>
    let all := s.cache.poison ++ (persistLines s).filter fun x => !(s.cache.poison.contains x)
    done p 0x4300 ((2, all.length) :: all.map fun x => (8, x * 64)) s) s

/-- A write of one whole line by the device itself. -/
def ownWrite (da sk : Nat) (data : Line) (poison : Bool) (s : State) : State :=
  serve { Txn.blank with pool := .internal, src := .engine, kind := .wb, da := da, sk := sk, line := da / 64 % 4,
                         encl := ((rangeOf s (skSo sk)).map (·.encl)).getD 0, data := data, mask := fullMask,
                         poison := poison } s

/-- INJECT_POISON (R54, R95): the line is written poisoned and stands in the poison list. -/
def execInjectPoison (p da : Nat) (s : State) : Res :=
  mbox p 0x4301 true (fun s =>
    match mapDa s da with
    | .error why => invalid p 0x4301 (tellUnmapped why da p s)
    | .ok sk => done p 0x4301 [] (ownWrite da sk 0 true (addPoison sk (da / 64 % 4) s))) s

/-- CLEAR_POISON (R54, R95, R338): the line is written with the data given, which supersedes persistent poison, and leaves the
poison list. -/
def execClearPoison (p da : Nat) (data : Line) (s : State) : Res :=
  mbox p 0x4302 true (fun s =>
    match mapDa s da with
    | .error why => invalid p 0x4302 (tellUnmapped why da p s)
    | .ok sk =>
      let s := onCache (fun c => { c with poison := c.poison.filter (· != 4 * sk + da / 64 % 4) }) s
      done p 0x4302 [] (ownWrite da sk data false s)) s

/-- GET_SHUTDOWN_STATE (R79, R113): the state that the host set, and the dirty shutdown count. -/
def execGetShutdownState (p : Nat) (s : State) : Res :=
  mbox p 0x4303 false (done p 0x4303 [(1, if (port s p).shutDirty then 1 else 0), (4, s.mgt.nv.dirtyCnt)]) s

/-! The table has no row for the commands below, which R79 lists; they are here as CXL 3.1 has them. -/

/-- Set Shutdown State (R79): the host says that it holds dirty data for the device, or no longer does. -/
def setShutdownState (p : Nat) (dirty : Bool) (s : State) : Res :=
  mbox p 0x4304 false (fun s => done p 0x4304 [] (onPort p (fun x => { x with shutDirty := dirty }) s)) s

/-- Set Timestamp (R79): the time since 1970 in ns. -/
def setTimestamp (p ns : Nat) (s : State) : Res :=
  mbox p 0x0301 false (fun s => done p 0x0301 [] (onPort p (fun x => { x with stamp := some (ns, s.tb) }) s)) s

/-- Get Timestamp (R79): the value last set and what has passed since, or 0. -/
def getTimestamp (p : Nat) (s : State) : Res :=
  mbox p 0x0300 false (done p 0x0300 [(8, ((port s p).stamp.map fun x => x.1 + (s.tb - x.2)).getD 0)]) s

/-- What Get FW Info says of a slot: present, version. -/
def slotInfo (i : Option Image) : List (Nat × Nat) :=
  match i with
  | some x => [(1, 1), (2, x.ver.1), (2, x.ver.2.1), (2, x.ver.2.2)]
  | none => [(1, 0), (2, 0), (2, 0), (2, 0)]

/-- GET_FW_INFO (R95). -/
def execGetFwInfo (p : Nat) (s : State) : Res :=
  mbox p 0x0200 false (fun s =>
    let f := s.mgt.flash
    done p 0x0200 (slotInfo f.mcfA ++ slotInfo f.mcfB ++ slotInfo f.pcfA ++ slotInfo f.pcfB ++
      [(1, f.mcfActive), (1, if f.mcfPending then 1 else 0), (1, f.pcfActive), (1, if f.pcfPending then 1 else 0)]) s) s

/-! ### Firmware (R100, R619, R622, R623) -/

def onFlash (f : Flash → Flash) (s : State) : State := { s with mgt := { s.mgt with flash := f s.mgt.flash } }

/-- An image as the slot of its type that is not running, or the recovery image; ROM recovery writes MCF slot A. -/
def putImage (typ : Nat) (rom : Bool) (i : Option Image) (f : Flash) : Flash :=
  match typ with
  | 1 => if rom ∨ f.mcfActive = 1 then { f with mcfA := i } else { f with mcfB := i }
  | 2 => if f.pcfActive = 1 then { f with pcfA := i } else { f with pcfB := i }
  | _ => { f with recov := i }

/-- The image that Activate FW would arm. -/
def inactive (typ : Nat) (rom : Bool) (f : Flash) : Option Image :=
  match typ with
  | 1 => if rom ∨ f.mcfActive = 1 then f.mcfA else f.mcfB
  | 2 => if f.pcfActive = 1 then f.pcfA else f.pcfB
  | _ => f.recov

/-- A slot is valid when header, body and signature check, under a key that is not revoked (R619, R621). -/
def imageOk (s : State) (i : Image) : Bool :=
  i.bodyOk && (match i.sigKey with | some k => !(s.sec.revoked.contains k) | none => false)

/-- A DMA channel is secure (R565): by DMA_ATTR until ASSIGN_LOCK is set, and in start-up and Recovery; then channels 16 to 19 are. -/
def dmaSecure (s : State) (c : Nat) : Bool :=
  if flag s Reg.SEC_ASSIGN_LOCK 0 && s.mgt.boot.mode == 0 && s.rsv.pst != .startup then decide (16 ≤ c) && decide (c ≤ 19)
  else flag s Reg.SEC_DMA_ATTR c

/-- The boot flash is a secure target, and MGT reaches it over channel 16: without the attribute its transfer is aborted (R565). -/
def flashAbort (s : State) : State := raise Ev.secAttrFault 0 16 (tally Ctr.SEC_ATTR_FAULT 1 s)

/-- TRANSFER_FW (R96, R619), a background command: body parts first, which leave the slot invalid; the header last, which makes it
whole. -/
def execTransferFw (p typ : Nat) (last : Bool) (img : Image) (s : State) : Res :=
  let rom := s.mgt.boot.mode == 2
  mbox p 0x0201 (!rom) (fun s =>
    if typ < 1 ∨ 3 < typ ∨ img.typ ≠ typ ∨ (rom ∧ typ = 2) then invalid p 0x0201 s
    else
      let run := fun (s : State) =>
        if ¬ dmaSecure s 16 then
          bgEnd p 0x0201 "INTERNAL_ERROR" (onBoot (fun b => { b with transfer := none }) (flashAbort s))
        else if ¬ last then onBoot (fun b => { b with transfer := some p }) (onFlash (putImage typ rom none) s)
        else
          let s := onBoot (fun b => { b with transfer := none }) s
          if rom ∧ ¬ imageOk s img then bgEnd p 0x0201 "INVALID_INPUT" (onFlash (putImage typ rom none) s)
          else bgEnd p 0x0201 "SUCCESS" (onFlash (putImage typ rom (some img)) s)
      if s.mgt.boot.transfer = some p then run s
      else if s.mgt.boot.transfer.isSome then mboxDone p 0x0201 "BUSY" [] s
      else background p 0x0201 run s) s

/-- ACTIVATE_FW (R100, R622, R623): armed for the next reset; online activation is refused. -/
def execActivateFw (p typ : Nat) (online : Bool) (s : State) : Res :=
  let rom := s.mgt.boot.mode == 2
  mbox p 0x0202 (!rom) (fun s =>
    if online ∨ typ < 1 ∨ 3 < typ ∨ (inactive typ rom s.mgt.flash).isNone then invalid p 0x0202 s
    else if ¬ dmaSecure s 16 then mboxDone p 0x0202 "INTERNAL_ERROR" [] (flashAbort s)
    else
      let s := onFlash (fun f => match typ with
        | 1 => { f with mcfPending := true, seq := f.seq + 1 }
        | 2 => { f with pcfPending := true, seq := f.seq + 1 }
        | _ => f) s
      let s := if rom then onBoot (fun b => { b with romAct := some s.tb }) s else s
      done p 0x0202 [] s) s

/-! ### Range commands -/

/-- A range command over DA, in bytes (R49, R95, R96). -/
def rangeCmd (p opc stage da len : Nat) (tr : Option Trailer) (s : State) : Res :=
  mbox p opc false (fun s =>
    if da % 256 ≠ 0 ∨ len % 256 ≠ 0 then invalid p opc s
    else
      withEnclave p opc tr (fun e s =>
        background p opc (fun s =>
          let seg := if len = 0 then [] else [(da / 256, (da + len) / 256)]
          let o : RangeOp := { port := p, opcode := opc, stage := stage, segs := seg, all := seg, encl := e,
                               setEncl := none, binds := [], status := [], waits := [], flushing := [] }
          settle (onCache (fun c => { c with ops := c.ops ++ [o] }) s)) s) s) s

/-- ZALLOC (R95, R183): the engine then does one sector per ZALLOC_SECTOR_OP. -/
def execZalloc (p da len : Nat) (tr : Option Trailer) (s : State) : Res := rangeCmd p Mb.zalloc 1 da len tr s

/-- PREFETCH (R95). -/
def execPrefetch (p da len : Nat) (tr : Option Trailer) (s : State) : Res := rangeCmd p Mb.prefetch 1 da len tr s

/-- PIN (R97). -/
def execPin (p da len : Nat) (tr : Option Trailer) (s : State) : Res := rangeCmd p Mb.pin 1 da len tr s

/-- UNPIN (R95). -/
def execUnpin (p da len : Nat) (tr : Option Trailer) (s : State) : Res := rangeCmd p Mb.unpin 1 da len tr s

/-- FLUSH (R95). -/
def execFlush (p da len : Nat) (tr : Option Trailer) (s : State) : Res := rangeCmd p Mb.flush 2 da len tr s

/-- INVAL (R97). -/
def execInval (p da len : Nat) (tr : Option Trailer) (s : State) : Res := rangeCmd p Mb.inval 1 da len tr s

/-- ZALLOC_SECTOR_OP (R183): the zero-allocate engine takes the next sector of a ZALLOC, ENCLAVE_CREATE or
ENCLAVE_DESTROY of port p. -/
def execZallocSectorOp (p : Nat) (s : State) : Res :=
  match s.cache.ops.find? fun o => o.port == p && o.stage == 1 && !o.segs.isEmpty &&
      (o.opcode == Mb.zalloc || o.setEncl.isSome) with
  | none => .next s
  | some o =>
    match opSector o s with
    | some s => .next (settle s)
    | none => .next s

/-! ### Fences (R101 to R104, R193) -/

/-- The limits of a fence: of one port, or of every port. -/
def fenceLimits (s : State) (p : Nat) (all : Bool) : List (Nat × Nat) :=
  if all then (List.range (portCount s)).map fun q => (q, s.cache.wseq.getD q 0) else [(p, s.cache.wseq.getD p 0)]

/-- A fence is issued. -/
def issueFence (f : Fence) (s : State) : State :=
  settle (onCache (fun c => { c with fences := c.fences ++ [f] }) s)

/-- A mailbox fence: the 4 B payload's bit 0 is SCOPE_ALL, the others must be 0 (R193). -/
def mboxFence (p opc payload : Nat) (dfence : Bool) (s : State) : Res :=
  mbox p opc false (fun s =>
    if 2 ≤ payload then invalid p opc s
    else background p opc (fun s => issueFence ⟨dfence, p, fenceLimits s p (payload == 1), .mailbox⟩ s) s) s

/-- DFENCE (R193). -/
def execDfence (p payload : Nat) (s : State) : Res := mboxFence p 0xC010 payload true s

/-- OFENCE (R193). -/
def execOfence (p payload : Nat) (s : State) : Res := mboxFence p 0xC011 payload false s

/-- Doorbell fences of a port that are outstanding. -/
def doorbells (s : State) (p : Nat) : Nat :=
  (s.cache.fences.filter fun f => f.port == p && (match f.via with | .doorbell _ _ => true | _ => false)).length

/-- A write of FENCE_DB (R104): the 17th outstanding is discarded. -/
def doorbell (p seq : Nat) (irq dfence : Bool) (s : State) : Res :=
  if ¬ offers s p then .next s
  else if 16 ≤ doorbells s p then .next (raise Ev.hpFenceOvf 0 p (onPort p (fun x => { x with ovf := true }) s))
  else
    let s := onPort p (fun x => { x with ovf := false }) s
    .next (issueFence ⟨dfence, p, fenceLimits s p false, .doorbell (seq % 65536) irq⟩ s)

/-- DOORBELL_DFENCE (R104). -/
def execDoorbellDfence (p seq : Nat) (irq : Bool) (s : State) : Res := doorbell p seq irq true s

/-- DOORBELL_OFENCE (R104). -/
def execDoorbellOfence (p seq : Nat) (irq : Bool) (s : State) : Res := doorbell p seq irq false s

/-- GPF_PHASE1 (R103): RwD credits are withheld on every port. The spec does not say when they are given back: DESIGN CHOICE, with the
port's next link-down or link-up (log 72). -/
def execGpfPhase1 (p : Nat) (s : State) : Res :=
  if ¬ serves s p then .next s
  else
    let s := onHpt (fun h => { h with ports := h.ports.map fun x => { x with gpf := true } }) s
    .next (emit (.cxl p 0 "GPFPhase1Cpl" none false) s)

/-- GPF_PHASE2 (R103, R193): a DFENCE over all ports. -/
def execGpfPhase2 (p : Nat) (s : State) : Res :=
  if ¬ serves s p then .next s else .next (issueFence ⟨true, p, fenceLimits s p true, .gpf⟩ s)

/-! ### Atomics (R100, R221, R225) -/

/-- Widths of the mailbox ATOMIC (R100). -/
def mailAtomic (a : Atom) : Bool :=
  a.width == 1 || a.width == 2 || a.width == 4 || a.width == 8 || (a.width == 16 && a.op == .cas)

/-- An atomic or APPEND of a mailbox goes to its sector. -/
def mailReq (p opc da e : Nat) (k : Kind) (data : Line) (s : State) : State :=
  let t := { Txn.blank with pool := .host p, src := .mbox p, kind := k, tag := opc, da := da, line := da / 64 % 4,
                            encl := e, data := data }
  match mapDa s da with
  | .error why => answer t "AtomicCpl" none true (tellUnmapped why da p s)
  | .ok sk => serve { t with sk := sk } s

/-- ATOMIC (R100, R221). -/
def execAtomic (p da : Nat) (a : Atom) (tr : Option Trailer) (s : State) : Res :=
  mbox p 0xC020 false (fun s =>
    if ¬ mailAtomic a ∨ da % a.width ≠ 0 then invalid p 0xC020 s
    else withEnclave p 0xC020 tr (fun e s => mailReq p 0xC020 da e (.atomic { a with off := da % 64 }) 0 s) s) s

/-- APPEND (R100, R225, R226): a record of up to 64 B. -/
def execAppend (p da len : Nat) (data : Line) (tr : Option Trailer) (s : State) : Res :=
  mbox p 0xC021 false (fun s =>
    if da % 64 ≠ 0 ∨ len = 0 ∨ 64 < len then invalid p 0xC021 s
    else withEnclave p 0xC021 tr (fun e s => mailReq p 0xC021 da e (.append len) data s) s) s

end Sys2Proof.Machine
end

