-- ==== Sys2Proof/Machine/Create.lean ====
section
/-! DEFINITION. The media set: its members (R67, R679), and its creation, whose writes go to media in the order of R71. -/

namespace Sys2Proof.Machine

open Sys2Proof

/-! ### Members (R67, R679) -/

/-- Namespaces found: port, blocks, label. -/
def foundAll (s : State) : List (Nat × Nat × Option Label) :=
  (List.range 8).flatMap fun i => (s.med.ports.getD i MPort.off).found.map fun x => (i, x.1, x.2)

/-- A namespace behind some port carries a valid label (R71). -/
def anyLabel (s : State) : Bool := s.med.ports.any (·.labelled)

/-- Members of the media set: their labels and ports. Which identifier is the set's is no rule of the spec: DESIGN CHOICE, the set that
this part made or mounted last (log 62). -/
def memberLabels (s : State) : List (Label × Nat) :=
  match s.med.media.set_ with
  | none => []
  | some m => (foundAll s).filterMap fun x => x.2.2.bind fun l => if l.mset = m.mset then some (l, x.1) else none

/-- Members: namespace index and port. -/
def members (s : State) : List (Nat × Nat) := (memberLabels s).map fun x => (x.1.idx, x.2)

/-- JL (R68): a share of J GiB, rounded up to whole slots. -/
def jlOf (gib n : Nat) : Nat := ceilDiv (ceilDiv (gib * 2 ^ 18) n) 64 * 64

/-- The labels pass R71 under R679: the members agree on N, J, HL and layout version, and no index stands twice or beyond N. -/
def labelsOk (s : State) : Bool :=
  match memberLabels s with
  | [] => false
  | (l, p) :: r =>
    let is := l.idx :: r.map (·.1.idx)
    ((l, p) :: r).all (fun x => x.1.n == l.n && x.1.jgib == l.jgib && x.1.hl == l.hl && x.1.ver == l.ver) &&
      decide (is.eraseDups.length = is.length) && is.all fun i => decide (i < l.n)

/-- The layout that the labels of the members give (R68, R71). -/
def layoutOf (s : State) (m : MSet) : MSet :=
  match memberLabels s with
  | [] => m
  | (l, _) :: _ => { m with n := l.n, jgib := l.jgib, hl := l.hl, jl := jlOf l.jgib l.n }

/-- Every port has reported: members are admitted at their index, the others are lost (R679). -/
def admitSet (s : State) : State :=
  let s := onMedia (fun m => { m with set_ := m.set_.map (layoutOf s) }) s
  let ms := members s
  let port_ := fun (i : Nat) => ((ms.find? fun x => x.1 == i).map (·.2)).getD 8
  let gone := (List.range (mset s).n).filter fun i => port_ i == 8 && !(mset s).lost.contains i
  let s := onMedia (fun m => { m with set_ := m.set_.map fun t =>
    { t with nsPort := (List.range t.n).map port_, lost := t.lost ++ gone } }) s
  if ms.isEmpty then s else eachIn gone (fun ns s => raise Ev.medNsLost 0 ns s) s

/-! ### Creation (R68, R71) -/

/-- NB (R327), for a journal of J GiB and 2^n sets. -/
def bucketsOf (jgib n : Nat) : Nat := min (jgib * 2 ^ 19) (2 ^ (n - 1))

/-- Members and geometry of a new set, from MED.LAYOUT; none where too few namespaces are eligible. -/
def newSet (id : Nat) (s : State) : Option MSet :=
  let want := fld s Reg.MED_LAYOUT 5 0
  let gib := fld s Reg.MED_LAYOUT 15 6
  let use := (foundAll s).take (if want = 0 then 32 else want)
  let n := use.length
  if n = 0 ∨ n < want then none
  else
    let jl := jlOf gib n
    let least := (use.map (·.2.1)).foldl min (2 ^ 40)
    some { n := n, jl := jl, hl := (least - 256 - jl) / 64 * 64, jgib := gib, mset := id,
           nsPort := use.map (·.1), lost := [] }

/-- The label of namespace i of a set (R68). -/
def labelOf (s : State) (m : MSet) (i : Nat) : Label := ⟨s.fab.serial, devId s, m.mset, i, m.n, m.jgib, m.hl, Config.layoutVersion⟩

/-- The namespaces of the two checkpoint copies: of two ports where there are two (R341). -/
def copyPair (m : MSet) : Nat × Nat :=
  (0, ((List.range m.n).find? fun i => m.nsPort.getD i 8 != m.nsPort.getD 0 8).getD (if 1 < m.n then 1 else 0))

/-- The checkpoint of series 1 (R71): every stream empty, its head and tail at slot 0. -/
def firstCkpt (m : MSet) (s : State) : Ckpt :=
  let c : Ckpt := {
    series := 1, pseqAt := 1, heads := List.replicate m.n 0, tails := List.replicate m.n 0, tops := List.replicate m.n 0,
    geom := [m.jgib, m.n, bucketsOf m.jgib s.hpt.setBits, stepping s], d := 0, rot := none, rots := [], poison := [], retired := [],
    retiredJsn := [], gen := 0, springJsn := 0, incarn := s.mgt.nv.incarn, segs := 1, copies := 2, places := [], anchors := List.range m.n }
  let p := copyPair m
  { c with places := if p.1 = p.2 then [(p.1, 0), (p.1, 1)] else [(p.1, 0), (p.2, 0)] }

/-- What a creation leaves in the journal parts: the two copies of the checkpoint of series 1, then two CLOSE records. -/
def firstPages (a b : Nat) (s : State) : List (Nat × Nat × JRec) :=
  let ck := { plainRec .ckpt (2 ^ 16 + 2 ^ 32) (firstCkpt (mset s) s).words with free_ := true }
  let cl := { plainRec .close (2 ^ 16) [0, 1, s.mgt.nv.incarn, 0, 0, 0, 0, 0] with free_ := true }
  if a = b then [(a, 0, ck), (a, 1, ck), (a, 2, cl), (a, 3, cl)] else [(a, 0, ck), (b, 0, ck), (a, 1, cl), (b, 1, cl)]

/-- The pages of a new set. -/
def newPages (m : MSet) (s : State) : List (Nat × Nat × JRec) := firstPages (copyPair m).1 (copyPair m).2 s

/-- The writes of a step: namespace and LBA. -/
def stepWrites (m : MSet) (s : State) (step : Nat) : List (Nat × Nat) :=
  let each := fun (lba : Nat) => (List.range m.n).map fun i => (i, lba)
  let pages := (newPages m s).map fun x => (x.1, 256 + x.2.1)
  match step with
  | 0 => each 0
  | 1 => each 128
  | 2 => each 1
  | 3 => each 129
  | 4 => pages.take 2
  | 5 => each 65
  | 6 => pages.drop 2
  | _ => []

/-- Send a write of the step, if it has no command yet and its port takes one. -/
def makeSend (m : MSet) (x : Nat × Nat) (s : State) : State :=
  let i := m.nsPort.getD x.1 8
  let busy := (s.med.ports.getD i MPort.off).cmds.any fun d => d.what == .create && d.ns == x.1 && d.lba == x.2
  if busy ∨ ¬ portOk s i ∨ ¬ slotFree s i 1 ∨ s.sec.quenched then s else sendCmd i x.1 x.2 .create false s

/-- Send the writes of the step that have no command yet. -/
def makePump (s : State) : State :=
  match s.med.jrnl.making with
  | none => s
  | some c => eachIn c.left (makeSend c.set_) s

/-- Begin a new media set from MED.LAYOUT (R71): its key is drawn, and the labels are written first. None where too few namespaces are
eligible: those that meet the requirements of R67 and R317 and carry no label of another set, DESIGN CHOICE (log 62). -/
def createSet (host : Option Nat) (s : State) : Option State :=
  let (id, s) := draw s
  (newSet (id % 2 ^ 32) s).map fun m =>
    let (tok, s) := drawKey s
    let stream := fun (ns : Nat) => let n := ((newPages m s).filter (·.1 == ns)).length; JStream.mk 0 0 n n [] false
    let s := onMedia (fun _ => { Media.blank with set_ := some m }) s
    let s := onSec (fun x => { x with
      media := [(0, ⟨0, tok, none⟩)], ranges := [], area := none, escrow := (x.escrow <|> x.area.map (·.escrow)),
      areaQ := [], areaA := [], areaB := [], unlock := none }) s
    makePump (onJrnl (fun j => { j with
      idx := [], nb := bucketsOf m.jgib s.hpt.setBits, streams := (List.range m.n).map stream, pseq := 5, series := 1, rot := none,
      ckptAt := s.tb, unrec := false, retired := [], making := some ⟨m, tok, host, 0, stepWrites m s 0⟩ }) s)

/-- The namespaces of the set carry its labels: those found, in order. -/
def relabel (m : MSet) (s : State) : State :=
  let ps := s.med.ports
  let base := fun (i : Nat) => sumN ((ps.take i).map (·.found.length))
  let one := fun (i : Nat) (p : MPort) =>
    { p with labelled := p.labelled || !p.found.isEmpty, found := p.found.zipIdx.map fun x =>
        (x.1.1, if base i + x.2 < m.n then some (labelOf s m (base i + x.2)) else x.1.2) }
  { s with med := { s.med with ports := ps.zipIdx.map fun x => one x.2 x.1 } }

/-- Record pages on media, with the PSEQ of their place among the new set's pages. -/
def putPages (m : MSet) (from_ : Nat) (s : State) : State :=
  let ps := (((newPages m s).zipIdx.drop from_).take 2).map fun x => (pageKey x.1.1 x.1.2.1, JPage.mk (x.2 + 1) [x.1.2.2] false)
  onMedia (fun x => { x with pages := ps.foldl (fun t p => tblPut t p.1 p.2) x.pages }) s

/-- What the completion of a step brings into force. -/
def stepDone (c : Creation) (s : State) : State :=
  match c.step with
  | 1 => relabel c.set_ s
  | 3 => onSec (fun x => { x with area := some ⟨1, x.escrow.getD 0, [(0, ⟨0, c.key, none⟩)], []⟩ }) s
  | 4 => putPages c.set_ 0 s
  | 5 => onJrnl (fun j => { j with ckptAt := s.tb }) (onMedia (fun x => { x with ckpts := [firstCkpt c.set_ s] }) s)
  | 6 => onMedia (fun x => { x with closed := some true }) (putPages c.set_ 2 s)
  | _ => s

/-- A write of a creation has completed; the last of its step lets the next step begin. -/
def makeDone (ns lba : Nat) (s : State) : State :=
  match s.med.jrnl.making with
  | none => s
  | some c =>
    let left := c.left.filter (· != (ns, lba))
    if left.isEmpty then
      let s := stepDone c s
      makePump (onJrnl (fun j => { j with making := some { c with step := c.step + 1, left := stepWrites c.set_ s (c.step + 1) } }) s)
    else onJrnl (fun j => { j with making := some { c with left := left } }) s

/-- A creation loses one of its ports: it cannot complete. The journal is then unrecoverable until a new MEDIA_FORMAT, and the one that
runs ends: DESIGN CHOICE (log 62). -/
def makeFail (p : Nat) (s : State) : State :=
  match s.med.jrnl.making with
  | none => s
  | some c =>
    if ¬ c.set_.nsPort.contains p then s
    else
      let drop := fun (x : MPort) => { x with cmds := x.cmds.filter (·.what != .create) }
      let s := { s with med := { s.med with ports := s.med.ports.map drop } }
      let s := raise Ev.jrnlUnrecoverable 0 0 (onJrnl (fun j => { j with making := none, unrec := true }) s)
      match c.host with
      | some h => bgEnd h 0xC040 "INTERNAL_ERROR" s
      | none => s

/-- A MEDIA_FORMAT ends as its creation is complete. -/
def makeEnd (s : State) : State :=
  match s.med.jrnl.making with
  | some c =>
    if c.step = 7 then
      let s := onJrnl (fun j => { j with making := none }) s
      match c.host with
      | some h => bgEnd h 0xC040 "SUCCESS" s
      | none => s
    else s
  | none => s

end Sys2Proof.Machine
end

