-- ==== Sys2Proof/Machine/MediaIo.lean ====
section
/-! DEFINITION. Completions of media commands (R315, R318, R325, R331, R341, R349, R350), their timeouts and controller resets
(R318), and the loss of a port (R351, R352). -/

namespace Sys2Proof.Machine

open Sys2Proof

/-- What follows a completion. -/
def mediaOn (s : State) : State := drainPump (settle (sinterPump (ckptPump s)))

def onCmd (cid : Nat) (f : Cmd → Cmd) (s : State) : State :=
  { s with med := { s.med with ports := s.med.ports.map fun p => { p with
      cmds := p.cmds.map fun c => if c.cid = cid then f c else c } } }

/-- Issue a command again in its slot (R318, R349). -/
def reissue (c : Cmd) (s : State) : State :=
  let rd := match c.what with
    | .fill _ _ | .sinterRd _ => true
    | _ => false
  emit (.nvme c.port c.cid (nvmeOp rd) c.ns c.lba)
    (onCmd c.cid (fun c => { c with at_ := s.tb, abortAt := none, lost := false }) s)

/-- Lines of a request that come from a place on media. -/
def linesFrom (s : State) (t : Txn) (ns lba : Nat) : List Nat :=
  t.want.filter fun j => srcRead s (lineSrc s t.sk j) == some (ns, lba)

/-- A command of a squashed run-ahead fetch (R141, R142). -/
def specCid (s : State) (cid : Nat) : Bool := s.cache.specHeld.any (·.contains cid)

/-- It is done: a fetch of which no command is left gives its TAG_SPEC place back (R138). -/
def dropSpec (cid : Nat) (s : State) : State :=
  onCache (fun x => { x with specHeld := (x.specHeld.map fun l => l.filter (· != cid)).filter fun l => !l.isEmpty }) s

/-- A read of a fill is consumed: the requests that wait for it have one read less; its lines are bad after an error. -/
def fillRead (c : Cmd) (id gen : Nat) (ok : Bool) (s : State) : State :=
  if specCid s c.cid then
    let s := tally Ctr.MED_SPEC_DISCARD 1 (dropSpec c.cid s)
    if ok then s else raise Ev.specMediaErr 0 c.port s
  else
    let here := s.cache.txns.filter fun t => t.reads.contains c.cid
    if here.isEmpty then
      (match txnAt s id with
       | some t => if t.gen = gen then s else raise Ev.trkStaleRsp gen 0 (tally Ctr.TRK_STALE_RSP 1 s)
       | none => raise Ev.trkStaleRsp gen 0 (tally Ctr.TRK_STALE_RSP 1 s))
    else
      eachIn here (fun t s => onTxn t.id (fun u =>
        { u with reads := u.reads.filter (· != c.cid),
                 bad := if ok then u.bad else u.bad ++ (linesFrom s t c.ns c.lba).filter fun j => !u.bad.contains j }) s) s

/-- A read is done, well or not. -/
def readDone (c : Cmd) (ok : Bool) (s : State) : State :=
  match c.what with
  | .fill id gen => fillRead c id gen ok s
  | .sinterRd p => sinterRead p c.ns c.lba ok s
  | _ => s

/-- Count a command and free its slot (R315, R354). -/
def endCmd (c : Cmd) (read ok : Bool) (s : State) : State :=
  let s := tally (if read then Ctr.MED_RD_CMD else Ctr.MED_WR_CMD) 1 (freeCmd c.cid s)
  if ok then s
  else calFail 3 (if read then rcCount Reg.MED_ERR_STS 15 0 1 s else rcCount Reg.MED_ERR_STS 23 16 1 s)

/-- MEDIA_READ_COMPLETION (R331, R349): a failed read is issued once more where RETRY_RD is set; a squashed run-ahead fetch is
not (R142). -/
def execMediaReadCompletion (cid : Nat) (out : MOut) (s : State) : Res :=
  match findCmd s cid with
  | none => .next s
  | some c =>
    if c.lost then .next s else
    match c.what, out with
    | .fill _ _, .aborted | .sinterRd _, .aborted => .next (reissue c s)
    | .fill _ _, .ok | .sinterRd _, .ok => .next (mediaOn (readDone c true (endCmd c true true s)))
    | .fill _ _, .err | .sinterRd _, .err =>
      if flag s Reg.MED_CMD_CFG 20 ∧ ¬ c.retried ∧ ¬ specCid s cid then
        .next (tally Ctr.MED_RD_RETRY 1 (reissue c (onCmd cid (fun c => { c with retried := true }) s)))
      else .next (mediaOn (readDone c false (endCmd c true (specCid s cid) s)))
    | _, _ => .next s

/-- A journal page or summary page write is done, well or not (R168, R325, R350). -/
def pageDone (c : Cmd) (ok : Bool) (s : State) : State :=
  match c.what with
  | .page pseq => if ok then finishPage pseq s else repackPage pseq (raise Ev.medWriteErr 0 c.port s)
  | .summary _ _ _ => if ok then s else raise Ev.medWriteErr 0 c.port s
  | _ => s

/-- A summary page whose write failed is written once more at its place, in its slot (R325). -/
def sumAgain (c : Cmd) (ns g : Nat) (s : State) : State :=
  reissue c (raise Ev.medWriteErr 0 c.port (rcCount Reg.MED_ERR_STS 23 16 1 (calFail 3
    (onCmd c.cid (fun c => { c with what := .summary ns g true }) s))))

/-- A write of a creation is done (R71); one that failed or was aborted is made again. -/
def makeOn (c : Cmd) (out : MOut) (s : State) : State :=
  match c.what, out with
  | .create, .aborted => reissue c s
  | .create, .ok => mediaOn (makeDone c.ns c.lba (endCmd c false true s))
  | .create, .err => makePump (endCmd c false false s)
  | _, _ => s

/-- A write of the label area is done (R341, R543); one that failed is issued again. -/
def labelDone (c : Cmd) (s : State) : State :=
  match c.what with
  | .anchor series => anchorDone series c.ns s
  | .area seq => areaDone c.ns seq (c.lba == 129) s
  | _ => s

/-- SINTER_HOME_WRITE_DONE (R334, R350). -/
def execSinterHomeWriteDone (cid : Nat) (out : MOut) (s : State) : Res :=
  match findCmd s cid with
  | none => .next s
  | some c =>
    if c.lost then .next s else
    match c.what, out with
    | .sinterWr _, .aborted => .next (reissue c s)
    | .sinterWr p, .ok => .next (mediaOn (homeWritten p (endCmd c false true s)))
    | .sinterWr p, .err => .next (mediaOn (homeFailed p (endCmd c false false s)))
    | _, _ => .next s

/-! ### Timeouts (R318) -/

/-- TO_MS in ns. -/
def cmdTo (s : State) : Nat := 1000000 * fld s Reg.MED_CMD_CFG 10 0

/-- A command has run for TO_MS: Abort (R318, step 1). -/
def cmdTimeout (c : Cmd) (s : State) : State :=
  let s := onCmd c.cid (fun c => { c with abortAt := some s.tb }) s
  let s := emit (.nvme c.port c.cid "ABORT" c.ns c.lba) (tally Ctr.MED_ABORT 1 s)
  raise Ev.medCmdTimeout 0 c.port (rcCount Reg.MED_ERR_STS 31 24 1 s)

/-- TO_MS after its Abort: the controller is reset; its commands are lost and keep their slots (R318, step 2). -/
def abortTimeout (c : Cmd) (s : State) : State :=
  let s := onMPort c.port (fun p => { p with
    ctl := { p.ctl with ready := false, resetAt := some s.tb }, cmds := p.cmds.map fun c => { c with lost := true } }) s
  raise Ev.medCtrlReset 0 c.port (emit (.nvme c.port c.cid "RESET" 0 0) (tally Ctr.MED_CTRL_RESET 1 s))

/-- MED_CMD_TIMEOUT (R318, step 1). -/
def execMedCmdTimeout (cid : Nat) (s : State) : Res :=
  match findCmd s cid with
  | none => .next s
  | some c =>
    if c.abortAt.isSome ∨ c.lost then .next s else .next (cmdTimeout c (until_ (c.at_ + cmdTo s) s))

/-- MED_ABORT_TIMEOUT (R318, step 2). -/
def execMedAbortTimeout (cid : Nat) (s : State) : Res :=
  match findCmd s cid with
  | none => .next s
  | some c =>
    match c.abortAt with
    | none => .next s
    | some t =>
      if c.lost then .next s else .next (abortTimeout c (until_ (t + cmdTo s) s))

/-- A reset controller is ready: Flush to each namespace, and its lost commands are issued again (R316, R318, step 3). -/
def ctlBack (p : Nat) (s : State) : State :=
  let s := onMPort p (fun x => { x with ctl := { x.ctl with ready := true, resetAt := none } }) s
  let s := eachIn ((List.range (mset s).n).filter fun ns => nsPort s ns == p) (fun ns s => emit (.nvme p 0 "FLUSH" ns 0) s) s
  mediaOn (eachIn ((s.med.ports.getD p MPort.off).cmds.filter (·.lost)) reissue s)

/-! ### Loss of a port (R351) -/

/-- A command of a lost port fails: reads under R349, journal pages are packed again under R350. -/
def failCmd (c : Cmd) (s : State) : State :=
  match c.what with
  | .fill _ _ | .sinterRd _ => readDone c false (rcCount Reg.MED_ERR_STS 15 0 1 s)
  | .page pseq => repackPage pseq s
  | .summary _ _ _ => s
  | .sinterWr p => homeFailed p s
  | .anchor _ | .area _ | .create => s

/-- Port p is lost. -/
def portLost (p : Nat) (s : State) : State :=
  let s := calFail 3 s
  let x := s.med.ports.getD p MPort.off
  if x.lost ∨ medPortCount s ≤ p then s
  else
    let gone := (List.range (mset s).n).filter fun ns => nsPort s ns == p && !(mset s).lost.contains ns
    let s := onMPort p (fun x => { x with lost := true, link := false, ctl := { x.ctl with ready := false, resetAt := none }, cmds := [] }) s
    let s := onMedia (fun m => { m with set_ := m.set_.map fun t => { t with lost := t.lost ++ gone } }) s
    let s := eachIn gone (fun ns s => onStream ns (fun t => { t with closed := true }) s) s
    let s := makeFail p (raise Ev.medPortLost 0 p s)
    let s := eachIn gone (fun ns s => raise Ev.medNsLost 0 ns s) s
    let s := areaCheck (eachIn x.cmds failCmd s)
    let more := s.med.jrnl.staging.filter fun q => gone.contains q.ns && !q.done
    mediaOn (eachIn more (fun q s => repackPage q.pseq s) s)

/-- Timers past a shorter TO_MS expire at once (R356): commands, their Aborts, and resets. -/
def cmdCfg (s : State) : State :=
  let cs := (s.med.ports.flatMap (·.cmds)).filter (!·.lost)
  let s := eachIn (cs.filter fun c => c.abortAt.isNone && decide (c.at_ + cmdTo s ≤ s.tb)) cmdTimeout s
  let s := eachIn (cs.filter fun c => (c.abortAt.map fun t => decide (t + cmdTo s ≤ s.tb)).getD false) (fun c s =>
    if ((findCmd s c.cid).map (!·.lost)).getD false then abortTimeout c s else s) s
  upTo 8 (fun p s =>
    match (s.med.ports.getD p MPort.off).ctl.resetAt with
    | some t => if t + 2 * cmdTo s ≤ s.tb then portLost p s else s
    | none => s) s

/-- A checkpoint that is due under a shorter CKPT_MS begins at once (R356). -/
def jrnlCfg (s : State) : State :=
  if running s ∧ s.med.media.set_.isSome ∧ s.med.jrnl.ckpt.isNone ∧ s.med.jrnl.making.isNone ∧
      s.med.jrnl.ckptAt + 1000000 * fld s Reg.LDG_JRNL_CFG 30 19 ≤ s.tb then settle ((startCkpt s).getD s)
  else settle s

/-! ### Health (R352) -/

/-- MED reads SMART now. -/
def polled (p : Nat) (s : State) : State := onMPort p (fun x => { x with ctl := { x.ctl with polled := s.tb } }) s

/-- The health that a controller reports. The spec does not say whether a condition that stays is reported again: DESIGN CHOICE, at every
poll while it holds (log 78). -/
def health (p : Nat) (warn : Bool) (used : Nat) (s : State) : State :=
  if (s.med.ports.getD p MPort.off).ctl.ready ∧ (warn ∨ 100 ≤ used) then raise Ev.medDriveHealth 0 p s else s

/-- SMART_POLL (R352), POLL_MS after the last: a Critical Warning bit, and Percentage Used. -/
def execSmartPoll (p : Nat) (warn : Bool) (used : Nat) (s : State) : Res :=
  let x := s.med.ports.getD p MPort.off
  if ¬ x.ctl.ready then .next s
  else .next (health p warn used (polled p (until_ (x.ctl.polled + 1000000 * max 1 (fld s Reg.MED_HEALTH_CFG 15 0)) s)))

/-- NVME_ASYNC_EVENT (R352): the event makes MED read the same page. -/
def execNvmeAsyncEvent (p : Nat) (warn : Bool) (used : Nat) (s : State) : Res :=
  .next (health p warn used (polled p s))

end Sys2Proof.Machine
end

