-- ==== Sys2Proof/Machine/Reserve.lean ====
section
/-! DEFINITION. Reserve banks (R359 to R366), RSV faults (R368), RESERVE_CTL (R367) and calibration (R305 to R307). What the
banks and their chargers do is the environment's; these commands are what RSV observes and decides. -/

namespace Sys2Proof.Machine

open Sys2Proof

/-! ### Banks -/

def bank (s : State) (n : Nat) : Bank := s.rsv.banks.getD n Bank.absent

def onBank (n : Nat) (f : Bank → Bank) (s : State) : State :=
  onRsv (fun r => { r with banks := setAt r.banks n f }) s

/-- Greatest r below 2^16 with r · r ≤ n. -/
def isqrt (n : Nat) : Nat :=
  (List.range 16).foldl (fun r i => if (r + 2 ^ (15 - i)) * (r + 2 ^ (15 - i)) ≤ n then r + 2 ^ (15 - i) else r) 0

/-- V_tgt in mV (R362) for a capacitance in 10 µF. -/
def vTarget (s : State) (n cap : Nat) : Nat :=
  min (100 * fld s (Reg.RSV_BANK + 8 * n) 23 16) (isqrt (200000000 * fld s (Reg.RSV_BANK_ECEIL + 8 * n) 14 0 / cap))

/-- EN of bank n (R394). -/
def bankEn (s : State) (n : Nat) : Bool := flag s (Reg.RSV_BANK + 8 * n) 0

/-- What a bank's pins carry (R359): BKn_CHG_EN, the current limit on BKn_CHG_PWM in 50 mA, BKn_ISO_A and BKn_ISO_B, BKn_DSCHG. -/
structure BankPins where
  chgEn : Bool
  pwm : Nat
  isoA : Bool
  isoB : Bool
  dschg : Bool
  deriving DecidableEq, Repr

/-- The bank may charge now (R361, R363): measured, and the lowest that charges unless all charge together. -/
def chargeTurn (s : State) (n : Nat) : Bool :=
  (bank s n).st == .charging && (bank s n).measAt.isSome &&
    (flag s Reg.RSV_PF_CFG 9 || (List.range n).all fun i => (bank s i).st != .charging)

/-- The Holding banks that carry the load (R680): those at the highest voltage. -/
def carriers (s : State) : List Nat :=
  let hold := (List.range 4).filter fun n => (bank s n).st == .holding
  hold.filter fun n => hold.all fun m => decide ((bank s m).mv ≤ (bank s n).mv)

/-- The pins of bank n by its state (R360, R362, R363, R680): the charger path is active while it is measured or charged and not bled,
both FETs conduct while it carries the load, the one towards the bank alone while it is charged or ready. -/
def bankPins (s : State) (n : Nat) : BankPins :=
  let b := bank s n
  let charge := (b.st == .measuring || chargeTurn s n) && !b.bleed
  let lives := b.st == .measuring || b.st == .charging || b.st == .ready
  { chgEn := charge, pwm := if charge then max 1 (fld s (Reg.RSV_BANK + 8 * n) 15 9) else 0, isoA := lives || b.st == .holding,
    isoB := (carriers s).contains n, dschg := b.bleed }

/-- The bleed is on above V_tgt + 0.2 V and stays on until V ≤ V_tgt (R362). -/
def Bank.bleedRule (b : Bank) : Bank :=
  if b.st = .discharging ∨ b.measAt.isNone then b
  else if b.vtgt + 200 < b.mv then { b with bleed := true }
  else if b.mv ≤ b.vtgt then { b with bleed := false }
  else b

/-- V_tgt is computed anew (R362, R395). -/
def retarget (n : Nat) (s : State) : State :=
  if (bank s n).measAt.isNone then s else onBank n (fun b => { b with vtgt := vTarget s n b.cap }.bleedRule) s

/-- RSV isolates a bank after a fault (R364, R361). -/
def isolate (n : Nat) (f : BankFault) (s : State) : State :=
  let s := onBank n (fun b => { b with st := .isolated, fault := f, bleed := false, disReq := false }) s
  let s := rcFlag (Reg.RSV_BANK_STS + 16 * n) 16 (tally Ctr.RSV_ISOLATE 1 s)
  evalUnsched n (raise Ev.rsvBankIsolated f.code n s)

/-- EN cleared: the bank is isolated and counts 0 J (R394, R395). -/
def disableBank (n : Nat) (s : State) : State :=
  let b := bank s n
  if b.st = .isolated ∨ b.st = .absent then s
  else evalUnsched n (onBank n (fun b => { b with st := .isolated, fault := .none, bleed := false, disReq := false }) s)

/-- What follows a change of a bank. -/
def bankOn (s : State) : State := settle s

/-- BANK_PRESENT_DEBOUNCE (R360): PRESENT_N has been low for 1 s. -/
def execBankPresentDebounce (n : Nat) (s : State) : Res :=
  if 4 ≤ n then .next s
  else
    let b := bank s n
    let s := onBank n (fun b => { b with present := true }) s
    let free := b.st = .absent ∨ (b.st = .isolated ∧ (b.fault = .none ∨ b.fault = .present))
    if free ∧ bankEn s n then .next (onBank n (fun b => { b with st := .measuring, fault := .none }) s)
    else if b.st = .absent then .next (onBank n (fun b => { b with st := .isolated, fault := .none }) s)
    else .next s

/-- A bank fault can arise in the bank's state (R364). -/
def faultFits (b : Bank) (f : BankFault) : Bool :=
  match f with
  | .present => b.present
  | .reverse => b.st != .holding && b.st != .absent && b.st != .isolated
  | .overcurrent => b.st == .holding
  | .overvolt => b.st != .absent && b.st != .isolated
  | _ => false

/-- BANK_FAULT_ISOLATE (R364). A bank that is withdrawn while Isolated changes its cause; nothing is opened. -/
def execBankFaultIsolate (n : Nat) (f : BankFault) (s : State) : Res :=
  let b := bank s n
  if 4 ≤ n ∨ ¬ faultFits b f then .next s
  else
    let s := if f = .present then onBank n (fun b => { b with present := false }) s else s
    if b.st = .isolated ∨ b.st = .absent then .next (onBank n (fun b => { b with fault := f }) s)
    else .next (bankOn (isolate n f s))

/-- BANK_CAP_MEASURE (R361, R362): C in 10 µF. -/
def execBankCapMeasure (n cap : Nat) (s : State) : Res :=
  let b := bank s n
  if 4 ≤ n ∨ ¬ (b.st = .measuring ∨ b.st = .charging ∨ b.st = .ready) then .next s
  else
    let s := tally Ctr.RSV_CAP_MEAS 1 s
    let s := if b.measAt.isSome ∧ b.cap < 10 * (max b.cap cap - min b.cap cap) then raise Ev.rsvCapChange cap n s else s
    let s := onBank n (fun b => { b with cap := cap, measAt := some s.tb }) s
    if cap < 2000 ∨ 250000 < cap then .next (bankOn (isolate n .capRange s))
    else
      let s := retarget n s
      .next (bankOn (onBank n (fun b => { b with st := if b.st = .measuring then .charging else b.st }) s))

/-- BANK_CHARGE_DONE (R360, R362). -/
def execBankChargeDone (n : Nat) (s : State) : Res :=
  if 4 ≤ n ∨ ¬ chargeTurn s n then .next s
  else .next (bankOn (raise Ev.rsvBankReady 0 n (onBank n (fun b => { b with st := .ready }) s)))

/-- BANK_RECHARGE_THRESHOLD (R360). -/
def execBankRechargeThreshold (n : Nat) (s : State) : Res :=
  if 4 ≤ n ∨ (bank s n).st ≠ .ready then .next s
  else .next (bankOn (onBank n (fun b => { b with st := .charging }) s))

/-! ### Service discharge and recharge (R366, R367) -/

/-- A bank is asked to discharge: at once, or when it leaves Holding; it counts 0 J from now on. -/
def dischargeBank (n : Nat) (s : State) : State :=
  let b := bank s n
  match b.st with
  | .absent | .discharging => s
  | .holding => evalUnsched n (onBank n (fun b => { b with disReq := true }) s)
  | _ =>
    if b.present then
      evalUnsched n (onBank n (fun b => { b with st := .discharging, bleed := true, disAt := some s.tb, disTold := false }) s)
    else s

/-- An Isolated bank goes to Measuring; after a PRESENT loss it waits for its debounce instead (R360). -/
def rechargeBank (n : Nat) (s : State) : State :=
  let b := bank s n
  if b.st = .isolated ∧ b.present ∧ b.fault ≠ .present ∧ bankEn s n then
    onBank n (fun b => { b with st := .measuring, fault := .none }) s
  else s

/-- Banks of a 4-bit mask. -/
def maskBanks (m : Nat) : List Nat := (List.range 4).filter fun n => bitsOf m n n == 1

/-- The waiting DISCHARGE commands that name bank n have it behind them; the last bank completes the command. -/
def tellWaiters (n : Nat) (s : State) : State :=
  let ended := s.rsv.waiters.filter fun w => w.2.contains n && w.2.all (· == n)
  let s := onRsv (fun r => { r with waiters := (r.waiters.map fun w => (w.1, w.2.filter (· != n))).filter fun w => !w.2.isEmpty }) s
  eachIn ended (fun w s => bgEnd w.1 0xC050 "SUCCESS" s) s

/-- BANK_DISCHARGE_DONE (R366): the stored energy is below 2 J. -/
def execBankDischargeDone (n : Nat) (s : State) : Res :=
  let b := bank s n
  if 4 ≤ n ∨ b.st ≠ .discharging then .next s
  else
    let s := onBank n (fun b => { b with st := .isolated, fault := .service, bleed := false, disAt := none }) s
    let s := if b.disTold then s else raise Ev.rsvDischargeDone 0 n s
    .next (bankOn (tellWaiters n s))

/-- BANK_DISCHARGE_TIMEOUT (R366, R367): 30 s have passed. -/
def execBankDischargeTimeout (n : Nat) (s : State) : Res :=
  let b := bank s n
  if 4 ≤ n then .next s
  else
    match b.disAt with
    | none => .next s
    | some t =>
      if b.st ≠ .discharging ∨ b.disTold then .next s
      else
        let s := until_ (t + 30000000000) s
        let s := raise Ev.rsvDischargeFail 0 n (onBank n (fun b => { b with disTold := true }) s)
        let late := s.rsv.waiters.filter (·.2.contains n)
        let s := onRsv (fun r => { r with waiters := r.waiters.filter fun w => !w.2.contains n }) s
        .next (bankOn (eachIn late (fun w s => bgEnd w.1 0xC050 "TIMEOUT" s) s))

/-- A mailbox RESERVE_CTL whose reserved bits are given as a number. -/
def reserveCtl (p rsv : Nat) (f : State → State) (s : State) : Res :=
  mbox p 0xC050 true (fun s => if rsv ≠ 0 then invalid p 0xC050 s else f s) s

/-- RESERVE_ARM (R367). -/
def execReserveArm (p rsv : Nat) (s : State) : Res :=
  reserveCtl p rsv (fun s => done p 0xC050 [] (settle (rstateNow (hwFld Reg.LDG_CTL 0 0 1 s)))) s

/-- RESERVE_DISARM (R367). -/
def execReserveDisarm (p rsv : Nat) (s : State) : Res :=
  reserveCtl p rsv (fun s => done p 0xC050 [] (settle (rstateNow (hwFld Reg.LDG_CTL 0 0 0 s)))) s

/-- RESERVE_DISCHARGE (R366, R367). -/
def execReserveDischarge (p banks rsv : Nat) (s : State) : Res :=
  reserveCtl p rsv (fun s =>
    background p 0xC050 (fun s =>
      let s := settle (eachIn (maskBanks banks) dischargeBank s)
      let left := (maskBanks banks).filter fun n => (bank s n).st == .discharging || (bank s n).disReq
      if left.isEmpty then bgEnd p 0xC050 "SUCCESS" s
      else onRsv (fun r => { r with waiters := r.waiters ++ [(p, left)] }) s) s) s

/-- RESERVE_RECHARGE (R367). -/
def execReserveRecharge (p banks rsv : Nat) (s : State) : Res :=
  reserveCtl p rsv (fun s => done p 0xC050 [] (eachIn (maskBanks banks) rechargeBank s)) s

/-! ### RSV faults (R368) -/

/-- An RSV fault arises: the reserve is Disarmed. -/
def rsvFault (f : RsvFault) (s : State) : State :=
  if s.rsv.faults.contains f then s
  else settle (rstateNow (raise Ev.rsvFault f.code 0 (onRsv (fun r => { r with faults := f :: r.faults }) s)))

/-- RSV_GATE_FAULT (R368). -/
def execRsvGateFault (s : State) : Res := .next (rsvFault .gate s)

/-- At least one bank is enabled, and every enabled bank is Isolated or Absent. -/
def noBank (s : State) : Bool :=
  (List.range 4).any (bankEn s) &&
    (List.range 4).all fun n => !bankEn s n || (bank s n).st == .isolated || (bank s n).st == .absent

/-- RSV_NO_BANK_FAULT (R368): for 2 s without interruption. -/
def execRsvNoBankFault (s : State) : Res := if noBank s then .next (rsvFault .noBank s) else .next s

/-- RSV_FAULT_CLEAR (R368): the condition of a fault has been absent for 1 s. -/
def execRsvFaultClear (f : RsvFault) (s : State) : Res :=
  let gone := match f with
    | .adc => decide (s.rsv.adcFails < 3)
    | .gate => true
    | .noBank => !noBank s
  if s.rsv.faults.contains f && gone then
    .next (settle (rstateNow (onRsv (fun r => { r with faults := r.faults.filter (· != f) }) s)))
  else .next s

/-! ### The tick's latch (R297, R365) -/

/-- Valid at a tick (R365). -/
def Bank.isValid (b : Bank) (tb : Nat) (ok : Bool) : Bool :=
  (b.st == .charging || b.st == .ready || b.st == .holding) && ok && decide (b.mv ≤ b.vtgt + 200) &&
    (b.st == .holding || (b.measAt.map fun t => decide (tb ≤ t + 7200000000000)).getD false)

/-- Step 2 of a tick: voltages and currents are latched, validity and the bleed follow, a third failed self-check is a fault,
and a bank at V_min + 1 V fails a test drain (R306). Without figures of the ADC the last ones stand. -/
def latchBanks (adc : List Adc) (s : State) : State :=
  let ok := adc.all (·.ok)
  let s := if adc.isEmpty then s else onRsv (fun r => { r with adcFails := if ok then 0 else r.adcFails + 1 }) s
  let s := upTo 4 (fun n s => onBank n (fun b =>
    let b := match adc[n]? with
      | none => b
      | some a => { b with mv := a.mv % 65536, cur := a.cur % 65536, adcOk := ok }.bleedRule
    { b with valid := b.isValid s.tb b.adcOk }) s) s
  let s := if s.rsv.adcFails = 3 then rsvFault .adc s else s
  let low := (List.range 4).any fun n => (bank s n).st == .holding && (bank s n).valid &&
    decide ((bank s n).mv ≤ 100 * fld s (Reg.RSV_BANK + 8 * n) 8 1 + 1000)
  if (s.ldg.cal.map (·.step)) = some 4 ∧ low then calFail 3 s else s

/-! ### Calibration (R305 to R307) -/

/-- START of CAL_CMD. -/
def calStart (s : State) : State :=
  if s.ldg.cal.isSome ∨ ¬ running s then s
  else settle (rstateNow (onLdg (fun l => { l with cal := some ⟨1, s.tb⟩ }) s))

/-- ABORT of CAL_CMD (R306). -/
def calAbort (s : State) : State := settle (calFail 2 s)

/-- CAL_WRITEBACK_TIMEOUT (R305, step 1): 10 s. -/
def execCalWritebackTimeout (s : State) : Res :=
  match s.ldg.cal with
  | some c => if c.step = 1 then .next (settle (calFail 3 (until_ (c.since + 10000000000) s))) else .next s
  | none => .next s

/-- The pages of test records: positions and PSEQ that they take on every healthy stream, in whole slots (R305 step 4). Replay
discards them, so no record of them is kept. -/
def testPages (s : State) : State :=
  let ns := (List.range (mset s).n).filter fun i => nsOk s i && !(streamAt s i).closed
  let pages := 262144 * fld s Reg.LDG_CAL_CFG 4 0
  let slots := ceilDiv (ceilDiv pages (max 1 ns.length)) 63
  let step := fun (i : Nat) (s : State) =>
    let t := streamAt s i
    let k := min slots (slotsOf (mset s) + t.head - (t.tail + 1))
    onStream i (fun t => if k = 0 then t else
      { t with tail := t.tail + k, pos := 0, cov := 0, sums := t.sums ++ (if t.pos = 0 then [] else [64 * t.tail + 63]) }) s
  let s := eachIn ns step s
  onJrnl (fun j => { j with pseq := j.pseq + pages }) s

/-- CAL_DRAIN_DONE (R305, steps 5 and 6): bandwidth in MB/s and power in 0.1 W as measured. -/
def execCalDrainDone (bw pwr : Nat) (s : State) : Res :=
  if (s.ldg.cal.map (·.step)) ≠ some 4 then .next s
  else
    let s := testPages s
    if bw < 1000 then .next (settle (calFail 3 s))
    else
      let s := hwFld Reg.LDG_CAL_BW 17 0 (min bw 262143) (hwFld Reg.LDG_CAL_PWR 15 0 (min pwr 65535)
        (hwFld Reg.LDG_CAL_CFG 8 5 (portsOk s) s))
      .next (settle (raise Ev.ldgCalDone 0 0 (calEnd 1 s)))

end Sys2Proof.Machine
end

