-- ==== Sys2Proof/Machine/Retain.lean ====
section
/-! DEFINITION. Retained settings and the configuration NVM (R16, R17, R598 to R606): the stored form of a register word, what a bank
says, replay, STORE, sinter and factory restore. -/

namespace Sys2Proof.Machine

open Sys2Proof

/-! ### Stored form of a word -/

/-- Bits of absent units on the -PM, which read 0 and ignore writes (R3, R658). -/
def pmMask (off : Nat) : Nat :=
  if off = Reg.FAB_LINK_CFG then 0xC
  else if off = Reg.FAB_LINK_CMD then 0xCC
  else if off = Reg.MED_PORT_EN then 0xF0
  else if off = Reg.EVT_SAMPLE_SEL then 0x3C00000
  else if off = Reg.EVT_VFIX then 0xCC0000
  else if Reg.EVT_VMAP ≤ off ∧ off < Reg.EVT_VMAP + 256 then 0xC00
  else 0

/-- A field's value at the nearer limit; some values are stored as another one. -/
def fixField (pm : Bool) (off : Nat) (f : Fld) (w v : Nat) : Nat :=
  if off = Reg.MED_HEALTH_CFG ∧ f.lo = 0 ∧ v = 0 then 100
  else if off = Reg.EVT_SAMPLE_CFG ∧ f.lo = 0 ∧ v = 3 then 0
  else if off = Reg.LDG_JRNL_CFG ∧ f.lo = 7 then clampTo (clampTo 10 90 (bitsOf w 6 0) + 5) 95 v
  else if off = Reg.MED_REWARM_CFG ∧ f.lo = 0 ∧ pm then clampTo 1 100 v
  else if off = Reg.SEC_ASSIGN_DATA ∧ f.lo = 0 ∧ v = 3 then 0
  else clampTo f.mn f.mx v

/-- The word a write stores, from the word written: its RW fields, each brought into its limits. -/
def storeForm (part : Part) (off w : Nat) : Nat :=
  match regFind off with
  | none => 0
  | some (d, _) =>
    let pm := part == .pm
    let keep := d.flds.foldl (fun a f =>
      if f.acc = .rw then setBits a f.hi f.lo (fixField pm off f w (bitsOf w f.hi f.lo)) else a) 0
    if pm then (keep ^^^ (keep &&& pmMask off)) else keep

/-! ### Retained targets (R600) -/

/-- The retained tables: home map, ASSIGN, ESET. -/
abbrev NvT.hmap : Nat := 0x1000000
abbrev NvT.assign : Nat := 0x2000000
abbrev NvT.eset : Nat := 0x3000000

/-- A register that the NVM retains by its own offset. -/
def nvReg (off : Nat) : Bool :=
  match regFind off with
  | some (d, _) => d.ret == .nv && off != Reg.COH_HMAP_DATA && off != Reg.SEC_ASSIGN_DATA && off != Reg.SEC_ESET_DATA
  | none => false

/-- A retained target. -/
def nvOk (a : Nat) : Bool :=
  match a / 2 ^ 24 with
  | 0 => nvReg a
  | 1 => a % 2 ^ 24 < 4096
  | 2 => a % 2 ^ 24 < 60
  | 3 => a % 2 ^ 24 < 256
  | _ => false

/-- Bits that a value of a target may set. -/
def nvBits (a : Nat) : Nat :=
  match a / 2 ^ 24 with
  | 0 => match regFind a with
    | some (d, _) => d.flds.foldl (fun m f => if f.acc = .rw then m + maskOf f.hi f.lo else m) 0
    | none => 0
  | 1 => 0x3FFFFFF
  | 2 => 0x3F
  | _ => 0x7FF

/-- The factory value of a target. -/
def nvFactory (a : Nat) : Nat :=
  match a / 2 ^ 24 with
  | 0 => resetWord a
  | 1 => 3 + 2 ^ 14 * (a % 2 ^ 24)
  | 2 => if 4 ≤ a % 2 ^ 24 ∧ a % 2 ^ 24 ≤ 43 then 1 else 0
  | _ => 0

/-- The value in force. -/
def nvLive (s : State) (a : Nat) : Nat :=
  match a / 2 ^ 24 with
  | 0 => (regOf s.io a).toNat &&& nvBits a
  | 1 => (hmapEntry s (a % 2 ^ 24)).word
  | 2 => assignWord s.io (a % 2 ^ 24)
  | _ => tblGet 0 s.io.eset (a % 2 ^ 24)

/-- A home-map entry (R51, R60). -/
def putHmap (w : Nat) (e : HmapE) (s : State) : State :=
  onHpt (fun h => { h with hmap := if e = ⟨true, true, 0, w⟩ then tblDel h.hmap w else tblPut h.hmap w e }) s

/-- A live ASSIGN entry or ESET member (R562). -/
def putAssign (i v : Nat) (s : State) : State :=
  onIo (fun io => { io with assign := tblPut io.assign i (if v % 4 = 3 then v - 3 else v) }) s
def putEset (i v : Nat) (s : State) : State := onIo (fun io => { io with eset := tblSet 0 io.eset i v }) s

/-- Put a value into force, clamped as a write would clamp it (R604). -/
def nvApply (a v : Nat) (s : State) : State :=
  match a / 2 ^ 24 with
  | 0 => onIo (fun io => putReg io a (BitVec.ofNat 32 (storeForm s.part a v))) s
  | 1 => putHmap (a % 2 ^ 24) (HmapE.ofWord v) s
  | 2 => putAssign (a % 2 ^ 24) v s
  | _ => putEset (a % 2 ^ 24) v s

/-! ### Banks (R599 to R602, R604) -/

/-- Values that differ from the factory's. -/
def nvSet (a v : Nat) (t : Tbl Nat) : Tbl Nat := if v = nvFactory a then tblDel t a else tblPut t a v

/-- The stored value of a target. -/
def nvGet (t : Tbl Nat) (a : Nat) : Nat := (tblFind t a).getD (nvFactory a)

/-- A record sets what R600 allows. -/
def nvLegal (r : NvRec) : Bool :=
  match r with
  | .change a m v => nvOk a && (m ||| nvBits a) == nvBits a && ((v &&& m) ||| nvBits a) == nvBits a
  | .run a vs => (List.range vs.length).all fun i =>
      let t := if a < 2 ^ 24 then a + 4 * i else a + i
      nvOk t && ((vs.getD i 0) ||| nvBits t) == nvBits t
  | _ => true

/-- Apply one record. -/
def nvRecord (t : Tbl Nat) (r : NvRec) : Tbl Nat :=
  if ¬ nvLegal r then t
  else
    match r with
    | .change a m v => nvSet a ((nvGet t a ^^^ (nvGet t a &&& m)) ||| (v &&& m)) t
    | .run a vs => (List.range vs.length).foldl (fun t i =>
        nvSet (if a < 2 ^ 24 then a + 4 * i else a + i) (vs.getD i 0) t) t
    | _ => t

/-- The image of a bank: its generation, whether it is a factory image, its records, and the slots after it. -/
def nvImage (b : List NvSlot) : Option (Nat × Bool × List NvRec × List NvRec) :=
  match b.map NvSlot.body with
  | .header gen :: rest =>
    let img := rest.takeWhile fun r => match r with | .change _ _ _ | .run _ _ | .ignored => true | _ => false
    match rest.drop img.length with
    | .imageCommit f :: more => some (gen, f, img, more)
    | _ => none
  | _ => none

/-- The stores after an image, each applied if it ends in a COMMIT whose COUNT matches. -/
def nvStores (t : Tbl Nat) (rs : List NvRec) : Tbl Nat :=
  (rs.foldl (fun (x : Tbl Nat × List NvRec) r =>
    match r with
    | .commit n _ => (if n = x.2.length then x.2.foldl nvRecord x.1 else x.1, [])
    | .ignored => x
    | _ => (x.1, x.2 ++ [r])) (t, [])).1

/-- What a bank says; none where it is not valid. -/
def nvBank (b : List NvSlot) : Option (Tbl Nat) :=
  (nvImage b).map fun x => nvStores (if x.2.1 then [] else x.2.2.1.foldl nvRecord []) x.2.2.2

def bankSlots (s : State) (i : Nat) : List NvSlot := if i = 0 then s.mgt.nv.bank0 else s.mgt.nv.bank1

/-- The stored values. -/
def nvStored (s : State) : Tbl Nat := (nvBank (bankSlots s s.mgt.nv.cur)).getD []

/-- Targets whose live value can differ from the stored one. -/
def nvCands (s : State) : List Nat :=
  (((s.io.regs.map (·.1)).filter nvReg) ++ s.hpt.hmap.map (fun e => NvT.hmap + e.1) ++
    ((nvStored s).map (·.1)).filter (· < NvT.assign)).eraseDups

/-- Retained fields that differ from their stored values, other than ASSIGN and ESET: target, differing bits, value (R603). -/
def nvDiffs (s : State) : List (Nat × Nat × Nat) :=
  (nvCands s).filterMap fun a =>
    let m := nvLive s a ^^^ nvGet (nvStored s) a
    if m = 0 then none else some (a, m, nvLive s a)

/-- A slot that cannot be resolved discards its store and every later one (R602); one in the image makes the bank unusable. -/
def nvSplit (b : List NvSlot) (bad : List Nat) : Option (List NvSlot) × Bool :=
  match bad.foldl min 6656 with
  | 6656 => (some b, false)
  | i =>
    match nvImage b with
    | none => (none, true)
    | some (_, _, img, _) =>
      if i ≤ img.length + 1 then (none, true)
      else
        let kept := b.take i
        let tail := kept.reverse.dropWhile fun x => match x.body with | .commit _ _ | .imageCommit _ => false | _ => true
        (some tail.reverse, true)

/-- Replay of retained settings at POR and Cold (R601, R602, R604); `new` are bytes that have changed since the last one. -/
def replayNvm (new : List NvHit) (s : State) : State :=
  let hits := s.mgt.nv.hits ++ new
  let r0 := readBank hits 0 s.mgt.nv.bank0
  let r1 := readBank hits 1 s.mgt.nv.bank1
  let l0 := nvSplit r0.1 r0.2.1
  let l1 := nvSplit r1.1 r1.2.1
  let benign := r0.2.2.1 + r1.2.2.1
  let look := fun (i : Nat) => if i = 0 then l0 else l1
  let stay := fun (h : NvHit) => decide (h.slot < (((look h.bank).1).getD []).length) &&
    (if h.bank = 0 then r0.2.2.2.contains h else r1.2.2.2.contains h)
  let s := onNv (fun n => { n with hits := hits.filter stay }) s
  let gen := fun (i : Nat) => ((look i).1.bind nvImage).map (·.1)
  let cur := match gen 0, gen 1 with
    | some a, some b => if a < b then some 1 else some 0
    | some _, none => some 0
    | none, some _ => some 1
    | none, none => none
  let s := { onHpt (fun h => { h with hmap := [] }) s with io := { s.io with assign := [], eset := [] } }
  let s := if benign = 0 then s else raise Ev.nvBenign 0 0 (rcCount Reg.MGT_NV_STS 7 0 benign s)
  let s := if l0.2 || l1.2 then raise Ev.nvSplit 0 0 (rcFlag Reg.MGT_NV_STS 8 s) else s
  match cur with
  | none => raise Ev.nvLost 0 0 (rcFlag Reg.MGT_NV_STS 9 s)
  | some i =>
    let b := ((look i).1).getD []
    let s := onNv (fun n => { n with cur := i, bank0 := l0.1.getD [], bank1 := l1.1.getD [] }) s
    let s := rcCount Reg.MGT_NV_STS 7 0 ((b.filter fun x => !nvLegal x.body).length) s
    eachIn ((nvBank b).getD []) (fun e s => nvApply e.1 e.2 s) s

/-! ### Writing (R603, R605, R606) -/

/-- CFG_STS.BUSY (R592). -/
def nvBusy (s : State) : Bool := s.mgt.nv.job.isSome

/-- The image of the other bank: values that differ from the factory's, as CHANGE records. -/
def imageOf (t : Tbl Nat) : List (Nat × Nat × Nat) := t.map fun e => (e.1, e.2 ^^^ nvFactory e.1, e.2)

/-- A store is accepted: its records, or an image where the bank has too few free slots. -/
def startStore (recs : List (Nat × Nat × Nat)) (stage : Option Nat) (s : State) : State :=
  let used := (bankSlots s s.mgt.nv.cur).length
  if used + recs.length + 1 ≤ 6656 then onNv (fun n => { n with job := some (.store recs stage) }) s
  else
    let t := recs.foldl (fun t r => nvRecord t (.change r.1 r.2.1 r.2.2)) (nvStored s)
    onNv (fun n => { n with job := some (.sinter (imageOf t) (some recs) stage) }) s

/-- CFG_CMD.STORE (R603): refused while BUSY. Any STORE clears an arm (R606). -/
def cfgStore (s : State) : State :=
  let s := onNv (fun n => { n with armed := none }) s
  if nvBusy s then rcFlag Reg.MGT_OWN_STS 25 s else startStore (nvDiffs s) none s

/-- CFG_CMD.FACTORY of master m (R606): the first write arms, the second within 1 s restores. -/
def cfgFactory (m : Master) (s : State) : State :=
  match s.mgt.nv.armed with
  | some (o, t) =>
    if o = m ∧ s.tb ≤ t + 1000000000 then
      if nvBusy s then rcFlag Reg.MGT_OWN_STS 25 s
      else onNv (fun n => { n with armed := none, job := some .factory }) s
    else onNv (fun n => { n with armed := some (m, s.tb) }) s
  | none => onNv (fun n => { n with armed := some (m, s.tb) }) s

/-- FACTORY_ARM_EXPIRE (R606): 1 s has passed. -/
def execFactoryArmExpire (s : State) : Res :=
  match s.mgt.nv.armed with
  | some (_, t) => .next (onNv (fun n => { n with armed := none }) (until_ (t + 1000000000) s))
  | none => .next s

/-- Append records to the bank in force. -/
def appendSlots (rs : List NvRec) (n : Nvm) : Nvm :=
  let new := (List.range rs.length).map fun i => (⟨n.seq + i, rs.getD i (.header 0)⟩ : NvSlot)
  if n.cur = 0 then { n with bank0 := n.bank0 ++ new, seq := n.seq + rs.length }
  else { n with bank1 := n.bank1 ++ new, seq := n.seq + rs.length }

/-- Write a new image into the other bank; it is in force from its IMAGE_COMMIT on. -/
def writeImage (image : List (Nat × Nat × Nat)) (factory : Bool) (s : State) : State :=
  let gen := ((nvImage (bankSlots s s.mgt.nv.cur)).map (·.1)).getD 0 + 1
  let rs := .header gen :: image.map (fun r => NvRec.change r.1 r.2.1 r.2.2) ++ [.imageCommit factory]
  let s := onNv (fun n =>
    let n := { n with hits := n.hits.filter (·.bank == n.cur) }
    appendSlots rs (if n.cur = 0 then { n with cur := 1, bank1 := [] } else { n with cur := 0, bank0 := [] })) s
  tally Ctr.NV_RECORD rs.length s

/-- A store is complete: its event, its mailbox command, and the sinter that a full bank starts. -/
def stored (stage : Option Nat) (s : State) : State :=
  let s := raise Ev.nvStored 0 0 (tally Ctr.NV_STORE 1 s)
  match stage with
  | some p => bgEnd p 0xC034 "SUCCESS" s
  | none => s

/-- A stored MED.LAYOUT that differs from the labels of the media set has no effect on it, and is reported (R71). The spec does not say
whether NS_CNT 0, every eligible namespace, differs from the labels' N: DESIGN CHOICE, it never does (log 62). -/
def layoutStored (recs : List (Nat × Nat × Nat)) (s : State) : State :=
  let w := (regOf s.io Reg.MED_LAYOUT).toNat
  match s.med.media.set_ with
  | some m =>
    if recs.any (·.1 == Reg.MED_LAYOUT) && ((bitsOf w 5 0 != 0 && bitsOf w 5 0 != m.n) || bitsOf w 15 6 != m.jgib) then
      raise Ev.mediaLayoutMismatch 0 0 s else s
  | none => s

/-- NVM_WRITE_COMPLETION (R603, R605, R606). -/
def execNvmWriteCompletion (s : State) : Res :=
  match s.mgt.nv.job with
  | none => .next s
  | some j =>
    let s := onNv (fun n => { n with job := none }) s
    match j with
    | .store recs stage =>
      let rs := recs.map (fun r => NvRec.change r.1 r.2.1 r.2.2) ++ [.commit recs.length s.mgt.nv.seq]
      let s := layoutStored recs <| stored stage (tally Ctr.NV_RECORD rs.length (onNv (appendSlots rs) s))
      if 4992 ≤ (bankSlots s s.mgt.nv.cur).length then
        .next (onNv (fun n => { n with job := some (.sinter (imageOf (nvStored s)) none none) }) s)
      else .next s
    | .sinter image storing stage =>
      let s := raise Ev.nvSinter 0 0 (tally Ctr.NV_SINTER 1 (writeImage image false s))
      .next (match storing with
        | some recs => layoutStored recs (stored stage s)
        | none => s)
    | .factory =>
      let s := onCch (fun c => { c with record := none }) (writeImage [] true s)
      .next (raise Ev.nvFactory 0 0 (onNv (fun n => { n with facDone := true }) s))

/-! ### ASSIGN_STAGE (R564) -/

/-- The target of an item (TABLE, INDEX, VALUE), or none where it is bad. -/
def stageItem (i : Nat × Nat × Nat) : Option (Nat × Nat × Nat) :=
  if i.1 = 0 ∧ i.2.1 < 60 ∧ i.2.2 < 64 then some (NvT.assign + i.2.1, 0x3F, if i.2.2 % 4 = 3 then i.2.2 - 3 else i.2.2)
  else if i.1 = 1 ∧ i.2.1 < 256 ∧ i.2.2 < 2048 then some (NvT.eset + i.2.1, 0x7FF, i.2.2)
  else none

/-- ASSIGN_STAGE (R564): checks every item, then stores them as one store. -/
def execAssignStage (p : Nat) (items : List (Nat × Nat × Nat)) (rsv : Nat) (tr : Trailer) (s : State) : Res :=
  mbox p 0xC034 true (fun s =>
    match takeTrailer p tr s with
    | (none, s) => mboxDone p 0xC034 "ENCLAVE_DENIED" [] s
    | (some _, s) =>
      let recs := items.filterMap stageItem
      let after := recs.foldl (fun t r => nvRecord t (.change r.1 r.2.1 r.2.2)) (nvStored s)
      let managed := (List.range (portCount s)).any fun q => nvGet after (NvT.assign + q) % 4 == 0
      if rsv ≠ 0 ∨ items.isEmpty ∨ 64 < items.length ∨ recs.length ≠ items.length ∨ ¬ managed then invalid p 0xC034 s
      else if nvBusy s then mboxDone p 0xC034 "BUSY" [] s
      else startStore recs (some p) (cmdBegin p 0xC034 s)) s

end Sys2Proof.Machine
end

