-- ==== Sys2Proof/Machine/Quench.lean ====
section
/-! DEFINITION. Quench (R568, R571): what a tamper destroys, and what SEC records of it. -/

namespace Sys2Proof.Machine

open Sys2Proof

/-- Bit of a source in TAMPER_STS.SOURCE (R574). -/
def Tamper.bit : Tamper → Nat
  | .switch => 0 | .mesh => 1 | .vaux => 2 | .core => 3 | .temp => 4 | .clock => 5

/-- TAMPER_STS.SOURCE (R574). -/
def sourceBits (s : State) : Nat := sumN ((List.range 6).map fun i => if s.sec.sources.any (·.bit == i) then 2 ^ i else 0)

/-- Every key of R538 and the DRBG state are zeroised. -/
def zeroise (s : State) : State :=
  onSec (fun x => { x with
    root := none, cacheKey := none, media := [], sessions := [], binds := [], aliasKey := false, ideMem := [], ideIo := [],
    areaQ := [], areaA := [], areaB := [], unlock := none,
    gens := 0, seedAt := s.tb, quenched := true, sinceSeal := true, escrow := none }) s

/-- LOST in bytes (R571): D, less the data bytes of the pages submitted by now. -/
def lostBytes (s : State) : Nat :=
  dAmount s - sumN ((s.med.jrnl.staging.filter (·.cid.isSome)).map fun p => (sumP (p.recs.map recCharge)).1)

/-- DRAM reads return poison from now on (R568). -/
def Way.unread (w : Way) : Way :=
  { w with lines := w.lines.map fun l => match l.ls with
    | .clean => { l with ls := .poisonClean, data := 0 }
    | .dirty | .dirtyZero => { l with ls := .poisonDirty, data := 0 }
    | _ => l }

/-- Cause and number of an entry to Tamper-Lock (R576). -/
def tellLock (s : State) : State := raise Ev.tamperLock s.sec.lock 0 s

/-- Quench (R568 to R571); the commands that generate or wrap keys are abandoned (R570). In Run every host link goes down and ownership falls (R569, R591); a Quench outside Run is reported
by the next start-up. -/
def quench (s : State) : State :=
  if s.sec.clearing then s
  else
    let busy := ticking s
    let lost := if busy then ceilDiv (lostBytes s) (2 ^ 20) else 0
    let s := onCache (fun c => { c with ways := tblMap (fun _ w => w.unread) c.ways, ops := [] }) (zeroise s)
    let s := onSec (fun x => { x with
      lock := 1, clearing := true, drainThen := none,
      lostMib := if lost = 0 then x.lostMib else min 0xFFFFF lost, oweLost := x.oweLost || lost != 0 }) s
    if running s then
      let s := tellLock (raise Ev.tamperQuench (sourceBits s) 0 s)
      settle (vacate (upTo 4 hostDown s))
    else
      let s := onSec (fun x => { x with oweQuench := true }) s
      if s.rsv.pst = .startup then vacate (tellLock s) else vacate s

/-- QUENCH_SRAM_CLEARED (R568): write-back buffer, combining buffer and journal pages that are not submitted are cleared. -/
def clearSram (s : State) : State :=
  let s := onCache (fun c => { c with wb := [], nt := [] }) s
  let s := onJrnl (fun j => { j with staging := j.staging.filter fun p => p.cid.isSome || p.done }) s
  onSec (fun x => { x with clearing := false }) s

end Sys2Proof.Machine
end

