-- ==== Sys2Proof/Machine/Reset.lean ====
section
/-! DEFINITION. What each reset class keeps and clears (R15, R617), the seal (R380), and the ways into Dormant and Off (R370, R379,
R665). -/

namespace Sys2Proof.Machine

open Sys2Proof

/-- The reset classes that reset the core (R15). -/
inductive ResetKind where
  | por | cold | warm
  deriving DecidableEq, Repr

/-- LK bits (R12): page locks, ASSIGN_LOCK, the debug lock. -/
def isLock (off : Nat) : Bool := off % 4096 == 12 || off == Reg.SEC_ASSIGN_LOCK || off == Reg.SEC_DEBUG_CTL

/-- Registers of the always-on domain: RSV page 3, the bank registers of RSV page 2, and the TRNG's record (R617). -/
def alwaysOn (off : Nat) : Bool :=
  off / 4096 == 0x383 || (decide (Reg.RSV_BANK_V ≤ off) && decide (off < Reg.RSV_RSV_STS)) || off == Reg.SEC_RNG_STS

/-- A register keeps its value over a reset of the core (R617). -/
def keepsReg (k : ResetKind) (off : Nat) : Bool :=
  match k with
  | .por => false
  | .cold => alwaysOn off
  | .warm => alwaysOn off || isLock off || nvReg off

/-- A way as the next start-up finds it in DRAM: what the slices do not hold is gone. One that nothing identifies stays so until it is
rewritten (R156). -/
def Way.stored (w : Way) : Way :=
  if w.quar then { Way.empty with quar := true } else
  { w with rsvBy := none, fwd := none, lines := w.lines.map fun l => { l with pend := false, wt := false } }

/-- The media set before its namespaces are found again (R679); after a Warm reset a lost one stays lost (R351). -/
def MSet.unseen (k : ResetKind) (m : MSet) : MSet :=
  { m with nsPort := List.replicate m.n 8, lost := if k = .warm then m.lost else [] }

/-- The core resets (R617). -/
def coreReset (k : ResetKind) (s : State) : State :=
  let por := k == .por
  let j := s.med.jrnl
  let x := s.sec
  { s with
    tb := if por then 0 else s.tb
    epochCnt := if k = .warm then s.epochCnt else 0
    tickLast := if k = .warm then s.tickLast else 0
    epochEnd := none
    epochAt := 0
    io := { Io.reset with
      regs := s.io.regs.filter fun r => keepsReg k r.1
      assign := if k = .warm then s.io.assign else []
      eset := if k = .warm then s.io.eset else []
      out := s.io.out }
    mgt := { s.mgt with
      own := Own.reset, i3c := I3c.reset
      nv := { s.mgt.nv with escUntil := if por then s.mgt.nv.escUntil - s.tb else s.mgt.nv.escUntil, job := none, armed := none, facDone := if k = .warm then s.mgt.nv.facDone else false }
      boot := { Boot.reset with vaux := s.mgt.boot.vaux, porDue := s.mgt.boot.porDue } }
    sec := { x with
      root := if por then none else x.root, cacheKey := if por then none else x.cacheKey
      media := if por then [] else x.media
      areaQ := [], areaA := [], areaB := [], unlock := none, ranges := (x.area.map (·.ranges)).getD []
      binds := [], sessions := [], aliasKey := false, ideMem := [], ideIo := []
      trng := if por then false else x.trng, ready := if por then false else x.ready
      gens := if por then 0 else x.gens, seedAt := if por then 0 else x.seedAt
      lock := if por then 0 else x.lock
      sources := if por then [] else x.sources, quenched := if por then false else x.quenched
      inDrain := if por then false else x.inDrain, lostMib := if por then 0 else x.lostMib
      sinceSeal := if por then false else x.sinceSeal, clearing := false, drainThen := none, escrow := none
      oweQuench := if por then false else x.oweQuench, oweLost := if por then false else x.oweLost }
    hpt := { Hpt.reset with
      hmap := if k = .warm then s.hpt.hmap else [], dsize := if k = .warm then s.hpt.dsize else 0
      cutWin := if k = .cold then s.hpt.cutWin else none }
    cache := { Cache.reset with ways := (tblMap (fun _ w => w.stored) s.cache.ways).filter fun e => e.2 != Way.empty }
    ldg := Ldg.reset
    med := { s.med with
      ports := Med.reset.ports
      jrnl := { Jrnl.reset with idx := j.idx, nb := j.nb, rot := j.rot.map fun r => { r with walked := false },
                                series := j.series, pseq := j.pseq, nextCid := j.nextCid }
      media := { s.med.media with set_ := s.med.media.set_.map (MSet.unseen k) } }
    rsv := if por then { Rsv.reset with pfLow := s.rsv.pfLow, busLow := s.rsv.busLow, goodAt := 0 }
      else { Rsv.reset with
        pst := s.rsv.pst, banks := s.rsv.banks, faults := s.rsv.faults, adcFails := s.rsv.adcFails
        pfLow := s.rsv.pfLow, busLow := s.rsv.busLow, railsGood := s.rsv.railsGood, mainEn := s.rsv.mainEn
        goodAt := s.rsv.goodAt, dormAt := s.rsv.dormAt, last := s.rsv.last, sealRec := s.rsv.sealRec
        oweAbort := s.rsv.oweAbort, oweDorm := s.rsv.oweDorm }
    cch := { Cch.reset with
      record := s.cch.record, fullReq := s.cch.fullReq, chans := s.cch.chans.map fun c => { Chan.off with scrub := c.scrub } }
    plc := Plc.reset
    fab := { Fab.reset with
      serial := s.fab.serial, idPending := s.fab.idPending, idForce := if k = .warm then s.fab.idForce else 0
      idAssigned := if k = .warm then s.fab.idAssigned else 0 } }

/-! ### Power states -/

/-- Main power is good: PWRFAIL_N high and the bus above VIN_TRIP. -/
def powerGood (s : State) : Bool := !s.rsv.pfLow && !s.rsv.busLow

/-- A pin that RSV drives (R665, R667). -/
def drivePin (n : String) (level : Bool) (s : State) : State := emit (.pin n level) s

/-- RSV drives MAIN_EN. -/
def setMainEn (on : Bool) (s : State) : State := drivePin "MAIN_EN" on (onRsv (fun r => { r with mainEn := on }) s)

/-- RSV clears SEAL.DRAM_HELD (R380). -/
def dropHeld_ (s : State) : State := onRsv (fun r => { r with sealRec := { r.sealRec with held := false } }) s

/-- The device enters Off (R665): the core loses its power, and DRAM is no longer held. -/
def enterOff (s : State) : State :=
  drivePin "DHU_EN" false (setMainEn false (onRsv (fun r => { r with pst := .off, railsGood := false })
    (coreReset .cold (dropHeld_ s))))

/-- The energy test of R379, in nJ: what the counted banks hold, converted at EFF (0.001), against 100 ms at DORM_CFG.PWR
(0.1 W). -/
def dormEnergy (s : State) : Bool :=
  let e := fun (n : Nat) =>
    let b := s.rsv.banks.getD n Bank.absent
    if bankCounts s n = 0 then 0
    else bankEnergy b.cap b.mv (100 * fld s (Reg.RSV_BANK + 8 * n) 8 1) (fld s Reg.RSV_DORM_CFG 10 1)
  decide (10000000 * fld s Reg.RSV_DORM_CFG 20 11 ≤ sumN ((List.range 4).map e))

/-- The device enters Dormant (R378, R665, R667). -/
def enterDormant (s : State) : State :=
  let s := onRsv (fun r => { r with pst := .dormant, dormAt := s.tb, railsGood := false, last := { r.last with dormant := true } }) s
  drivePin "DHU_EN" true (setMainEn false (coreReset .cold s))

/-- RSV writes the seal (R380). -/
def writeSeal (s : State) : State :=
  onSec (fun x => { x with sinceSeal := false })
    (onRsv (fun r => { r with sealRec := ⟨true, true, s.med.jrnl.series, s.med.jrnl.pseq⟩ }) s)

/-- The end of Geyser is recorded (R394). -/
def endGeyser (done : Bool) (s : State) : State :=
  onRsv (fun r => { r with last := { r.last with
    drainDone := done, drainUs := min 0xFFFFFF ((s.tb - r.geyserAt) / 1000) } }) s

/-- The end of Dormant is recorded (R394). -/
def endDormant (s : State) : State :=
  onRsv (fun r => { r with last := { r.last with dormMs := min 0xFFFFFF ((s.tb - r.dormAt) / 1000000) } }) s

end Sys2Proof.Machine
end

