-- ==== Sys2Proof/Machine/Boot.lean ====
section
/-! DEFINITION. Firmware at start-up: the MCF that the ROM accepts (R621, R622, R624), locks and assignment (R563, R584), and the PCF
that the MCF accepts (R497, R498, R623). -/

namespace Sys2Proof.Machine

open Sys2Proof

/-! ### The MCF -/

/-- Image of an MCF slot, and of a PCF slot. -/
def Flash.mcfOf (f : Flash) (i : Nat) : Option Image := if i = 0 then f.mcfA else f.mcfB
def Flash.pcfOf (f : Flash) (i : Nat) : Option Image := if i = 0 then f.pcfA else f.pcfB

/-- The boot record changes (R620). -/
def onRecord (f : Flash → Flash) (s : State) : State := onFlash (fun x => let y := f x; { y with seq := x.seq + 1 }) s

/-- A retained field as this reset finds it: the value in force at a Warm reset, else the stored one. -/
def bootWord (k : ResetKind) (off : Nat) (s : State) : Nat :=
  if k = .warm then (regOf s.io off).toNat else nvGet (nvStored s) off

/-- Why an image is not accepted, in the codes of MCF_REASON (R621, R627); 0 for an accepted one. -/
def imageReason (s : State) (typ : Nat) (err : Bool) (i : Option Image) : Nat :=
  if err then 4
  else
    match i with
    | none => 1
    | some x =>
      if x.typ ≠ typ ∨ ¬ imageOk s x then 1
      else if 0xB1 < x.stepMin ∨ x.stepMax < 0xB1 then 2
      else if x.hwiMajor ≠ 1 then 3
      else 0

/-- The ROM tries an MCF slot. -/
def tryMcf (f : BootFacts) (i : Nat) (s : State) : Bool × State :=
  let r := imageReason s 1 (if i = 0 then f.errA else f.errB) (s.mgt.flash.mcfOf i)
  if r = 0 then (true, s) else (false, raise Ev.mcfSlotRejected r i (onBoot (fun b => { b with mcfReason := r }) s))

/-- The active slot, then the other one. -/
def tryBoth (f : BootFacts) (s : State) : Option Nat × State :=
  let a := s.mgt.flash.mcfActive
  match tryMcf f a s with
  | (true, s) => (some a, s)
  | (false, s) =>
    match tryMcf f (1 - a) s with
    | (true, s) => (some (1 - a), s)
    | (false, s) => (none, s)

/-- A trial has failed: back to the previous slot (R624, step 2). -/
def fallBack (s : State) : State :=
  let s := onRecord (fun f => { f with mcfActive := 1 - f.mcfActive, mcfTrial := false }) s
  raise Ev.fwActivateFail 0 0 (rcFlag Reg.MGT_FW_STS 7 s)

/-- The slot that boots (R621, R624). Without trial a pending slot that is rejected has failed to activate too (R627, R629). -/
def selectMcf (k : ResetKind) (f : BootFacts) (s : State) : Option Nat × State :=
  let cfg := bootWord k Reg.MGT_BOOT_CFG s
  let trial := fun (s : State) =>
    let a := s.mgt.flash.mcfActive
    match tryMcf f a s with
    | (true, s) => (some a, onBoot (fun b => { b with trialEnd := some (s.tb + 1000000000 * clampTo 1 60 (bitsOf cfg 13 8)) }) s)
    | (false, s) =>
      let s := fallBack s
      match tryMcf f (1 - a) s with
      | (true, s) => (some (1 - a), s)
      | (false, s) => (none, s)
  if s.mgt.flash.mcfPending then
    let s := onRecord (fun f => { f with mcfActive := 1 - f.mcfActive, mcfPending := false }) s
    if bitsOf cfg 1 1 = 1 then trial (onFlash (fun f => { f with mcfTrial := true, tries := f.tries + 1 }) s)
    else
      let r := tryBoth f s
      if r.1 = some s.mgt.flash.mcfActive then r
      else (r.1, raise Ev.fwActivateFail 0 0 (if r.1.isSome then rcFlag Reg.MGT_FW_STS 7 r.2 else r.2))
  else if s.mgt.flash.mcfTrial then
    if s.mgt.flash.tries < 2 then trial (onRecord (fun f => { f with tries := f.tries + 1 }) s)
    else tryBoth f (fallBack s)
  else tryBoth f s

/-- The identity key and the alias key are derived at every start-up (R538, R557). -/
def deriveKeys (s : State) : State := onSec (fun x => { x with aliasKey := true }) s

/-- Step 3 of start-up and its outcome (R622): MODE 0 normal, 1 recovery mode, 2 ROM recovery. -/
def romBoot (k : ResetKind) (f : BootFacts) (s : State) : State :=
  match selectMcf k f s with
  | (some i, s) =>
    let x := s.mgt.flash.mcfOf i
    onBoot (fun b => { b with mode := 0, mcfSlot := i, mcf := x, keyUsed := (x.bind (·.sigKey)).getD 0 }) (deriveKeys s)
  | (none, s) =>
    let x := s.mgt.flash.recov
    let mode := if imageReason s 3 false x = 0 then 1 else 2
    raise Ev.bootRecovery 0 0 (onBoot (fun b => { b with
      mode := mode, mcf := if mode = 1 then x else none, keyUsed := if mode = 1 then (x.bind (·.sigKey)).getD 0 else 0 }) (deriveKeys s))

/-- The Walni-M runs the MCF or the recovery image, from address 0. -/
def startM (s : State) : State :=
  match s.mgt.boot.mcf with
  | none => s
  | some x => onCore 8 (fun c => { c with
      ram := ramOf x.data, baseline := false, ctxs := c.ctxs.map fun y => { y with st := .running, pc := 0 } }) s
where
  /-- Bytes of an image as words of data RAM. -/
  ramOf (d : Tbl Byte) : Tbl Word :=
    d.foldl (fun t (e : Nat × Byte) =>
      let k := e.1 / 4
      let w := (tblGet 0 t k).toNat
      tblSet 0 t k (BitVec.ofNat 32 (setBits w (8 * (e.1 % 4) + 7) (8 * (e.1 % 4)) e.2.toNat))) []

/-- A window whose invalidation a Fence has cut short stays invalid (R58). -/
def dropCut (s : State) : State :=
  match s.hpt.cutWin with
  | some w => onHpt (fun h => { h with cutWin := none }) (putHmap w { hmapEntry s w with valid := false } s)
  | none => s

/-- A record of the system area that cannot be resolved is as if absent (R602). -/
def sysRecords (f : BootFacts) (s : State) : State :=
  let s := if f.trainBad then onCch (fun c => { c with record := none }) s else s
  if f.devBad then onNv (fun n => { n with devId := none, incarn := 0, escFails := 0, escUntil := 0, dirtyCnt := 0 }) s else s

/-- Step 4: retained settings, BOOT_LOCK, ASSIGN_LOCK (R563, R584, R604), and D_SIZE, which the home map gives (R46). A Warm reset
keeps them. -/
def loadSettings (k : ResetKind) (f : BootFacts) (s : State) : State :=
  let s := if k = .warm then s else
    let s := dropCut (replayNvm f.nvHits (sysRecords f s))
    let s := onHpt (fun h => { h with dsize := dsizeOf s }) s
    let s := upTo 16 (fun b s => if flag s Reg.MGT_BOOT_LOCK b then hwFld (0x40000 * b + 0x1000 + 12) 0 0 1 s else s) s
    hwFld Reg.SEC_ASSIGN_LOCK 0 0 1 s
  onBoot (fun b => { b with nvDone := true }) s

/-! ### The PCF (R497, R498, R623) -/

/-- The MCF's tested set names a version. -/
def testedBy (m : Image) (p : Image) : Bool :=
  m.tested.any fun t => t.1 == p.ver.1 && t.2.1 == p.ver.2.1 && (t.2.2.2 || t.2.2.1 == p.ver.2.2)

/-- Why a PCF is rejected, in the codes of PCF_STS.REASON; 0 for one that runs. -/
def pcfReason (s : State) (m : Image) (p : Option Image) : Nat :=
  match imageReason s 2 false p, p with
  | 0, some x =>
    if x.mpiMajor ≠ m.mpiMajor then 4
    else if ¬ testedBy m x ∧ flag s Reg.MGT_BOOT_CFG 0 then 5
    else 0
  | r, _ => r

/-- Core c under an accepted PCF: contexts of CTX_EN sleep at their ENTRY (R497). -/
def pcfCore (x : Image) (ram : Tbl Word) (c : Nat) (k : Core) : Core :=
  { k with baseline := false, ram := ram, ctxs := (List.range 4).map fun i =>
      if bitsOf x.ctxEn (4 * c + i) (4 * c + i) = 1 then { Ctx.reset with st := .asleep, entry := x.entries.getD i 0 % 2 ^ 16 }
      else Ctx.reset }

/-- A core under the ROM baseline: every context enabled (R495). -/
def baseCore (k : Core) : Core :=
  { k with baseline := true, ctxs := List.replicate 4 { Ctx.reset with st := .asleep } }

/-- The policy cores as an image, or its absence, leaves them. -/
def loadCores (p : Option Image) (s : State) : State :=
  upTo (coreCount s) (fun c s => onCore c (fun k => match p with
    | some x => pcfCore x (startM.ramOf x.data) c k
    | none => baseCore k) s) s

/-- Step 10: the PCF of the active slot, then the other (R497). A pending slot becomes active first (R623). -/
def loadPolicy (s : State) : State :=
  match s.mgt.boot.mcf with
  | none => s
  | some m =>
    let was := s.mgt.flash.pcfPending
    let s := if was then onRecord (fun f => { f with pcfActive := 1 - f.pcfActive, pcfPending := false }) s else s
    let a := s.mgt.flash.pcfActive
    let reject := fun (i r : Nat) (s : State) =>
      let s := if (s.mgt.flash.pcfOf i).isSome then raise Ev.pcfRejected r i s else s
      if i = a then onPlc (fun p => { p with reason := r }) s else s
    let run := fun (i : Nat) (s : State) =>
      let x := s.mgt.flash.pcfOf i
      let tested := (x.map (testedBy m)).getD false
      let lim := (x.map fun x => decide (m.mpiMinor < x.mpiMinor)).getD false
      let s := if lim then raise Ev.pcfCapLimited 0 i s else s
      let s := if tested then s else raise Ev.pcfProvisional 0 i s
      let s := if i = a then s else onRecord (fun f => { f with pcfActive := i }) s
      let s := if ¬ was then s else if i = a then raise Ev.fwActivated 0 0 s else raise Ev.fwActivateFail 0 0 s
      let s := onPlc (fun p => { p with
        caps := ((x.map (·.caps)).getD 0) &&& m.caps, outcome := if tested then 0 else 1, limited := lim, slot := i }) s
      loadCores x (onBoot (fun b => { b with provisional := !tested, pcf := x }) s)
    match pcfReason s m (s.mgt.flash.pcfOf a) with
    | 0 => run a s
    | r =>
      let s := reject a r s
      match pcfReason s m (s.mgt.flash.pcfOf (1 - a)) with
      | 0 => run (1 - a) s
      | r =>
        let s := reject (1 - a) r s
        let s := if was then raise Ev.fwActivateFail 0 0 s else s
        let none_ := s.mgt.flash.pcfA.isNone && s.mgt.flash.pcfB.isNone
        let s := onPlc (fun p => { p with outcome := if none_ then 3 else 2, slot := a, reason := if none_ then 0 else p.reason }) s
        loadCores none (onBoot (fun b => { b with pcf := none }) s)

end Sys2Proof.Machine
end

