-- ==== Sys2Proof/Machine/Mount.lean ====
section
/-! DEFINITION. The media set and the journal at start-up: members (R679), creation (R71), replay (R345, R346, R348, R491), stream
positions after a Warm restart (R385), enclave commands that go on (R555), and handback (R275, R279). -/

namespace Sys2Proof.Machine

open Sys2Proof

/-! ### The restart class and what a restart reports -/

/-- RESTART_STS.CLASS (R394). -/
def Class.code : Class → Nat
  | .warm => 1 | .rewarm => 2 | .cold => 3

/-- The restart class is decided (R382). -/
def recordClass (c : Class) (s : State) : State :=
  if s.mgt.boot.cls = some c then s
  else
    raise Ev.rsvRestart c.code 0 (onBoot (fun b => { b with cls := some c })
      (onRsv (fun r => { r with last := { r.last with restart := c.code } }) s))

/-- INCOMPLETE (R346, R423, R571, R679): the dirty shutdown count rises once for a restart. -/
def setIncomplete (s : State) : State :=
  if s.med.jrnl.incomplete then s
  else
    raise Ev.jrnlDrainIncomplete 0 0 (onNv (fun n => { n with dirtyCnt := satAdd 0xFFFFFFFF n.dirtyCnt 1 })
      (onJrnl (fun j => { j with incomplete := true }) s))

/-- The journal is unrecoverable (R348). -/
def unrecoverable (s : State) : State :=
  recordClass .cold (raise Ev.jrnlUnrecoverable 0 0 (onJrnl (fun j => { j with unrec := true }) s))

/-! ### Replay (R345 to R348) -/

/-- Record pages at or after the heads of a checkpoint, in PSEQ order: namespace, page number, content. -/
def replayPages (s : State) (c : Ckpt) : List (Nat × Nat × JPage) :=
  let ps := s.med.media.pages.filterMap fun e =>
    let ns := e.1 / 2 ^ 40
    let pg := e.1 % 2 ^ 40
    if c.heads.getD ns 0 ≤ pg / 64 ∧ ¬ (mset s).lost.contains ns then some (ns, pg, e.2) else none
  ps.foldl (fun l p => insertBy (fun a b => decide (a.2.2.pseq < b.2.2.pseq)) p l) []

/-- The locators that one page sets. -/
def replayPage (p : Nat × Nat × JPage) (j : Jrnl) : Jrnl :=
  upTo p.2.2.recs.length (fun i j =>
    match p.2.2.recs[i]? with
    | none => j
    | some r =>
      match r.ty with
      | .data | .zero | .poison => upTo r.secs.length (fun q j => setLocs (r.so + q) (r.secs.getD q []) none p.1 p.2.1 i j) j
      | _ => j) j

/-- A record after PSEQ_AT carries a line. -/
def laterRec (s : State) (at_ so l : Nat) (j : Jrnl) : Bool :=
  match locOf j so l with
  | some q => ((tblFind s.med.media.pages (pageKey q.ns q.page)).map fun p => decide (at_ ≤ p.pseq)).getD false
  | none => false

/-- One line of a checkpoint's poison list: persistent, unless a record after PSEQ_AT carries the line (R345, step 7). -/
def replayPoison (s : State) (at_ x : Nat) (j : Jrnl) : Jrnl :=
  if laterRec s at_ (x / 4) (x % 4) j then j
  else
    match entryFor j (x / 4) with
    | some e => putEntry (x / 4) { e with locs := setAt e.locs (x % 4) fun _ => some ⟨0, 0, 0, .poisonDirty, true⟩ } j
    | none => j

/-- Records of a type in replay order. -/
def recsOf (ty : RTy) (ps : List (Nat × Nat × JPage)) : List JRec := (ps.flatMap (·.2.2.recs)).filter (·.ty == ty)

/-- The rotation that goes on (R343, R347): the key with an old generation in the area, from its latest ROTATE record. -/
def replayRot (s : State) (c : Ckpt) (ps : List (Nat × Nat × JPage)) : Option Rot :=
  (s.sec.media.findSome? fun e => e.2.old.map fun o => (e.1, e.2.gen, o.1)).map fun (k, g, o) =>
    let start := match c.rot with
      | some r => if r.key = k ∧ r.newGen = g then r.cursor else 0
      | none => 0
    let cur := (recsOf .rotate ps).foldl (fun x r =>
      if r.body.getD 3 0 = k ∧ r.body.getD 1 16 = g then max x (r.body.getD 0 0) else x) start
    ⟨k, o, g, cur, false⟩

/-- GEN of a SPRING record, and whether it ends its generation (R488). -/
def springGen (r : JRec) : Nat := r.body.getD 0 0 % 2 ^ 32
def springEnd (r : JRec) : Bool := bitsOf (r.body.getD 0 0) 48 48 == 1

/-- The spring table (R491): HEAT descending, then SO ascending. -/
def springTable (s : State) (done : Nat) (ps : List (Nat × Nat × JPage)) : List SprEnt :=
  let es := ((recsOf .spring ps).filter fun r => decide (done ≤ springGen r)).flatMap fun r =>
    (r.body.drop 2).map SprEnt.ofWord
  let t := es.foldl (fun (t : Tbl SprEnt) e =>
    if homeCap s ≤ 256 * e.so then t
    else if e.remove then tblDel t e.so
    else if e.heat = 0 then t
    else tblPut t e.so e) []
  let before := fun (a b : SprEnt) => decide (b.heat < a.heat) || (a.heat == b.heat && decide (a.so < b.so))
  ((t.map (·.2)).foldl (fun l e => insertBy before e l) []).take (2 ^ 26)

/-- Streams after replay: each begins in the slot after its highest valid one (R346). -/
def streamsAfter (s : State) (c : Ckpt) (ps : List (Nat × Nat × JPage)) : List JStream :=
  (List.range (mset s).n).map fun ns =>
    let h := c.heads.getD ns 0
    let slots := (ps.filter (·.1 == ns)).map fun p => p.2.1 / 64 + 1
    ⟨h, max h (maxN slots), 0, 0, [], (mset s).lost.contains ns⟩

/-- Enclave commands that a restart interrupted go on from their zero-allocation (R555). -/
def resumeEnclaves (s : State) : State :=
  let es := ((s.sec.ranges.filter (·.2.st != .active)).map fun r => (r.2.encl, r.2.st == .creating)).eraseDups
  eachIn es (fun e s =>
    let segs := (s.sec.ranges.filter fun r => r.2.encl == e.1 && r.2.st != .active).map fun r => (16 * r.2.base, 16 * (r.2.last + 1))
    let o : RangeOp := { port := 16 + e.1, opcode := if e.2 then Mb.create else Mb.destroy, stage := 1, segs := segs, all := segs,
                         encl := e.1, setEncl := some (e.1, if e.2 then e.1 else 0), binds := [], status := [], waits := [],
                         flushing := [] }
    onCache (fun c => { c with ops := c.ops ++ [o] }) s) s

/-- Replay from a checkpoint. -/
def replay (c : Ckpt) (s : State) : State :=
  let ps := replayPages s c
  let s := match s.sec.area with
    | some a => onSec (fun x => { x with media := a.keys, ranges := a.ranges }) s
    | none => s
  let base := { s.med.jrnl with idx := [], nb := bucketsOf (mset s).jgib s.hpt.setBits }
  let j := c.poison.foldl (fun j x => replayPoison s c.pseqAt x j) (ps.foldl (fun j p => replayPage p j) base)
  let done := ((recsOf .spring ps).filter springEnd).foldl (fun g r => max g (springGen r)) c.gen
  let gen := (recsOf .spring ps).foldl (fun g r => max g (springGen r)) done
  let table := springTable s done ps
  let top := maxN (ps.map (·.2.2.pseq))
  let found := s.med.media.closed == some true
  let stranded := (mset s).lost.any fun ns => s.med.media.pages.any fun e =>
    e.1 / 2 ^ 40 == ns && decide (c.heads.getD ns 0 ≤ e.1 % 2 ^ 40 / 64) && decide (e.2.pseq < c.pseqAt)
  let rot := replayRot s c ps
  let streams := streamsAfter s c ps
  let s := onJrnl (fun _ => { j with
    streams := streams, pseq := max top c.pseqAt + 2 ^ 16, rot := rot, retired := [], ckptAt := s.tb, closeFound := found,
    series := maxN (s.med.media.ckpts.map (·.series)), rebuildMs := min 0xFFF s.mgt.boot.replay.2.2 }) s
  let s := onMedia (fun m => { m with foreign := m.foreign.filter fun f => !c.retired.contains f.sk }) s
  let s := onPlc (fun p => { p with gen := gen, doneGen := done, table := table }) (onRsv (fun r => { r with schedLen := table.length }) s)
  resumeEnclaves (if found ∧ ¬ stranded then s else setIncomplete s)

/-- A Warm restart reads on from the checkpoint that the seal names (R385). -/
def warmStreams (s : State) : State :=
  match s.med.media.ckpts with
  | [] => unrecoverable s
  | c :: _ =>
    let ps := replayPages s c
    let s := match s.sec.area with
      | some a => onSec (fun x => { x with media := a.keys, ranges := a.ranges }) s
      | none => s
    let streams := streamsAfter s c ps
    resumeEnclaves (onJrnl (fun j => { j with
      streams := streams, pseq := s.rsv.sealRec.pseq + 2 ^ 16, rot := replayRot s c ps,
      retired := [], ckptAt := s.tb, closeFound := s.med.media.closed == some true }) s)

/-! ### Handback of this device's own restart (R275, R279) -/

/-- The directory snapshot of the last Geyser marks its sectors, or nothing is served until handback ends (R279). -/
def awaitHandback (s : State) : State :=
  match s.med.media.snapshot, s.med.media.closed with
  | some is, some true =>
    let sk := fun (x : Nat × Nat × Nat) => devId s * 2 ^ 40 + x.1
    let mark := fun (x : Nat × Nat × Nat) => if x.2.2 = 4096 then HbMark.mk (sk x) (some x.2.1) none else ⟨sk x, none, some x.2⟩
    let devs := (is.flatMap fun x => if x.2.2 = 4096 then [x.2.1] else [x.2.1, x.2.2]).eraseDups
    onFab (fun f => { f with
      marks := is.map mark, holds := (is.filter fun x => x.2.2 != 4096).map fun x => (sk x, x.2),
      waiting := devs.filter (· != devId s), waitAt := s.tb, noSnap := false }) s
  | _, _ => onFab (fun f => { f with noSnap := true, hold_ := true }) s

/-- Devices that a route reaches. -/
def reachable (s : State) : List Nat := ((s.fab.routes.map (·.1)).filter (routed s)).filter (· != devId s)

/-- At host link enable: a home without a snapshot waits for every reachable device's FHB_DONE. -/
def openHandback (s : State) : State :=
  if ¬ s.fab.hold_ then s
  else
    let ds := (reachable s).filter fun d => !s.fab.doneFrom.contains d
    onFab (fun f => { f with waiting := ds, waitAt := s.tb, hold_ := !ds.isEmpty }) s

/-- A foreign record goes home as FHB (R275, step 2). -/
def sendForeign (x : Foreign) (s : State) : State :=
  if ¬ routed s x.home ∨ s.fab.wbs.any (fun w => w.sk == x.sk && w.fhb) then s
  else
    let tid := freshWbTid s
    let ls := (List.range 4).map fun j =>
      if x.ls.getD j .invalid = .invalid then none else some (CLine.mk (x.ls.getD j .invalid) ((x.data.getD j none).getD 0) 0 false [])
    let m := { msgTo s Op.fhb (x.home * 64) tid 0 x.sk with
               flags := if x.held then 16 else 0, lst := x.ls, blk := (List.range 4).map fun j => some ((x.data.getD j none).getD 0) }
    let (p, s) := sendVia none m 0 s
    onFab (fun f => { f with wbs := f.wbs ++ [⟨tid, 0, x.sk, x.home, false, true, x.held, ls, true, s.tb, 0, p⟩] })
      (tally Ctr.FHB_SENT 1 s)

/-- Every foreign record has been sent. -/
def foreignSent (s : State) : Bool := (foreignLeft s).all fun x => s.fab.wbs.any fun w => w.sk == x.sk && w.fhb

/-- Foreign records go out, and FHB_DONE to each reachable device once its records are retired (R275, steps 2 and 4). -/
def greetPump (s : State) : State :=
  if ¬ s.fab.greet then s
  else
    let s := eachIn (foreignLeft s) sendForeign s
    eachIn ((reachable s).filter fun d => !s.fab.greeted.contains d && !(foreignLeft s).any (·.home == d)) (fun d s =>
      let m := { msgTo s Op.fhbDone (d * 64) (ownNode s * 2 ^ 22) 0 (d * 2 ^ 40) with
        flags := if s.fab.dirtyLost then 32 else 0, time := s.tb, tl := s.fab.locked }
      sendMsg m (onFab (fun f => { f with greeted := d :: f.greeted }) s)) s

/-- The journal is ready: handback can begin, in both directions. -/
def greet (dirtyLost : Bool) (s : State) : State :=
  greetPump (onFab (fun f => { f with greet := true, dirtyLost := dirtyLost }) s)

end Sys2Proof.Machine
end

