-- ==== Sys2Proof/Machine/Startup.lean ====
section
/-! DEFINITION. Start-up (R382 to R387, R400 to R406, R610 to R613): the class decision, DRAM, geometry, mounting, and host link
enable with what follows it. A start-up's stages up to the wait for media run within the command that begins it. -/

namespace Sys2Proof.Machine

open Sys2Proof

/-! ### DRAM and geometry (R62, R400 to R406, R422, R423, R426) -/

/-- The Warm test of R382, with the array mode and mirroring of R426 and a full training asked for (R406). -/
def warmTest (f : BootFacts) (s : State) : Bool :=
  s.rsv.sealRec.valid && s.rsv.sealRec.held && s.sec.cacheKey.isSome && s.sec.root.isSome && !s.sec.sinceSeal && f.srOk &&
    !s.cch.fullReq && (s.cch.record.map fun r => r.dimms == f.dimms && r.mode == flag s Reg.CCH_ARRAY_MODE 0 &&
      r.mirror == flag s Reg.CCH_MIRROR_CFG 0).getD false

/-- Channels that trained are up; the others of the set have failed. Each resumes scrub where it had come to (R416). -/
def upChans (n : Nat) (bad : List Nat) (old : List Chan) : List Chan :=
  (List.range 16).map fun c =>
    { Chan.off with
      scrub := (old.getD c Chan.off).scrub, st := if c < n then .up else if bad.contains c then .failed else .absent }

/-- The serial number of the DIMM that holds a rank, by the rank's key: rank r lies on DIMM r div (ranks per DIMM) (R402). -/
def dimmOf (dimms : List Nat) (rho rk : Nat) : Nat :=
  let c := rk / 16
  let per := if dimms.getD (2 * c + 1) 0 = 0 then 2 ^ rho else 2 ^ rho / 2
  dimms.getD (2 * c + (if rk % 8 < per then 0 else 1)) 0

/-- The marks that outlast a full training: those of ranks whose DIMM is still there (R409). -/
def marksKept (s : State) (f : BootFacts) : Tbl Nat :=
  match s.cch.record with
  | none => []
  | some r => r.marks.filter fun m => dimmOf r.dimms f.rho m.1 == dimmOf f.dimms f.rho m.1

/-- Full training (R406) and its record (R405). -/
def trainFull (f : BootFacts) (s : State) : State :=
  let bad := f.chans.filter f.failed.contains
  let s := eachIn bad (fun c s => raise Ev.cchTrainFail 0 c s) (raise Ev.cchTrainFull 0 0 s)
  let marks := marksKept s f
  onCch (fun x => { x with
    chans := upChans (f.chans.length - bad.length) bad x.chans, pairs := List.replicate 8 Pair.whole, devMark := marks, rate := f.rate,
    fullTrained := true,
    record := some ⟨f.dimms, f.rate, x.mode, x.mirror, marks, List.replicate 8 Pair.whole, []⟩ }) s

/-- A broken pair resilvers after a Warm decision; otherwise the lock is in force at once (R422). -/
def relock (warm : Bool) (p : Pair) : Pair :=
  if warm && (p.broken || p.resilver.isSome) then ⟨false, p.odd, some 0⟩ else Pair.whole

/-- Training restored from the record (R406). -/
def trainRestore (warm : Bool) (r : TrainRec) (f : BootFacts) (s : State) : State :=
  let ps := r.survivors.map (relock warm)
  let target := fun (c : Nat) => r.mirror && (ps.getD (c / 2) Pair.whole).resilver.isSome &&
    (c % 2 == if (ps.getD (c / 2) Pair.whole).odd then 0 else 1)
  let cs := upChans f.chans.length [] s.cch.chans
  onCch (fun x => { x with
    chans := (List.range 16).map fun c =>
      let y := cs.getD c Chan.off
      if target c && y.st == .up then { y with st := .target } else y
    pairs := ps, devMark := r.marks, rate := r.rate, fullTrained := false,
    record := some { r with mode := x.mode, mirror := x.mirror, survivors := ps.map fun p =>
      if p.resilver.isSome then { p with broken := true, resilver := none } else p, failed := [] } }) s

/-- A channel that failed without a partner lost dirty lines (R423). -/
def tellFailed (s : State) : State :=
  match s.cch.record with
  | none => s
  | some r =>
    if r.failed.any fun c => !r.mirror || r.failed.contains (if c % 2 = 0 then c + 1 else c - 1) then setIncomplete s else s

/-- Step 6 of start-up. -/
def bringDram (warm : Bool) (f : BootFacts) (s : State) : State :=
  let s := tellFailed s
  let full := s.cch.fullReq
  let s := onCch (fun x => { x with
    mode := flag s Reg.CCH_ARRAY_MODE 0, mirror := flag s Reg.CCH_MIRROR_CFG 0, dimms := f.dimms, rho := f.rho,
    fullReq := false, trials := [] }) s
  let s := match s.cch.record with
    | some r => if warm || (r.dimms == f.dimms && !full && f.testOk) then trainRestore warm r f s else trainFull f s
    | none => trainFull f s
  onBoot (fun b => { b with dramDone := true }) s

/-- Channels that count as populated (R62, R401). -/
def upCount (s : State) : Nat := (s.cch.chans.filter fun c => c.st == .up || c.st == .target).length

/-- The capacities of the channels that count as populated, in GiB: one that failed full training does not (R401). -/
def upCaps (f : BootFacts) (s : State) : List Nat :=
  ((f.chans.zip f.capGib).filter fun c => !(s.cch.fullTrained && f.failed.contains c.1)).map (·.2)

/-- The channel rules of R62. -/
def geometryOk (f : BootFacts) (s : State) : Bool :=
  let n := upCount s
  let caps := upCaps f s
  let cap := caps.headD 0
  [2, 4, 8, 16].contains n && decide (n ≤ chanCount s) && decide (caps.length = n) && caps.all (· == cap) &&
    [8, 16, 32, 64, 128, 256].contains cap &&
    decide (16 ≤ n * cap / (if s.cch.mirror then 2 else 1)) && (!s.cch.mirror || decide (4 ≤ n))

/-- Step 8 of start-up: R62 and R400, TAG.GEOM (R66). -/
def setGeometry (f : BootFacts) (s : State) : State :=
  let s := if f.dimmsOk then s else raise Ev.cchDimmUnsupported 0 0 s
  if ¬ geometryOk f s then raise Ev.cacheGeometry 0 0 s
  else if ¬ f.dimmsOk then s
  else
    let sets := if s.cch.mirror then upCount s / 2 else upCount s
    onBoot (fun b => { b with geomOk := true }) (onHpt (fun h => { h with
      setBits := Nat.log2 (sets * (upCaps f s).headD 0) + 20, chBits := Nat.log2 sets, mirror := s.cch.mirror }) s)

/-! ### The class decision (R382, R386, R611, R612) -/

/-- After any decision but Warm the cache is empty, and the kept cache key is not used. -/
def emptyCache (s : State) : State :=
  let s := dropHeld_ (onSec (fun x => { x with cacheKey := none }) (onCache (fun c => { c with ways := [] }) s))
  onBoot (fun b => { b with notWarm := true }) (onJrnl (fun j => { j with idx := [] }) s)

/-- Remote sectors are not resident after a Warm restart (R275 step 1, R386). -/
def dropRemote (s : State) : State := onCache (fun c => { c with ways := tblFilter (fun _ w => !w.remote) c.ways }) s

/-- The first branches of R382; what follows the Warm test waits for media. -/
def decideClass (f : BootFacts) (s : State) : State :=
  let s := if s.sec.root.isNone && s.sec.lock == 0 then onSec (fun x => { x with lock := 2 }) s else s
  let s := if s.sec.lock = 0 then s else tellLock s
  if s.sec.sinceSeal || s.sec.root.isNone then recordClass .cold (emptyCache s)
  else if warmTest f s then recordClass .warm (dropRemote s)
  else emptyCache s

/-! ### Mounting -/

/-- The stored device ID takes force at a POR or Cold reset, and a change keeps that restart from being Warm (R526). -/
def takeId (k : ResetKind) (s : State) : State :=
  if k = .warm then s
  else
    let id := s.mgt.nv.devId.getD 0
    let changed := s.fab.idPending
    let s := onFab (fun f => { f with idForce := id, idAssigned := id, idPending := false }) s
    if changed then dropHeld_ s else s

/-- A fabric device's ports train once its settings are in force (R610, step 9). -/
def openFabric (k : ResetKind) (s : State) : State :=
  let s := takeId k s
  let one := fun (p : Nat) =>
    if p < fabPortCount s ∧ flag s Reg.FAB_LINK_CFG p then { FPort.off with st := .training } else { FPort.off with cmdDown := true }
  elect (onFab (fun f => { f with ports := (List.range 4).map one }) s)

/-- Step 7: a new cache key, for every class but Warm (R413, R611). -/
def keyStep (s : State) : State :=
  if s.mgt.boot.mode = 0 ∧ s.mgt.boot.notWarm ∧ s.sec.lock = 0 ∧ s.sec.root.isSome ∧ s.sec.ready ∧ s.sec.cacheKey.isNone then
    let (t, s) := drawKey s
    onSec (fun x => { x with cacheKey := some t }) s
  else s

/-- The journal is ready; what this restart owes its peers begins. -/
def mounted (dirtyLost : Bool) (s : State) : State :=
  greet dirtyLost (onBoot (fun b => { b with jrnlDone := true }) s)

/-- Replay, from the newest usable series. -/
def mountSet (s : State) : State :=
  let (skip, benign, _) := s.mgt.boot.replay
  match s.med.media.ckpts.drop skip with
  | [] => unrecoverable s
  | c :: _ =>
    let s := if skip = 0 then s else raise Ev.jrnlCkptFallback 0 0 (onJrnl (fun j => { j with fallback := true }) s)
    let s := if benign = 0 then s else raise Ev.jrnlCkptBenign 0 0 (rcCount Reg.LDG_CKPT_STS 30 25 benign s)
    let s := replay c s
    let s := recordClass (if s.sec.sinceSeal then .cold else .rewarm) s
    mounted s.med.jrnl.incomplete (awaitHandback s)

/-- A creation is complete: the journal of the new set is ready, and a MEDIA_FORMAT ends (R71). -/
def mountMade (s : State) : State :=
  let s := makeEnd s
  if s.med.jrnl.making.isSome ∨ s.mgt.boot.jrnlDone then s else mounted s.med.jrnl.incomplete (awaitHandback s)

/-- Steps 12 and 13: labels, keys, replay; or a first media set (R71, R382). -/
def mediaStep (s : State) : State :=
  let b := s.mgt.boot
  if s.med.jrnl.making.isSome then mountMade s
  else if b.mode ≠ 0 ∨ s.sec.lock ≠ 0 ∨ s.sec.root.isNone ∨ ¬ b.mediaDone ∨ b.jrnlDone ∨ ¬ b.geomOk ∨ s.med.jrnl.unrec then s
  else if b.cls = some .warm then
    let s := warmStreams s
    if s.med.jrnl.unrec then s else mounted false s
  else if s.sec.cacheKey.isNone then s
  else if (members s).isEmpty ∧ ¬ anyLabel s then
    if ¬ s.sec.ready then s
    else match createSet none s with
      | none => s
      | some t => recordClass .cold t
  else if ¬ labelsOk s ∨ s.sec.area.isNone then unrecoverable s
  else mountSet s

/-! ### Host link enable (R370, R613, R624) -/

/-- Hosts get the mailbox only. -/
def mailOnly (s : State) : Bool :=
  s.mgt.boot.mode != 0 || s.sec.lock != 0 || !s.mgt.boot.geomOk || s.med.jrnl.unrec

/-- The class is decided and mounting has come as far as R613 asks. -/
def dataReady (s : State) : Bool :=
  match s.mgt.boot.cls with
  | none => false
  | some .warm => s.med.media.foreign.isEmpty || (s.mgt.boot.jrnlDone && foreignSent s)
  | some _ => s.mgt.boot.jrnlDone && foreignSent s

/-- Everything that R613 asks but power. -/
def linkReady (s : State) : Bool :=
  (s.mgt.boot.mode != 0 || (flag s Reg.SEC_ASSIGN_LOCK 0 && s.mgt.boot.dramDone)) && (mailOnly s || dataReady s)

/-- A restart whose cache fills from the spring map. -/
def rewarms (s : State) : Bool := s.mgt.boot.cls == some .rewarm || !s.plc.table.isEmpty

/-- The spring sectors are freed (R491). -/
def dropTable (s : State) : State :=
  onPlc (fun p => { p with table := [], cores := p.cores.map fun c => { c with sched := [] } })
    (onRsv (fun r => { r with rewarm := false, schedLen := 0 }) s)

/-- Rewarm ends (R391). -/
def endRewarm (s : State) : State := raise Ev.rewarmDone 0 0 (dropTable s)

/-- HDM decode begins: handback, the restart sweep and rewarm (R279, R386, R388). -/
def serveHdm (s : State) : State :=
  let s := openHandback (onBoot (fun b => { b with hdm := true }) s)
  let sweep := s.mgt.boot.cls == some .warm || rewarms s
  let s := onRsv (fun r => { r with sweep := sweep, marks := List.replicate (2 ^ s.hpt.chBits) 0 }) s
  if ¬ rewarms s then s
  else if flag s Reg.MED_REWARM_CFG 24 then onRsv (fun r => { r with rewarm := true }) s
  else dropTable s

/-- Tamper-Lock ends, and start-up can go on at the class decision (R382, R559). A set that was mounted before the Quench is mounted
again, from an empty cache. -/
def leaveLock (s : State) : State :=
  let mounted := s.mgt.boot.jrnlDone
  let s := onSec (fun x => { x with lock := 0, quenched := false }) (emptyCache s)
  let s := if ¬ mounted then s
    else
      let s := onCache (fun c => { Cache.reset with gens := c.gens, wseq := c.wseq }) s
      let s := onLdg (fun l => { l with excess := (0, 0), excessWt := (0, 0) }) s
      let s := { s with med := { s.med with ports := s.med.ports.map fun x => { x with cmds := [] } } }
      let s := onJrnl (fun j => { Jrnl.reset with series := j.series, pseq := j.pseq, nextCid := j.nextCid, rot := j.rot }) s
      onFab (fun f => { f with recs := [], snps := [], wbs := [], reqs := [], aside := [] })
        (onBoot (fun b => { b with jrnlDone := false, hdm := false }) s)
  let s := if s.sec.oweLost then setIncomplete (raise Ev.tamperDrainLost s.sec.lostMib 0 s) else s
  let s := onSec (fun x => { x with oweLost := false }) s
  if s.sec.sinceSeal then recordClass .cold s else onBoot (fun b => { b with cls := none }) s

/-- A success of KEY_ESCROW resets its failures and the wait (R560). -/
def escrowOk (s : State) : State := onNv (fun v => { v with escFails := 0, escUntil := 0 }) s

/-- An UNLOCK whose area write is complete succeeds and leaves Tamper-Lock (R559, step 3). -/
def unlockStep (s : State) : State :=
  match s.sec.unlock with
  | none => s
  | some p =>
    if ¬ s.sec.areaQ.isEmpty then s
    else
      leaveLock (raise Ev.escrowUnlock 0 p (bgDone p 0xC030 "SUCCESS" [] (escrowOk (onSec (fun x => { x with unlock := none }) s))))

/-- What waits in start-up goes on: an UNLOCK, keys, mounting, handback, and HDM decode where hosts are linked already. -/
def bootPump (s : State) : State :=
  if s.rsv.pst ≠ .startup ∧ s.rsv.pst ≠ .run then s
  else
    let s := greetPump (mediaStep (keyStep (unlockStep s)))
    if running s ∧ s.mgt.boot.linksOn ∧ ¬ s.mgt.boot.hdm ∧ ¬ mailOnly s ∧ dataReady s then serveHdm s else s

/-- The commit point of a trial (R624, step 3). -/
def commitTrial (s : State) : State :=
  if ¬ s.mgt.flash.mcfTrial then s
  else
    raise Ev.fwActivated 0 0 (onBoot (fun b => { b with trialEnd := none })
      (onRecord (fun f => { f with mcfTrial := false, tries := 0 }) s))

/-- Step 15: Run begins (R30, R613). -/
def enableLinks (s : State) : State :=
  let s := commitTrial (releaseBanks (onRsv (fun r => { r with pst := .run }) s))
  let s := onBoot (fun b => { b with linksOn := true, heldAt := none }) { s with epochEnd := some (nextTick s.tb s), epochAt := s.tb }
  let s := if s.mgt.boot.lastReset = .warmCmd then raise Ev.resetDone 1 0 s else s
  if mailOnly s then s else serveHdm s

/-- HOST_LINK_ENABLE (R370, R613): held while a power-fail condition stands, and 10 ms longer. -/
def execHostLinkEnable (s : State) : Res :=
  if s.rsv.pst ≠ .startup ∨ ¬ linkReady s then .next s
  else if ¬ powerGood s then .next (onBoot (fun b => { b with heldAt := some (b.heldAt.getD s.tb) }) s)
  else
    let s := if s.mgt.boot.heldAt.isSome then until_ (s.rsv.goodAt + 10000000) s else s
    .next (settle (enableLinks s))

/-- PF_HELD_TIMEOUT (R370): held for 1 s. -/
def execPfHeldTimeout (s : State) : Res :=
  match s.mgt.boot.heldAt with
  | none => .next s
  | some t =>
    if s.mgt.boot.heldTold ∨ powerGood s then .next s
    else .next (raise Ev.rsvPfHeld 0 0 (onBoot (fun b => { b with heldTold := true }) (until_ (t + 1000000000) s)))

/-! ### Start-up itself -/

/-- Events of the time before this start-up (R396, R571, R624). -/
def tellOwed (s : State) : State :=
  let s := if s.mgt.boot.lastReset = .watchdog then raise Ev.bootWatchdog 0 0 s else s
  let s := if s.rsv.oweAbort then raise Ev.rsvDrainAbort 0 0 s else s
  let s := if s.rsv.oweDorm then raise Ev.rsvDormantLost 0 0 s else s
  let s := if s.sec.oweQuench then raise Ev.tamperQuench (sourceBits s) 0 s else s
  let s := if s.sec.oweLost then setIncomplete (raise Ev.tamperDrainLost s.sec.lostMib 0 s) else s
  onRsv (fun r => { r with oweAbort := false, oweDorm := false }) (onSec (fun x => { x with oweQuench := false, oweLost := false }) s)

/-- Step 11: MED asserts PERST_N of each media port, at every start-up (R610). -/
def startMedia (s : State) : State := upTo (medPortCount s) (fun p s => drivePin ("MP" ++ toString p ++ "_PERST_N") false s) s

/-- The stages of a start-up that wait for nothing outside the core but `f` (R610, steps 2 to 10). -/
def startUp (k : ResetKind) (cause : ResetCause) (f : BootFacts) (s : State) : State :=
  let l := if s.mgt.boot.nvDone then k else .cold
  let s := onRsv (fun r => { r with pst := .startup }) (coreReset k s)
  let s := onBoot (fun b => { b with
    lastReset := if b.porDue then .por else cause, porDue := false, replay := (f.skip, f.benign, f.ms) }) s
  let s := startM (romBoot l f s)
  let s := if s.mgt.boot.mode = 2 then s else loadSettings l f s
  let s := tellOwed s
  if s.mgt.boot.mode ≠ 0 then s
  else
    let s := startMedia s
    let s := openFabric l (onNv (fun n => { n with incarn := (n.incarn + 1) % 2 ^ 16 }) s)
    let s := decideClass f s
    let warm := s.mgt.boot.cls == some .warm
    let s := loadPolicy (setGeometry f (bringDram warm f s))
    bootPump (if ¬ warm then s else if s.med.media.foreign.isEmpty then greet false (awaitHandback s) else awaitHandback s)

/-- RAILS_GOOD_RISE (R610, R665): start-up begins once MAIN_EN is high and RAILS_GOOD rises. -/
def execRailsGoodRise (f : BootFacts) (s : State) : Res :=
  if ¬ s.mgt.boot.vaux ∨ ¬ s.rsv.mainEn then .next s
  else
    let was := s.rsv.pst
    let s := onRsv (fun r => { r with railsGood := true }) s
    if was = .off then .next (startUp .cold .mainCycle f s)
    else if was = .dormant then .next (startUp .cold .mainCycle f (drivePin "DHU_EN" false (endDormant s)))
    else .next s

/-- A namespace carries no label of another media set than this part's (R679): one without a label, or a member. -/
def ownNs (s : State) (n : FoundNs) : Bool :=
  match n.label with
  | none => true
  | some l => (s.med.media.set_.map fun m => m.mset == l.mset).getD false

/-- JOURNAL_PAGE_COMPLETION (R168, R169, R325, R350), and a journal page of a media set that is being created (R71). -/
def execJournalPageCompletion (cid : Nat) (out : MOut) (s : State) : Res :=
  match findCmd s cid with
  | none => .next s
  | some c =>
    if c.lost then .next s else
    match c.what, out with
    | .page _, .aborted | .summary _ _ _, .aborted => .next (reissue c s)
    | .summary ns g false, .err => .next (sumAgain c ns g s)
    | .page _, o | .summary _ _ _, o => .next (mediaOn (pageDone c (o == .ok) (endCmd c false (o == .ok) s)))
    | _, o => .next (settle (bootPump (makeOn c o s)))

/-- LABEL_AREA_WRITE_COMPLETION (R341, R543); an UNLOCK may wait for it (R559). -/
def execLabelAreaWriteCompletion (cid : Nat) (out : MOut) (s : State) : Res :=
  match findCmd s cid with
  | none => .next s
  | some c =>
    if c.lost then .next s else
    match c.what, out with
    | .anchor _, .aborted | .area _, .aborted => .next (reissue c s)
    | .anchor _, .ok | .area _, .ok => .next (settle (bootPump (mediaOn (labelDone c (endCmd c false true s)))))
    | .anchor _, .err | .area _, .err => .next (mediaOn (endCmd c false false s))
    | _, o => .next (makeOn c o s)

/-- MEDIA_PORT_LOST (R351): link down, or fatal controller status. -/
def execMediaPortLost (p : Nat) (s : State) : Res :=
  if (s.med.ports.getD p MPort.off).link then .next (settle (bootPump (portLost p s))) else .next s

/-- MED_CTRL_READY_TIMEOUT (R318, step 4). -/
def execMedCtrlReadyTimeout (p : Nat) (s : State) : Res :=
  match (s.med.ports.getD p MPort.off).ctl.resetAt with
  | some t => .next (settle (bootPump (portLost p (until_ (t + 2 * cmdTo s) s))))
  | none => .next s

/-- A controller that is ready for the first time since the start-up joins, with its namespaces that obey R317 and belong to the set;
the drive has been flushed (R318, R351, R67). -/
def portReady (p : Nat) (nss : List FoundNs) (s : State) : State :=
  let dom := assignWord s.io (4 + p) % 4
  if (s.med.ports.getD p MPort.off).link ∨ ¬ flag s Reg.MED_PORT_EN p then s
  else if dom ≠ 1 then (if dom = 2 then raise Ev.assignRefused 0 p s else s)
  else
    let good := nss.filter fun n => n.ok && ownNs s n
    let s := eachIn (nss.filter fun n => !(n.ok && ownNs s n)) (fun _ s => raise Ev.mediaLayoutMismatch 0 p s) s
    let s := upTo nss.length (fun i s => emit (.nvme p 0 "FLUSH" i 0) s) s
    onMPort p (fun x => { x with
      link := true, ctl := ⟨true, none, s.tb, good.all (·.dsm)⟩, found := good.map (fun n => (n.blocks, n.label))
      labelled := nss.any fun n => n.label.isSome }) s

/-- MED_CTRL_READY (R317, R318, R351, R610, R679): a controller that was reset in Run is ready again; or one is ready for the first
time since the start-up, with the namespaces found behind it. `last` says that no port is waited for any more. Which namespaces are
eligible, and which media-set identifier is the set's, are no rules of the spec: DESIGN CHOICE (log 62, `memberLabels`, `createSet`). -/
def execMedCtrlReady (p : Nat) (nss : List FoundNs) (last : Bool) (s : State) : Res :=
  let x := s.med.ports.getD p MPort.off
  if medPortCount s ≤ p ∨ s.mgt.boot.mode ≠ 0 ∨ (s.rsv.pst ≠ .startup ∧ s.rsv.pst ≠ .run ∧ s.rsv.pst ≠ .geyser) then .next s
  else if x.ctl.resetAt.isSome then .next (ctlBack p s)
  else if x.lost ∨ s.rsv.pst = .geyser then .next s
  else
    let s := portReady p nss s
    if last ∧ ¬ s.mgt.boot.mediaDone then
      .next (settle (bootPump (onBoot (fun b => { b with mediaDone := true }) (admitSet s))))
    else .next (settle (bootPump s))

end Sys2Proof.Machine
end

