-- ==== Sys2Proof/Machine/Power.lean ====
section
/-! DEFINITION. Resets and power (R40, R370, R377 to R381, R610 to R617, R622, R624, R665, R666), what ends Geyser, and what a
tamper source does (R567 to R571). -/

namespace Sys2Proof.Machine

open Sys2Proof

/-! ### The end of Geyser and of Dormant -/

/-- No journal is mounted and nothing is there that Geyser would write. -/
def nothingToDrain (s : State) : Bool :=
  s.med.jrnl.streams.isEmpty && dAmount s == 0 && (snapItems s).isEmpty && s.med.jrnl.staging.isEmpty

/-- The seal of a drain that wrote its checkpoint and CLOSE; without a journal the one that stands is kept. -/
def sealDrain (s : State) : State := if s.med.jrnl.streams.isEmpty then s else writeSeal s

/-- RSV may enter Dormant (R379), never after a Quench (R568). -/
def mayDorm (s : State) : Bool :=
  flag s Reg.RSV_DORM_CFG 0 && dormEnergy s && !s.sec.quenched && s.rsv.sealRec.valid && s.rsv.sealRec.held

/-- The drain is complete: a tamper that waits for it quenches now; a reset drain and a drain with main power back go on with a
start-up; otherwise Dormant or Off (R40, R379, R570, R615). -/
def endDrain (f : BootFacts) (s : State) : State :=
  if s.sec.quenched then enterOff (endGeyser false s)
  else
    let s := endGeyser true s
    match s.sec.drainThen, s.mgt.boot.drain with
    | some _, _ => enterOff (quench s)
    | none, some .warmCmd => startUp .warm .warmCmd f (sealDrain s)
    | none, some c => startUp .cold c f (sealDrain s)
    | none, none =>
      let sealed := sealDrain s
      if powerGood s && s.rsv.railsGood then startUp .cold .mainCycle f sealed
      else if mayDorm sealed then enterDormant sealed
      else enterOff s

/-- GEYSER_DRAIN_COMPLETE (R374 step 5, R379): `f` is what a start-up that follows at once meets. -/
def execGeyserDrainComplete (f : BootFacts) (s : State) : Res :=
  if s.rsv.pst = .geyser ∧ ((drainedAll s ∧ ¬ s.sec.quenched) ∨ nothingToDrain s ∨
      (s.sec.quenched ∧ ¬ s.sec.clearing ∧ s.med.jrnl.staging.isEmpty)) then .next (endDrain f s)
  else .next s

/-- BANK_VMIN_REACHED (R377, R381). -/
def execBankVminReached (s : State) : Res :=
  if s.rsv.pst = .geyser ∧ s.rsv.banks.any (·.st == .holding) then
    .next (onRsv (fun r => { r with oweAbort := true }) (enterOff (endGeyser false s)))
  else if s.rsv.pst = .dormant then
    let s := onRsv (fun r => { r with oweDorm := true, last := { r.last with dormLost := true } }) (endDormant s)
    .next (enterOff s)
  else .next s

/-- MAIN_POWER_RETURN (R381, R665): good for 1 ms. -/
def execMainPowerReturn (s : State) : Res :=
  let s := onRsv (fun r => { r with pfLow := false, busLow := false, goodAt := s.tb }) s
  if s.mgt.boot.vaux ∧ (s.rsv.pst = .dormant ∨ s.rsv.pst = .off) then .next (setMainEn true s) else .next s

/-- RAILS_GOOD falls in start-up (R370): DRAM is held on if the seal stands. -/
def railsLost (s : State) : State :=
  if dormEnergy s && !s.sec.quenched && s.rsv.sealRec.valid && s.rsv.sealRec.held then enterDormant s else enterOff s

/-- RAILS_GOOD_FALL (R369, R370, R666): nothing happens at a commanded power-down. -/
def execRailsGoodFall (wires : List WireWr) (msgs : List WireMsg) (s : State) : Res :=
  let s := onRsv (fun r => { r with railsGood := false }) s
  if ¬ s.rsv.mainEn then .next s
  else if s.rsv.pst = .startup then .next (railsLost s)
  else .next (trip 3 wires msgs s)

/-- DRAM_RAILS_LEAVE_REGULATION (R380). -/
def execDramRailsLeaveRegulation (s : State) : Res := .next (dropHeld_ s)

/-- BANK_BLEED_DONE (R362): V has fallen to V_tgt. -/
def execBankBleedDone (n : Nat) (s : State) : Res :=
  let b := bank s n
  if b.bleed ∧ b.st ≠ .discharging then
    .next (settle (onBank n (fun b => { b with bleed := false, mv := min b.mv b.vtgt }) s))
  else .next s

/-! ### Resets -/

/-- VAUX_POWER_UP (R610, R665): the always-on domain starts and drives MAIN_EN. -/
def execVauxPowerUp (s : State) : Res :=
  if s.mgt.boot.vaux then .next s else .next (setMainEn true (onBoot (fun b => { b with vaux := true }) s))

/-- VAUX_FALL (R15): a POR. -/
def execVauxFall (s : State) : Res :=
  .next (onBoot (fun b => { b with vaux := false, porDue := true }) (coreReset .por s))

/-- A reset drain (R615): the banks do not take part. -/
def resetDrain (c : ResetCause) (s : State) : State := fence 0 false [] [] (onBoot (fun b => { b with drain := some c }) s)

/-- RESET_N_ASSERT (R614): latched after 1 µs. -/
def execResetNAssert (f : BootFacts) (s : State) : Res :=
  if running s then .next (resetDrain .resetN s)
  else if s.rsv.pst = .startup then .next (startUp .cold .resetN f s)
  else .next s

/-- A remote sector is resident. -/
def remoteLeft (s : State) : Bool := s.cache.ways.any fun e => e.2.remote && e.2.res

/-- The release phase (R616): every remote sector leaves. -/
def startRelease (s : State) : State :=
  let ks := (s.cache.ways.filter fun e => e.2.remote && e.2.res).map (·.1)
  let s := onBoot (fun b => { b with release := some s.tb }) s
  settle (eachIn ks (fun k s =>
    let w := wayAt s k
    (admitTxn { Txn.blank with src := .engine, kind := .evict, tag := 1, sk := skOfWay s k w, encl := w.encl } s).2) s)

/-- The release phase is over once no remote sector is left. -/
def releasePump (s : State) : State :=
  if s.mgt.boot.release.isSome ∧ running s ∧ ¬ remoteLeft s then resetDrain .warmCmd s else s

/-- An accepted Warm reset (R616). -/
def warmReset (noRelease : Bool) (s : State) : State :=
  if s.mgt.boot.release.isSome then s
  else if noRelease ∨ ¬ remoteLeft s then resetDrain .warmCmd s
  else releasePump (startRelease s)

/-- RELEASE_PHASE_TIMEOUT (R616): no remote sector is left, or 20 ms have passed. -/
def execReleasePhaseTimeout (s : State) : Res :=
  match s.mgt.boot.release with
  | none => .next s
  | some t =>
    if ¬ running s then .next s
    else .next (resetDrain .warmCmd (if remoteLeft s then until_ (t + 20000000) s else s))

/-- BOOT_WATCHDOG_EXPIRE (R624, step 4). -/
def execBootWatchdogExpire (f : BootFacts) (s : State) : Res :=
  match s.mgt.boot.trialEnd with
  | some t => if s.rsv.pst = .startup then .next (startUp .cold .watchdog f (until_ t s)) else .next s
  | none => .next s

/-- ROM_RECOVERY_RESET (R622): 1 s after Activate FW has completed. -/
def execRomRecoveryReset (f : BootFacts) (s : State) : Res :=
  match s.mgt.boot.romAct with
  | some t => if s.mgt.boot.mode = 2 then .next (startUp .warm .warmCmd f (until_ (t + 1000000000) s)) else .next s
  | none => .next s

/-! ### Tamper (R567 to R571) -/

/-- A source is watched now (R567). -/
def watched (t : Tamper) (s : State) : Bool :=
  s.mgt.boot.vaux && match t with
    | .switch => flag s Reg.SEC_TAMPER_CFG 0
    | .mesh => flag s Reg.SEC_TAMPER_CFG 1
    | .core => s.rsv.mainEn && s.rsv.railsGood
    | .clock => s.rsv.pst != .off && s.rsv.pst != .dormant
    | .vaux | .temp => true

/-- What a trigger leads to, by the power state and POLICY (R570). A Quench has been done already, unless an UNLOCK under way has made
keys since. -/
def tampered (wires : List WireWr) (msgs : List WireMsg) (s : State) : State :=
  let drainFirst := flag s Reg.SEC_TAMPER_CFG 2
  if s.sec.quenched ∧ s.sec.unlock.isNone then s
  else
    match s.rsv.pst with
    | .run => if drainFirst then fence 0 true wires msgs (onSec (fun x => { x with drainThen := some s.tb }) s) else quench s
    | .fence | .geyser =>
      let s := onSec (fun x => { x with inDrain := true }) s
      if drainFirst then onSec (fun x => { x with drainThen := some (x.drainThen.getD s.tb) }) s else drainPump (quench s)
    | .startup => quench s
    | .dormant => enterOff (drivePin "DHU_EN" false (quench (endDormant s)))
    | .off => quench s

/-- TAMPER_TRIGGER (R567, R568). -/
def execTamperTrigger (t : Tamper) (wires : List WireWr) (msgs : List WireMsg) (s : State) : Res :=
  if ¬ watched t s then .next s
  else
    let put := fun (l : List Tamper) => if l.contains t then l else t :: l
    .next (tampered wires msgs (onSec (fun x => { x with sources := put x.sources, asserted := put x.asserted }) s))

/-- DRAIN_MAX has passed since the trigger: Quench does not wait for the drain any longer (R570). -/
def drainOver (t : Nat) (s : State) : State :=
  quench (until_ (t + 1000000 * fld s Reg.LDG_DRAIN_MAX 11 0) s)

/-- QUENCH_SRAM_CLEARED (R568): 1 ms after the Quench. A Quench that a drain holds back comes first, LDG.DRAIN_MAX after its
trigger (R570). -/
def execQuenchSramCleared (s : State) : Res :=
  match s.sec.drainThen with
  | some t => if s.rsv.pst = .geyser then .next (drainPump (clearSram (drainOver t s))) else .next s
  | none => if s.sec.clearing then .next (settle (clearSram s)) else .next s

end Sys2Proof.Machine
end

