-- ==== Sys2Proof/Machine/Rewarm.lean ====
section
/-! DEFINITION. The restart sweep (R386), rewarm (R388 to R391, R494), the epoch tick (R29 to R33) and block resets (R618). -/

namespace Sys2Proof.Machine

open Sys2Proof

/-! ### The restart sweep -/

/-- RESTART_SWEEP_SET (R386): the sweep moves on by one set of a channel. What it writes into the sets was decided with the class. -/
def execRestartSweepSet (c : Nat) (s : State) : Res :=
  let k := s.hpt.chBits
  let top := 2 ^ (s.hpt.setBits - k)
  if ¬ s.rsv.sweep ∨ ¬ running s ∨ 2 ^ k ≤ c then .next s
  else
    .next (onRsv (fun r =>
      let ms := setAt r.marks c fun m => min top (m + 1)
      { r with marks := ms, sweep := ms.any (· < top) }) (tally Ctr.SWEEP_SET 1 (sweepRead (setAtPos s c (s.rsv.marks.getD c 0)) s)))

/-! ### Rewarm -/

/-- A schedule entry (R493): home page, mask of its sectors, heat. -/
abbrev SchedEnt := Nat × Nat × Nat

/-- The entry that the head of the stream makes: consecutive entries of one page and equal heat are one (R494), and what is left. -/
def streamEntry (t : List SprEnt) : Option (SchedEnt × List SprEnt) :=
  match t with
  | [] => none
  | e :: _ =>
    let same := fun (x : SprEnt) => x.so / 16 == e.so / 16 && x.heat == e.heat
    let run := t.takeWhile same
    some ((e.so / 16, run.foldl (fun m x => m ||| 2 ^ (x.so % 16)) 0, e.heat), t.drop run.length)

/-- A schedule entry out of the stream. -/
def takeStream (self : Bool) (s : State) : Option (SchedEnt × State) :=
  (streamEntry s.plc.table).map fun (e, rest) =>
    let n := s.plc.table.length - rest.length
    (e, onPlc (fun p => { p with table := rest, selfRead := if self then p.selfRead - n else p.selfRead }) s)

/-- A schedule entry out of the rewarm queues, round-robin over the cores (R493). -/
def takeSched (s : State) : Option (SchedEnt × State) :=
  match (rrOrder (coreCount s) s.plc.rrCore).find? fun k => !(coreAt s k).sched.isEmpty with
  | none => none
  | some k =>
    match (coreAt s k).sched with
    | [] => none
    | e :: r => some (e, onCore k (fun c => { c with sched := r }) (onPlc (fun p => { p with rrCore := k }) s))

/-- The next schedule entry (R493, R494): from the queues, or from the stream where MED reads it. -/
def nextEntry (s : State) : Option (SchedEnt × State) :=
  match takeSched s with
  | some r => some r
  | none => if ¬ schedByPcf s then takeStream false s else if 0 < s.plc.selfRead then takeStream true s else none

/-- A media command reads for rewarm; and for demand, on queues 4 and 5 (R314). -/
def readerOf (s : State) (c : Cmd) : Option Txn :=
  match c.what with
  | .fill id gen => s.cache.txns.find? fun t => t.id == id && t.gen == gen
  | _ => none

def Txn.rewarm (t : Txn) : Bool := t.src == .engine && t.tag == 1 && match t.kind with | .prefetch _ => true | _ => false

def Cmd.isFill (c : Cmd) : Bool := match c.what with | .fill _ _ => true | _ => false

def demandCmd (s : State) (c : Cmd) : Bool :=
  c.isFill && match readerOf s c with
    | some t => match t.kind with | .prefetch _ => false | _ => true
    | none => true

/-- A port takes another rewarm read (R389). -/
def rewarmRoom (s : State) (i : Nat) : Bool :=
  let cs := (s.med.ports.getD i MPort.off).cmds
  decide ((cs.filter (demandCmd s)).length < fld s Reg.MED_REWARM_CFG 23 16) &&
    decide ((cs.filter fun c => ((readerOf s c).map Txn.rewarm).getD false).length < fld s Reg.MED_REWARM_CFG 15 8)

/-- The sectors of an entry that are read: in its mask, not resident, in a set with a way free of a resident sector (R390). -/
def entrySectors (s : State) (e : SchedEnt) : List Nat × Nat :=
  let all := ((List.range 16).filter fun i => bitsOf e.2.1 i i == 1).map fun i => devId s * 2 ^ 40 + e.1 * 16 + i
  let go := all.filter fun sk => (findWay s sk).isNone && (waysOfSet (setOfSk s sk)).any fun k => !(wayAt s k).res
  (go, all.length - go.length)

/-- Rewarm ends once the schedule is exhausted (R391, R494). -/
def rewarmPump (s : State) : State :=
  if s.rsv.rewarm ∧ s.plc.table.isEmpty ∧ s.plc.cores.all (·.sched.isEmpty) then endRewarm s else s

/-- Rewarm's rate in tenths of GB/s: RATE, at most 200 or 100 on the -PM; 10% of it from give-way step 3 on (R92, R389). -/
def rewarmRate (s : State) : Nat :=
  let r := min (if s.part = .pm then 100 else 200) (max 1 (fld s Reg.MED_REWARM_CFG 7 0))
  if 3 ≤ s.cache.shed then r else 10 * r

/-- Hold rewarm to its rate for what it reads now. -/
def paceRewarm (bytes : Nat) (s : State) : State :=
  let s := until_ s.rsv.rewarmAt s
  onRsv (fun r => { r with rewarmAt := paced s.tb (10 * bytes) (rewarmRate s) }) s

/-- REWARM_READ (R388 to R391): one schedule entry is issued, once every port it needs has room. -/
def execRewarmRead (s : State) : Res :=
  if ¬ s.rsv.rewarm ∨ ¬ running s then .next s
  else
    match nextEntry s with
    | none => .next (rewarmPump s)
    | some (e, after) =>
      let (go, skipped) := entrySectors s e
      let ports := (go.flatMap fun sk => (readsFor s sk [0, 1, 2, 3]).map fun r => nsPort s r.1).eraseDups
      if ¬ ports.all (rewarmRoom s) then .next s
      else
        let t := fun (sk : Nat) => { Txn.blank with
          pool := .internal, src := .engine, kind := .prefetch e.2.2, tag := 1, sk := sk,
          encl := ((rangeOf s (skSo sk)).map (·.encl)).getD 0 }
        let s := paceRewarm (256 * go.length) (tally Ctr.REWARM_SKIP skipped after)
        .next (rewarmPump (settle (eachIn go (fun sk s => (admitTxn (t sk) s).2) s)))

/-! ### The epoch tick (R29 to R33) -/

/-- What the blocks do at a tick that falls at TB `t`; step 4 ends 160 ns after it. Once the ledger is closed no evaluation runs
(R33). -/
def tickAll (t : Nat) (adc : List Adc) (s : State) : State :=
  let s := until_ (t + 160) (policyTick (latchBanks adc (tickHead t s)))
  if s.ldg.closed then s else tickLedger s

/-- What waits on conditions that other parts of the device bring about is looked at again. -/
def afterTick (s : State) : State := releasePump (rewarmPump (backPump (greetPump s)))

/-- With no command waiting, TB advances by 1 ns (R34) and what can move moves. -/
def idle (s : State) : State := settle (afterTick { s with tb := s.tb + 1 })

/-- One give-way step is undone per tick at which no shortage stands (R92). -/
def undoShed (s : State) : State :=
  if s.cache.shedAt.isNone then onCache (fun c => { c with shed := c.shed - 1 }) s else s

/-- EPOCH_TICK (R31): the tick falls at the end of the epoch, however late the command comes (R29). -/
def execEpochTick (adc : List Adc) (s : State) : Res :=
  match s.epochEnd with
  | some t => if ticking s then .next (settle (afterTick (undoShed (tickAll t adc (until_ t s))))) else .next s
  | none => .next s

end Sys2Proof.Machine
end

