-- ==== Sys2Proof/Machine/BlockReset.lean ====
section
/-! DEFINITION. Block resets (R618). -/

namespace Sys2Proof.Machine

open Sys2Proof

/-- The block of a register, in block-index order (R10). -/
def blockOf (off : Nat) : Nat := off / 0x40000

/-- Block indices of the blocks that allow a block reset. -/
abbrev Blk.evt : Nat := 3
abbrev Blk.plc : Nat := 0xB
abbrev Blk.fab : Nat := 0xF

/-- Registers of a block take their reset values; retained settings and locks stay (R15, R617). -/
def resetRegs (b : Nat) (s : State) : State :=
  onIo (fun io => { io with regs := io.regs.filter fun r => blockOf r.1 != b || nvReg r.1 || isLock r.1 }) s

/-- The PLC block: contexts stop as at Fence, queues, staging and hints are cleared, and each core is loaded again with the image
it was running. -/
def resetPlc (s : State) : State :=
  let s := resetRegs Blk.plc (stopPlc s)
  let img := s.mgt.boot.pcf
  let s := upTo (coreCount s) (fun c s => onCore c (fun k =>
    let k := { k with outq := [], sched := [], due := false, overruns := 0 }
    match img with
    | some x => if k.baseline then baseCore k else pcfCore x (startM.ramOf x.data) c k
    | none => baseCore k) s) s
  onPlc (fun p => { p with hints := [], fenced := false, passLeft := 0 }) s

/-- The EVT block: the queue is emptied, SEQ restarts, counters and sampling are cleared; MSI-X tables are kept. -/
def resetEvt (s : State) : State :=
  onIo (fun io => { io with
    q := [], nextSeq := 1, loss := (0, 0, 0), markOn := false, markSet := [], qLatch := [], sampLatch := [],
    counters := [], snap := [], ovfRaised := false, due := [], samp := Samp.reset }) (resetRegs Blk.evt s)

/-- The FAB block: every fabric port goes down and trains again; tables are kept, TB synchronisation relocks. -/
def resetFab (s : State) : State :=
  setLocked false (upTo (fabPortCount s) (fun p s => fabDown p false s) (resetRegs Blk.fab s))

/-- A block reset, and the event that ends it; none where the block allows none. -/
def blockReset (b : Nat) (s : State) : Option State :=
  if s.rsv.pst = .fence ∨ s.rsv.pst = .geyser then none
  else if b = Blk.plc then some (settle (raise Ev.resetDone 2 0 (resetPlc s)))
  else if b = Blk.evt then some (raise Ev.resetDone 2 0 (resetEvt s))
  else if b = Blk.fab then some (settle (raise Ev.resetDone 2 0 (resetFab s)))
  else none

/-- RESET_CMD is refused (R618, R627). -/
def resetRefused (s : State) : State := rcFlag Reg.MGT_FW_STS 11 s

/-- A write of RESET_CMD (R616, R618, R627). During a reset drain a request is ignored. -/
def resetCmd (w : Nat) (s : State) : State :=
  if bitsOf w 31 16 ≠ 0x5752 ∨ bitsOf w 1 0 = 3 then resetRefused s
  else if s.mgt.boot.drain.isSome ∨ bitsOf w 1 0 = 0 then s
  else if bitsOf w 1 0 = 1 then (if running s then warmReset (bitsOf w 2 2 == 1) s else s)
  else (blockReset (bitsOf w 7 4) s).getD (resetRefused s)

end Sys2Proof.Machine
end

