-- ==== Sys2Proof/Machine/Rng.lean ====
section
/-! DEFINITION. Random numbers (R544 to R547), the SPDM responder (R556 to R558) and IDE_KM (R106). Signatures and MACs are not
computed: a request's operand says whether its MAC is right, and a response lists what the device signs or digests. -/

namespace Sys2Proof.Machine

open Sys2Proof

/-! ### The TRNG and the DRBG -/

/-- RNG_READY (R544, R546): the start-up tests have passed and the DRBG is seeded; what waits for it goes on. -/
def execRngReady (s : State) : Res :=
  if ¬ s.mgt.boot.vaux ∨ s.sec.ready then .next s
  else
    let s := onSec (fun x => { x with trng := true, ready := true, gens := 0, seedAt := s.tb }) s
    .next (settle (bootPump (raise Ev.rngReady 0 0 s)))

/-- RNG_HEALTH_FAIL (R546): output stops and the DRBG state is discarded. -/
def execRngHealthFail (s : State) : Res :=
  if ¬ s.sec.ready then .next s
  else
    let s := onSec (fun x => { x with ready := false, gens := 0 }) s
    let s := let s := rcFlag Reg.SEC_RNG_STS 1 s
      if frozen s.io Reg.SEC_RNG_STS then s
      else hwFld Reg.SEC_RNG_STS 9 2 (satAdd 255 (fld s Reg.SEC_RNG_STS 9 2) 1) s
    .next (raise Ev.rngHealth 0 0 (tally Ctr.SEC_RNG_FAIL 1 s))

/-- DRBG_RESEED (R544): after 2^16 generate requests, or 1 s after the last seed. -/
def execDrbgReseed (s : State) : Res :=
  if ¬ s.sec.ready then .next s
  else
    let s := if 2 ^ 16 ≤ s.sec.gens then s else until_ (s.sec.seedAt + 1000000000) s
    .next (onSec (fun x => { x with gens := 0, seedAt := s.tb }) s)

/-- Words returned to a master by a read of a low register whose high word is latched for it (R10). -/
def readLatched (m : Master) (lo : Nat) (a b : Word) (s : State) : State :=
  emit (.regData m lo a) (onIo (fun io => { io with hiLatch := tblPut io.hiLatch (8 * (lo + 4) + m.id) b }) s)

/-- A read of RNG_DATA_LO, through the active window or the peek mirror (R547). -/
def rngRead (m : Master) (active : Bool) (s : State) : State :=
  if active ∧ isOwner s m ∧ s.sec.ready then
    let n := s.sec.draws
    let s := onSec (fun x => { x with draws := n + 2, gens := x.gens + 1 }) s
    readLatched m Reg.SEC_RNG_DATA_LO (Config.drbg n) (BitVec.ofNat 32 ((Config.drbg (n + 1)).toNat % 2 ^ 16 + 2 ^ 31)) s
  else readLatched m Reg.SEC_RNG_DATA_LO 0 0 s

/-- RNG_DATA_READ (R545, R547). -/
def execRngDataRead (m : Master) (active : Bool) (s : State) : Res := .next (rngRead m active s)

/-! ### SPDM (R556, R557) -/

/-- A response over the DOE mailbox of a port. -/
def doe (p : Nat) (kind : String) (payload : List Nat) (s : State) : State := emit (.doe p kind payload) s

/-- A request that is answered whatever READY is. -/
def spdmPlain (p : Nat) (kind : String) (payload : List Nat) (s : State) : Res :=
  if serves s p then .next (doe p kind payload s) else .next s

/-- A request that needs the DRBG (R545). -/
def spdm (p : Nat) (f : State → State) (s : State) : Res :=
  if ¬ serves s p then .next s
  else if ¬ s.sec.ready then .next (doe p "ERROR_RESPONSE_NOT_READY" [] s)
  else .next (f s)

/-- A request of a session of the port; another is an error. -/
def inSession (p id : Nat) (f : Session → State → State) (s : State) : State :=
  match s.sec.sessions.find? fun x => x.id == id && x.port == p with
  | some x => f x s
  | none => doe p "ERROR_INVALID_SESSION" [id] s

def onSession (id : Nat) (f : Session → Session) (s : State) : State :=
  onSec (fun x => { x with sessions := x.sessions.map fun y => if y.id = id then f y else y }) s

/-- GET_VERSION (R556): SPDM 1.2. -/
def execGetVersion (p : Nat) (s : State) : Res := spdmPlain p "VERSION" [0x12] s

/-- GET_CAPABILITIES (R556). -/
def execGetCapabilities (p : Nat) (s : State) : Res := spdmPlain p "CAPABILITIES" [] s

/-- NEGOTIATE_ALGORITHMS (R556): ECDSA P-384, SHA-384, ECDHE P-384, AES-256-GCM, the one choice of each kind. -/
def execNegotiateAlgorithms (p : Nat) (s : State) : Res := spdmPlain p "ALGORITHMS" [384, 384, 384, 256] s

/-- GET_DIGESTS (R556): slot 0 only, by its mask. -/
def execGetDigests (p : Nat) (s : State) : Res := spdm p (doe p "DIGESTS" [1]) s

/-- The chain in slot 0 (R557): root (the engineering root on the -EX), device CA, identity certificate, and the alias certificate of
the running MCF. -/
def chain (s : State) : List Nat :=
  let v := (s.mgt.boot.mcf.map (·.ver)).getD (0, 0, 0)
  [if s.part = .ex then 1 else 0, 2, 3, 4, v.1, v.2.1, v.2.2]

/-- GET_CERTIFICATE (R556, R557). -/
def execGetCertificate (p slot : Nat) (s : State) : Res :=
  spdm p (fun s => if slot = 0 then doe p "CERTIFICATE" (chain s) s else doe p "ERROR_INVALID_REQUEST" [] s) s

/-- CHALLENGE (R556): signed by the alias key over the nonce. -/
def execChallenge (p slot nonce : Nat) (s : State) : Res :=
  spdm p (fun s => if slot = 0 then doe p "CHALLENGE_AUTH" [nonce] s else doe p "ERROR_INVALID_REQUEST" [] s) s

/-- JTAG and core debug are open (R566). -/
def debugOpen (s : State) : Bool := s.part == .ex && !flag s Reg.SEC_DEBUG_CTL 0

/-- SEC.DEBUG_STS (R574). -/
def debugSts (s : State) : Nat := (if s.part = .ex then 0 else 1) + (if debugOpen s then 2 else 0)

/-- An image as a measurement names it. -/
def imageWords (i : Option Image) : List Nat :=
  match i with
  | some x => [x.ver.1, x.ver.2.1, x.ver.2.2, x.hwiMajor, x.mpiMajor, x.mpiMinor]
  | none => []

/-- What measurement i digests (R556). -/
def measured (s : State) (i : Nat) : List Nat :=
  match i with
  | 1 => [1]
  | 2 => imageWords s.mgt.boot.mcf
  | 3 => imageWords s.mgt.boot.pcf
  | 4 => s.part.code :: (imageWords s.mgt.boot.mcf).drop 3 ++ (imageWords s.mgt.boot.pcf).drop 3
  | 5 => (regOf s.io Reg.SEC_TAMPER_CFG).toNat :: ((List.range 60).map (assignWord s.io)) ++
      [fld s Reg.SEC_ASSIGN_LOCK 0 0, debugSts s, (regOf s.io Reg.CCH_ARRAY_MODE).toNat]
  | _ => []

/-- GET_MEASUREMENTS (R556): one index, or with 255 all of them; signed by the alias key. -/
def execGetMeasurements (p idx : Nat) (s : State) : Res :=
  spdm p (fun s =>
    if idx = 255 then doe p "MEASUREMENTS" ([1, 2, 3, 4, 5].flatMap (measured s)) s
    else if 1 ≤ idx ∧ idx ≤ 5 then doe p "MEASUREMENTS" (measured s idx) s
    else doe p "ERROR_INVALID_REQUEST" [] s) s

/-- KEY_EXCHANGE (R556): at most 8 sessions. -/
def execKeyExchange (p : Nat) (s : State) : Res :=
  spdm p (fun s =>
    if 8 ≤ s.sec.sessions.length then doe p "ERROR_BUSY" [] s
    else
      let (t, s) := drawKey s
      let id := s.sec.nextSession
      let x : Session := { id := id, port := p, established := false, lastSeq := 0, secret := t, updates := 0 }
      let s := onSec (fun y => { y with sessions := y.sessions ++ [x], nextSession := id + 1 }) s
      doe p "KEY_EXCHANGE_RSP" [id] (tally Ctr.SEC_SPDM_SESSION 1 s)) s

/-- FINISH (R556): the session is established once the host's verify data are right. -/
def execFinish (p id : Nat) (ok : Bool) (s : State) : Res :=
  spdm p (inSession p id fun _ s =>
    if ok then doe p "FINISH_RSP" [id] (onSession id (fun x => { x with established := true }) s)
    else doe p "ERROR_DECRYPT" [id] s) s

/-- HEARTBEAT (R556). -/
def execHeartbeat (p id : Nat) (s : State) : Res :=
  spdm p (inSession p id fun x s => doe p (if x.established then "HEARTBEAT_ACK" else "ERROR_UNEXPECTED") [id] s) s

/-- KEY_UPDATE (R556): the session's secrets are renewed. -/
def execKeyUpdate (p id : Nat) (s : State) : Res :=
  spdm p (inSession p id fun x s =>
    if x.established then doe p "KEY_UPDATE_ACK" [id] (onSession id (fun y => { y with updates := y.updates + 1 }) s)
    else doe p "ERROR_UNEXPECTED" [id] s) s

/-- END_SESSION (R538): the session's secrets are gone. -/
def execEndSession (p id : Nat) (s : State) : Res :=
  spdm p (inSession p id fun _ s =>
    doe p "END_SESSION_ACK" [id] (onSec (fun x => { x with sessions := x.sessions.filter (·.id != id) }) s)) s

/-- IDE_KM (R106, R107): the stream's keys are programmed and it is established, within an SPDM session or outside one. -/
def execIdeKm (p : Nat) (mem skid : Bool) (session : Option Nat) (s : State) : Res :=
  spdm p (fun s =>
    let known := fun (id : Nat) => s.sec.sessions.any fun x => x.id == id && x.port == p && x.established
    match session.map known with
    | some false => doe p "ERROR_INVALID_SESSION" [] s
    | in_ =>
      let (t, s) := drawKey s
      let x : Stream := { est := true, spdm := in_.isSome, skid := skid && mem, tok := t }
      let s := onSec (fun y => if mem then { y with ideMem := tblPut y.ideMem p x } else { y with ideIo := tblPut y.ideIo p x }) s
      doe p "IDE_KM_ACK" [] s) s

end Sys2Proof.Machine
end

