-- ==== Sys2Proof/Machine/Sec.lean ====
section
/-! DEFINITION. KEY_ESCROW (R559, R560), enclaves (R552 to R555), KEY_ROTATE (R343, R541) and MEDIA_FORMAT (R71). -/

namespace Sys2Proof.Machine

open Sys2Proof

/-- A command within an SPDM session (R98, R558), which generates keys (R545): its trailer first, then READY. -/
def keyCmd (p opc : Nat) (tr : Trailer) (f : State → State) (s : State) : State :=
  match takeTrailer p tr s with
  | (none, s) => mboxDone p opc "ENCLAVE_DENIED" [] s
  | (some _, s) => if s.sec.ready then f s else mboxDone p opc "NOT_READY" [] s

/-- A command that completes with its area write (R543). -/
def awaitArea (p opc k : Nat) (s : State) : State :=
  let s := cmdBegin p opc s
  let o : RangeOp := { port := p, opcode := opc, stage := 3, segs := [], all := [], encl := 0, setEncl := some (k, k), binds := [],
                       status := [], waits := [], flushing := [] }
  settle (onCache (fun c => { c with ops := c.ops ++ [o] }) s)

/-- A command of this kind is still running on the port. -/
def opRuns (s : State) (p opc : Nat) : Bool := s.cache.ops.any fun o => o.port == p && o.opcode == opc

/-! ### KEY_ESCROW -/

/-- A KEY that does not match (R559, R560): after 4 of them in succession the wait begins, and doubles. -/
def escrowMismatch (p : Nat) (s : State) : State :=
  let n := s.mgt.nv.escFails + 1
  let s := onNv (fun v => { v with
    escFails := n
    escUntil := if n < 4 then v.escUntil else s.tb + 1000000000 * min 3600 (10 * 2 ^ (min 16 (n - 4))) }) s
  mboxDone p 0xC030 "KEY_MISMATCH" [] (raise Ev.escrowMismatch 0 p s)

/-- Tamper-Lock is left at once, and start-up goes on. -/
def leaveNow (s : State) : State := settle (bootPump (leaveLock (escrowOk s)))

/-- UNLOCK in Tamper-Lock with media ready (R559): with a key area, it ends with that area's write. -/
def unlockWith (p key : Nat) (s : State) : State :=
  let root := fun (s : State) =>
    let (t, s) := drawKey s
    onSec (fun x => { x with root := some t }) s
  let first := fun (s : State) => onSec (fun x => { x with escrow := some key }) (root s)
  if (members s).isEmpty then done p 0xC030 [] (leaveNow (first s))
  else
    match s.sec.area with
    | none => done p 0xC030 [] (unrecoverable (leaveNow (first s)))
    | some a =>
      if a.escrow ≠ key then escrowMismatch p s
      else
        let s := onSec (fun x => { x with
          media := a.keys, ranges := a.ranges, areaQ := [], areaA := [], areaB := [], unlock := some p }) (root (cmdBegin p 0xC030 s))
        settle (bootPump (writeArea a.escrow s).2)

/-- The port's CXL.io link IDE stream is established (R106). -/
def ioSecured (s : State) (p : Nat) : Bool := ((tblFind s.sec.ideIo p).map (·.est)).getD false

/-- KEY_ESCROW_UNLOCK (R559, R560): `key` stands for KEY by the check value it gives; `asserted` are the tamper sources asserted
now. -/
def execKeyEscrowUnlock (p key : Nat) (asserted : List Tamper) (tr : Trailer) (s : State) : Res :=
  mbox p 0xC030 true (fun s =>
    let answer := fun (st : String) (s : State) => mboxDone p 0xC030 st [] s
    if ¬ ioSecured s p then answer "ENCLAVE_DENIED" s
    else
      match takeTrailer p tr s with
      | (none, s) => answer "ENCLAVE_DENIED" s
      | (some _, s) =>
        if s.sec.lock = 0 then invalid p 0xC030 s
        else
          let s := onSec (fun x => { x with asserted := asserted }) s
          if ¬ asserted.isEmpty then answer "LOCKED" s
          else if ¬ s.sec.ready ∨ ¬ s.mgt.boot.mediaDone then answer "NOT_READY" s
          else if s.tb < s.mgt.nv.escUntil ∨ s.sec.unlock.isSome then answer "BUSY" s
          else unlockWith p key s) s

/-- KEY_ESCROW_CHANGE (R559, R560). -/
def execKeyEscrowChange (p key newKey : Nat) (tr : Trailer) (s : State) : Res :=
  mbox p 0xC030 true (fun s =>
    let answer := fun (st : String) (s : State) => mboxDone p 0xC030 st [] s
    if ¬ ioSecured s p then answer "ENCLAVE_DENIED" s
    else
      keyCmd p 0xC030 tr (fun s =>
        if s.sec.lock ≠ 0 then answer "LOCKED" s
        else if s.tb < s.mgt.nv.escUntil ∨ opRuns s p 0xC030 then answer "BUSY" s
        else if s.sec.area.isNone then
          if s.sec.escrow = some key then
            done p 0xC030 [] (escrowOk (onSec (fun x => { x with escrow := some newKey }) s))
          else escrowMismatch p s
        else if areaEscrow s ≠ key then escrowMismatch p s
        else awaitArea p 0xC030 0 (writeArea newKey (escrowOk s)).2) s) s

/-- ESCROW_WAIT_EXPIRE (R560). -/
def execEscrowWaitExpire (s : State) : Res :=
  if s.tb < s.mgt.nv.escUntil then .next (until_ s.mgt.nv.escUntil s) else .next s

/-! ### Enclaves -/

/-- Pages of HO that a range of a command names, or why not (R74, R552). -/
def homeRange (s : State) (r : Nat × Nat) : Except String (Nat × Nat) :=
  if r.1 % 4096 ≠ 0 ∨ r.2 = 0 then .error "INVALID_INPUT"
  else
    match mapDa s r.1, mapDa s (r.1 + 4096 * r.2 - 256) with
    | .ok a, .ok b =>
      if ¬ isLocal s a ∨ ¬ isLocal s b then .error "CROSS_HOME"
      else if skSo a / 2 ^ 28 ≠ skSo b / 2 ^ 28 ∨ skSo a / 16 + r.2 - 1 ≠ skSo b / 16 then .error "INVALID_INPUT"
      else .ok (skSo a / 16, skSo b / 16)
    | _, _ => .error "INVALID_INPUT"

/-- Two page ranges overlap. -/
def meet (a b : Nat × Nat) : Bool := decide (a.1 ≤ b.2) && decide (b.1 ≤ a.2)

/-- Free entries of the range table, lowest first. -/
def freeRanges (s : State) (n : Nat) : List Nat :=
  ((List.range (s.sec.ranges.length + n)).filter fun i => (tblFind s.sec.ranges i).isNone && decide (i < 4096)).take n

/-- The ranges that ENCLAVE_CREATE adds, or why it fails: those the ID has already are left alone (R555). -/
def newRanges (s : State) (id : Nat) (rs : List (Nat × Nat)) : Except String (List (Nat × Nat)) :=
  let step := fun (acc : Except String (List (Nat × Nat))) (r : Nat × Nat) =>
    match acc, homeRange s r with
    | .error e, _ => .error e
    | .ok _, .error e => .error e
    | .ok l, .ok x =>
      if s.sec.ranges.any fun y => y.2.encl == id && y.2.st == .active && y.2.base == x.1 && y.2.last == x.2 then .ok l
      else if (s.sec.ranges.any fun y => meet x (y.2.base, y.2.last)) || l.any (meet x) then .error "INVALID_INPUT"
      else .ok (l ++ [x])
  match rs.foldl step (.ok []) with
  | .error e => .error e
  | .ok l => if (freeRanges s l.length).length < l.length then .error "FULL" else .ok l

/-- A binding that ENCLAVE_CREATE may make (R107, R552, R562): port and decoder. -/
def mayBind (s : State) (id : Nat) (b : Nat × Nat) : Bool :=
  let secured := ((tblFind s.sec.ideMem b.1).map fun x => x.est && x.spdm).getD false
  let a := assignWord s.io b.1
  decide (b.1 < portCount s) && decide (b.2 < 4) && secured && (bitsOf a 1 0 != 2 || inSet s.io (bitsOf a 5 2) id)

/-- The key of an enclave, generated if it has none (R553, step 1). -/
def enclaveKey (id : Nat) (s : State) : State :=
  if (tblFind s.sec.media id).isSome then s
  else
    let (t, s) := drawKey s
    onSec (fun x => { x with media := tblPut x.media id ⟨0, t, none⟩ }) s

/-- Enclave commands begin with their area write (R553 step 2, R554 step 2). -/
def enclaveOp (p opc id own : Nat) (segs : List (Nat × Nat)) (binds : List Nat) (s : State) : State :=
  let o : RangeOp := { port := p, opcode := opc, stage := 0, segs := segs, all := segs, encl := id, setEncl := some (id, own),
                       binds := binds, status := [], waits := [], flushing := [] }
  settle (onCache (fun c => { c with ops := c.ops ++ [o] }) (writeArea (areaEscrow s) (cmdBegin p opc s)).2)

/-- A command that interrupts or repeats one of the same enclave waits for it (R555). -/
def enclaveBusy (s : State) (p opc id : Nat) : Bool :=
  opRuns s p opc || s.cache.ops.any fun o => o.encl == id && (o.opcode == Mb.create || o.opcode == Mb.destroy)

/-- ENCLAVE_CREATE (R552, R553): ranges as DA and length in 4 KiB pages, bindings as port and decoder. -/
def execEnclaveCreate (p id : Nat) (ranges binds : List (Nat × Nat)) (rsv : Nat) (tr : Trailer) (s : State) : Res :=
  mbox p Mb.create true (keyCmd p Mb.create tr fun s =>
    if id = 0 ∨ 1023 < id ∨ 16 < ranges.length ∨ 16 < binds.length ∨ rsv ≠ 0 then invalid p Mb.create s
    else if enclaveBusy s p Mb.create id then mboxDone p Mb.create "BUSY" [] s
    else
      match newRanges s id ranges with
      | .error e => mboxDone p Mb.create e [] s
      | .ok rs =>
        if ¬ binds.all (mayBind s id) then mboxDone p Mb.create "ENCLAVE_DENIED" [] s
        else
          let s := enclaveKey id s
          let at_ := (freeRanges s rs.length).zip rs
          let s := onSec (fun x => { x with
            ranges := at_.foldl (fun t (e : Nat × Nat × Nat) => tblPut t e.1 ⟨e.2.1, e.2.2, id, .creating⟩) x.ranges }) s
          enclaveOp p Mb.create id id (rs.map fun r => (16 * r.1, 16 * (r.2 + 1))) (binds.map fun b => 4 * b.1 + b.2) s) s

/-- ENCLAVE_DESTROY (R554). -/
def execEnclaveDestroy (p id : Nat) (rsv : Nat) (tr : Trailer) (s : State) : Res :=
  mbox p Mb.destroy true (fun s =>
    match takeTrailer p tr s with
    | (none, s) => mboxDone p Mb.destroy "ENCLAVE_DENIED" [] s
    | (some _, s) =>
      let mine := s.sec.ranges.filter (·.2.encl == id)
      if id = 0 ∨ 1023 < id ∨ rsv ≠ 0 then invalid p Mb.destroy s
      else if enclaveBusy s p Mb.destroy id then mboxDone p Mb.destroy "BUSY" [] s
      else if mine.isEmpty ∧ (tblFind s.sec.media id).isNone then done p Mb.destroy [] s
      else
        let s := onSec (fun x => { x with binds := tblFilter (fun _ e => e != id) x.binds }) s
        let s := onRanges id (fun r => some { r with st := .destroying }) s
        enclaveOp p Mb.destroy id 0 (mine.map fun r => (16 * r.2.base, 16 * (r.2.last + 1))) [] s) s

/-! ### KEY_ROTATE and MEDIA_FORMAT -/

/-- KEY_ROTATE (R343, R541, R545) of key k. -/
def execKeyRotate (p k : Nat) (tr : Trailer) (s : State) : Res :=
  mbox p 0xC033 true (keyCmd p 0xC033 tr fun s =>
    if s.med.jrnl.rot.isSome ∨ opRuns s p 0xC033 then mboxDone p 0xC033 "BUSY" [] s
    else
      match tblFind s.sec.media k with
      | none => invalid p 0xC033 s
      | some x =>
        let (t, s) := drawKey s
        let g := (x.gen + 1) % 16
        let s := onSec (fun y => { y with media := tblPut y.media k ⟨g, t, some (x.gen, x.tok)⟩ }) s
        let s := onJrnl (fun j => { j with rot := some ⟨k, x.gen, g, 0, false⟩ }) s
        awaitArea p 0xC033 k (writeArea (areaEscrow s) s).2) s

/-- What is on its way to the old media set goes to the new one: staged records are packed again, commands of the old layout are
dropped; fills keep theirs. -/
def moveStaged (s : State) : State :=
  let rs := s.med.jrnl.staging.flatMap (·.recs)
  let keep := rs.filter fun r => !r.free_ && (r.ty == .data || r.ty == .zero || r.ty == .poison)
  let s := { s with med := { s.med with ports := s.med.ports.map fun x => { x with cmds := x.cmds.filter fun c => c.isFill || c.what == .create } } }
  let s := onJrnl (fun j => { j with staging := [], sinters := [], ckpt := none }) s
  (packRecs none keep s).2

/-- MEDIA_FORMAT (R71, R96): a new media set from MED.LAYOUT. -/
def execMediaFormat (p : Nat) (s : State) : Res :=
  mbox p 0xC040 true (fun s =>
    if ¬ s.sec.ready then mboxDone p 0xC040 "NOT_READY" [] s
    else
      background p 0xC040 (fun s =>
        match createSet (some p) s with
        | none => bgEnd p 0xC040 "INVALID_INPUT" s
        | some s => settle (moveStaged s)) s) s

end Sys2Proof.Machine
end

