-- ==== Sys2Proof/Machine/RegView.lean ====
section
/-! DEFINITION. What a register reads as (R10 to R12, R77, R78, R580, R653 to R658): the stored word with the live fields over it, page
headers, entries that select registers choose, and the counter pages. -/

namespace Sys2Proof.Machine

open Sys2Proof

/-- A live field: bits hi..lo and the value they show. -/
abbrev LiveF := Nat × Nat × Nat

/-- A live bit. -/
def bitF (i : Nat) (b : Bool) : LiveF := (i, i, if b then 1 else 0)

/-- A word with live fields over it; each value saturates at its width. -/
def overlay (fs : List LiveF) (w : Nat) : Nat :=
  fs.foldl (fun w f => setBits w f.1 f.2.1 (min f.2.2 (2 ^ (f.1 + 1 - f.2.1) - 1))) w

/-- The low and the high word of a pair. -/
def loW (v : Nat) : List LiveF := [(31, 0, v % 2 ^ 32)]
def hiW (v : Nat) : List LiveF := [(31, 0, v / 2 ^ 32 % 2 ^ 32)]

/-- Bits of a mask for which `p` holds. -/
def maskWhere (n : Nat) (p : Nat → Bool) : Nat := sumN ((List.range n).map fun i => if p i then 2 ^ i else 0)

/-- MiB, rounded up (R310). -/
def mibUp (v : Nat) : Nat := ceilDiv v (2 ^ 20)

/-- Whether the register at `off` is register `i` of a row. -/
def rowOf (off base stride n : Nat) : Option Nat :=
  if base ≤ off ∧ off < base + stride * n ∧ (off - base) % stride = 0 then some ((off - base) / stride) else none

/-! ### MGT, CTR, SEC, EVT -/

def ResetCause.code : ResetCause → Nat
  | .por => 0 | .resetN => 1 | .mainCycle => 2 | .warmCmd => 3 | .watchdog => 4

/-- Age of the last heartbeat in ms (R589). -/
def hbAge (s : State) : Nat := if s.mgt.own.owner.isSome then (s.tb - s.mgt.own.hbAt) / 1000000 else 0

def liveMgt (s : State) (off : Nat) : List LiveF :=
  let o := s.mgt.own
  let n := s.mgt.nv
  let b := s.mgt.boot
  let f := s.mgt.flash
  if off = Reg.MGT_DEV_ID then [(11, 8, s.part.code), bitF 12 (s.part != .ex)]
  else if off = Reg.MGT_OWN_STS then
    [bitF 0 o.owner.isSome, (3, 1, (o.owner.map Master.id).getD 0), (11, 4, o.prio), bitF 12 o.handover.isSome,
     (15, 13, (o.handover.map (·.1.id)).getD 0), (24, 16, hbAge s), (31, 26, o.changes % 64)]
  else if off = Reg.MGT_CFG_STS then
    [bitF 0 (nvBusy s), bitF 1 (match n.job with | some (.sinter _ _ _) => true | _ => false), bitF 2 n.armed.isSome,
     bitF 3 n.facDone, bitF 4 (!(nvDiffs s).isEmpty), (5, 5, n.cur), (18, 6, (bankSlots s n.cur).length),
     (31, 19, ((nvImage (bankSlots s n.cur)).map (·.1)).getD 0 % 8192)]
  else if off = Reg.MGT_FW_STS then
    [(1, 0, if b.mode = 0 ∧ s.sec.lock ≠ 0 then 3 else b.mode), (2, 2, b.mcfSlot), bitF 3 b.provisional,
     bitF 4 f.mcfPending, bitF 5 f.pcfPending, bitF 6 f.mcfTrial, (10, 8, b.lastReset.code), (15, 12, b.mcfReason)]
  else if off = Reg.MGT_I3C_STS then [(6, 0, s.mgt.i3c.daddr), bitF 7 s.mgt.i3c.i3cMode]
  else []

def liveCtr (s : State) (off : Nat) : List LiveF :=
  if off = Reg.CTR_TB_LO then loW s.tb
  else if off = Reg.CTR_TB_HI then hiW s.tb
  else if off = Reg.CTR_EPOCH_CNT_LO then loW s.epochCnt
  else if off = Reg.CTR_EPOCH_CNT_HI then hiW s.epochCnt
  else if off = Reg.CTR_TICK_LAST_LO then loW s.tickLast
  else if off = Reg.CTR_TICK_LAST_HI then hiW s.tickLast
  else []

/-- An entry of the range table as R548 lays it out. -/
def Range.bits (r : Range) : Nat :=
  r.base % 2 ^ 36 + 2 ^ 36 * (r.last % 2 ^ 36) + 2 ^ 72 * (r.encl % 1024) +
    2 ^ 82 * (match r.st with | .active => 1 | .creating => 2 | .destroying => 3)

/-- ASSIGN_LOCK is set. -/
def assignLocked (s : State) : Bool := flag s Reg.SEC_ASSIGN_LOCK 0

/-- What is left of an escrow wait, in s (R560). -/
def escrowWait (s : State) : Nat := ceilDiv (s.mgt.nv.escUntil - s.tb) 1000000000

def liveSec (s : State) (off : Nat) : List LiveF :=
  let x := s.sec
  if off = Reg.SEC_ASSIGN_DATA then [(5, 0, assignWord s.io (fld s Reg.SEC_ASSIGN_SEL 5 0))]
  else if off = Reg.SEC_ESET_DATA then
    [(10, 0, tblGet 0 s.io.eset (16 * fld s Reg.SEC_ESET_SEL 3 0 + fld s Reg.SEC_ESET_SEL 7 4))]
  else if off = Reg.SEC_PIN_ATTR then
    if assignLocked s then [(15, 0, maskWhere 16 fun i => assignWord s.io (44 + i) % 4 == 0)] else []
  else if off = Reg.SEC_DMA_ATTR then if assignLocked s then [(31, 0, 0xF0000)] else []
  else if off = Reg.SEC_DEBUG_CTL then if s.part = .ex then [] else [(0, 0, 1)]
  else if off = Reg.SEC_RNG_STS then [bitF 0 x.ready]
  else if off = Reg.SEC_KEY_STS then
    [bitF 0 x.root.isSome, bitF 1 x.cacheKey.isSome, bitF 2 (!x.media.isEmpty), bitF 3 (x.lock != 0), (5, 4, x.lock),
     (15, 6, (x.media.filter fun k => k.1 != 0).length)]
  else if off = Reg.SEC_TAMPER_STS then [(5, 0, sourceBits s), bitF 6 x.quenched, bitF 7 x.inDrain]
  else if off = Reg.SEC_TAMPER_LOST then [(19, 0, x.lostMib)]
  else if off = Reg.SEC_DEBUG_STS then [(1, 0, debugSts s)]
  else if off = Reg.SEC_FW_KEY_STS then [(3, 0, maskWhere 4 fun k => x.revoked.contains k), (5, 4, s.mgt.boot.keyUsed)]
  else if off = Reg.SEC_ESCROW_STS then [(7, 0, s.mgt.nv.escFails), (19, 8, escrowWait s)]
  else
    match rowOf off Reg.SEC_RANGE_DATA 4 4 with
    | some i => [(31, 0, ((tblFind x.ranges (fld s Reg.SEC_RANGE_SEL 11 0)).map Range.bits).getD 0 / 2 ^ (32 * i) % 2 ^ 32)]
    | none => []

/-- The counter that a word of a counter page shows, whether the word is the high one, and whether the page is a snapshot
(R644, R645). -/
def ctrPage (off : Nat) : Option (Nat × Bool × Bool) :=
  let page := off / 4096 % 64
  let i := off % 4096
  if blockOf off = Blk.evt ∧ 16 ≤ page ∧ page < 48 ∧ 0x40 ≤ i ∧ i < 0x40 + 8 * 48 ∧ (i - 0x40) / 8 < ctrCount (page % 16) then
    some (48 * (page % 16) + (i - 0x40) / 8, i % 8 = 4, 32 ≤ page)
  else none

def liveEvt (s : State) (off : Nat) : List LiveF :=
  let q := s.io.q
  if off = Reg.EVT_Q_STS then
    [(12, 0, q.length), (25, 13, (q.filter fun e => !e.read).length), bitF 26 (oldestUnread q .critical).isSome,
     bitF 27 (!roomNonCrit q)]
  else if off = Reg.EVT_SAMPLE_STS then [(12, 0, s.io.samp.recs.length)]
  else
    match rowOf off Reg.EVT_Q_ENTRY 4 8, rowOf off Reg.EVT_SAMPLE_REC 4 8, ctrPage off with
    | some i, _, _ => [(31, 0, (headWord q i).toNat)]
    | _, some i, _ => [(31, 0, (sampWord s.io i).toNat)]
    | _, _, some (c, hi, sn) =>
      let v := tblGet 0 (if sn then s.io.snap else s.io.counters) c
      if hi then hiW v else loW v
    | _, _, _ => []

/-! ### TRK, TAG, WBF, COH, ATM -/

/-- Tracker entries in use. -/
def trkUse (s : State) : Nat := (s.cache.txns.filter Txn.held).length

/-- Atomics that hold a sector Busy or stand at the head of a queue (R234). -/
def atomUse (s : State) : Nat :=
  (s.cache.txns.filter fun t => (t.busy || t.holder || (t.ph == .queued && (before s t).isEmpty)) &&
    match t.kind with | .atomic _ | .append _ | .fAtom _ => true | _ => false).length

def liveCachePart (s : State) (off : Nat) : List LiveF :=
  let c := s.cache
  if off = Reg.TRK_ALLOC then [(14, 0, trkUse s), (29, 16, poolUse s .shared)]
  else if off = Reg.TRK_SHED_STS then [(2, 0, c.shed), bitF 3 s.med.jrnl.high]
  else if off = Reg.TAG_GEOM then [(5, 0, s.hpt.setBits), (8, 6, s.hpt.chBits), bitF 9 s.hpt.mirror]
  else if off = Reg.TAG_SPEC_STS then
    [(11, 0, specInflight s),
     bitF 12 (!flag s Reg.TAG_SPEC_CFG 0 || fld s Reg.TAG_SPEC_CFG 22 11 == 0 || decide (1 ≤ c.shed))]
  else if off = Reg.WBF_OCC then [(13, 0, wbUse s), (23, 14, c.nt.length)]
  else if off = Reg.WBF_SCHED_STS then [(1, 0, (schedMode s).code), bitF 2 c.skipping]
  else if off = Reg.ATM_ATM_STS then [(14, 0, atomUse s)]
  else []

/-- A domain-table entry (R243). -/
def domWord (s : State) (d : Nat) : Nat :=
  match tblFind s.hpt.dom d with
  | some v => v % 4096 + 4096
  | none => 0

/-- Eight hop counts of a row (R244). -/
def hopWord (s : State) (row group : Nat) : Nat :=
  sumN ((List.range 8).map fun j => tblGet 0xF s.hpt.hop (64 * row + 8 * group + j) % 16 * 16 ^ j)

def liveCoh (s : State) (off : Nat) : List LiveF :=
  let c := s.cache
  if off = Reg.COH_SF_OCC then [(23, 0, c.sf.length)]
  else if off = Reg.COH_SF_STS then [bitF 16 (!c.walks.isEmpty)]
  else if off = Reg.COH_SF_WALK then [(19, 0, (c.walks.head?.map (·.set)).getD 0), (27, 20, c.walks.length - 1)]
  else if off = Reg.COH_HMAP_DATA then [(25, 0, (hmapEntry s (fld s Reg.COH_HMAP_SEL 11 0)).word)]
  else if off = Reg.COH_HMAP_STS then [bitF 0 s.hpt.pend.isSome, (13, 2, (s.hpt.pend.map (·.1)).getD 0)]
  else if off = Reg.COH_INCARN then [(15, 0, s.mgt.nv.incarn % 2 ^ 16)]
  else if off = Reg.COH_DOM_DATA then [(12, 0, domWord s (fld s Reg.COH_DOM_SEL 11 0))]
  else if off = Reg.COH_HOP_DATA then [(31, 0, hopWord s (fld s Reg.COH_HOP_SEL 11 0) (fld s Reg.COH_HOP_SEL 14 12))]
  else if off = Reg.COH_DIR_OCC then [(21, 0, c.dir.length)]
  else if off = Reg.COH_DIR_STS then [bitF 16 (!c.dirSusp.isEmpty), bitF 17 (!s.fab.marks.isEmpty)]
  else if off = Reg.COH_FHB_STS then [(12, 0, s.fab.waiting.length), bitF 13 s.fab.forced, bitF 14 s.fab.noSnap]
  else
    match rowOf off Reg.COH_BI_OUT 4 4 with
    | some p => [(11, 0, biOut s p)]
    | none => []

/-! ### CCH, PLC -/

/-- Logical channels, each with its scrub position: channels, or pairs where mirrored. -/
def scrubLines (s : State) : List Chan := (List.range (2 ^ s.hpt.chBits)).map fun c => chan s (scrubChan s c)

/-- Part of a whole in %; 0 of nothing. -/
def pct (a b : Nat) : Nat := if b = 0 then 0 else 100 * a / b

/-- The rank that MARK_SEL names, and its word. -/
def markWord (s : State) : List LiveF :=
  let k := 16 * fld s Reg.CCH_MARK_SEL 3 0 + 8 * fld s Reg.CCH_MARK_SEL 4 4 + fld s Reg.CCH_MARK_SEL 7 5
  let m := tblFind s.cch.devMark k
  [bitF 0 m.isSome, (4, 1, m.getD 0), (20, 5, sumN ((List.range 16).map fun d => tblGet 0 s.cch.trials (16 * k + d)))]

def liveCch (s : State) (off : Nat) : List LiveF :=
  let c := s.cch
  let pair := fun (f : Pair → Bool) => maskWhere 8 fun p => f (c.pairs.getD p Pair.whole)
  if off = Reg.CCH_ARRAY_STS then [bitF 0 c.mode, bitF 1 c.mirror, (8, 2, c.rate / 100), bitF 9 c.fullTrained]
  else if off = Reg.CCH_PAIR_STS then
    [(7, 0, pair (·.broken)), (15, 8, pair (·.resilver.isSome)), (23, 16, pair fun p => p.broken && p.odd)]
  else if off = Reg.CCH_SCRUB_STS then
    let l := scrubLines s
    [(6, 0, pct (sumN (l.map (·.scrub))) (l.length * 2 ^ (s.hpt.setBits - s.hpt.chBits))),
     (22, 7, (l.map (·.passes)).foldl min 0xFFFF)]
  else if off = Reg.CCH_MARK_DATA then markWord s
  else
    match rowOf off Reg.CCH_CH_STS 4 16 with
    | some i =>
      let x := chan s i
      [(1, 0, x.st.code), (9, 2, x.temp), bitF 10 x.ref2x, (14, 11, (c.devMark.filter fun m => m.1 / 16 == i).length)]
    | none => []

/-- CORE_STSc (R473). -/
def coreWord (k : Core) : List LiveF :=
  [(7, 0, sumN ((List.range 4).map fun i => ((k.ctxs.getD i Ctx.reset).st.code) * 4 ^ i)), bitF 8 k.baseline,
   (11, 9, (k.ctxs.filter (·.slot.isSome)).length), (21, 12, k.owner)]

/-- EXC_LOGc (R473). -/
def excWord (k : Core) : List LiveF :=
  match k.excLog with
  | some (cause, ctx, pc, dbl) => [(4, 0, cause), (6, 5, ctx), (22, 7, pc.toNat / 4 % 2 ^ 16), bitF 23 dbl]
  | none => []

def livePlc (s : State) (off : Nat) : List LiveF :=
  let p := s.plc
  let v := fun (f : Image → Nat) => (s.mgt.boot.pcf.map f).getD 0
  if off = Reg.PLC_PCF_STS then
    [(1, 0, p.outcome), bitF 2 p.limited, (3, 3, p.slot), (6, 4, p.reason), (15, 8, maskWhere 8 fun k => (coreAt s k).demoted)]
  else if off = Reg.PLC_PCF_VER0 then [(15, 0, v (·.ver.1)), (31, 16, v (·.ver.2.1))]
  else if off = Reg.PLC_PCF_VER1 then [(15, 0, v (·.ver.2.2)), (31, 16, v (·.mpiMinor))]
  else if off = Reg.PLC_CAPS_EFF then [(31, 0, p.caps)]
  else if off = Reg.PLC_SPRING_STS then
    [(15, 0, p.gen % 2 ^ 16), bitF 16 p.building, (30, 17, maxN (p.cores.map (·.ringMax)))]
  else
    match rowOf off Reg.PLC_CORE_STS 4 8, rowOf off Reg.PLC_EXC_LOG 4 8 with
    | some k, _ => coreWord (coreAt s k)
    | _, some k => excWord (coreAt s k)
    | _, _ => []

/-! ### MED, LDG, RSV, FAB -/

def liveMed (s : State) (off : Nat) : List LiveF :=
  let m := mset s
  let at_ := fun (i : Nat) => s.med.ports.getD i MPort.off
  let cap := if s.mgt.boot.mediaDone then homeCap s else 0
  if off = Reg.MED_HOME_CAP_LO then loW cap
  else if off = Reg.MED_HOME_CAP_HI then hiW cap
  else if off = Reg.MED_SET_STS then
    if s.mgt.boot.mediaDone then [(5, 0, m.n - m.lost.length), bitF 6 (labelsOk s)] else []
  else if off = Reg.MED_PORT_STS then
    [(7, 0, maskWhere 8 fun i => (at_ i).link), (15, 8, maskWhere 8 (drainPort s)), (19, 16, portsOk s)]
  else if off = Reg.MED_LOST_NS then [(31, 0, maskWhere 32 fun i => m.lost.contains i)]
  else []

/-- Index entries in use, in % of its 8 entries per bucket (R327, R355). -/
def idxPct (s : State) : Nat := pct s.med.jrnl.idx.length (8 * s.med.jrnl.nb)

/-- The journal's status registers (R355). CKPT_STS.SERIES shows the series last begun: the spec does not say whether it is that or the one
last completed, DESIGN CHOICE (log 79). -/
def liveJrnl (s : State) (off : Nat) : List LiveF :=
  let j := s.med.jrnl
  if off = Reg.LDG_USED then [(19, 0, mibUp (jrnlUsed s))]
  else if off = Reg.LDG_RESERVE then [(19, 0, mibUp (drainReserve s))]
  else if off = Reg.LDG_JSTS then [bitF 0 (sintering s), bitF 1 j.high, bitF 2 j.below, (9, 3, idxPct s)]
  else if off = Reg.LDG_PSEQ_LO then loW j.pseq
  else if off = Reg.LDG_PSEQ_HI then hiW j.pseq
  else if off = Reg.LDG_CKPT_STS then
    [(15, 0, (s.tb - j.ckptAt) / 1000000), (23, 16, j.series % 256), bitF 24 j.fallback]
  else if off = Reg.LDG_ROT_STS then
    match j.rot with
    | some r => [bitF 0 true, (11, 1, r.key), (15, 12, r.newGen % 16), (31, 16, if homeCap s = 0 then 0 else
        r.cursor * 65536 / (homeCap s / 4096))]
    | none => []
  else if off = Reg.LDG_REPLAY_STS then [bitF 0 j.closeFound, bitF 1 j.incomplete, (13, 2, j.rebuildMs)]
  else if off = Reg.LDG_CARRY then [(19, 0, mibUp (carryBytes s))]
  else []

def liveLdg (s : State) (off : Nat) : List LiveF :=
  let l := s.ldg
  if off = Reg.LDG_STATE then [(1, 0, l.st.code), (3, 2, rungOf s), (6, 4, causeOf s), bitF 7 l.uncovered]
  else if off = Reg.LDG_DIRTY_LO then loW (dDirty s)
  else if off = Reg.LDG_DIRTY_HI then hiW (dDirty s)
  else if off = Reg.LDG_META_LO then loW (dMeta s)
  else if off = Reg.LDG_META_HI then hiW (dMeta s)
  else if off = Reg.LDG_CAP_EFF then [(15, 0, l.cap / 2 ^ 20), (31, 16, l.capModel / 2 ^ 20)]
  else if off = Reg.LDG_DRAIN_EST then [(23, 0, if l.valid then l.drainUs else if l.ticked then 0xFFFFFF else 0)]
  else if off = Reg.LDG_E_AVAIL then [(16, 0, l.eAvail / 1000000)]
  else if off = Reg.LDG_E_NEED then [(16, 0, if l.valid then ceilDiv l.eNeed 1000000 else if l.ticked then 0x1FFFF else 0)]
  else if off = Reg.LDG_BREAK0 then [(15, 0, mibUp (cacheTerm s).1), (31, 16, mibUp (bufTerm s).1)]
  else if off = Reg.LDG_BREAK1 then [(15, 0, mibUp (stagedTerm s).1), (31, 16, mibUp (rsvdTerm s).1)]
  else if off = Reg.LDG_WT then [(15, 0, mibUp (dWt s))]
  else if off = Reg.LDG_CAL_STS then [bitF 0 (figs s).valid, bitF 1 l.cal.isSome, (3, 2, l.calResult)]
  else liveJrnl s off

/-- BANKn_V, BANKn_C, BANKn_STS and BANKn_E (R394). -/
def bankWord (s : State) (b : Bank) (i : Nat) : List LiveF :=
  match i with
  | 0 => [(15, 0, b.mv), (31, 16, b.cur)]
  | 1 => [(19, 0, b.cap), (31, 20, (b.measAt.map fun t => (s.tb - t) / 60000000000).getD 0)]
  | 2 => [(2, 0, b.st.code), bitF 3 b.present, bitF 4 b.valid, (7, 5, b.fault.code), (15, 8, b.vtgt / 100)]
  | _ => [(14, 0, b.cap * (b.mv * b.mv) / 200000000)]

/-- RSV_STS.PSTATE; 0 in every state but Fence and Geyser (R394). -/
def PSt.code : PSt → Nat
  | .fence => 1 | .geyser => 2 | _ => 0

/-- RESTART_STS (R394). -/
def restartWord (s : State) : List LiveF :=
  let r := s.rsv
  let top := 2 ^ (s.hpt.setBits - s.hpt.chBits)
  [(1, 0, (s.mgt.boot.cls.map Class.code).getD 0), bitF 2 r.sweep, (9, 3, if r.sweep then pct (sumN r.marks) (r.marks.length * top) else 0),
   bitF 10 r.rewarm, (17, 11, if r.rewarm then pct (r.schedLen - s.plc.table.length) r.schedLen else 0)]

def liveRsv (s : State) (off : Nat) : List LiveF :=
  let r := s.rsv
  if off = Reg.RSV_RSV_STS then
    [(2, 0, r.pst.code), bitF 3 r.pfLow, bitF 4 r.busLow, (7, 5, (r.faults.head?.map RsvFault.code).getD 0)]
  else if off = Reg.RSV_RESTART_STS then restartWord s
  else if off = Reg.RSV_LAST_EVT then
    [(1, 0, r.last.trigger), bitF 2 r.last.fenceDone, bitF 3 r.last.drainDone, bitF 4 r.last.dormant, bitF 5 r.last.dormLost,
     (7, 6, r.last.restart)]
  else if off = Reg.RSV_FENCE_NS then [(15, 0, r.last.fenceNs)]
  else if off = Reg.RSV_DRAIN_US then [(23, 0, r.last.drainUs)]
  else if off = Reg.RSV_DORM_MS then [(23, 0, r.last.dormMs)]
  else if off = Reg.RSV_SEAL then [bitF 0 r.sealRec.valid, bitF 1 r.sealRec.held]
  else if off = Reg.RSV_SEAL_SERIES then [(31, 0, r.sealRec.series % 2 ^ 32)]
  else if off = Reg.RSV_SEAL_PSEQ_LO then loW r.sealRec.pseq
  else if off = Reg.RSV_SEAL_PSEQ_HI then hiW r.sealRec.pseq
  else
    match rowOf off Reg.RSV_BANK_V 4 16 with
    | some i => bankWord s (bank s (i / 4)) (i % 4)
    | none => []

/-- The last offset in ns, two's complement, saturating (R534). -/
def syncOffset (o : Int) : Nat :=
  let v := max (-32768) (min 32767 o)
  (if v < 0 then v + 65536 else v).toNat

def liveFab (s : State) (off : Nat) : List LiveF :=
  let f := s.fab
  if off = Reg.FAB_DEV_ID then [(11, 0, s.mgt.nv.devId.getD 0), bitF 12 s.mgt.nv.devId.isSome]
  else if off = Reg.FAB_FM_STS then
    [(11, 0, (f.fm.map (·.id)).getD 0), bitF 12 f.isFm, bitF 13 f.fm.isSome, (21, 14, (f.fm.map (·.pri)).getD 0),
     (26, 22, (f.fm.map (·.hops)).getD 0)]
  else if off = Reg.FAB_ID_STS then [(11, 0, f.idForce), (23, 12, f.idAssigned), bitF 24 f.idPending]
  else if off = Reg.FAB_SYNC_STS then
    [bitF 0 f.locked, bitF 1 f.isFm, (3, 2, f.parent.getD 0), (19, 4, syncOffset f.offset)]
  else if off = Reg.FAB_ROUTE_DATA then [(31, 0, route? s (fld s Reg.FAB_ROUTE_SEL 11 0) % 2 ^ 32)]
  else
    match rowOf off Reg.FAB_PORT_STS 4 4 with
    | some p =>
      let x := fport s p
      [(2, 0, x.st.code), (4, 3, x.width), (16, 5, (x.peer.map (·.id)).getD 0), (18, 17, (x.peer.map (·.port)).getD 0),
       bitF 19 x.peer.isSome]
    | none => []

/-! ### The word a register reads as -/

/-- The live fields of a register, by its block. -/
def liveOf (s : State) (off : Nat) : List LiveF :=
  match off / 0x40000 with
  | 0 => liveMgt s off
  | 1 => liveCtr s off
  | 2 => liveSec s off
  | 3 => liveEvt s off
  | 4 | 5 | 6 | 7 | 9 => liveCachePart s off
  | 8 => liveCoh s off
  | 10 => liveCch s off
  | 11 => livePlc s off
  | 12 => liveMed s off
  | 13 => liveLdg s off
  | 14 => liveRsv s off
  | _ => liveFab s off

/-- Registers of units that a -PM lacks (R658): they read 0 in full. -/
def absentReg (part : Part) (off : Nat) : Bool :=
  part == .pm &&
    ([Reg.COH_BI_OUT + 8, Reg.COH_BI_OUT + 12, Reg.FAB_PORT_STS + 8, Reg.FAB_PORT_STS + 12, Reg.FAB_ERR_CNT + 8,
      Reg.FAB_ERR_CNT + 12].contains off ||
     (rowOf off (Reg.CCH_CH_STS + 32) 4 8).isSome || (rowOf off (Reg.PLC_CORE_STS + 16) 4 4).isSome ||
     (rowOf off (Reg.PLC_EXC_LOG + 16) 4 4).isSome)

/-- PG_ID (R580). -/
def pgId (blk page type : Nat) : Nat := type + 2 ^ 16 + 2 ^ 22 * page + 2 ^ 28 * blk

/-- The word at an aligned offset of the active window, without side effect (R3, R77, R78, R580). -/
def view (s : State) (off : Nat) : Word :=
  match pageType (off / 0x40000) (off / 4096 % 64) with
  | none => 0
  | some ty =>
    if off % 4096 = 0 then BitVec.ofNat 32 (pgId (off / 0x40000) (off / 4096 % 64) ty)
    else if off % 4096 ∈ [4, 8, 12, 16] then regOf s.io off
    else if off % 4096 < 0x40 ∨ absentReg s.part off then 0
    else if (ctrPage off).isSome ∨ (regFind off).isSome then
      let w := overlay (liveOf s off) (regOf s.io off).toNat
      BitVec.ofNat 32 (if s.part = .pm then w ^^^ (w &&& pmMask off) else w)
    else 0

/-- An offset of the active window that names a register (R78). -/
def regThere (off : Nat) : Bool :=
  match pageType (off / 0x40000) (off / 4096 % 64) with
  | none => false
  | some _ => off % 4096 ∈ [0, 4, 8, 12, 16] || (decide (0x40 ≤ off % 4096) && ((ctrPage off).isSome || (regFind off).isSome))

end Sys2Proof.Machine
end

