-- ==== Sys2Proof/Machine/Ownership.lean ====
section
/-! DEFINITION. Ownership: claims, heartbeats, yields and their time limits (R587 to R590). -/

namespace Sys2Proof.Machine

open Sys2Proof

/-- In Fence, Geyser and Dormant ownership is not evaluated (R591). -/
def ownLive (s : State) : Bool := s.rsv.pst == .run || s.rsv.pst == .startup

/-- The master with an ID (R577). -/
def masterOf (id : Nat) : Option Master :=
  if id < 4 then some (.hm (Fin.ofNat 4 id)) else if id = 4 then some .sb else if id = 5 then some .fm else none

/-- OWN_CFG.ALLOW of a master, and the management domain of a host port (R562, R587, R590). -/
def mayOwn (s : State) (m : Master) : Bool :=
  fld s Reg.MGT_OWN_CFG 5 0 / 2 ^ m.id % 2 == 1 &&
    match m with
    | .hm p => assignWord s.io p.val % 4 == 0
    | _ => true

/-- A claim or yield is refused (R587, R590). -/
def ownRefuse (s : State) : State :=
  raise Ev.mgtClaimRefused 0 0 (tally Ctr.MGT_CLAIM_REFUSED 1 (rcFlag Reg.MGT_OWN_STS 25 s))

/-- A claim ranks above the owner (R588). -/
def outranks (m o : Master) (pr op : Nat) : Bool := decide (op < pr) || (pr == op && decide (m.id < o.id))

/-- A claim passes R587 and the table of R588. -/
def claimOk (m : Master) (master pr : Nat) (s : State) : Bool :=
  master == m.id && pr != 0 && mayOwn s m &&
    match s.mgt.own.handover, s.mgt.own.owner with
    | some (h, _), _ => h == m
    | none, none => true
    | none, some o => o == m || (flag s Reg.MGT_OWN_CFG 6 && outranks m o pr s.mgt.own.prio)

/-- A write of OWN_CLAIM (R587, R588). -/
def ownClaim (m : Master) (w : Nat) (s : State) : State :=
  if ¬ ownLive s then s
  else if claimOk m (bitsOf w 2 0) (bitsOf w 15 8) s then setOwner (some m) (bitsOf w 15 8) s
  else ownRefuse s

/-- A write of OWN_HB (R589). -/
def ownHb (m : Master) (s : State) : State :=
  if ownLive s && isOwner s m then onOwn (fun o => { o with hbAt := s.tb }) s else s

/-- A write of OWN_YIELD (R590). -/
def ownYield (m : Master) (w : Nat) (s : State) : State :=
  if ¬ ownLive s then s
  else if ¬ isOwner s m then ownRefuse s
  else if bitsOf w 3 3 = 1 then vacate s
  else
    match masterOf (bitsOf w 2 0) with
    | some h => if h ≠ m ∧ mayOwn s h then onOwn (fun o => { o with handover := some (h, s.tb) }) s else ownRefuse s
    | none => ownRefuse s

/-- OWNER_LAPSE (R589): the heartbeat age reaches 300 ms. -/
def execOwnerLapse (s : State) : Res :=
  if ownLive s && s.mgt.own.owner.isSome then
    .next (raise Ev.mgtOwnerLapse 0 0 (vacate (until_ (s.mgt.own.hbAt + 300000000) s)))
  else .next s

/-- HANDOVER_TIMEOUT (R590): 10 ms without the successor's claim. -/
def execHandoverTimeout (s : State) : Res :=
  match s.mgt.own.handover with
  | some (_, t) =>
    if ownLive s then .next (raise Ev.mgtHandoverFail 0 0 (vacate (until_ (t + 10000000) s))) else .next s
  | none => .next s

end Sys2Proof.Machine
end

