-- ==== Sys2Proof/Machine/RegHooks.lean ====
section
/-! DEFINITION. What a write of a register does beyond storing its fields: commands, and the effect on operations in progress (R36, R37,
R55, R56, R159, R197, R285, R305, R311, R356, R366, R395, R406, R517, R535, R561, R592, R637, R652). -/

namespace Sys2Proof.Machine

open Sys2Proof

/-- A bit that a write changed from 1 to 0, and from 0 to 1. -/
def fell (old new b : Nat) : Bool := bitsOf old b b == 1 && bitsOf new b b == 0
def rose (old new b : Nat) : Bool := bitsOf old b b == 0 && bitsOf new b b == 1

/-! ### CTR -/

/-- The end of the current epoch after a write of CTR.EPOCH (R36, R37). An end that has passed already fires its tick at once, with
the ADC's figures as they stand. Before the first tick the model counts from host link enable, where R30 counts from (DESIGN
CHOICE, log 71: R36 names the last tick alone). -/
def epochWrite (old new : Nat) (s : State) : State :=
  let p := 10 * bitsOf new 13 0
  let next := (s.tb / p + 1) * p
  let lock := bitsOf new 16 16 == 1
  if s.epochEnd.isNone then s
  else if bitsOf old 13 0 ≠ bitsOf new 13 0 then
    let s := tally Ctr.CTR_TICK_RECOMPUTE 1 { s with epochEnd := some (if lock then next else s.epochAt + p) }
    if ¬ lock ∧ s.epochAt + p ≤ s.tb ∧ ticking s then afterTick (undoShed (tickAll s.tb [] s)) else s
  else if rose old new 16 then { s with epochEnd := some next }
  else s

/-! ### MGT -/

/-- A write of CFG_CMD by m (R603, R606). A write without FACTORY clears an arm. -/
def cfgCmd (m : Master) (w : Nat) (s : State) : State :=
  let s := if bitsOf w 0 0 = 1 then cfgStore s else s
  if bitsOf w 1 1 = 1 then cfgFactory m s else onNv (fun n => { n with armed := none }) s

def hookMgt (m : Master) (off w : Nat) (s : State) : State :=
  if off = Reg.MGT_CFG_CMD then cfgCmd m w s
  else if off = Reg.MGT_RESET_CMD then resetCmd w s
  else if off = Reg.MGT_FAB_PRI then elect s
  else s

/-! ### SEC, EVT -/

/-- A write of FW_KEY_REVOKE (R561): only keys below the one that verified the running MCF. -/
def keyRevoke (w : Nat) (s : State) : State :=
  if s.mgt.boot.mcf.isNone then s
  else
    let ks := (List.range 4).filter fun k => bitsOf w k k == 1 && decide (k < s.mgt.boot.keyUsed) && !s.sec.revoked.contains k
    onSec (fun x => { x with revoked := x.revoked ++ ks }) s

/-- A write of Q_CMD (R637). -/
def queueCmd (w : Nat) (s : State) : State :=
  match bitsOf w 2 0 with
  | 1 => onIo qMark s
  | 2 => onIo qRewind s
  | 3 => onIo (qRelease (env s) (regOf s.io Reg.EVT_Q_SEQ).toNat) s
  | 4 => onIo (qReleaseRead (env s)) s
  | _ => s

/-- The PERIOD count restarts (R652). -/
def sampRestart (s : State) : State := onIo (fun io => { io with samp := { io.samp with cnt := 0, due := false } }) s

/-- A COUNT already at or above a new SAMPLE_THRESH signals at once (R652). -/
def sampThresh (new : Nat) (s : State) : State :=
  if bitsOf new 12 0 ≤ s.io.samp.recs.length then
    onIo (fun io => flush (env s) (signalPorts (env s) (fldOf io Reg.EVT_VFIX 19 16) (fldOf io Reg.EVT_VFIX 7 0) 0 io)) s
  else s

/-- A new MOD_US measures each vector's interval from its start (R652): a held signal whose interval is over goes out. -/
def modCfg (s : State) : State :=
  eachIn (s.io.vecs.filter fun x => x.2.held && (x.2.start.map fun t => decide (t + 1000 * fld s Reg.EVT_MSIX_CFG 9 0 ≤ s.tb)).getD false)
    (fun x s => onIo (fun io => flush (env s) (modExpire (env s) (x.1 / 256) (x.1 % 256) io)) s) s

def hookEvt (off new w : Nat) (s : State) : State :=
  if off = Reg.EVT_Q_CMD then queueCmd w s
  else if off = Reg.EVT_MSIX_CFG then modCfg s
  else if off = Reg.EVT_SAMPLE_CFG ∨ off = Reg.EVT_SAMPLE_SEL ∨ off = Reg.EVT_SAMPLE_EVT then sampRestart s
  else if off = Reg.EVT_SAMPLE_THRESH then sampThresh new s
  else s

/-! ### TAG, WBF, COH, CCH -/

/-- A write of PRED_FLUSH (R159). -/
def predFlush (w : Nat) (s : State) : State :=
  let s := if bitsOf w 0 0 = 1 then onCache (fun c => { c with missPred := [] }) s else s
  if bitsOf w 1 1 = 1 then onCache (fun c => { c with wayPred := [] }) s else s

/-- Setting FULL_WO writes out every full entry (R197). -/
def ntCfg (old new : Nat) (s : State) : State :=
  let past := fun (us : Nat) (s : State) =>
    (s.cache.nt.filter fun e => e.out.isNone && decide (e.at_ + 1000 * us ≤ s.tb)).map (·.sk)
  let s := if rose old new 16 then eachIn (s.cache.nt.map (·.sk)) fullOut s else s
  let s := eachIn (past (bitsOf new 9 0) s) (fun sk s => startWriteOut sk .age s) s
  if s.ldg.st = .armed then s else eachIn (past (bitsOf new 15 10) s) (fun sk s => startWriteOut sk .hold s) s

/-- A shorter WAIT_MS that has already passed is reported at once (R285). -/
def fhbCfg (new : Nat) (s : State) : State :=
  if s.fab.waitAt + 1000000 * max 1 (bitsOf new 15 0) ≤ s.tb then after (execFhbWaitTimeout s) s else s

/-- Timers of fabric transactions that are past a shorter TO_US expire at once (R285). -/
def fxCfg (s : State) : State :=
  let past := fun (t : Nat) => decide (t + fullTo s ≤ s.tb)
  let s := eachIn (s.fab.reqs.filter fun r => past r.at_) reqTimeout s
  let s := eachIn (s.fab.wbs.filter fun w => past w.at_) wbTimeout s
  let s := eachIn (s.fab.recs.filter fun r => past r.respAt) (fun r s => match r.resp with
    | some a => respTimeout r a s
    | none => s) s
  let s := eachIn (s.fab.snps.filter fun x => past x.at_ && x.opc != Op.snpData) snpTimeout s
  eachIn (s.cache.txns.filter fun t => t.isFab && t.ph != .ack && decide (t.pendFrom + halfTo s ≤ s.tb)) tellPend s

/-- BISnps already past a shorter TO_MS time out at once (R235). -/
def biCfg (new : Nat) (s : State) : State :=
  let late := fun (b : Bi) => (b.sent.map fun t => decide (t + 1000000 * max 1 (bitsOf new 9 0) ≤ s.tb)).getD false
  eachIn (s.cache.bis.filter late) (fun b s => if s.cache.bis.contains b then biTimeout b s else s) s

def hookCoh (off new w : Nat) (s : State) : State :=
  if off = Reg.COH_FHB_CMD then (if bitsOf w 0 0 = 1 then fhbForce s else s)
  else if off = Reg.COH_FHB_CFG then fhbCfg new s
  else if off = Reg.COH_BI_CFG then biCfg new s
  else if off = Reg.COH_FX_CFG then fxCfg s
  else s

/-! ### MED, LDG, RSV -/

/-- Clearing a bit of PORT_EN loses the port (R356). -/
def portEn (old new : Nat) (s : State) : State := upTo 8 (fun p s => if fell old new p then portLost p s else s) s

/-- REWARM_CFG.EN cleared ends a running rewarm (R391, R394). -/
def rewarmCfg (old new : Nat) (s : State) : State := if fell old new 24 && s.rsv.rewarm then endRewarm s else s

/-- A write of LDG.CAP: cap is recomputed at once (R311). -/
def capWrite (s : State) : State :=
  if s.ldg.closed then s else setRung (dAmount s) (rstateNow (onLdg (fun l => { l with cap := (figs s).cap l.capModel }) s))

/-- A write of CAL_CMD (R305, R306). -/
def calCmd (w : Nat) (s : State) : State :=
  let s := if bitsOf w 0 0 = 1 then calStart s else s
  if bitsOf w 1 1 = 1 then calAbort s else s

def hookLdg (off w : Nat) (s : State) : State :=
  if off = Reg.LDG_CAP then capWrite s
  else if off = Reg.LDG_CTL then rstateNow s
  else if off = Reg.LDG_CAL_CMD then calCmd w s
  else if off = Reg.LDG_JRNL_CFG then jrnlCfg s
  else s

/-- A write of SVC_CMD (R366, R394). -/
def svcCmd (w : Nat) (s : State) : State :=
  eachIn (maskBanks (bitsOf w 7 4)) rechargeBank (eachIn (maskBanks (bitsOf w 3 0)) dischargeBank s)

/-- A write of a BANKn register (R395). -/
def bankCfg (n old new : Nat) (s : State) : State :=
  let s := if bitsOf old 23 16 = bitsOf new 23 16 then s else retarget n s
  if fell old new 0 then disableBank n s else if rose old new 0 then rechargeBank n s else s

/-- TRIP_EN set while the bus is below VIN_TRIP: a write of PF_CFG applies at once (R395). -/
def pfCfg (old new : Nat) (s : State) : State := if rose old new 8 && s.rsv.busLow then trip 2 [] [] s else s

def hookRsv (off old new w : Nat) (s : State) : State :=
  if off = Reg.RSV_SVC_CMD then svcCmd w s
  else if off = Reg.RSV_PF_CFG then pfCfg old new s
  else
    match rowOf off Reg.RSV_BANK 8 4, rowOf off Reg.RSV_BANK_ECEIL 8 4 with
    | some n, _ => bankCfg n old new s
    | _, some n => retarget n s
    | _, _ => s

/-! ### FAB -/

/-- A write of LINK_CFG: EN takes ports down or starts their training (R517, R535). -/
def linkCfg (old new : Nat) (s : State) : State :=
  upTo (fabPortCount s) (fun p s => if fell old new p then linkDown p s else if rose old new p then linkRetrain p s else s) s

/-- A write of LINK_CMD (R534). -/
def linkCmd (w : Nat) (s : State) : State :=
  let s := upTo (fabPortCount s) (fun p s => if bitsOf w p p = 1 then linkRetrain p s else s) s
  upTo (fabPortCount s) (fun p s => if bitsOf w (4 + p) (4 + p) = 1 then linkDown p s else s) s

/-- Open episodes past a new budget degrade at once (R535). -/
def replayCfg (s : State) : State :=
  upTo (fabPortCount s) (fun p s => if overBudget s p then degrade p s else s) s

/-- Messages without a port that have waited longer than a new HOLD_US are discarded (R535). -/
def holdCfg (new : Nat) (s : State) : State :=
  let late := s.fab.queue.filter fun q =>
    (routePorts s (route? s (q.msg.dst / 64)) q.lane).isEmpty && decide (q.since + 1000 * bitsOf new 15 0 ≤ s.tb)
  eachIn late (fun q s =>
    leftQueue q (tally Ctr.FAB_HOLD_DROP 1 (onFab (fun f => { f with queue := f.queue.erase q }) s))) s

def hookFab (off old new w : Nat) (s : State) : State :=
  if off = Reg.FAB_LINK_CFG then linkCfg old new s
  else if off = Reg.FAB_LINK_CMD then linkCmd w s
  else if off = Reg.FAB_REPLAY_CFG then replayCfg s
  else if off = Reg.FAB_ROUTE_CFG then holdCfg new s
  else if off = Reg.FAB_SYNC_CFG then (if fell old new 0 then setLocked false s else s)
  else s

/-! ### Every register -/

/-- What follows a write of word `w` by master `m`: `old` and `new` are the words stored before and after. -/
def onWrite (m : Master) (off old new w : Nat) (s : State) : State :=
  if off = Reg.CTR_EPOCH then epochWrite old new s
  else if off = Reg.SEC_FW_KEY_REVOKE then keyRevoke w s
  else if off = Reg.TAG_PRED_FLUSH then predFlush w s
  else if off = Reg.WBF_NT_CFG then ntCfg old new s
  else if off = Reg.CCH_TRAIN_CMD then (if bitsOf w 0 0 = 1 then onCch (fun c => { c with fullReq := true }) s else s)
  else if off = Reg.MED_PORT_EN then portEn old new s
  else if off = Reg.MED_CMD_CFG then cmdCfg s
  else if off = Reg.MED_REWARM_CFG then rewarmCfg old new s
  else
    match off / 0x40000 with
    | 0 => hookMgt m off w s
    | 3 => hookEvt off new w s
    | 8 => hookCoh off new w s
    | 13 => hookLdg off w s
    | 14 => hookRsv off old new w s
    | 15 => hookFab off old new w s
    | _ => s

/-! ### Data registers of tables -/

/-- GA[59:36] of the sectors that a home-map entry names. -/
def windowKey (s : State) (e : HmapE) : Nat := homeOf s e * 4096 + e.base

/-- A write of a home-map entry (R55, R56): refused, or applied; VALID 0 starts the back-invalidate step. -/
def hmapWrite (win w : Nat) (s : State) : Bool × State :=
  let e := hmapEntry s win
  let n := HmapE.ofWord w
  if s.hpt.pend.isSome ∨ (n.valid ∧ e.valid ∧ n ≠ e) then (true, rcFlag Reg.COH_HMAP_STS 1 s)
  else if n.valid then (false, settle (putHmap win n s))
  else
    let key := windowKey s e
    (false, settle (onHpt (fun h => { h with pend := some (win, key) }) (putHmap win n s)))

/-- HMAP_INVALIDATION_DONE (R55): no host line of the window is tracked, and no tracker entry addresses it. -/
def execHmapInvalidationDone (s : State) : Res :=
  match s.hpt.pend with
  | none => .next s
  | some (_, key) =>
    if !(trackedWays s key).isEmpty || s.cache.bis.any (fun b => b.sk / 2 ^ 28 == key) ||
        s.cache.txns.any (fun t => t.held && t.sk / 2 ^ 28 == key) then .next s
    else .next (onHpt (fun h => { h with pend := none }) s)

/-- A domain-table entry, as a word of DOM_DATA (R243). -/
def domWrite (d w : Nat) (s : State) : State :=
  onHpt (fun h => { h with dom := if bitsOf w 12 12 = 1 then tblPut h.dom d (w % 4096) else tblDel h.dom d }) s

/-- Eight hop counts of a row, as a word of HOP_DATA (R244). -/
def hopWrite (row group w : Nat) (s : State) : State :=
  let r := 64 * row + 8 * group
  onHpt (fun h => { h with hop := (List.range 8).foldl (fun t j => tblSet 0xF t (r + j) (w / 16 ^ j % 16)) h.hop }) s

/-- A write of a register that selects a table entry, with the word to store; none for other registers. The flag says that the
write was discarded. While ASSIGN_LOCK is set, the four registers of R563 are read-only; a media port put in an enclave
set stays in the management domain (R562). -/
def dataWrite (off w : Nat) (s : State) : Option (Bool × State) :=
  let guarded := fun (f : State → State) =>
    if assignLocked s then some (true, raise Ev.assignRefused 0 0 s) else some (false, f s)
  if off = Reg.COH_HMAP_DATA then some (hmapWrite (fld s Reg.COH_HMAP_SEL 11 0) w s)
  else if off = Reg.COH_DOM_DATA then some (false, domWrite (fld s Reg.COH_DOM_SEL 11 0) w s)
  else if off = Reg.COH_HOP_DATA then some (false, hopWrite (fld s Reg.COH_HOP_SEL 11 0) (fld s Reg.COH_HOP_SEL 14 12) w s)
  else if off = Reg.SEC_ASSIGN_DATA then
    let i := fld s Reg.SEC_ASSIGN_SEL 5 0
    guarded fun s =>
      let s := putAssign i (w % 64) s
      if 4 ≤ i ∧ i ≤ 11 ∧ w % 4 = 2 then raise Ev.assignRefused 0 0 s else s
  else if off = Reg.SEC_ESET_DATA then
    guarded (putEset (16 * fld s Reg.SEC_ESET_SEL 3 0 + fld s Reg.SEC_ESET_SEL 7 4) (w % 2048))
  else if off = Reg.SEC_PIN_ATTR ∨ off = Reg.SEC_DMA_ATTR then
    guarded (onIo (fun io => putReg io off (BitVec.ofNat 32 w)))
  else none

end Sys2Proof.Machine
end

