-- ==== Sys2Proof/Machine/RegRead.lean ====
section
/-! DEFINITION. Register reads and their side effects (R10 to R12, R77, R545, R547, R581, R586, R636, R648, R657). -/

namespace Sys2Proof.Machine

open Sys2Proof

/-- A master can reach the registers: a host port over its link, but not in ROM recovery (R622), the sideband while the core is powered, the fabric manager by
its messages. -/
def reaches (s : State) (m : Master) : Bool :=
  match m with
  | .hm p => (port s p.val).up && s.mgt.boot.mode != 2
  | .sb => s.mgt.boot.vaux && s.rsv.pst != .off && s.rsv.pst != .dormant
  | .fm => s.fab.fm.isSome && s.rsv.pst != .off && s.rsv.pst != .dormant

/-- The low word of a 64-bit pair (R10). -/
def pairLow (off : Nat) : Bool :=
  [Reg.CTR_TB_LO, Reg.CTR_EPOCH_CNT_LO, Reg.CTR_TICK_LAST_LO, Reg.SEC_VIOL_HO_LO, Reg.COH_UNMAP_DA_LO, Reg.MED_HOME_CAP_LO,
   Reg.LDG_DIRTY_LO, Reg.LDG_META_LO, Reg.LDG_PSEQ_LO, Reg.RSV_SEAL_PSEQ_LO].contains off ||
  (match ctrPage off with | some (_, hi, _) => !hi | none => false)

/-- Bits of the RC fields of a register; a page's PG_STS is RC (R580). -/
def rcBits (off : Nat) : Nat :=
  if off % 4096 = 8 then 3
  else
    match regFind off with
    | some (d, _) => d.flds.foldl (fun m f => if f.acc = .rc then m + maskOf f.hi f.lo else m) 0
    | none => 0

/-- What a clearing read leaves in a peak field: the current value (R93, R195, R310, R354), 0 in FRAME_PEAK (R500). -/
def peakNow (s : State) (off : Nat) : Nat :=
  if off = Reg.TRK_PEAK then overlay [(14, 0, trkUse s), (29, 16, poolUse s .shared)] 0
  else if off = Reg.WBF_PEAK then overlay [(13, 0, wbUse s), (23, 14, s.cache.nt.length)] 0
  else if off = Reg.LDG_PEAK then overlay [(15, 0, mibUp (dAmount s))] 0
  else if off = Reg.MED_SLOT_PEAK then overlay [(10, 0, maxN (s.med.ports.map (·.cmds.length)))] 0
  else 0

/-- The RC fields of a register clear, or its peak fields take their current values, unless the page is frozen (R12, R581). -/
def rcClear (off : Nat) (s : State) : State :=
  if frozen s.io off ∨ rcBits off = 0 then s
  else
    let w := (regOf s.io off).toNat
    onIo (fun io => putReg io off (BitVec.ofNat 32 ((w ^^^ (w &&& rcBits off)) ||| peakNow s off))) s

/-- The word that an active-window read of a master returns: a latched word where one is held for it. -/
def readValue (m : Master) (off : Nat) (s : State) : Word :=
  match tblFind s.io.hiLatch (8 * off + m.id), rowOf off Reg.EVT_Q_ENTRY 4 8, rowOf off Reg.EVT_SAMPLE_REC 4 8 with
  | some w, _, _ => w
  | _, some (i + 1), _ => (((tblFind s.io.qLatch m.id).map fun l => l.getD i 0)).getD 0
  | _, _, some (i + 1) =>
    if isOwner s m then (((tblFind s.io.sampLatch m.id).map fun l => l.getD i 0)).getD 0 else view s off
  | _, _, _ => view s off

/-- The side effects of an active-window read of a word (R657). -/
def readEffect (m : Master) (off : Nat) (s : State) : State :=
  let own := isOwner s m
  let s1 := onIo (fun io => { io with hiLatch := tblDel io.hiLatch (8 * off + m.id) }) s
  let s1 := if pairLow off then
      onIo (fun io => { io with hiLatch := tblPut io.hiLatch (8 * (off + 4) + m.id) (view s (off + 4)) }) s1 else s1
  if off = Reg.EVT_Q_ENTRY then onIo (qRead (env s) m.id own) s1
  else if off = Reg.EVT_SAMPLE_REC ∧ own then onIo (sampRead m.id) s1
  else if own then rcClear off s1
  else s1

/-- An aligned 32-bit read: through the peek mirror it returns the live value and changes nothing (R77). -/
def readWord (m : Master) (mirror : Bool) (off : Nat) (s : State) : State :=
  if off = Reg.SEC_RNG_DATA_LO then rngRead m (!mirror) s
  else if mirror then emit (.regData m off (view s off)) s
  else emit (.regData m off (readValue m off s)) (readEffect m off s)

/-- Byte `a` of the active window. -/
def viewByte (s : State) (a : Nat) : Nat := (view s (a / 4 * 4)).toNat / 2 ^ (8 * (a % 4)) % 256

/-- The bytes of a read of another size or alignment, without side effect (R11). -/
def oddBytes (s : State) (off size : Nat) : Nat := sumN ((List.range size).map fun i => viewByte s (off + i) * 256 ^ i)

/-- A read of `size` bytes at a BAR0 address (R11, R77). -/
def readAt (m : Master) (a size : Nat) (s : State) : State :=
  let mirror := decide (0x400000 ≤ a)
  let off := a % 0x400000
  if size = 4 ∧ off % 4 = 0 then readWord m mirror off s
  else if size = 8 ∧ off % 8 = 0 then readWord m mirror (off + 4) (readWord m mirror off s)
  else
    let v := oddBytes s off size
    let s := emit (.regData m off (BitVec.ofNat 32 v)) s
    if size ≤ 4 then s else emit (.regData m (off + 4) (BitVec.ofNat 32 (v / 2 ^ 32))) s

/-- A read of BAR0 by a master that can reach the registers. -/
def regRead (m : Master) (a size : Nat) (s : State) : Res :=
  .next (if reaches s m && decide (a + size ≤ 0x800000) then readAt m a size s else s)

/-- RC_FIELD_CLEAR_READ (R12, R586): a read of `size` bytes at BAR0 address `a`, any register, either window. -/
def execRcFieldClearRead (m : Master) (a size : Nat) (s : State) : Res := regRead m a size s

/-- HIGH_WORD_LATCH_READ (R10): a 32-bit read of a low word through the active window. -/
def execHighWordLatchRead (m : Master) (off : Nat) (s : State) : Res :=
  if pairLow off then regRead m off 4 s else .next s

/-- QUEUE_HEAD_READ (R636). -/
def execQueueHeadRead (m : Master) (s : State) : Res := regRead m Reg.EVT_Q_ENTRY 4 s

/-- SAMPLE_RECORD_READ (R648). -/
def execSampleRecordRead (m : Master) (s : State) : Res := regRead m Reg.EVT_SAMPLE_REC 4 s

/-- MSIX_MODERATION_EXPIRE (R641): the interval of vector v of port p ends. -/
def execMsixModerationExpire (p v : Nat) (s : State) : Res :=
  match (tblGet Vec.idle s.io.vecs (256 * p + v)).start with
  | some t =>
    let s := until_ (t + 1000 * fld s Reg.EVT_MSIX_CFG 9 0) s
    .next (onIo (fun io => flush (env s) (modExpire (env s) p v io)) s)
  | none => .next s

end Sys2Proof.Machine
end

