-- ==== Sys2Proof/Machine/RegWrite.lean ====
section
/-! DEFINITION. The register arbiter (R11 to R14, R77, R78, R307, R577 to R585, R658) and the commands that write one register. -/

namespace Sys2Proof.Machine

open Sys2Proof

/-! ### Discarded writes -/

/-- Who writes: a master of R577, or the device itself. -/
abbrev Writer := Option Master

/-- A write that sets a bit of RSV_STS (R585); `a` is its BAR0 address. -/
def rsvWr (who : Writer) (a bit : Nat) (s : State) : State :=
  let s := hwFld Reg.MGT_RSV_STS 23 3 (a / 4) (rcFlag Reg.MGT_RSV_STS bit s)
  let s := match who with
    | some m => hwFld Reg.MGT_RSV_STS 26 24 m.id s
    | none => s
  raiseAtMost 1000000 0 Ev.mgtRsvWr (a / 4 % 2 ^ 21) 0 s

/-- A write by a master that is not the owner (R14, R578). -/
def nonOwnerWr (m : Master) (s : State) : State :=
  raiseAtMost 1000000 m.id Ev.mgtNonownerWr m.id 0
    (hwFld Reg.MGT_NONOWNER_WR 18 16 m.id (rcCount Reg.MGT_NONOWNER_WR 15 0 1 (tally Ctr.MGT_NONOWNER_WR 1 s)))

/-! ### One word -/

/-- Bits of a register that are reserved (R12, R580). -/
def rsvBits (off : Nat) : Nat :=
  match off % 4096 with
  | 0 => 0
  | 4 => 0xFFFC
  | 8 | 16 => 0xFFFFFFFC
  | 12 => 0xFFFFFFFE
  | _ =>
    match regFind off with
    | some (d, _) => d.flds.foldl (fun m f => if f.acc = .rsv then m + maskOf f.hi f.lo else m) 0
    | none => 0

/-- Bits of a register that a write stores as written: its RW and LK fields. -/
def rwBits (off : Nat) : Nat :=
  match regFind off with
  | some (d, _) => d.flds.foldl (fun m f => if f.acc = .rw then m + maskOf f.hi f.lo else m) 0
  | none => 0

/-- Bits of `w` where the mask is set, of `old` elsewhere. -/
def mixBits (old w mask : Nat) : Nat := (old ^^^ (old &&& mask)) ||| (w &&& mask)

/-- LK bits set by a write of 1 (R12). -/
def lkBits (off : Nat) : Nat := if off = Reg.SEC_ASSIGN_LOCK ∨ off = Reg.SEC_DEBUG_CTL ∨ off % 4096 = 12 then 1 else 0

/-- The word stored by a write of `w` over `old` (R6, R12, R13, R580): fields brought into their limits; reserved bits change on the
-EX alone. PG_CTL takes the bits its mask names. -/
def newWord (part : Part) (off old w : Nat) : Nat :=
  let ex := if part = .ex then rsvBits off else 0
  if off % 4096 = 4 then mixBits old w ((3 ||| ex) &&& (w / 2 ^ 16))
  else if off % 4096 = 16 then mixBits old w (3 ||| ex)
  else
    let x := mixBits old (storeForm part off w) (rwBits off)
    mixBits x w ex ||| (w &&& lkBits off)

/-- A write changes a reserved bit (R13). Bits of PG_CTL change only under their mask. -/
def hitsRsv (off old w : Nat) : Bool :=
  let m := if off % 4096 = 4 then rsvBits off &&& (w / 2 ^ 16) else rsvBits off
  (old ^^^ w) &&& m != 0

/-- Lockable registers (R583). -/
def lockable (off : Nat) : Bool :=
  [Reg.CCH_ARRAY_MODE, Reg.CCH_MIRROR_CFG, Reg.SEC_TAMPER_CFG, Reg.MGT_OWN_CFG, Reg.MGT_BOOT_LOCK].contains off

/-- The three figures of a calibration while it runs (R307). -/
def calGuard (s : State) (off : Nat) : Bool :=
  s.ldg.cal.isSome && [Reg.LDG_CAL_BW, Reg.LDG_CAL_PWR, Reg.LDG_CAL_CFG].contains off

/-- Bits of a word that are reserved at an offset, kept there on the -EX: a live test control (R6). -/
def keepRsv (off w : Nat) (s : State) : State :=
  if s.part = .ex then
    onIo (fun io => putReg io off (BitVec.ofNat 32 (mixBits (regOf io off).toNat w (rsvBits off)))) s
  else s

/-- A write that changes a reserved bit on a production part sets RSV_WR (R13). -/
def tellRsv (who : Writer) (off old w : Nat) (s : State) : State :=
  if hitsRsv off old w ∧ s.part ≠ .ex then rsvWr who off 0 s else s

/-- Store a word, and what follows. -/
def storeWord (m : Master) (off old w : Nat) (s : State) : Bool × State :=
  let new := newWord s.part off old w
  match if off % 4096 < 0x40 then none else dataWrite off new s with
  | some r => (r.1, keepRsv off new r.2)
  | none =>
    let s := onIo (fun io => putReg io off (BitVec.ofNat 32 new)) s
    (false, if off % 4096 < 0x40 then s else settle (onWrite m off old new w s))

/-- The master as which R606 takes a FACTORY write of the device itself: the owner, the sideband without one. -/
def asMaster (who : Writer) (s : State) : Master := (who.or s.mgt.own.owner).getD .sb

/-- Write one word at an aligned offset of the active window, past the owner's check; the flag says that it was discarded. -/
def writeWord (who : Writer) (off w : Nat) (s : State) : Bool × State :=
  if ¬ regThere off then (true, rsvWr who off 1 s)
  else if absentReg s.part off then (false, s)
  else if lockable off ∧ fldOf s.io (pageOf off + 12) 0 0 = 1 then
    (true, rsvWr who off 2 (onIo (fun io => flush (env s) (if frozen io off then io else setPgSts io (pageOf off) 1)) s))
  else
    let old := (regOf s.io off).toNat
    let s := tellRsv who off old w s
    if off = Reg.LDG_CAL_CFG ∧ calGuard s off then
      (true, rsvWr who off 0 (storeWord (asMaster who s) off old (setBits w 8 5 (bitsOf old 8 5)) s).2)
    else if calGuard s off then (true, rsvWr who off 0 s)
    else storeWord (asMaster who s) off old w s

/-! ### The arbiter -/

/-- Registers that every master may write (R578). -/
def freeReg (off : Nat) : Bool := [Reg.MGT_OWN_CLAIM, Reg.MGT_OWN_HB, Reg.MGT_OWN_YIELD].contains off

/-- A write of a free register: its command, past the reserved bits (R13). -/
def freeWrite (m : Master) (off w : Nat) (s : State) : State :=
  let s := keepRsv off w (tellRsv (some m) off (regOf s.io off).toNat w s)
  if off = Reg.MGT_OWN_CLAIM then ownClaim m w s
  else if off = Reg.MGT_OWN_HB then ownHb m s
  else ownYield m w s

/-- A master's writes are taken: it is the owner, and no handover is open (R590). -/
def mayWrite (s : State) (m : Master) : Bool := isOwner s m && s.mgt.own.handover.isNone

/-- The aligned words of an access of 4 or 8 bytes through the active window; none for any other write (R11, R77). -/
def wordsOf (a size w : Nat) : Option (List (Nat × Nat)) :=
  if 0x400000 ≤ a then none
  else if size = 4 ∧ a % 4 = 0 then some [(a, w % 2 ^ 32)]
  else if size = 8 ∧ a % 8 = 0 then some [(a, w % 2 ^ 32), (a + 4, w / 2 ^ 32 % 2 ^ 32)]
  else none

/-- Words in order; the flag says that one was discarded. -/
def writeWords (who : Writer) (ws : List (Nat × Nat)) (s : State) : Bool × State :=
  ws.foldl (fun r x => let q := writeWord who x.1 x.2 r.2; (r.1 || q.1, q.2)) (false, s)

/-- The words of a write whose registers the part has: those of absent units are ignored without a trace (R3). -/
def presentWords (part : Part) (ws : List (Nat × Nat)) : List (Nat × Nat) := ws.filter fun x => !absentReg part x.1

/-- Aligned words reach the arbiter: free registers from any master, the others from the owner alone (R14, R578). A word that a
master which is not the owner sends where no register is counts under R78 too. -/
def arbWrite (m : Master) (ws : List (Nat × Nat)) (s : State) : Bool × State :=
  let s := eachIn (ws.filter fun x => freeReg x.1) (fun x s => freeWrite m x.1 x.2 s) s
  let rest := ws.filter fun x => !freeReg x.1
  if rest.isEmpty then (false, s)
  else if ¬ mayWrite s m then
    (true, nonOwnerWr m (eachIn (rest.filter fun x => !regThere x.1) (fun x s => rsvWr (some m) x.1 1 s) s))
  else writeWords (some m) rest s

/-- A write reaches the arbiter (R579): `a` is a BAR0 address. The flag says that it was discarded. Whoever makes it, a write of
another size or alignment or through the mirror sets BAD_WR (R11, R77), and counts under R14 too where its master is not the owner. -/
def regWrite (m : Master) (a size w : Nat) (s : State) : Bool × State :=
  if ¬ s.mgt.boot.nvDone then (true, s)
  else
    match wordsOf a size w with
    | some ws => arbWrite m (presentWords s.part ws) s
    | none => (true, (if mayWrite s m then id else nonOwnerWr m) (rsvWr (some m) a 1 s))

/-- The device's own write, as the MCF makes it: not subject to ownership (R577). -/
def deviceWrite (off w : Nat) (s : State) : State :=
  if freeReg off then s else (writeWord none off w s).2

/-- A write by a master that can reach the registers. -/
def regCmd (m : Master) (a size w : Nat) (s : State) : Res :=
  .next (if reaches s m && decide (a + size ≤ 0x800000) then (regWrite m a size w s).2 else s)

/-- A 32-bit write of a named register. -/
def regPut (m : Master) (off : Nat) (w : Word) (s : State) : Res := regCmd m off 4 w.toNat s

/-! ### Commands -/

/-- REGISTER_WRITE (R14): `size` bytes at BAR0 address `a`. -/
def execRegisterWrite (m : Master) (a size w : Nat) (s : State) : Res := regCmd m a size w s

/-- EPOCH_PERIOD_WRITE (R36). -/
def execEpochPeriodWrite (m : Master) (w : Word) (s : State) : Res := regPut m Reg.CTR_EPOCH w s
/-- PHASE_LOCK_WRITE (R37). -/
def execPhaseLockWrite (m : Master) (w : Word) (s : State) : Res := regPut m Reg.CTR_EPOCH w s
/-- HMAP_DATA_WRITE (R55, R56). -/
def execHmapDataWrite (m : Master) (w : Word) (s : State) : Res := regPut m Reg.COH_HMAP_DATA w s
/-- PRED_FLUSH_MISS (R159). -/
def execPredFlushMiss (m : Master) (s : State) : Res := regPut m Reg.TAG_PRED_FLUSH 1 s
/-- PRED_FLUSH_WAY (R159). -/
def execPredFlushWay (m : Master) (s : State) : Res := regPut m Reg.TAG_PRED_FLUSH 2 s
/-- FHB_FORCE (R279). -/
def execFhbForce (m : Master) (s : State) : Res := regPut m Reg.COH_FHB_CMD 1 s
/-- LDG_CAP_WRITE (R311). -/
def execLdgCapWrite (m : Master) (w : Word) (s : State) : Res := regPut m Reg.LDG_CAP w s
/-- LDG_ARM_WRITE (R311). -/
def execLdgArmWrite (m : Master) (w : Word) (s : State) : Res := regPut m Reg.LDG_CTL w s
/-- CAL_START (R305). -/
def execCalStart (m : Master) (s : State) : Res := regPut m Reg.LDG_CAL_CMD 1 s
/-- CAL_ABORT (R306). -/
def execCalAbort (m : Master) (s : State) : Res := regPut m Reg.LDG_CAL_CMD 2 s
/-- SVC_DISCHARGE (R366): the banks of a mask. -/
def execSvcDischarge (m : Master) (banks : Fin 16) (s : State) : Res := regPut m Reg.RSV_SVC_CMD (BitVec.ofNat 32 banks.val) s
/-- SVC_RECHARGE (R394). -/
def execSvcRecharge (m : Master) (banks : Fin 16) (s : State) : Res :=
  regPut m Reg.RSV_SVC_CMD (BitVec.ofNat 32 (16 * banks.val)) s
/-- TRAIN_CMD_FULL (R406). -/
def execTrainCmdFull (m : Master) (s : State) : Res := regPut m Reg.CCH_TRAIN_CMD 1 s
/-- LINK_RETRAIN (R534): the ports of a mask. -/
def execLinkRetrain (m : Master) (ports : Fin 16) (s : State) : Res := regPut m Reg.FAB_LINK_CMD (BitVec.ofNat 32 ports.val) s
/-- LINK_TAKE_DOWN (R517). -/
def execLinkTakeDown (m : Master) (ports : Fin 16) (s : State) : Res :=
  regPut m Reg.FAB_LINK_CMD (BitVec.ofNat 32 (16 * ports.val)) s
/-- FW_KEY_REVOKE (R561): written by the MCF, as the device itself. -/
def execFwKeyRevoke (keys : Fin 16) (s : State) : Res := .next (deviceWrite Reg.SEC_FW_KEY_REVOKE keys.val s)
/-- DEBUG_LOCK (R566). -/
def execDebugLock (m : Master) (s : State) : Res := regPut m Reg.SEC_DEBUG_CTL 1 s
/-- ASSIGN_LOCK_SET (R563). -/
def execAssignLockSet (m : Master) (s : State) : Res := regPut m Reg.SEC_ASSIGN_LOCK 1 s
/-- OWN_CLAIM (R587, R588). -/
def execOwnClaim (m : Master) (w : Word) (s : State) : Res := regPut m Reg.MGT_OWN_CLAIM w s
/-- OWN_HB (R589). -/
def execOwnHb (m : Master) (w : Word) (s : State) : Res := regPut m Reg.MGT_OWN_HB w s
/-- OWN_YIELD (R590). -/
def execOwnYield (m : Master) (w : Word) (s : State) : Res := regPut m Reg.MGT_OWN_YIELD w s
/-- CFG_STORE (R603). -/
def execCfgStore (m : Master) (s : State) : Res := regPut m Reg.MGT_CFG_CMD 1 s
/-- CFG_FACTORY (R606). -/
def execCfgFactory (m : Master) (s : State) : Res := regPut m Reg.MGT_CFG_CMD 2 s
/-- PG_LOCK_SET (R583): of the page of an offset. -/
def execPgLockSet (m : Master) (off : Nat) (s : State) : Res := regPut m (pageOf off + 12) 1 s
/-- WARM_RESET (R616, R627). -/
def execWarmReset (m : Master) (noRelease : Bool) (s : State) : Res :=
  regPut m Reg.MGT_RESET_CMD (if noRelease then 0x57520005 else 0x57520001) s
/-- BLOCK_RESET (R618, R627). -/
def execBlockReset (m : Master) (b : Fin 16) (s : State) : Res :=
  regPut m Reg.MGT_RESET_CMD (BitVec.ofNat 32 (0x57520002 + 16 * b.val)) s
/-- MARK (R637). -/
def execMark (m : Master) (s : State) : Res := regPut m Reg.EVT_Q_CMD 1 s
/-- REWIND (R637). -/
def execRewind (m : Master) (s : State) : Res := regPut m Reg.EVT_Q_CMD 2 s
/-- RELEASE (R637): frees the entry that Q_SEQ names. -/
def execRelease (m : Master) (s : State) : Res := regPut m Reg.EVT_Q_CMD 3 s
/-- RELEASE_ALL_READ (R637). -/
def execReleaseAllRead (m : Master) (s : State) : Res := regPut m Reg.EVT_Q_CMD 4 s

end Sys2Proof.Machine
end

