-- ==== Sys2Proof/Machine/Fmc.lean ====
section
/-! DEFINITION. Messages of the fabric manager (R522 to R526, R591). -/

namespace Sys2Proof.Machine

open Sys2Proof

/-- A beacon is heard with hop count `hops` on port p: it is better than what this device knows, from the same manager at no
greater distance, or the manager's beacons have come by a longer way only. -/
def beaconNews (c : Fm) (s : State) : Bool :=
  match s.fab.fm with
  | none => true
  | some f =>
    if f.serial = c.serial then decide (c.hops ≤ f.hops) || decide (f.beaconAt + 500000 ≤ s.tb)
    else Cand.better ⟨c.pri, c.serial, c.id, 0, 0⟩ ⟨f.pri, f.serial, f.id, 0, 0⟩

/-- The neighbour table of this device goes to a manager that is new to it (R523): its ports with the neighbours' serial numbers and ports. -/
def tellNeighbours (p : Nat) (s : State) : State :=
  let ps := (List.range (fabPortCount s)).flatMap fun q => match (fport s q).peer with
    | some x => if (fport s q).carries then [q, x.serial, x.port] else []
    | none => []
  emit (.link p "NEIGHBOURS" (s.fab.serial :: ps)) s

/-- A beacon (R522, R523): taken, and flooded on with its hop count. A manager that hears a better one stops at once. -/
def heardBeacon (p id pri serial hops : Nat) (s : State) : State :=
  let c : Fm := ⟨id, pri, serial, hops + 1, s.tb⟩
  if serial = s.fab.serial ∨ 16 < hops + 1 ∨ ¬ beaconNews c s then s
  else
    let fresh := match s.fab.fm with
      | some f => f.serial != serial || decide (hops + 1 < f.hops) || decide (f.beaconAt + 500000 ≤ s.tb)
      | none => true
    let news := (s.fab.fm.map (·.serial)) != some serial
    let s := setFm (some c) (onFab (fun f => { f with isFm := false, bestSince := if f.isFm then none else f.bestSince }) s)
    let s := if news then tellNeighbours p s else s
    if fresh then flood [0, id, pri, serial, hops + 1] (some p) s else s

/-- The message comes from the elected manager. -/
def fromFm (s : State) (src : Nat) : Bool := (s.fab.fm.map (·.id == src)).getD false && !s.fab.isFm

/-- An assigned device ID (R525, R526): stored at once; one that differs from the ID in force is pending. -/
def assignId (id : Nat) (s : State) : State :=
  let pend := decide (id ≠ s.fab.idForce)
  let s := onFab (fun f => { f with idAssigned := id, idPending := pend }) (onNv (fun n => { n with devId := some id }) s)
  if pend then raise Ev.fabIdPending (dataPeer id 0 0) 0 s else s

/-- An FMC write that R524 applies only while master FM is the owner. -/
def fmWrite (src : Nat) (f : State → State) (s : State) : State :=
  if ¬ s.mgt.boot.nvDone then s else if fromFm s src && mayWrite s .fm then f s else nonOwnerWr .fm s

/-- An FMC register write (R524, R577, R587). -/
def fmRegWrite (src off w : Nat) (s : State) : State :=
  if fromFm s src then (regWrite .fm off 4 w s).2
  else if off = Reg.MGT_OWN_CLAIM ∧ s.mgt.boot.nvDone then ownRefuse s
  else fmWrite src id s

/-- The neighbour table of a device as the manager holds it (R523). -/
def putTopo (serial : Nat) (f : List (Nat × Nat × Nat) → List (Nat × Nat × Nat)) (s : State) : State :=
  onFab (fun x =>
    let old := ((x.topo.find? (·.1 == serial)).map (·.2)).getD []
    { x with topo := x.topo.filter (·.1 != serial) ++ [(serial, f old)] }) s

/-- What a message asks. -/
def applyFmc (p src : Nat) (m : Fmc) (s : State) : State :=
  let asFm := fun (f : State → State) => if fromFm s src then f s else s
  match m with
  | .beacon id pri serial hops => heardBeacon p id pri serial hops s
  | .route dst e => asFm fun s => settle (greetPump (fabPump (putRoute dst e s)))
  | .devId id => asFm (assignId (id % 4096))
  | .idConflict => asFm fun s => raise Ev.fabIdConflict (dataPeer (devId s) 0 0) 0 s
  | .parent q => asFm (onFab fun f => { f with parent := some (q % 4), parentSet := true })
  | .domain d e => fmWrite src (domWrite d e) s
  | .hop r g v => fmWrite src (hopWrite r g v) s
  | .hmap w e => fmWrite src (fun s => (hmapWrite (w % 4096) e s).2) s
  | .epoch v => fmRegWrite src Reg.CTR_EPOCH v s
  | .regWrite off v => fmRegWrite src off v s
  | .linkReport serial q up => if s.fab.isFm ∧ ¬ up then putTopo serial (fun l => l.filter (·.1 != q)) s else s
  | .neighbours serial ps => if s.fab.isFm then putTopo serial (fun _ => ps) s else s
  | .ack tag => onFab (fun f => { f with fmcOut := f.fmcOut.filter (·.tag != tag) }) s

/-- An FMC write of the manager to its own device (R523): it loads what R524 lets master FM load. -/
def ownLoad (f : State → State) (s : State) : State := if mayWrite s .fm then f s else nonOwnerWr .fm s

/-- What the manager gives its own device. -/
def applyOwn (m : Fmc) (s : State) : State :=
  match m with
  | .route dst e => if routeFit e then putRoute dst e s else s
  | .devId id => assignId (id % 4096) s
  | .idConflict => raise Ev.fabIdConflict (dataPeer (devId s) 0 0) 0 s
  | .domain d e => ownLoad (domWrite d e) s
  | .hop r g v => ownLoad (hopWrite r g v) s
  | .hmap w e => ownLoad (fun s => (hmapWrite (w % 4096) e s).2) s
  | .epoch v => (regWrite .fm Reg.CTR_EPOCH 4 v s).2
  | .regWrite off v => (regWrite .fm off 4 v s).2
  | _ => s

/-- FM_ROUTE_RECOMPUTE (R523, R525, R527 to R529): what the FM's MCF has computed, by device: what is its own is applied at once, the
others go out and wait for their acknowledgement (R524). -/
def execFmRouteRecompute (out : List (Nat × Fmc)) (s : State) : Res :=
  if ¬ s.fab.isFm ∨ ¬ running s then .next s
  else
    .next (settle (fabPump (eachIn out (fun o s =>
      if o.1 = devId s then applyOwn o.2 s
      else
        let fit : Bool := match o.2 with | .route _ e => routeFit e | _ => true
        let body := match o.2 with | .route dst e => [dst, e] | _ => []
        if ¬ fit then s
        else
          let t := s.fab.fmcTag
          emit (.link 0 "FMC" ([t, o.1] ++ body)) (onFab (fun f =>
            { f with fmcTag := t + 1, fmcOut := f.fmcOut ++ [⟨t, o.1, o.2, s.tb⟩] }) s)) s)))

/-- Beacons and acknowledgements are not acknowledged themselves. -/
def Fmc.acked (m : Fmc) : Bool :=
  match m with
  | .beacon _ _ _ _ | .ack _ => false
  | _ => true

/-- FMC_MESSAGE (R524): a message arrives on port p from device `src` under a tag; `full` says that the MCF queue has no room. -/
def execFmcMessage (p src tag : Nat) (full : Bool) (m : Fmc) (s : State) : Res :=
  if ¬ fpOk s p ∨ ¬ (fport s p).carries ∨ ¬ (running s ∨ s.rsv.pst = .startup) then .next s
  else if full then .next (raise Ev.fabFmcDrop 0 p (tally Ctr.FAB_FMC_DROP 1 s))
  else
    let s := tally Ctr.FAB_FMC_RX 1 s
    let s := if m.acked then emit (.link p "FMC_ACK" [tag, src]) s else s
    .next (applyFmc p src m s)

end Sys2Proof.Machine
end

