-- ==== Sys2Proof/Machine/Sideband.lean ====
section
/-! DEFINITION. The I3C sideband (R594 to R597). -/

namespace Sys2Proof.Machine

open Sys2Proof

def onI3c (f : I3c → I3c) (s : State) : State := { s with mgt := { s.mgt with i3c := f s.mgt.i3c } }

/-- The target answers: powered, from core release on (R595). -/
def sbOn (s : State) : Bool := reaches s .sb

/-- STATUS (R595). -/
def sbStatus (s : State) : Nat :=
  (if s.mgt.boot.nvDone then 1 else 0) + (if s.mgt.i3c.lastWrDisc then 2 else 0) + (if s.mgt.i3c.pecErr then 4 else 0)

/-- A returned STATUS clears its bits 1 and 2. -/
def clearStatus (s : State) : State := onI3c (fun x => { x with lastWrDisc := false, pecErr := false }) s

/-- A discarded transaction: counted and reported at most once per second. -/
def sbBad (b : I3cBad) (s : State) : State :=
  let s := match b with
    | .pec => onI3c (fun x => { x with pecErr := true }) (rcCount Reg.MGT_I3C_STS 15 8 1 s)
    | .proto => rcCount Reg.MGT_I3C_STS 23 16 1 s
  raiseAtMost 1000000000 0 Ev.i3cErr 0 0 s

/-- A register transaction whose OFFSET is a BAR0 word. -/
def sbOffset (off : Nat) : Bool := decide (off < 0x800000) && off % 4 == 0

/-- I3C_WRITE (R595). -/
def execI3cWrite (off : Nat) (w : Word) (bad : Option I3cBad) (s : State) : Res :=
  if ¬ sbOn s then .next s
  else
    match bad.or (if sbOffset off then none else some .proto) with
    | some b => .next (onI3c (fun x => { x with lastWrDisc := true }) (sbBad b s))
    | none =>
      let (d, s) := regWrite .sb off 4 w.toNat (tally Ctr.I3C_XACT 1 s)
      .next (onI3c (fun x => { x with lastWrDisc := d }) s)

/-- I3C_READ (R595): the word as a read of SB returns it, then STATUS. -/
def execI3cRead (off : Nat) (bad : Option I3cBad) (s : State) : Res :=
  if ¬ sbOn s then .next s
  else
    match bad.or (if sbOffset off then none else some .proto) with
    | some b => .next (sbBad b s)
    | none =>
      let s := readAt .sb off 4 (tally Ctr.I3C_XACT 1 s)
      .next (clearStatus (emit (.i3c [sbStatus s]) s))

/-- I3C_STATUS (R595). -/
def execI3cStatus (bad : Option I3cBad) (s : State) : Res :=
  if ¬ sbOn s then .next s
  else
    match bad with
    | some b => .next (sbBad b s)
    | none => .next (clearStatus (emit (.i3c [sbStatus s]) (tally Ctr.I3C_XACT 1 s)))

/-! ### Common command codes -/

/-- A dynamic address comes into force; the target is then an I3C target. -/
def setDaddr (a : Nat) (s : State) : State := onI3c (fun x => { x with daddr := a, i3cMode := a != 0 }) s

/-- ENTDAA: the controller gives an address to a target that has none. -/
def execEntdaa (a : Fin 128) (s : State) : Res := .next (if sbOn s && s.mgt.i3c.daddr == 0 then setDaddr a.val s else s)

/-- SETDASA, to a static address. -/
def execSetdasa (stat a : Fin 128) (s : State) : Res :=
  .next (if sbOn s && s.mgt.i3c.daddr == 0 && stat.val == fld s Reg.MGT_I3C_CFG 6 0 then setDaddr a.val s else s)

/-- SETNEWDA, to a dynamic address. -/
def execSetnewda (old a : Fin 128) (s : State) : Res :=
  .next (if sbOn s && s.mgt.i3c.daddr != 0 && old.val == s.mgt.i3c.daddr then setDaddr a.val s else s)

/-- RSTDAA. -/
def execRstdaa (s : State) : Res := .next (if sbOn s then setDaddr 0 s else s)

/-- ENEC and DISEC of the events whose bits are set; bit 0 stands for in-band interrupts. -/
def execEnec (events : Nat) (s : State) : Res :=
  .next (if sbOn s && events % 2 == 1 then onI3c (fun x => { x with enec := true }) s else s)
def execDisec (events : Nat) (s : State) : Res :=
  .next (if sbOn s && events % 2 == 1 then onI3c (fun x => { x with enec := false }) s else s)

/-- A CCC that reads what the part fixes: the spec gives no value, so each byte is a constant of Config. -/
def getCcc (code len : Nat) (s : State) : Res :=
  .next (if sbOn s then emit (.i3c ((List.range len).map fun i => Config.i3cByte code i % 256)) s else s)

/-- GETPID: 6 bytes. -/
def execGetpid (s : State) : Res := getCcc 0 6 s
/-- GETBCR. -/
def execGetbcr (s : State) : Res := getCcc 1 1 s
/-- GETDCR. -/
def execGetdcr (s : State) : Res := getCcc 2 1 s
/-- GETMXDS: 2 bytes. -/
def execGetmxds (s : State) : Res := getCcc 3 2 s

/-- GETSTATUS: 2 bytes whose value the spec does not give. -/
def execGetstatus (s : State) : Res :=
  if sbOn s then
    let (v, s) := draw s
    .next (emit (.i3c [v % 256, v / 256 % 256]) s)
  else .next s

/-- RSTACT: the action of the next target reset. -/
def execRstact (act : Nat) (s : State) : Res := .next (if sbOn s then onI3c (fun x => { x with rstact := act }) s else s)

/-- IBI_SEND (R596): a waiting in-band interrupt goes out with its severity byte. -/
def execIbiSend (s : State) : Res :=
  match s.io.ibi with
  | some v =>
    if sbOn s && s.mgt.i3c.enec then .next (emit (.ibi v) (onIo (fun io => { io with ibi := none }) s)) else .next s
  | none => .next s

/-- ALERT_N is driven low (R596): an unread entry at or above ALERT_SEV. -/
def alertLow (s : State) : Bool :=
  flag s Reg.MGT_I3C_CFG 8 && s.io.q.any fun e => !e.read && decide (e.sev.code ≤ fld s Reg.MGT_I3C_CFG 10 9)

end Sys2Proof.Machine
end

