-- ==== Sys2Proof/Machine/WalniMem.lean ====
section
/-! DEFINITION. The memory instructions of Walni (R435, R436, R442, R451, R480, R492, R593): data RAM, the policy window of a policy
core, and BAR0 as the device itself on the Walni-M. -/

namespace Sys2Proof.Machine

open Sys2Proof

/-- Where a data address leads. -/
inductive Place where
  /-- Data RAM, by byte address. -/
  | ram (a : Nat)
  /-- The policy window, by offset. -/
  | win (off : Nat)
  /-- The active window of BAR0. -/
  | bar (off : Nat)
  | none
  deriving DecidableEq, Repr

/-- The data spaces of a core (R435, R593). -/
def placeAt (e : Ex) (a : Word) : Place :=
  let n := a.toNat
  if n < (if e.isM then 0x80000 else 0x20000) then .ram n
  else if e.isM then if 0x10000000 ≤ n ∧ n < 0x10400000 then .bar (n - 0x10000000) else .none
  else if 0x100000 ≤ n ∧ n < 0x200000 then .win (n - 0x100000) else .none

/-- `size` bytes of an aligned word, from byte `a mod 4`. -/
def partOf (w : Word) (a size : Nat) : Nat := w.toNat / 2 ^ (8 * (a % 4)) % 2 ^ (8 * size)

/-- The word with `size` bytes from byte `a mod 4` replaced. -/
def withPart (w : Word) (a size v : Nat) : Word :=
  BitVec.ofNat 32 (setBits w.toNat (8 * (a % 4) + 8 * size - 1) (8 * (a % 4)) v)

def ramWord (s : State) (k a : Nat) : Word := tblGet 0 (coreAt s k).ram (a / 4)

def putRam (k a : Nat) (w : Word) (s : State) : State := onCore k (fun c => { c with ram := tblSet 0 c.ram (a / 4) w }) s

/-- A load from data RAM meets a memory error first (R436). -/
def withEcc (e : Ex) (c : Ecc) (f : State → State) (s : State) : State :=
  match c with
  | .ok => f s
  | .corrected => f (memCorr e s)
  | .uncorrectable => memErr e s

/-- A load of `size` bytes, extended by `ext`. -/
def load (e : Ex) (op size : Nat) (rd rs : Fin 32) (imm : BitVec 16) (c : Ecc) (ext : Nat → Word) (s : State) : Res :=
  let w := encI op rd rs imm
  runInstr e (e.plain w rd) (fun s =>
    let a := (ctxAt s e).reg rs + sext16 imm
    let give := fun (v : Nat) (s : State) => commitNext e w (fun x => x.setReg rd (ext v)) s
    if a.toNat % size ≠ 0 then raiseExc e 0x05 s
    else
      match placeAt e a with
      | .ram n => withEcc e c (fun s => give (partOf (ramWord s e.core n) n size) s) s
      | .bar off => give (partOf (view s (off / 4 * 4)) off size) s
      | .win off =>
        if size ≠ 4 then raiseExc e 0x06 s
        else if off = 0x200 then onCtx e (fun x => { x with wait := .stream rd, iw := w }) s
        else
          match winRead e off s with
          | some (v, s) => give v.toNat s
          | none => raiseExc e 0x06 s
      | .none => raiseExc e 0x06 s) s

/-- A store of `size` bytes of register rd. -/
def store (e : Ex) (op size : Nat) (rd rs : Fin 32) (imm : BitVec 16) (s : State) : Res :=
  let w := encI op rd rs imm
  runInstr e ⟨w, !wordDefined e.isM w, false, false, [], false⟩ (fun s =>
    let x := ctxAt s e
    let a := x.reg rs + sext16 imm
    let v := (x.reg rd).toNat % 2 ^ (8 * size)
    if a.toNat % size ≠ 0 then raiseExc e 0x05 s
    else
      match placeAt e a with
      | .ram n => commitNext e w id (putRam e.core n (withPart (ramWord s e.core n) n size v) s)
      | .bar off => commitNext e w id (if size = 4 then deviceWrite off v s else rsvWr none off 1 s)
      | .win off =>
        if size ≠ 4 then raiseExc e 0x06 s
        else
          match winWrite e off (x.reg rd) s with
          | some s => commitNext e w id s
          | none => raiseExc e 0x06 s
      | .none => raiseExc e 0x06 s) s

/-- Sign extension of a value of n bytes. -/
def sextN (n v : Nat) : Word := BitVec.ofInt 32 (signedOf n v)

/-- LDW. -/
def execLdw (e : Ex) (rd rs : Fin 32) (imm : BitVec 16) (c : Ecc) (s : State) : Res :=
  load e 0x10 4 rd rs imm c (BitVec.ofNat 32) s
/-- LDH. -/
def execLdh (e : Ex) (rd rs : Fin 32) (imm : BitVec 16) (c : Ecc) (s : State) : Res := load e 0x11 2 rd rs imm c (sextN 2) s
/-- LDHU. -/
def execLdhu (e : Ex) (rd rs : Fin 32) (imm : BitVec 16) (c : Ecc) (s : State) : Res :=
  load e 0x12 2 rd rs imm c (BitVec.ofNat 32) s
/-- LDB. -/
def execLdb (e : Ex) (rd rs : Fin 32) (imm : BitVec 16) (c : Ecc) (s : State) : Res := load e 0x13 1 rd rs imm c (sextN 1) s
/-- LDBU. -/
def execLdbu (e : Ex) (rd rs : Fin 32) (imm : BitVec 16) (c : Ecc) (s : State) : Res :=
  load e 0x14 1 rd rs imm c (BitVec.ofNat 32) s
/-- STW. -/
def execStw (e : Ex) (rd rs : Fin 32) (imm : BitVec 16) (s : State) : Res := store e 0x18 4 rd rs imm s
/-- STH. -/
def execSth (e : Ex) (rd rs : Fin 32) (imm : BitVec 16) (s : State) : Res := store e 0x19 2 rd rs imm s
/-- STB. -/
def execStb (e : Ex) (rd rs : Fin 32) (imm : BitVec 16) (s : State) : Res := store e 0x1A 1 rd rs imm s

/-- CASW: data RAM alone admits it (R435). -/
def execCasw (e : Ex) (rd rs rt : Fin 32) (c : Ecc) (s : State) : Res :=
  let w := encR 0x1C rd rs rt 0
  runInstr e (e.plain w rd) (fun s =>
    let x := ctxAt s e
    let a := x.reg rs
    if a.toNat % 4 ≠ 0 then raiseExc e 0x05 s
    else
      match placeAt e a with
      | .ram n =>
        withEcc e c (fun s =>
          let old := ramWord s e.core n
          let s := if old = x.reg rt then putRam e.core n (x.reg rd) s else s
          commitNext e w (fun x => x.setReg rd old) s) s
      | _ => raiseExc e 0x06 s) s

end Sys2Proof.Machine
end

