-- ==== Sys2Proof/Machine/Dispatch.lean ====
section
/-! DEFINITION. One arm per command. -/

namespace Sys2Proof.Machine

open Sys2Proof

def exec (i : Instr) (s : State) : Host.Outcome State Fault Refusal :=
  match i with
  | .epochTick adc => Sys2Proof.Machine.execEpochTick adc s
  | .shedStepEscalate => Sys2Proof.Machine.execShedStepEscalate s
  | .pcfDemote k => Sys2Proof.Machine.execPcfDemote k s
  | .epochPeriodWrite m w => Sys2Proof.Machine.execEpochPeriodWrite m w s
  | .phaseLockWrite m w => Sys2Proof.Machine.execPhaseLockWrite m w s
  | .registerWrite m a size w => Sys2Proof.Machine.execRegisterWrite m a size w s
  | .hmapDataWrite m w => Sys2Proof.Machine.execHmapDataWrite m w s
  | .hmapInvalidationDone => Sys2Proof.Machine.execHmapInvalidationDone s
  | .hdmDecoderCommit p n d => Sys2Proof.Machine.execHdmDecoderCommit p n d s
  | .hdmDecoderUncommit p n => Sys2Proof.Machine.execHdmDecoderUncommit p n s
  | .hostLinkUp p width full bisnp => Sys2Proof.Machine.execHostLinkUp p width full bisnp s
  | .hpLinkDown p perst => Sys2Proof.Machine.execHpLinkDown p perst s
  | .memRd p tag hpa mv dat u => Sys2Proof.Machine.execMemRd p tag hpa mv dat u s
  | .memInv p tag hpa mv nt u => Sys2Proof.Machine.execMemInv p tag hpa mv nt u s
  | .memClnEvct p tag hpa => Sys2Proof.Machine.execMemClnEvct p tag hpa s
  | .memSpecRd p hpa => Sys2Proof.Machine.execMemSpecRd p hpa s
  | .memWr p tag hpa mv data poison u => Sys2Proof.Machine.execMemWr p tag hpa mv data poison u s
  | .memWrPtl p tag hpa mv data mask poison => Sys2Proof.Machine.execMemWrPtl p tag hpa mv data mask poison s
  | .birsp p hpa kind => Sys2Proof.Machine.execBirsp p hpa kind s
  | .biconflict p tag hpa => Sys2Proof.Machine.execBiconflict p tag hpa s
  | .bisnpTimeout p hpa => Sys2Proof.Machine.execBisnpTimeout p hpa s
  | .atomicOp p tag da a => Sys2Proof.Machine.execAtomicOp p tag da a s
  | .atmAluDone id => Sys2Proof.Machine.execAtmAluDone id s
  | .bar4NonAtomic p tag da => Sys2Proof.Machine.execBar4NonAtomic p tag da s
  | .ideIntegrityFail p mem => Sys2Proof.Machine.execIdeIntegrityFail p mem s
  | .identifyMemoryDevice p => Sys2Proof.Machine.execIdentifyMemoryDevice p s
  | .getEventRecords p log => Sys2Proof.Machine.execGetEventRecords p log s
  | .clearEventRecords p handles => Sys2Proof.Machine.execClearEventRecords p handles s
  | .getPoisonList p => Sys2Proof.Machine.execGetPoisonList p s
  | .injectPoison p da => Sys2Proof.Machine.execInjectPoison p da s
  | .clearPoison p da data => Sys2Proof.Machine.execClearPoison p da data s
  | .getShutdownState p => Sys2Proof.Machine.execGetShutdownState p s
  | .getFwInfo p => Sys2Proof.Machine.execGetFwInfo p s
  | .transferFw p typ last img => Sys2Proof.Machine.execTransferFw p typ last img s
  | .activateFw p typ online => Sys2Proof.Machine.execActivateFw p typ online s
  | .zalloc p da len tr => Sys2Proof.Machine.execZalloc p da len tr s
  | .zallocSectorOp p => Sys2Proof.Machine.execZallocSectorOp p s
  | .prefetch p da len tr => Sys2Proof.Machine.execPrefetch p da len tr s
  | .pin p da len tr => Sys2Proof.Machine.execPin p da len tr s
  | .unpin p da len tr => Sys2Proof.Machine.execUnpin p da len tr s
  | .flush p da len tr => Sys2Proof.Machine.execFlush p da len tr s
  | .inval p da len tr => Sys2Proof.Machine.execInval p da len tr s
  | .dfence p payload => Sys2Proof.Machine.execDfence p payload s
  | .ofence p payload => Sys2Proof.Machine.execOfence p payload s
  | .doorbellDfence p seq irq => Sys2Proof.Machine.execDoorbellDfence p seq irq s
  | .doorbellOfence p seq irq => Sys2Proof.Machine.execDoorbellOfence p seq irq s
  | .gpfPhase1 p => Sys2Proof.Machine.execGpfPhase1 p s
  | .gpfPhase2 p => Sys2Proof.Machine.execGpfPhase2 p s
  | .atomic p da a tr => Sys2Proof.Machine.execAtomic p da a tr s
  | .append p da len data tr => Sys2Proof.Machine.execAppend p da len data tr s
  | .keyEscrowUnlock p key asserted tr => Sys2Proof.Machine.execKeyEscrowUnlock p key asserted tr s
  | .keyEscrowChange p key newKey tr => Sys2Proof.Machine.execKeyEscrowChange p key newKey tr s
  | .enclaveCreate p id ranges binds rsv tr => Sys2Proof.Machine.execEnclaveCreate p id ranges binds rsv tr s
  | .enclaveDestroy p id rsv tr => Sys2Proof.Machine.execEnclaveDestroy p id rsv tr s
  | .keyRotate p k tr => Sys2Proof.Machine.execKeyRotate p k tr s
  | .rotatePageStep => Sys2Proof.Machine.execRotatePageStep s
  | .assignStage p items rsv tr => Sys2Proof.Machine.execAssignStage p items rsv tr s
  | .mediaFormat p => Sys2Proof.Machine.execMediaFormat p s
  | .reserveArm p rsv => Sys2Proof.Machine.execReserveArm p rsv s
  | .reserveDisarm p rsv => Sys2Proof.Machine.execReserveDisarm p rsv s
  | .reserveDischarge p banks rsv => Sys2Proof.Machine.execReserveDischarge p banks rsv s
  | .reserveRecharge p banks rsv => Sys2Proof.Machine.execReserveRecharge p banks rsv s
  | .trkEntryGrant => Sys2Proof.Machine.execTrkEntryGrant s
  | .dramReadReturn id gen rds => Sys2Proof.Machine.execDramReadReturn id gen rds s
  | .tscFillDone set ids => Sys2Proof.Machine.execTscFillDone set ids s
  | .tscFillBudgetReset => Sys2Proof.Machine.execTscFillBudgetReset s
  | .victimStallTimeout id => Sys2Proof.Machine.execVictimStallTimeout id s
  | .predFlushMiss m => Sys2Proof.Machine.execPredFlushMiss m s
  | .predFlushWay m => Sys2Proof.Machine.execPredFlushWay m s
  | .mediaReadCompletion cid out => Sys2Proof.Machine.execMediaReadCompletion cid out s
  | .wbSchedulerCopy r => Sys2Proof.Machine.execWbSchedulerCopy r s
  | .journalPackTimeout => Sys2Proof.Machine.execJournalPackTimeout s
  | .journalPageCompletion cid out => Sys2Proof.Machine.execJournalPageCompletion cid out s
  | .cleanQueueApply => Sys2Proof.Machine.execCleanQueueApply s
  | .wbStageStallTimeout sk => Sys2Proof.Machine.execWbStageStallTimeout sk s
  | .ntAgeWriteout sk => Sys2Proof.Machine.execNtAgeWriteout sk s
  | .ntHoldWriteout sk => Sys2Proof.Machine.execNtHoldWriteout sk s
  | .reservationGrant => Sys2Proof.Machine.execReservationGrant s
  | .sfStallTimeout id => Sys2Proof.Machine.execSfStallTimeout id s
  | .sfSuspectWalk => Sys2Proof.Machine.execSfSuspectWalk s
  | .rdS p lane seq m => Sys2Proof.Machine.execRdS p lane seq m s
  | .rdO p lane seq m => Sys2Proof.Machine.execRdO p lane seq m s
  | .rdOna p lane seq m => Sys2Proof.Machine.execRdOna p lane seq m s
  | .rdNa p lane seq m => Sys2Proof.Machine.execRdNa p lane seq m s
  | .wrNa p lane seq m => Sys2Proof.Machine.execWrNa p lane seq m s
  | .atom p lane seq m => Sys2Proof.Machine.execAtom p lane seq m s
  | .evcE p lane seq m => Sys2Proof.Machine.execEvcE p lane seq m s
  | .fhbDone p lane seq m => Sys2Proof.Machine.execFhbDone p lane seq m s
  | .snpS p lane seq m => Sys2Proof.Machine.execSnpS p lane seq m s
  | .snpInv p lane seq m => Sys2Proof.Machine.execSnpInv p lane seq m s
  | .snpCur p lane seq m => Sys2Proof.Machine.execSnpCur p lane seq m s
  | .snpRefwd p lane seq m => Sys2Proof.Machine.execSnpRefwd p lane seq m s
  | .rspI p lane seq m => Sys2Proof.Machine.execRspI p lane seq m s
  | .rspS p lane seq m => Sys2Proof.Machine.execRspS p lane seq m s
  | .rspMiss p lane seq m => Sys2Proof.Machine.execRspMiss p lane seq m s
  | .rspFwd p lane seq m => Sys2Proof.Machine.execRspFwd p lane seq m s
  | .rspPend p lane seq m => Sys2Proof.Machine.execRspPend p lane seq m s
  | .gnt p lane seq m => Sys2Proof.Machine.execGnt p lane seq m s
  | .cmp p lane seq m => Sys2Proof.Machine.execCmp p lane seq m s
  | .ack p lane seq m => Sys2Proof.Machine.execAck p lane seq m s
  | .rls p lane seq m => Sys2Proof.Machine.execRls p lane seq m s
  | .err p lane seq m => Sys2Proof.Machine.execErr p lane seq m s
  | .atomRes p lane seq m => Sys2Proof.Machine.execAtomRes p lane seq m s
  | .data p lane seq m => Sys2Proof.Machine.execData p lane seq m s
  | .snpdata p lane seq m => Sys2Proof.Machine.execSnpdata p lane seq m s
  | .wb p lane seq m => Sys2Proof.Machine.execWb p lane seq m s
  | .fhb p lane seq m => Sys2Proof.Machine.execFhb p lane seq m s
  | .fxTimeout tid => Sys2Proof.Machine.execFxTimeout tid s
  | .homeResponseTimeout tid => Sys2Proof.Machine.execHomeResponseTimeout tid s
  | .homeSnoopTimeout sk dev => Sys2Proof.Machine.execHomeSnoopTimeout sk dev s
  | .rspPendInterval id => Sys2Proof.Machine.execRspPendInterval id s
  | .dirStallTimeout id => Sys2Proof.Machine.execDirStallTimeout id s
  | .peerIncarnationChange dev inc => Sys2Proof.Machine.execPeerIncarnationChange dev inc s
  | .fhbWaitTimeout => Sys2Proof.Machine.execFhbWaitTimeout s
  | .fhbForce m => Sys2Proof.Machine.execFhbForce m s
  | .ldgCapWrite m w => Sys2Proof.Machine.execLdgCapWrite m w s
  | .ldgArmWrite m w => Sys2Proof.Machine.execLdgArmWrite m w s
  | .calStart m => Sys2Proof.Machine.execCalStart m s
  | .calAbort m => Sys2Proof.Machine.execCalAbort m s
  | .calWritebackTimeout => Sys2Proof.Machine.execCalWritebackTimeout s
  | .calDrainDone bw pwr => Sys2Proof.Machine.execCalDrainDone bw pwr s
  | .medCmdTimeout cid => Sys2Proof.Machine.execMedCmdTimeout cid s
  | .medAbortTimeout cid => Sys2Proof.Machine.execMedAbortTimeout cid s
  | .medCtrlReady p nss last => Sys2Proof.Machine.execMedCtrlReady p nss last s
  | .medCtrlReadyTimeout p => Sys2Proof.Machine.execMedCtrlReadyTimeout p s
  | .mediaPortLost p => Sys2Proof.Machine.execMediaPortLost p s
  | .smartPoll p warn used => Sys2Proof.Machine.execSmartPoll p warn used s
  | .nvmeAsyncEvent p warn used => Sys2Proof.Machine.execNvmeAsyncEvent p warn used s
  | .sinterPage ns => Sys2Proof.Machine.execSinterPage ns s
  | .sinterHomeWriteDone cid out => Sys2Proof.Machine.execSinterHomeWriteDone cid out s
  | .journalHeadAdvance ns => Sys2Proof.Machine.execJournalHeadAdvance ns s
  | .checkpointTimer => Sys2Proof.Machine.execCheckpointTimer s
  | .indexBucketRebuild b => Sys2Proof.Machine.execIndexBucketRebuild b s
  | .pwrfailNAssert wires msgs => Sys2Proof.Machine.execPwrfailNAssert wires msgs s
  | .busTrip wires msgs => Sys2Proof.Machine.execBusTrip wires msgs s
  | .railsGoodFall wires msgs => Sys2Proof.Machine.execRailsGoodFall wires msgs s
  | .geyserDrainComplete f => Sys2Proof.Machine.execGeyserDrainComplete f s
  | .bankVminReached => Sys2Proof.Machine.execBankVminReached s
  | .mainPowerReturn => Sys2Proof.Machine.execMainPowerReturn s
  | .railsGoodRise f => Sys2Proof.Machine.execRailsGoodRise f s
  | .hostLinkEnable => Sys2Proof.Machine.execHostLinkEnable s
  | .pfHeldTimeout => Sys2Proof.Machine.execPfHeldTimeout s
  | .restartSweepSet c => Sys2Proof.Machine.execRestartSweepSet c s
  | .rewarmRead => Sys2Proof.Machine.execRewarmRead s
  | .bankPresentDebounce n => Sys2Proof.Machine.execBankPresentDebounce n s
  | .bankFaultIsolate n f => Sys2Proof.Machine.execBankFaultIsolate n f s
  | .bankCapMeasure n cap => Sys2Proof.Machine.execBankCapMeasure n cap s
  | .bankChargeDone n => Sys2Proof.Machine.execBankChargeDone n s
  | .bankRechargeThreshold n => Sys2Proof.Machine.execBankRechargeThreshold n s
  | .svcDischarge m banks => Sys2Proof.Machine.execSvcDischarge m banks s
  | .svcRecharge m banks => Sys2Proof.Machine.execSvcRecharge m banks s
  | .bankDischargeDone n => Sys2Proof.Machine.execBankDischargeDone n s
  | .bankDischargeTimeout n => Sys2Proof.Machine.execBankDischargeTimeout n s
  | .rsvGateFault => Sys2Proof.Machine.execRsvGateFault s
  | .rsvNoBankFault => Sys2Proof.Machine.execRsvNoBankFault s
  | .rsvFaultClear f => Sys2Proof.Machine.execRsvFaultClear f s
  | .scrubSlot c rds => Sys2Proof.Machine.execScrubSlot c rds s
  | .quarantineRewrite k => Sys2Proof.Machine.execQuarantineRewrite k s
  | .refreshInterval c => Sys2Proof.Machine.execRefreshInterval c s
  | .thermalPoll c temp => Sys2Proof.Machine.execThermalPoll c temp s
  | .channelFailDetect c => Sys2Proof.Machine.execChannelFailDetect c s
  | .resilverSetCopy p dropped => Sys2Proof.Machine.execResilverSetCopy p dropped s
  | .trainCmdFull m => Sys2Proof.Machine.execTrainCmdFull m s
  | .add e rd rs rt => Sys2Proof.Machine.execAdd e rd rs rt s
  | .sub e rd rs rt => Sys2Proof.Machine.execSub e rd rs rt s
  | .and e rd rs rt => Sys2Proof.Machine.execAnd e rd rs rt s
  | .or e rd rs rt => Sys2Proof.Machine.execOr e rd rs rt s
  | .xor e rd rs rt => Sys2Proof.Machine.execXor e rd rs rt s
  | .nor e rd rs rt => Sys2Proof.Machine.execNor e rd rs rt s
  | .lts e rd rs rt => Sys2Proof.Machine.execLts e rd rs rt s
  | .ltu e rd rs rt => Sys2Proof.Machine.execLtu e rd rs rt s
  | .min e rd rs rt => Sys2Proof.Machine.execMin e rd rs rt s
  | .max e rd rs rt => Sys2Proof.Machine.execMax e rd rs rt s
  | .minu e rd rs rt => Sys2Proof.Machine.execMinu e rd rs rt s
  | .maxu e rd rs rt => Sys2Proof.Machine.execMaxu e rd rs rt s
  | .shl e rd rs rt => Sys2Proof.Machine.execShl e rd rs rt s
  | .shr e rd rs rt => Sys2Proof.Machine.execShr e rd rs rt s
  | .sar e rd rs rt => Sys2Proof.Machine.execSar e rd rs rt s
  | .ror e rd rs rt => Sys2Proof.Machine.execRor e rd rs rt s
  | .shlk e rd rs k => Sys2Proof.Machine.execShlk e rd rs k s
  | .shrk e rd rs k => Sys2Proof.Machine.execShrk e rd rs k s
  | .sark e rd rs k => Sys2Proof.Machine.execSark e rd rs k s
  | .mul e rd rs rt => Sys2Proof.Machine.execMul e rd rs rt s
  | .mulhu e rd rs rt => Sys2Proof.Machine.execMulhu e rd rs rt s
  | .mulhs e rd rs rt => Sys2Proof.Machine.execMulhs e rd rs rt s
  | .clz e rd rs rt => Sys2Proof.Machine.execClz e rd rs rt s
  | .ones e rd rs rt => Sys2Proof.Machine.execOnes e rd rs rt s
  | .addk e rd rs imm => Sys2Proof.Machine.execAddk e rd rs imm s
  | .andk e rd rs imm => Sys2Proof.Machine.execAndk e rd rs imm s
  | .ork e rd rs imm => Sys2Proof.Machine.execOrk e rd rs imm s
  | .xork e rd rs imm => Sys2Proof.Machine.execXork e rd rs imm s
  | .ltsk e rd rs imm => Sys2Proof.Machine.execLtsk e rd rs imm s
  | .ltuk e rd rs imm => Sys2Proof.Machine.execLtuk e rd rs imm s
  | .hik e rd rs imm => Sys2Proof.Machine.execHik e rd rs imm s
  | .ldw e rd rs imm c => Sys2Proof.Machine.execLdw e rd rs imm c s
  | .ldh e rd rs imm c => Sys2Proof.Machine.execLdh e rd rs imm c s
  | .ldhu e rd rs imm c => Sys2Proof.Machine.execLdhu e rd rs imm c s
  | .ldb e rd rs imm c => Sys2Proof.Machine.execLdb e rd rs imm c s
  | .ldbu e rd rs imm c => Sys2Proof.Machine.execLdbu e rd rs imm c s
  | .stw e rd rs imm => Sys2Proof.Machine.execStw e rd rs imm s
  | .sth e rd rs imm => Sys2Proof.Machine.execSth e rd rs imm s
  | .stb e rd rs imm => Sys2Proof.Machine.execStb e rd rs imm s
  | .casw e rd rs rt c => Sys2Proof.Machine.execCasw e rd rs rt c s
  | .br e a cond rs off => Sys2Proof.Machine.execBr e a cond rs off s
  | .brl e a cond rs off => Sys2Proof.Machine.execBrl e a cond rs off s
  | .jmp e rd rs rt => Sys2Proof.Machine.execJmp e rd rs rt s
  | .jml e rd rs rt => Sys2Proof.Machine.execJml e rd rs rt s
  | .loop e level rs off => Sys2Proof.Machine.execLoop e level rs off s
  | .loopi e level count off => Sys2Proof.Machine.execLoopi e level count off s
  | .mode e rs => Sys2Proof.Machine.execMode e rs s
  | .xret e => Sys2Proof.Machine.execXret e s
  | .trap e => Sys2Proof.Machine.execTrap e s
  | .debug e => Sys2Proof.Machine.execDebug e s
  | .fend e => Sys2Proof.Machine.execFend e s
  | .pflush e => Sys2Proof.Machine.execPflush e s
  | .srd e rd n => Sys2Proof.Machine.execSrd e rd n s
  | .swr e rs n => Sys2Proof.Machine.execSwr e rs n s
  | .predictorTagFlush e => Sys2Proof.Machine.execPredictorTagFlush e s
  | .scan e rd rs rt => Sys2Proof.Machine.execScan e rd rs rt s
  | .heatrd e rd rs rt => Sys2Proof.Machine.execHeatrd e rd rs rt s
  | .cpResultReturn e ids => Sys2Proof.Machine.execCpResultReturn e ids s
  | .hashSet e rd rs rt => Sys2Proof.Machine.execHashSet e rd rs rt s
  | .hashMix e rd rs rt => Sys2Proof.Machine.execHashMix e rd rs rt s
  | .evict e rd rs rt => Sys2Proof.Machine.execEvict e rd rs rt s
  | .policyPrefetch e rd rs rt => Sys2Proof.Machine.execPolicyPrefetch e rd rs rt s
  | .policyPin e rd rs rt => Sys2Proof.Machine.execPolicyPin e rd rs rt s
  | .policyUnpin e rd rs rt => Sys2Proof.Machine.execPolicyUnpin e rd rs rt s
  | .hintWrite e rd rs rt => Sys2Proof.Machine.execHintWrite e rd rs rt s
  | .cp3Delivery k => Sys2Proof.Machine.execCp3Delivery k s
  | .springStreamRead e => Sys2Proof.Machine.execSpringStreamRead e s
  | .springPackTimeout k => Sys2Proof.Machine.execSpringPackTimeout k s
  | .baselineSpringPass => Sys2Proof.Machine.execBaselineSpringPass s
  | .prefetchIssue => Sys2Proof.Machine.execPrefetchIssue s
  | .idleFlit p ack vc lane n => Sys2Proof.Machine.execIdleFlit p ack vc lane n s
  | .flitFailed p uncorr again => Sys2Proof.Machine.execFlitFailed p uncorr again s
  | .nak p ack => Sys2Proof.Machine.execNak p ack s
  | .hello p h => Sys2Proof.Machine.execHello p h s
  | .helloTimer p => Sys2Proof.Machine.execHelloTimer p s
  | .sync p m => Sys2Proof.Machine.execSync p m s
  | .syncExchangeTimer => Sys2Proof.Machine.execSyncExchangeTimer s
  | .syncHoldoverExpire => Sys2Proof.Machine.execSyncHoldoverExpire s
  | .transitMessage p lane seq m => Sys2Proof.Machine.execTransitMessage p lane seq m s
  | .replayEpisodeEnd p => Sys2Proof.Machine.execReplayEpisodeEnd p s
  | .laneDegrade p ack lanes grants => Sys2Proof.Machine.execLaneDegrade p ack lanes grants s
  | .fabLinkDown p => Sys2Proof.Machine.execFabLinkDown p s
  | .fabLinkUp p width grants => Sys2Proof.Machine.execFabLinkUp p width grants s
  | .routeHoldTimeout n => Sys2Proof.Machine.execRouteHoldTimeout n s
  | .fecInterval p n => Sys2Proof.Machine.execFecInterval p n s
  | .linkRetrain m ports => Sys2Proof.Machine.execLinkRetrain m ports s
  | .linkTakeDown m ports => Sys2Proof.Machine.execLinkTakeDown m ports s
  | .fmCandidateExpire p => Sys2Proof.Machine.execFmCandidateExpire p s
  | .fmElected => Sys2Proof.Machine.execFmElected s
  | .fmLost => Sys2Proof.Machine.execFmLost s
  | .fmBeaconTimer => Sys2Proof.Machine.execFmBeaconTimer s
  | .fmRouteRecompute out => Sys2Proof.Machine.execFmRouteRecompute out s
  | .fmcMessage p src tag full m => Sys2Proof.Machine.execFmcMessage p src tag full m s
  | .fmcResendTimeout tag => Sys2Proof.Machine.execFmcResendTimeout tag s
  | .tamperTrigger t wires msgs => Sys2Proof.Machine.execTamperTrigger t wires msgs s
  | .quenchSramCleared => Sys2Proof.Machine.execQuenchSramCleared s
  | .rngReady => Sys2Proof.Machine.execRngReady s
  | .rngHealthFail => Sys2Proof.Machine.execRngHealthFail s
  | .drbgReseed => Sys2Proof.Machine.execDrbgReseed s
  | .rngDataRead m active => Sys2Proof.Machine.execRngDataRead m active s
  | .getVersion p => Sys2Proof.Machine.execGetVersion p s
  | .getCapabilities p => Sys2Proof.Machine.execGetCapabilities p s
  | .negotiateAlgorithms p => Sys2Proof.Machine.execNegotiateAlgorithms p s
  | .getDigests p => Sys2Proof.Machine.execGetDigests p s
  | .getCertificate p slot => Sys2Proof.Machine.execGetCertificate p slot s
  | .challenge p slot nonce => Sys2Proof.Machine.execChallenge p slot nonce s
  | .getMeasurements p idx => Sys2Proof.Machine.execGetMeasurements p idx s
  | .keyExchange p => Sys2Proof.Machine.execKeyExchange p s
  | .finish p id ok => Sys2Proof.Machine.execFinish p id ok s
  | .heartbeat p id => Sys2Proof.Machine.execHeartbeat p id s
  | .keyUpdate p id => Sys2Proof.Machine.execKeyUpdate p id s
  | .endSession p id => Sys2Proof.Machine.execEndSession p id s
  | .fwKeyRevoke keys => Sys2Proof.Machine.execFwKeyRevoke keys s
  | .debugLock m => Sys2Proof.Machine.execDebugLock m s
  | .assignLockSet m => Sys2Proof.Machine.execAssignLockSet m s
  | .ownClaim m w => Sys2Proof.Machine.execOwnClaim m w s
  | .ownHb m w => Sys2Proof.Machine.execOwnHb m w s
  | .ownYield m w => Sys2Proof.Machine.execOwnYield m w s
  | .ownerLapse => Sys2Proof.Machine.execOwnerLapse s
  | .handoverTimeout => Sys2Proof.Machine.execHandoverTimeout s
  | .cfgStore m => Sys2Proof.Machine.execCfgStore m s
  | .cfgFactory m => Sys2Proof.Machine.execCfgFactory m s
  | .factoryArmExpire => Sys2Proof.Machine.execFactoryArmExpire s
  | .pgLockSet m off => Sys2Proof.Machine.execPgLockSet m off s
  | .i3cWrite off w bad => Sys2Proof.Machine.execI3cWrite off w bad s
  | .i3cRead off bad => Sys2Proof.Machine.execI3cRead off bad s
  | .i3cStatus bad => Sys2Proof.Machine.execI3cStatus bad s
  | .entdaa a => Sys2Proof.Machine.execEntdaa a s
  | .setdasa stat a => Sys2Proof.Machine.execSetdasa stat a s
  | .setnewda old a => Sys2Proof.Machine.execSetnewda old a s
  | .rstdaa => Sys2Proof.Machine.execRstdaa s
  | .enec events => Sys2Proof.Machine.execEnec events s
  | .disec events => Sys2Proof.Machine.execDisec events s
  | .getpid => Sys2Proof.Machine.execGetpid s
  | .getbcr => Sys2Proof.Machine.execGetbcr s
  | .getdcr => Sys2Proof.Machine.execGetdcr s
  | .getstatus => Sys2Proof.Machine.execGetstatus s
  | .getmxds => Sys2Proof.Machine.execGetmxds s
  | .rstact act => Sys2Proof.Machine.execRstact act s
  | .ibiSend => Sys2Proof.Machine.execIbiSend s
  | .resetNAssert f => Sys2Proof.Machine.execResetNAssert f s
  | .warmReset m noRelease => Sys2Proof.Machine.execWarmReset m noRelease s
  | .releasePhaseTimeout => Sys2Proof.Machine.execReleasePhaseTimeout s
  | .blockReset m b => Sys2Proof.Machine.execBlockReset m b s
  | .vauxPowerUp => Sys2Proof.Machine.execVauxPowerUp s
  | .vauxFall => Sys2Proof.Machine.execVauxFall s
  | .bootWatchdogExpire f => Sys2Proof.Machine.execBootWatchdogExpire f s
  | .romRecoveryReset f => Sys2Proof.Machine.execRomRecoveryReset f s
  | .escrowWaitExpire => Sys2Proof.Machine.execEscrowWaitExpire s
  | .mark m => Sys2Proof.Machine.execMark m s
  | .rewind m => Sys2Proof.Machine.execRewind m s
  | .release m => Sys2Proof.Machine.execRelease m s
  | .releaseAllRead m => Sys2Proof.Machine.execReleaseAllRead m s
  | .queueHeadRead m => Sys2Proof.Machine.execQueueHeadRead m s
  | .sampleRecordRead m => Sys2Proof.Machine.execSampleRecordRead m s
  | .msixModerationExpire p v => Sys2Proof.Machine.execMsixModerationExpire p v s
  | .highWordLatchRead m off => Sys2Proof.Machine.execHighWordLatchRead m off s
  | .rcFieldClearRead m a size => Sys2Proof.Machine.execRcFieldClearRead m a size s
  | .labelAreaWriteCompletion cid out => Sys2Proof.Machine.execLabelAreaWriteCompletion cid out s
  | .dramWriteCompletion r => Sys2Proof.Machine.execDramWriteCompletion r s
  | .correctableLinkError p => Sys2Proof.Machine.execCorrectableLinkError p s
  | .ideKm p mem skid session => Sys2Proof.Machine.execIdeKm p mem skid session s
  | .powerFailGlitch => Sys2Proof.Machine.execPowerFailGlitch s
  | .dramRailsLeaveRegulation => Sys2Proof.Machine.execDramRailsLeaveRegulation s
  | .bankBleedDone n => Sys2Proof.Machine.execBankBleedDone n s
  | .nvmWriteCompletion => Sys2Proof.Machine.execNvmWriteCompletion s
  | .undefinedInstruction e w => Sys2Proof.Machine.execUndefinedInstruction e w s
  | .instructionFetchFault e => Sys2Proof.Machine.execInstructionFetchFault e s
  | .hostBisnpCredit p n => Sys2Proof.Machine.execHostBisnpCredit p n s
  | .priorityPromotion => Sys2Proof.Machine.execPriorityPromotion s

end Sys2Proof.Machine
end

