-- ==== Sys2Proof/Machine/WalniWord.lean ====
section
/-! DEFINITION. The words of the Walni instructions (R440 to R442): the word of each instruction, and the instruction that a
word spells. A word that spells none is left to the command UNDEFINED_INSTRUCTION. -/

namespace Sys2Proof.Machine

open Sys2Proof

/-- The context that executes an instruction, and its word. None for a command that is no Walni instruction. -/
def walniWord (i : Instr) : Option (Ex × Word) :=
  match i with
  | .add e rd rs rt => some (e, encR 0x00 rd rs rt 0x000)
  | .sub e rd rs rt => some (e, encR 0x00 rd rs rt 0x001)
  | .and e rd rs rt => some (e, encR 0x00 rd rs rt 0x002)
  | .or e rd rs rt => some (e, encR 0x00 rd rs rt 0x003)
  | .xor e rd rs rt => some (e, encR 0x00 rd rs rt 0x004)
  | .nor e rd rs rt => some (e, encR 0x00 rd rs rt 0x005)
  | .lts e rd rs rt => some (e, encR 0x00 rd rs rt 0x006)
  | .ltu e rd rs rt => some (e, encR 0x00 rd rs rt 0x007)
  | .min e rd rs rt => some (e, encR 0x00 rd rs rt 0x008)
  | .max e rd rs rt => some (e, encR 0x00 rd rs rt 0x009)
  | .minu e rd rs rt => some (e, encR 0x00 rd rs rt 0x00A)
  | .maxu e rd rs rt => some (e, encR 0x00 rd rs rt 0x00B)
  | .shl e rd rs rt => some (e, encR 0x00 rd rs rt 0x010)
  | .shr e rd rs rt => some (e, encR 0x00 rd rs rt 0x011)
  | .sar e rd rs rt => some (e, encR 0x00 rd rs rt 0x012)
  | .ror e rd rs rt => some (e, encR 0x00 rd rs rt 0x013)
  | .shlk e rd rs k => some (e, encR 0x00 rd rs k 0x014)
  | .shrk e rd rs k => some (e, encR 0x00 rd rs k 0x015)
  | .sark e rd rs k => some (e, encR 0x00 rd rs k 0x016)
  | .mul e rd rs rt => some (e, encR 0x00 rd rs rt 0x020)
  | .mulhu e rd rs rt => some (e, encR 0x00 rd rs rt 0x021)
  | .mulhs e rd rs rt => some (e, encR 0x00 rd rs rt 0x022)
  | .clz e rd rs rt => some (e, encR 0x00 rd rs rt 0x030)
  | .ones e rd rs rt => some (e, encR 0x00 rd rs rt 0x031)
  | .addk e rd rs imm => some (e, encI 0x01 rd rs imm)
  | .andk e rd rs imm => some (e, encI 0x02 rd rs imm)
  | .ork e rd rs imm => some (e, encI 0x03 rd rs imm)
  | .xork e rd rs imm => some (e, encI 0x04 rd rs imm)
  | .ltsk e rd rs imm => some (e, encI 0x05 rd rs imm)
  | .ltuk e rd rs imm => some (e, encI 0x06 rd rs imm)
  | .hik e rd rs imm => some (e, encI 0x07 rd rs imm)
  | .ldw e rd rs imm _ => some (e, encI 0x10 rd rs imm)
  | .ldh e rd rs imm _ => some (e, encI 0x11 rd rs imm)
  | .ldhu e rd rs imm _ => some (e, encI 0x12 rd rs imm)
  | .ldb e rd rs imm _ => some (e, encI 0x13 rd rs imm)
  | .ldbu e rd rs imm _ => some (e, encI 0x14 rd rs imm)
  | .stw e rd rs imm => some (e, encI 0x18 rd rs imm)
  | .sth e rd rs imm => some (e, encI 0x19 rd rs imm)
  | .stb e rd rs imm => some (e, encI 0x1A rd rs imm)
  | .casw e rd rs rt _ => some (e, encR 0x1C rd rs rt 0x000)
  | .br e a cond rs off => some (e, encB 0x20 a cond rs off)
  | .brl e a cond rs off => some (e, encB 0x21 a cond rs off)
  | .loop e level rs off => some (e, encL 0x22 level rs off)
  | .loopi e level count off => some (e, encL 0x23 level count off)
  | .jmp e rd rs rt => some (e, encR 0x24 rd rs rt 0x000)
  | .jml e rd rs rt => some (e, encR 0x24 rd rs rt 0x001)
  | .mode e rs => some (e, encR 0x30 0 rs 0 0x001)
  | .xret e => some (e, encR 0x30 0 0 0 0x002)
  | .trap e => some (e, encR 0x30 0 0 0 0x003)
  | .debug e => some (e, encR 0x30 0 0 0 0x004)
  | .fend e => some (e, encR 0x30 0 0 0 0x005)
  | .pflush e => some (e, encR 0x30 0 0 0 0x006)
  | .srd e rd n => some (e, encR 0x30 rd 0 n 0x008)
  | .swr e rs n => some (e, encR 0x30 0 rs n 0x009)
  | .scan e rd rs rt => some (e, encR 0x38 rd rs rt 0x001)
  | .heatrd e rd rs rt => some (e, encR 0x38 rd rs rt 0x002)
  | .hashSet e rd rs rt => some (e, encR 0x39 rd rs rt 0x001)
  | .hashMix e rd rs rt => some (e, encR 0x39 rd rs rt 0x002)
  | .evict e rd rs rt => some (e, encR 0x3A rd rs rt 0x001)
  | .policyPrefetch e rd rs rt => some (e, encR 0x3A rd rs rt 0x002)
  | .policyPin e rd rs rt => some (e, encR 0x3A rd rs rt 0x003)
  | .policyUnpin e rd rs rt => some (e, encR 0x3A rd rs rt 0x004)
  | .hintWrite e rd rs rt => some (e, encR 0x3A rd rs rt 0x005)
  | _ => none

/-- A register field. -/
def regField (w : Word) (lo : Nat) : Fin 32 := ⟨bitsOf w.toNat (lo + 4) lo % 32, Nat.mod_lt _ (by decide)⟩

/-- The 16-bit field of formats I, B, L and LI. -/
def immField (w : Word) : BitVec 16 := BitVec.ofNat 16 (bitsOf w.toNat 15 0)

/-- The instruction of a word that is defined, by opcode and function (R441, R442); `c` is what the memory's code finds for a
load or CASW. -/
def decodeDefined (e : Ex) (c : Ecc) (w : Word) : Option Instr :=
  let rd := regField w 21
  let rs := regField w 16
  let rt := regField w 11
  let imm := immField w
  let a := bitsOf w.toNat 25 25 == 1
  let cond : Fin 16 := ⟨bitsOf w.toNat 24 21 % 16, Nat.mod_lt _ (by decide)⟩
  let level : Fin 2 := ⟨bitsOf w.toNat 25 25 % 2, Nat.mod_lt _ (by decide)⟩
  let count : Fin 512 := ⟨bitsOf w.toNat 24 16 % 512, Nat.mod_lt _ (by decide)⟩
  let fn := bitsOf w.toNat 10 0
  match bitsOf w.toNat 31 26 with
  | 0x00 =>
    match fn with
    | 0x000 => some (.add e rd rs rt)
    | 0x001 => some (.sub e rd rs rt)
    | 0x002 => some (.and e rd rs rt)
    | 0x003 => some (.or e rd rs rt)
    | 0x004 => some (.xor e rd rs rt)
    | 0x005 => some (.nor e rd rs rt)
    | 0x006 => some (.lts e rd rs rt)
    | 0x007 => some (.ltu e rd rs rt)
    | 0x008 => some (.min e rd rs rt)
    | 0x009 => some (.max e rd rs rt)
    | 0x00A => some (.minu e rd rs rt)
    | 0x00B => some (.maxu e rd rs rt)
    | 0x010 => some (.shl e rd rs rt)
    | 0x011 => some (.shr e rd rs rt)
    | 0x012 => some (.sar e rd rs rt)
    | 0x013 => some (.ror e rd rs rt)
    | 0x014 => some (.shlk e rd rs rt)
    | 0x015 => some (.shrk e rd rs rt)
    | 0x016 => some (.sark e rd rs rt)
    | 0x020 => some (.mul e rd rs rt)
    | 0x021 => some (.mulhu e rd rs rt)
    | 0x022 => some (.mulhs e rd rs rt)
    | 0x030 => some (.clz e rd rs rt)
    | 0x031 => some (.ones e rd rs rt)
    | _ => none
  | 0x01 => some (.addk e rd rs imm)
  | 0x02 => some (.andk e rd rs imm)
  | 0x03 => some (.ork e rd rs imm)
  | 0x04 => some (.xork e rd rs imm)
  | 0x05 => some (.ltsk e rd rs imm)
  | 0x06 => some (.ltuk e rd rs imm)
  | 0x07 => some (.hik e rd rs imm)
  | 0x10 => some (.ldw e rd rs imm c)
  | 0x11 => some (.ldh e rd rs imm c)
  | 0x12 => some (.ldhu e rd rs imm c)
  | 0x13 => some (.ldb e rd rs imm c)
  | 0x14 => some (.ldbu e rd rs imm c)
  | 0x18 => some (.stw e rd rs imm)
  | 0x19 => some (.sth e rd rs imm)
  | 0x1A => some (.stb e rd rs imm)
  | 0x1C => some (.casw e rd rs rt c)
  | 0x20 => some (.br e a cond rs imm)
  | 0x21 => some (.brl e a cond rs imm)
  | 0x22 => some (.loop e level rs imm)
  | 0x23 => some (.loopi e level count imm)
  | 0x24 =>
    match fn with
    | 0x000 => some (.jmp e rd rs rt)
    | 0x001 => some (.jml e rd rs rt)
    | _ => none
  | 0x30 =>
    match fn with
    | 0x001 => some (.mode e rs)
    | 0x002 => some (.xret e)
    | 0x003 => some (.trap e)
    | 0x004 => some (.debug e)
    | 0x005 => some (.fend e)
    | 0x006 => some (.pflush e)
    | 0x008 => some (.srd e rd rt)
    | 0x009 => some (.swr e rs rt)
    | _ => none
  | 0x38 =>
    match fn with
    | 0x001 => some (.scan e rd rs rt)
    | 0x002 => some (.heatrd e rd rs rt)
    | _ => none
  | 0x39 =>
    match fn with
    | 0x001 => some (.hashSet e rd rs rt)
    | 0x002 => some (.hashMix e rd rs rt)
    | _ => none
  | 0x3A =>
    match fn with
    | 0x001 => some (.evict e rd rs rt)
    | 0x002 => some (.policyPrefetch e rd rs rt)
    | 0x003 => some (.policyPin e rd rs rt)
    | 0x004 => some (.policyUnpin e rd rs rt)
    | 0x005 => some (.hintWrite e rd rs rt)
    | _ => none
  | _ => none

/-- The instruction that a word spells on the core of a context; none where the word is not defined there, which is the command
UNDEFINED_INSTRUCTION. -/
def walniDecode (e : Ex) (c : Ecc) (w : Word) : Option Instr :=
  if wordDefined e.isM w then decodeDefined e c w else none

end Sys2Proof.Machine
end

