-- ==== Sys2Proof/Safety.lean ====
section
/-! DEFINITION. What counts as a safe state and a safe run, in the terms in which claims are stated. -/

namespace Sys2Proof.Machine

open Sys2Proof

/-- The data RAMs of the policy cores are in their canonical form (R435). -/
def ramsOk (cs : List Core) : Bool := cs.all fun c => tblCanon 0 c.ram

/-- What the part holds by address is in its canonical form: the journal pages and home lines on media (R68, R323) and the
data RAMs (R435). -/
def State.memWf (s : State) : Bool :=
  tblWf s.med.media.pages && tblWf s.med.media.homeLines && ramsOk s.plc.cores

/-- A message that the part may send (R316, R215): to media only reads, writes (with FUA or without), aborts, controller resets,
flushes and deallocations, to a host no BISnp but BISnpInv and BISnpData. -/
def Out.allowed (o : Out) : Bool :=
  match o with
  | .nvme _ _ kind _ _ =>
    kind == "READ" || kind == "WRITE_FUA" || kind == "ABORT" || kind == "RESET" || kind == "FLUSH" || kind == "DEALLOCATE"
  | .bisnp _ _ kind => kind == "BISnpInv" || kind == "BISnpData"
  | _ => true

/-- The Fumarole queue holds at most 4,096 entries, of which at most 4,032 are not Critical (R632). -/
def queueOk (q : List QEntry) : Bool := decide (q.length ≤ 4096) && decide (nonCritLive q ≤ 4032)

/-- The next SEQ is never 0 and has 32 bits (R630). -/
def seqOk (n : Nat) : Bool := decide (0 < n) && decide (n < 2 ^ 32)

/-- Counters are 48 bits wide (R643) and in their canonical form. -/
def countersOk (t : Tbl Nat) : Bool := tblCanon 0 t && t.all fun c => decide (c.2 < 2 ^ 48)

/-- Everything sent is a message that the part may send. -/
def outOk (l : List Out) : Bool := l.all Out.allowed

/-- The telemetry block stays within what the spec gives it: the queue, the counters, the sampling buffer of 4,096 records
(R648), what is sent, and the stored registers in their canonical form. -/
def Io.ok (x : Io) : Bool :=
  queueOk x.q && seqOk x.nextSeq && countersOk x.counters && decide (x.samp.recs.length ≤ 4096) &&
  (outOk x.out && tblWf x.regs)

/-- The registers of the cores: eight Walni-P cores of four contexts and one Walni-M of one, with 32 general registers each
(R433, R437). -/
def coresOk (cs : List Core) : Bool :=
  (cs.map fun c => c.ctxs.map (·.g.length)) == List.replicate 8 [32, 32, 32, 32] ++ [[32]]

/-- Sixteen channels, in eight pairs, of which the training record tells the survivors (R400, R405, R422). -/
def cchOk (x : Cch) : Bool :=
  x.chans.length == 16 && x.pairs.length == 8 && x.record.all fun r => r.survivors.length == 8

/-- The block has the units the spec gives it: four host ports and four fabric ports, eight media ports, four banks, the
channels, the cores with their registers. -/
def State.shapeOk (s : State) : Bool :=
  s.hpt.ports.length == 4 && s.fab.ports.length == 4 && s.med.ports.length == 8 && s.rsv.banks.length == 4 &&
  cchOk s.cch && coresOk s.plc.cores

/-- What every step keeps: telemetry within its bounds, what is held by address in its canonical form, the units as many as
they are. -/
def State.ok (s : State) : Bool := s.io.ok && (s.memWf && s.shapeOk)

/-- Between two states of the registers and EVT only telemetry has changed: the stored registers of every block but EVT, the
latches, SEC.ASSIGN and SEC.ESET stay as they are. -/
def Quiet (x y : Io) : Prop :=
  (∀ off, blockOf off ≠ Blk.evt → regOf y off = regOf x off) ∧
    y.assign = x.assign ∧ y.eset = x.eset ∧ y.hiLatch = x.hiLatch ∧ y.qLatch = x.qLatch ∧ y.sampLatch = x.sampLatch

/-- The machine after n steps, stopping at the first fault or refusal. -/
def stepsFrom (n : Nat) (s : State) : Res :=
  match n with
  | 0 => .next s
  | n + 1 => Res.bind (step s) (stepsFrom n)

/-- A step that neither faults nor refuses. -/
def StepsOn (s : State) : Prop := ∃ t, step s = .next t

/-- A message among those sent since `s`: the messages that `t` holds beyond those of `s`, newest first. -/
def sentSince (s t : State) : List Out := t.io.out.take (t.io.out.length - s.io.out.length)

end Sys2Proof.Machine
end

