-- ==== Sys2Proof/Certificates/Slice0/Obligations.lean ====
section
/-! DEFINITION. The statements for the provers. `Claims` holds the terms that several of them share. -/

open Sys2Proof Sys2Proof.Machine

/-! ### The queue, the invariant, reset -/

/-- The command at the front of the queue runs, on the state with the rest of the queue. -/
def Obligations.StepRunsTheFrontCommand : Prop :=
  ∀ (c : Instr) (rest : List Instr) (s : State),
    step { s with pending := c :: rest } = exec c { s with pending := rest }

/-- A step always answers a next state: no command faults or is refused, and only the front of the queue is taken away. -/
def Sys2Proof.Claims.StepAnswersAndKeepsTheQueue : Prop :=
  ∀ s : State, ∃ t, step s = .next t ∧ t.part = s.part ∧ t.pending = s.pending.tail

/-- `State.ok` is kept by every step, from every state that has it. -/
def Obligations.StepKeepsTheInvariant : Prop :=
  ∀ s t : State, s.ok = true → step s = .next t → t.ok = true

/-- The state after reset has the invariant. -/
def Sys2Proof.Claims.ResetMeetsTheInvariant : Prop := State.reset.ok = true

/-- Every run from the state after reset, whatever is commanded, stays within the bounds of R632, R643 and R648: the Fumarole
queue of 4,096 entries with at most 4,032 that are not Critical, counters of 48 bits, a sampling buffer of 4,096 records. -/
def Obligations.RunsStayWithinTheTelemetryBounds : Prop :=
  ∀ (n : Nat) (cs : List Instr), ∃ t, stepsFrom n { State.reset with pending := cs } = .next t ∧
    t.io.q.length ≤ 4096 ∧ (t.io.q.filter fun x => x.sev != .critical).length ≤ 4032 ∧
    (∀ i, tblGet 0 t.io.counters i < 2 ^ 48) ∧ t.io.samp.recs.length ≤ 4096 ∧
    (∀ p a k, Out.bisnp p a k ∈ t.io.out → k = "BISnpInv" ∨ k = "BISnpData")

/-! ### Walni: the terms of the statements -/

namespace Sys2Proof.Claims

open Sys2Proof.Machine

/-- A context can run its instruction: it exists, runs, waits for nothing, its PC can be fetched, and no preemption is held
over the mode shadow it may be in. -/
def Runs (s : State) (e : Ex) : Prop := s.ok = true ∧ canRun s e = true ∧ (ctxAt s e).heldPre = false

/-- R445 and R449 let an instruction that writes `rd` run here: it does not write, in a delay slot, what the branch read, and is
no delay slot at the end of an active loop. -/
def Free (x : Ctx) (rd : Nat) : Prop :=
  (∀ b, x.slot = some b → b.rs = 0 ∨ b.rs ≠ rd) ∧ (x.atEnd = true → x.slot = none)

/-- The context is in no delay slot and its instruction ends no active loop. -/
def Apart (x : Ctx) : Prop := x.slot = none ∧ x.atEnd = false

/-- From s to t only the context of e changes, to x, and telemetry; a fetch that corrected a memory error counts it too. -/
def OnlyCtx (s t : State) (e : Ex) (x : Ctx) : Prop :=
  t = { s with io := t.io, plc := (onCtx e (fun _ => x) s).plc } ∧ ctxAt t e = x ∧ (e.fixed = false → Quiet s.io t.io)

/-- From s to t the context of e writes v to rd and goes on; nothing else changes but telemetry. -/
def Writes (s t : State) (e : Ex) (rd : Nat) (v : Word) : Prop :=
  OnlyCtx s t e { ((ctxAt s e).setReg rd v).goOn with shadow := false }

/-- A word from a natural number, modulo 2^32. -/
def word (n : Nat) : Word := BitVec.ofNat 32 n

/-- The byte of core k's data RAM at an address. -/
def ramByte (s : State) (k a : Nat) : Nat := (tblGet 0 (coreAt s k).ram (a / 4)).toNat / 2 ^ (8 * (a % 4)) % 256

/-- Bytes a to a + n − 1 of core k's data RAM, little-endian. -/
def ramBytes (s : State) (k a n : Nat) : Nat := sumN ((List.range n).map fun i => ramByte s k (a + i) * 256 ^ i)

/-- Bytes of data RAM of a core: 128 KiB on a Walni-P (R435), 512 KiB on the Walni-M (R593). -/
def ramSize (e : Ex) : Nat := if e.core = 8 then 0x80000 else 0x20000

/-- A data address of R435 or R593: data RAM, the policy window of a Walni-P, the active window of the Walni-M. -/
def Mapped (e : Ex) (a : Nat) : Prop :=
  a < ramSize e ∨ (e.core ≠ 8 ∧ 0x100000 ≤ a ∧ a < 0x200000) ∨ (e.core = 8 ∧ 0x10000000 ≤ a ∧ a < 0x10400000)

/-- The address of a load or store. -/
def addr (s : State) (e : Ex) (rs : Fin 32) (imm : BitVec 16) : Nat := ((ctxAt s e).reg rs + imm.signExtend 32).toNat

/-- A number of n bits as a two's-complement word. -/
def signed (n v : Nat) : Word := BitVec.ofInt 32 (if v < 2 ^ (n - 1) then (v : Int) else v - 2 ^ n)

/-- A load from data RAM writes v to rd and goes on; nothing else changes but telemetry, where a corrected error is counted. -/
def Loads (s t : State) (e : Ex) (rd : Nat) (c : Ecc) (v : Word) : Prop :=
  t = { s with io := t.io, plc := t.plc } ∧ (c = .ok → Writes s t e rd v) ∧
    ctxAt t e = { ((ctxAt s e).setReg rd v).goOn with shadow := false }

/-- A store of n bytes to data RAM: the bytes of rd, little-endian, at the address, every other byte of every core's RAM as
before, the context going on, nothing else changed but telemetry. -/
def Stores (s t : State) (e : Ex) (rd rs : Fin 32) (imm : BitVec 16) (n : Nat) : Prop :=
  t = { s with io := t.io, plc := t.plc } ∧
    (∀ b, ramByte t e.core b =
      if addr s e rs imm ≤ b ∧ b < addr s e rs imm + n then
        ((ctxAt s e).reg rd).toNat / 256 ^ (b - addr s e rs imm) % 256
      else ramByte s e.core b) ∧
    (∀ k b, k ≠ e.core → ramByte t k b = ramByte s k b) ∧
    (∀ d : Ex, ctxAt t d = if d.core = e.core ∧ d.ctx = e.ctx then { (ctxAt s e).goOn with shadow := false } else ctxAt s d) ∧
    (e.fixed = false → Quiet s.io t.io)

/-- The state in which the context has entered the exception of a cause, after counting what its fetch corrected. -/
def raised (e : Ex) (cause : Nat) (s : State) : State := raiseExc e cause (if e.fixed then memCorr e s else s)

/-- A branch leaves: the registers g, the PC, the open delay slot; a control transfer changes besides these the predictors of its
context and core, and telemetry. -/
def Branches (s t : State) (e : Ex) (g : List Word) (pc : Word) (slot : Option (Word × Nat × Option Word)) : Prop :=
  t = { s with io := t.io, plc := { s.plc with cores := t.plc.cores } } ∧
  (∀ k, k ≠ e.core → coreAt t k = coreAt s k) ∧
  coreAt t e.core = { coreAt s e.core with
    ctxs := setAt (coreAt s e.core).ctxs e.ctx fun _ => ctxAt t e, ctrs := (coreAt t e.core).ctrs, ind := (coreAt t e.core).ind } ∧
  ctxAt t e = { ctxAt s e with
    g := g, pc := pc, slot := (ctxAt t e).slot, shadow := false, ghist := (ctxAt t e).ghist, rstack := (ctxAt t e).rstack } ∧
  (ctxAt t e).slot.map (fun b => (b.branch, b.rs, b.target)) = slot ∧ (e.fixed = false → Quiet s.io t.io)

/-- The conditions of R443. -/
def holds (c : Nat) (a : Word) : Bool :=
  match c with
  | 0 => true
  | 1 => decide (a.toNat = 0)
  | 2 => decide (a.toNat ≠ 0)
  | 3 => decide (a.toInt < 0)
  | 4 => decide (0 ≤ a.toInt)
  | 5 => decide (0 < a.toInt)
  | 6 => decide (a.toInt ≤ 0)
  | 7 => decide (a.toNat % 2 = 1)
  | 8 => decide (a.toNat % 2 = 0)
  | _ => false

/-- The target of a branch: PC + 4 × sext(offset). -/
def target (x : Ctx) (off : BitVec 16) : Word := BitVec.ofInt 32 (x.pc.toNat + 4 * off.toInt)

/-- The operation goes to the tail of the core's outbound queue, with its context, frame and enclave tag, and the context goes on. -/
def Sends (s t : State) (e : Ex) (op : CpOp) : Prop :=
  t = { s with io := t.io, plc := { s.plc with cores := t.plc.cores } } ∧
  (∀ k, k ≠ e.core → coreAt t k = coreAt s k) ∧
  coreAt t e.core = { coreAt s e.core with
    ctxs := setAt (coreAt s e.core).ctxs e.ctx fun _ => { (ctxAt s e).goOn with shadow := false }
    outq := (coreAt s e.core).outq ++ [⟨e.ctx, (ctxAt s e).seq, (ctxAt s e).etag, op⟩] } ∧
  (e.fixed = false → Quiet s.io t.io)

/-- A cp3 instruction of function fn that sends `op`: with room in the outbound queue the operation is sent as it commits; while
the queue of 16 is full it waits, uncommitted. -/
def Effects (s t : State) (e : Ex) (rs rt : Fin 32) (fn : Nat) (op : CpOp) : Prop :=
  ((coreAt s e.core).outq.length < 16 → Sends s t e op) ∧
  (16 ≤ (coreAt s e.core).outq.length →
    OnlyCtx s t e { ctxAt s e with wait := .outq op, iw := encR 0x3A 0 rs rt fn })

/-- The sector offset that rs and rt[7:0] name. -/
def offset (a b : Word) : Nat := a.toNat + 2 ^ 32 * (b.toNat % 256)

/-- Sectors from an offset on lie within the home capacity (R53). -/
def inHome (s : State) (so n : Nat) : Prop := (so + n) * 256 ≤ homeCap s

end Sys2Proof.Claims

/-! ### Walni: encodings -/

/-- Decode of encode: the word of every Walni instruction that its core has, in every operand, decodes to that instruction. -/
def Obligations.WalniWordsDecodeBack : Prop :=
  ∀ (i : Instr) (e : Ex) (w : Word), walniWord i = some (e, w) → wordDefined e.isM w = true → ∃ c, walniDecode e c w = some i

/-- The words of the spec's worked example decode, on a Walni-P context, to the instructions it lists, and NOP to ADD g0, g0, g0. -/
def Obligations.WorkedExampleWordsDecode : Prop :=
  ∀ (e : Ex) (c : Ecc), e.core < 8 →
    walniDecode e c 0x00000000 = some (.add e 0 0 0) ∧
    walniDecode e c 0x40200100 = some (.ldw e 1 0 0x100 c) ∧
    walniDecode e c 0x40E00108 = some (.ldw e 7 0 0x108 c) ∧
    walniDecode e c 0x1CC00800 = some (.hik e 6 0 0x0800) ∧
    walniDecode e c 0x88020008 = some (.loop e 0 2 8) ∧
    walniDecode e c 0xE0810001 = some (.scan e 4 1 0) ∧
    walniDecode e c 0x80840005 = some (.br e false 4 4 5) ∧
    walniDecode e c 0x00A48015 = some (.shrk e 5 4 16) ∧
    walniDecode e c 0x08A50007 = some (.andk e 5 5 7) ∧
    walniDecode e c 0x00A53003 = some (.or e 5 5 6) ∧
    walniDecode e c 0xE8012805 = some (.hintWrite e 0 1 5) ∧
    walniDecode e c 0x04210001 = some (.addk e 1 1 1) ∧
    walniDecode e c 0x60200100 = some (.stw e 1 0 0x100) ∧
    walniDecode e c 0xC0000005 = some (.fend e)

/-! ### Walni: arithmetic and logic -/

/-- g0 reads as 0 and discards writes; every other register reads as it was last written (R437). -/
def Obligations.RegisterZeroDiscards : Prop :=
  ∀ (x : Ctx) (m n : Fin 32) (v : Word), x.g.length = 32 →
    (x.setReg n v).reg m = (if m = 0 then 0 else if m = n then v else x.reg m) ∧
    x.setReg n v = { x with g := (x.setReg n v).g } ∧ (n = 0 → x.setReg n v = x)

/-- The three-register instructions: each writes its result to rd (R442). -/
def Sys2Proof.Claims.ThreeRegisterInstructionsCompute : Prop :=
  ∀ (s : State) (e : Ex) (rd rs rt : Fin 32), Claims.Runs s e → Claims.Free (ctxAt s e) rd →
    let a := (ctxAt s e).reg rs
    let b := (ctxAt s e).reg rt
    (∃ t, exec (.add e rd rs rt) s = .next t ∧ Claims.Writes s t e rd (Claims.word (a.toNat + b.toNat))) ∧
    (∃ t, exec (.sub e rd rs rt) s = .next t ∧ Claims.Writes s t e rd (BitVec.ofInt 32 (a.toInt - b.toInt))) ∧
    (∃ t, exec (.and e rd rs rt) s = .next t ∧ Claims.Writes s t e rd (Claims.word (a.toNat &&& b.toNat))) ∧
    (∃ t, exec (.or e rd rs rt) s = .next t ∧ Claims.Writes s t e rd (Claims.word (a.toNat ||| b.toNat))) ∧
    (∃ t, exec (.xor e rd rs rt) s = .next t ∧ Claims.Writes s t e rd (Claims.word (a.toNat ^^^ b.toNat))) ∧
    (∃ t, exec (.nor e rd rs rt) s = .next t ∧ Claims.Writes s t e rd (Claims.word (2 ^ 32 - 1 - (a.toNat ||| b.toNat)))) ∧
    (∃ t, exec (.lts e rd rs rt) s = .next t ∧ Claims.Writes s t e rd (if a.toInt < b.toInt then 1 else 0)) ∧
    (∃ t, exec (.ltu e rd rs rt) s = .next t ∧ Claims.Writes s t e rd (if a.toNat < b.toNat then 1 else 0)) ∧
    (∃ t, exec (.min e rd rs rt) s = .next t ∧ Claims.Writes s t e rd (BitVec.ofInt 32 (min a.toInt b.toInt))) ∧
    (∃ t, exec (.max e rd rs rt) s = .next t ∧ Claims.Writes s t e rd (BitVec.ofInt 32 (max a.toInt b.toInt))) ∧
    (∃ t, exec (.minu e rd rs rt) s = .next t ∧ Claims.Writes s t e rd (Claims.word (min a.toNat b.toNat))) ∧
    (∃ t, exec (.maxu e rd rs rt) s = .next t ∧ Claims.Writes s t e rd (Claims.word (max a.toNat b.toNat))) ∧
    (∃ t, exec (.shl e rd rs rt) s = .next t ∧ Claims.Writes s t e rd (Claims.word (a.toNat * 2 ^ (b.toNat % 32)))) ∧
    (∃ t, exec (.shr e rd rs rt) s = .next t ∧ Claims.Writes s t e rd (Claims.word (a.toNat / 2 ^ (b.toNat % 32)))) ∧
    (∃ t, exec (.sar e rd rs rt) s = .next t ∧ Claims.Writes s t e rd (BitVec.ofInt 32 (a.toInt / 2 ^ (b.toNat % 32)))) ∧
    (∃ t, exec (.ror e rd rs rt) s = .next t ∧
      Claims.Writes s t e rd (Claims.word (a.toNat / 2 ^ (b.toNat % 32) + a.toNat % 2 ^ (b.toNat % 32) * 2 ^ (32 - b.toNat % 32)))) ∧
    (∃ t, exec (.mul e rd rs rt) s = .next t ∧ Claims.Writes s t e rd (Claims.word (a.toNat * b.toNat))) ∧
    (∃ t, exec (.mulhu e rd rs rt) s = .next t ∧ Claims.Writes s t e rd (Claims.word (a.toNat * b.toNat / 2 ^ 32))) ∧
    (∃ t, exec (.mulhs e rd rs rt) s = .next t ∧ Claims.Writes s t e rd (BitVec.ofInt 32 (a.toInt * b.toInt / 2 ^ 32))) ∧
    (∃ t, exec (.clz e rd rs 0) s = .next t ∧
      Claims.Writes s t e rd (if a = 0 then 32 else Claims.word (31 - Nat.log2 a.toNat))) ∧
    (∃ t, exec (.ones e rd rs 0) s = .next t ∧
      Claims.Writes s t e rd (Claims.word (sumN ((List.range 32).map fun i => a.toNat / 2 ^ i % 2))))

/-- The shifts by a constant and the immediate instructions: each writes its result to rd (R442). -/
def Sys2Proof.Claims.ConstantInstructionsCompute : Prop :=
  ∀ (s : State) (e : Ex) (rd rs k : Fin 32) (i : BitVec 16), Claims.Runs s e → Claims.Free (ctxAt s e) rd →
    let a := (ctxAt s e).reg rs
    (∃ t, exec (.shlk e rd rs k) s = .next t ∧ Claims.Writes s t e rd (Claims.word (a.toNat * 2 ^ k.val))) ∧
    (∃ t, exec (.shrk e rd rs k) s = .next t ∧ Claims.Writes s t e rd (Claims.word (a.toNat / 2 ^ k.val))) ∧
    (∃ t, exec (.sark e rd rs k) s = .next t ∧ Claims.Writes s t e rd (BitVec.ofInt 32 (a.toInt / 2 ^ k.val))) ∧
    (∃ t, exec (.addk e rd rs i) s = .next t ∧ Claims.Writes s t e rd (BitVec.ofInt 32 (a.toInt + i.toInt))) ∧
    (∃ t, exec (.andk e rd rs i) s = .next t ∧ Claims.Writes s t e rd (Claims.word (a.toNat &&& i.toNat))) ∧
    (∃ t, exec (.ork e rd rs i) s = .next t ∧ Claims.Writes s t e rd (Claims.word (a.toNat ||| i.toNat))) ∧
    (∃ t, exec (.xork e rd rs i) s = .next t ∧ Claims.Writes s t e rd (Claims.word (a.toNat ^^^ i.toNat))) ∧
    (∃ t, exec (.ltsk e rd rs i) s = .next t ∧ Claims.Writes s t e rd (if a.toInt < i.toInt then 1 else 0)) ∧
    (∃ t, exec (.ltuk e rd rs i) s = .next t ∧
      Claims.Writes s t e rd (if a.toNat < (BitVec.ofInt 32 i.toInt).toNat then 1 else 0)) ∧
    (∃ t, exec (.hik e rd 0 i) s = .next t ∧ Claims.Writes s t e rd (Claims.word (i.toNat * 2 ^ 16)))

/-- The three-register instructions: each writes its result to rd (R442). The shifts by a constant and the immediate
instructions: each writes its result to rd (R442). -/
def Obligations.ArithmeticComputes : Prop :=
  Claims.ThreeRegisterInstructionsCompute ∧
  Claims.ConstantInstructionsCompute

/-! ### Walni: data memory -/

/-- The loads from data RAM: rd receives the bytes at the address, sign-extended by LDH and LDB (R442). -/
def Sys2Proof.Claims.LoadsReadDataRam : Prop :=
  ∀ (s : State) (e : Ex) (rd rs : Fin 32) (imm : BitVec 16) (c : Ecc), Claims.Runs s e → Claims.Free (ctxAt s e) rd →
    Claims.addr s e rs imm < Claims.ramSize e → c ≠ .uncorrectable →
    let a := Claims.addr s e rs imm
    (a % 4 = 0 → ∃ t, exec (.ldw e rd rs imm c) s = .next t ∧
      Claims.Loads s t e rd c (Claims.word (Claims.ramBytes s e.core a 4))) ∧
    (a % 2 = 0 → ∃ t, exec (.ldh e rd rs imm c) s = .next t ∧
      Claims.Loads s t e rd c (Claims.signed 16 (Claims.ramBytes s e.core a 2))) ∧
    (a % 2 = 0 → ∃ t, exec (.ldhu e rd rs imm c) s = .next t ∧
      Claims.Loads s t e rd c (Claims.word (Claims.ramBytes s e.core a 2))) ∧
    (∃ t, exec (.ldb e rd rs imm c) s = .next t ∧ Claims.Loads s t e rd c (Claims.signed 8 (Claims.ramBytes s e.core a 1))) ∧
    (∃ t, exec (.ldbu e rd rs imm c) s = .next t ∧ Claims.Loads s t e rd c (Claims.word (Claims.ramBytes s e.core a 1)))

/-- The stores to data RAM, and CASW: the word is replaced by rd where it equals rt, and rd receives the old word. -/
def Sys2Proof.Claims.StoresAndCaswWriteDataRam : Prop :=
  (∀ (s : State) (e : Ex) (rd rs : Fin 32) (imm : BitVec 16), Claims.Runs s e → Claims.Free (ctxAt s e) 0 →
    Claims.addr s e rs imm < Claims.ramSize e →
    (Claims.addr s e rs imm % 4 = 0 → ∃ t, exec (.stw e rd rs imm) s = .next t ∧ Claims.Stores s t e rd rs imm 4) ∧
    (Claims.addr s e rs imm % 2 = 0 → ∃ t, exec (.sth e rd rs imm) s = .next t ∧ Claims.Stores s t e rd rs imm 2) ∧
    (∃ t, exec (.stb e rd rs imm) s = .next t ∧ Claims.Stores s t e rd rs imm 1)) ∧
  (∀ (s : State) (e : Ex) (rd rs rt : Fin 32) (c : Ecc), Claims.Runs s e → Claims.Free (ctxAt s e) rd →
    ((ctxAt s e).reg rs).toNat % 4 = 0 → ((ctxAt s e).reg rs).toNat < Claims.ramSize e → c ≠ .uncorrectable →
    ∃ t, exec (.casw e rd rs rt c) s = .next t ∧ t = { s with io := t.io, plc := t.plc } ∧
      (∀ b, Claims.ramByte t e.core b =
        if Claims.ramBytes s e.core ((ctxAt s e).reg rs).toNat 4 = ((ctxAt s e).reg rt).toNat ∧
            ((ctxAt s e).reg rs).toNat ≤ b ∧ b < ((ctxAt s e).reg rs).toNat + 4 then
          ((ctxAt s e).reg rd).toNat / 256 ^ (b - ((ctxAt s e).reg rs).toNat) % 256
        else Claims.ramByte s e.core b) ∧
      (∀ k b, k ≠ e.core → Claims.ramByte t k b = Claims.ramByte s k b) ∧
      ctxAt t e =
        { ((ctxAt s e).setReg rd (Claims.word (Claims.ramBytes s e.core ((ctxAt s e).reg rs).toNat 4))).goOn with shadow := false } ∧
      (∀ d : Ex, ¬ (d.core = e.core ∧ d.ctx = e.ctx) → ctxAt t d = ctxAt s d))

/-- What a load, a store and CASW raise: ALIGN where the address is not a multiple of the size, else BUS outside every space of
R435, else MEMERR where a load's word does not decode. -/
def Sys2Proof.Claims.MemoryExceptions : Prop :=
  ∀ (s : State) (e : Ex) (rd rs rt : Fin 32) (imm : BitVec 16) (c : Ecc), Claims.Runs s e → Claims.Free (ctxAt s e) rd →
    Claims.Free (ctxAt s e) 0 →
    let a := Claims.addr s e rs imm
    let b := ((ctxAt s e).reg rs).toNat
    (a % 4 ≠ 0 → exec (.ldw e rd rs imm c) s = .next (Claims.raised e 0x05 s) ∧ exec (.stw e rd rs imm) s = .next (Claims.raised e 0x05 s)) ∧
    (a % 2 ≠ 0 → exec (.ldh e rd rs imm c) s = .next (Claims.raised e 0x05 s) ∧ exec (.ldhu e rd rs imm c) s = .next (Claims.raised e 0x05 s) ∧
      exec (.sth e rd rs imm) s = .next (Claims.raised e 0x05 s)) ∧
    (b % 4 ≠ 0 → exec (.casw e rd rs rt c) s = .next (Claims.raised e 0x05 s)) ∧
    (¬ Claims.Mapped e a → (a % 4 = 0 → exec (.ldw e rd rs imm c) s = .next (Claims.raised e 0x06 s) ∧ exec (.stw e rd rs imm) s = .next (Claims.raised e 0x06 s)) ∧
      (a % 2 = 0 → exec (.ldh e rd rs imm c) s = .next (Claims.raised e 0x06 s) ∧ exec (.ldhu e rd rs imm c) s = .next (Claims.raised e 0x06 s) ∧
        exec (.sth e rd rs imm) s = .next (Claims.raised e 0x06 s)) ∧
      exec (.ldb e rd rs imm c) s = .next (Claims.raised e 0x06 s) ∧ exec (.ldbu e rd rs imm c) s = .next (Claims.raised e 0x06 s) ∧
      exec (.stb e rd rs imm) s = .next (Claims.raised e 0x06 s)) ∧
    (Claims.ramSize e ≤ b → b % 4 = 0 → exec (.casw e rd rs rt c) s = .next (Claims.raised e 0x06 s)) ∧
    (a % 4 = 0 → a < Claims.ramSize e →
      exec (.ldw e rd rs imm .uncorrectable) s = .next (memErr e (if e.fixed then memCorr e s else s)))

/-- The loads from data RAM: rd receives the bytes at the address, sign-extended by LDH and LDB (R442). The stores to data RAM,
and CASW: the word is replaced by rd where it equals rt, and rd receives the old word. What a load, a store and CASW raise:
ALIGN where the address is not a multiple of the size, else BUS outside every space of R435, else MEMERR where a load's word
does not decode. -/
def Obligations.DataMemoryInstructions : Prop :=
  Claims.LoadsReadDataRam ∧
  Claims.StoresAndCaswWriteDataRam ∧
  Claims.MemoryExceptions

/-! ### Walni: control flow -/

/-- BR and BRL (R443, R444): a condition of R443 decides; taken, the delay slot is next and then the target; not taken, the delay
slot is next, or with A = 1 the instruction after it. BRL that is taken puts PC + 8 into g31. -/
def Sys2Proof.Claims.BranchesBranch : Prop :=
  ∀ (s : State) (e : Ex) (a : Bool) (cond : Fin 16) (rs : Fin 32) (off : BitVec 16), Claims.Runs s e → Claims.Apart (ctxAt s e) →
    cond.val ≤ 8 → (cond.val = 0 → rs = 0) →
    let x := ctxAt s e
    let taken := Claims.holds cond.val (x.reg rs) = true
    (∃ t, exec (.br e a cond rs off) s = .next t ∧
      (taken → Claims.Branches s t e x.g (x.pc + 4) (some (x.pc, rs.val, some (Claims.target x off)))) ∧
      (¬ taken → a = false → Claims.Branches s t e x.g (x.pc + 4) (some (x.pc, rs.val, none))) ∧
      (¬ taken → a = true → Claims.Branches s t e x.g (x.pc + 8) none)) ∧
    (∃ t, exec (.brl e a cond rs off) s = .next t ∧
      (taken → Claims.Branches s t e (x.setReg 31 (x.pc + 8)).g (x.pc + 4) (some (x.pc, rs.val, some (Claims.target x off)))) ∧
      (¬ taken → a = false → Claims.Branches s t e x.g (x.pc + 4) (some (x.pc, rs.val, none))) ∧
      (¬ taken → a = true → Claims.Branches s t e x.g (x.pc + 8) none))

/-- JMP and JML (R442): the delay slot is next, then rs as it was; JML puts PC + 8 into rd. -/
def Sys2Proof.Claims.JumpsJump : Prop :=
  ∀ (s : State) (e : Ex) (rd rs : Fin 32), Claims.Runs s e → Claims.Apart (ctxAt s e) →
    let x := ctxAt s e
    (∃ t, exec (.jmp e 0 rs 0) s = .next t ∧
      Claims.Branches s t e x.g (x.pc + 4) (some (x.pc, rs.val, some (x.reg rs)))) ∧
    (∃ t, exec (.jml e rd rs 0) s = .next t ∧
      Claims.Branches s t e (x.setReg rd (x.pc + 8)).g (x.pc + 4) (some (x.pc, rs.val, some (x.reg rs))))

/-- BR and BRL (R443, R444): a condition of R443 decides; taken, the delay slot is next and then the target; not taken, the
delay slot is next, or with A = 1 the instruction after it. BRL that is taken puts PC + 8 into g31. JMP and JML (R442): the
delay slot is next, then rs as it was; JML puts PC + 8 into rd. -/
def Obligations.BranchesAndJumps : Prop :=
  Claims.BranchesBranch ∧
  Claims.JumpsJump

/-- A branch trains its core's shared tables as it commits, where its ETAG is the owner tag (R464, R465): the direction counter
that PC[12:2] names by +1 taken and −1 not, within 0 and 3; the indirect entry of a JML, at the index of R461, with its target.
From another ETAG it trains nothing. -/
def Obligations.BranchesTrainThePredictors : Prop :=
  ∀ (s : State) (e : Ex) (a : Bool) (cond : Fin 16) (rd rs : Fin 32) (off : BitVec 16), Claims.Runs s e →
    Claims.Apart (ctxAt s e) → 0 < cond.val → cond.val ≤ 8 →
    let x := ctxAt s e
    let c := coreAt s e.core
    let i := x.pc.toNat / 4 % 2048
    let old := tblGet 1 c.ctrs i
    let j := x.pc.toNat / 4 % 4096 ^^^ x.ghist
    (∃ t, exec (.br e a cond rs off) s = .next t ∧ (coreAt t e.core).ind = c.ind ∧
      (c.owner ≠ x.etag → (coreAt t e.core).ctrs = c.ctrs) ∧
      (c.owner = x.etag → (coreAt t e.core).ctrs =
        tblSet 1 c.ctrs i (if Claims.holds cond.val (x.reg rs) then min 3 (old + 1) else old - 1))) ∧
    (∃ t, exec (.jml e rd rs 0) s = .next t ∧ (coreAt t e.core).ctrs = c.ctrs ∧
      (c.owner ≠ x.etag → (coreAt t e.core).ind = c.ind) ∧
      (c.owner = x.etag → (coreAt t e.core).ind =
        tblPut c.ind (j % 512 ^^^ (j / 512 % 8)) (Claims.word (4 * ((x.reg rs).toNat / 4 % 2 ^ 16)))))

/-- LOOP and LOOPI (R448): LPS is the next instruction, LPE the offset's, LCT the count; a count of 0 goes on after the body. An
offset below 1, or a level 1 outside an active level 0, raises ILLEGAL_LOOP. -/
def Obligations.LoopsStart : Prop :=
  ∀ (s : State) (e : Ex) (level : Fin 2) (rs : Fin 32) (count : Fin 512) (off : BitVec 16), Claims.Runs s e →
    Claims.Apart (ctxAt s e) →
    let x := ctxAt s e
    let body := fun (n : Word) =>
      let y := if level = 0 then { x with lps0 := x.pc + 4, lpe0 := Claims.target x off, lct0 := n }
        else { x with lps1 := x.pc + 4, lpe1 := Claims.target x off, lct1 := n }
      { y with pc := if n = 0 then Claims.target x off + 4 else x.pc + 4, shadow := false }
    let bad := off.toInt < 1 ∨ (level = 1 ∧ x.lct0 ≠ 0 ∧
      ¬ (x.lps0.toNat ≤ (x.pc + 4).toNat ∧ (Claims.target x off).toNat ≤ x.lpe0.toNat))
    (bad → exec (.loop e level rs off) s = .next (Claims.raised e 0x03 s) ∧ exec (.loopi e level count off) s = .next (Claims.raised e 0x03 s)) ∧
    (¬ bad →
      (∃ t, exec (.loop e level rs off) s = .next t ∧ Claims.OnlyCtx s t e (body (x.reg rs))) ∧
      (∃ t, exec (.loopi e level count off) s = .next t ∧ Claims.OnlyCtx s t e (body (Claims.word count.val))))

/-- Where a context goes on after an instruction that is no branch: out of a delay slot to the branch's target, or past the slot;
else, at the end of an active loop, level 1 before level 0, back to the start while the count is above 1, with one less; else
to the next instruction. While EXC.EL is 1 no loop advances (R447). NOP, which changes nothing else, commits so. -/
def Obligations.LoopsAdvance : Prop :=
  ∀ x : Ctx,
    (∀ b, x.slot = some b → x.goOn = { x with pc := b.target.getD (b.branch + 8), slot := none }) ∧
    (x.slot = none → x.el = true → x.goOn = { x with pc := x.pc + 4 }) ∧
    (x.slot = none → x.el = false →
      let at0 := x.lct0 ≠ 0 ∧ x.lpe0 = x.pc
      let at1 := x.lct1 ≠ 0 ∧ x.lpe1 = x.pc
      (at1 → x.lct1 ≠ 1 → x.goOn = { x with lct1 := x.lct1 - 1, pc := x.lps1 }) ∧
      (at1 → x.lct1 = 1 → ¬ at0 → x.goOn = { x with lct1 := 0, pc := x.pc + 4 }) ∧
      (at1 → x.lct1 = 1 → at0 → x.lct0 ≠ 1 → x.goOn = { x with lct1 := 0, lct0 := x.lct0 - 1, pc := x.lps0 }) ∧
      (at1 → x.lct1 = 1 → at0 → x.lct0 = 1 → x.goOn = { x with lct1 := 0, lct0 := 0, pc := x.pc + 4 }) ∧
      (¬ at1 → at0 → x.lct0 ≠ 1 → x.goOn = { x with lct0 := x.lct0 - 1, pc := x.lps0 }) ∧
      (¬ at1 → at0 → x.lct0 = 1 → x.goOn = { x with lct0 := 0, pc := x.pc + 4 }) ∧
      (¬ at1 → ¬ at0 → x.goOn = { x with pc := x.pc + 4 })) ∧
    (∀ (s : State) (e : Ex), Claims.Runs s e → Claims.Free (ctxAt s e) 0 → ctxAt s e = x →
      ∃ t, exec (.add e 0 0 0) s = .next t ∧ Claims.OnlyCtx s t e { x.goOn with shadow := false })

/-! ### Walni: system instructions, exceptions -/

/-- MODE, XRET, TRAP, DEBUG, FEND and PFLUSH. -/
def Obligations.SystemInstructions : Prop :=
  ∀ (s : State) (e : Ex) (rs : Fin 32), Claims.Runs s e → Claims.Apart (ctxAt s e) →
    let x := ctxAt s e
    (x.task = false →
      (∃ t, exec (.mode e rs) s = .next t ∧
        Claims.OnlyCtx s t e { x with task := (x.reg rs).getLsbD 0, pc := x.pc + 4, shadow := true }) ∧
      (∃ t, exec (.xret e) s = .next t ∧
        Claims.OnlyCtx s t e { x with pc := x.epc, task := x.pmode, el := false, shadow := true })) ∧
    (x.task = true → exec (.mode e rs) s = .next (Claims.raised e 0x04 s) ∧ exec (.xret e) s = .next (Claims.raised e 0x04 s)) ∧
    exec (.trap e) s = .next (Claims.raised e 0x09 s) ∧ exec (.debug e) s = .next (Claims.raised e 0x0A s) ∧
    (e.core ≠ 8 → (∀ o ∈ (coreAt s e.core).outq, o.ctx ≠ e.ctx) → ∃ t, exec (.fend e) s = .next t ∧
      t = { s with io := t.io, plc := (onCtx e (fun _ => ctxAt t e) s).plc } ∧
      ctxAt t e = { x with st := .asleep, active := false, ovr := false, ended := true, pc := x.pc + 4, shadow := false }) ∧
    (e.core ≠ 8 → (∃ o ∈ (coreAt s e.core).outq, o.ctx = e.ctx) → ∃ t, exec (.fend e) s = .next t ∧
      Claims.OnlyCtx s t e { x with wait := .fend, iw := Claims.word 0xC0000005 }) ∧
    (∃ t, exec (.pflush e) s = .next t ∧
      t = { s with io := t.io, plc := { s.plc with cores := t.plc.cores } } ∧
      (∀ k, k ≠ e.core → coreAt t k = coreAt s k) ∧
      coreAt t e.core = { coreAt s e.core with
        ctxs := setAt (coreAt s e.core).ctxs e.ctx fun _ => { x with pc := x.pc + 4, shadow := false }, ctrs := [], ind := [] } ∧
      (e.fixed = false → Quiet s.io t.io))

/-- SRD gives the special register that the rt field numbers, in the layouts of R438 and R439. -/
def Sys2Proof.Claims.SrdReadsSpecialRegisters : Prop :=
  ∀ (s : State) (e : Ex) (rd n : Fin 32), Claims.Runs s e → Claims.Free (ctxAt s e) rd → n.val ≤ 11 →
    let x := ctxAt s e
    let b := fun (y : Bool) => if y then 1 else 0
    ∃ t, exec (.srd e rd n) s = .next t ∧ Claims.Writes s t e rd (match n.val with
      | 0 => x.pc | 1 => x.epc
      | 2 => Claims.word (x.cause % 32 + 32 * b x.ds + 64 * b x.ms + 128 * b x.pmode + 256 * b x.el + 512 * b x.loopEnd)
      | 3 => Claims.word (b x.task)
      | 4 => x.lps0 | 5 => x.lpe0 | 6 => x.lct0 | 7 => x.lps1 | 8 => x.lpe1 | 9 => x.lct1
      | 10 => Claims.word (e.ctx % 4 + 4 * (e.core % 8) + 32 * (x.etag % 1024))
      | _ => if e.core = 8 then 0
        else Claims.word (x.entry % 2 ^ 16 + 2 ^ 16 * b x.active + 2 ^ 17 * b x.ovr + 2 ^ 18 * (x.seq % 2 ^ 14)))

/-- SWR writes the fields that the mode may write: the loop registers in either mode, EPC, EXC, CTX.ETAG and FRAME.ENTRY in Kernel
mode, where Task mode raises PRIV. PC, MODE, a number above 11, and FRAME on the Walni-M raise ILLEGAL. -/
def Sys2Proof.Claims.SwrWritesSpecialRegisters : Prop :=
  ∀ (s : State) (e : Ex) (rs n : Fin 32), Claims.Runs s e → Claims.Apart (ctxAt s e) →
    let x := ctxAt s e
    let v := x.reg rs
    (n.val = 0 ∨ n.val = 3 ∨ 12 ≤ n.val ∨ (n.val = 11 ∧ e.core = 8) → exec (.swr e rs n) s = .next (Claims.raised e 0x01 s)) ∧
    ((n.val = 1 ∨ n.val = 2 ∨ n.val = 10 ∨ (n.val = 11 ∧ e.core ≠ 8)) → x.task = true → exec (.swr e rs n) s = .next (Claims.raised e 0x04 s)) ∧
    ((4 ≤ n.val ∧ n.val ≤ 9) ∨ (x.task = false ∧ (n.val = 1 ∨ n.val = 2 ∨ n.val = 10 ∨ (n.val = 11 ∧ e.core ≠ 8))) →
      ∃ t, exec (.swr e rs n) s = .next t ∧
        let y := match n.val with
          | 1 => { x with epc := v }
          | 2 => { x with cause := v.toNat % 32, ds := v.toNat / 2 ^ 5 % 2 = 1, ms := v.toNat / 2 ^ 6 % 2 = 1,
                          pmode := v.toNat / 2 ^ 7 % 2 = 1, el := v.toNat / 2 ^ 8 % 2 = 1, loopEnd := v.toNat / 2 ^ 9 % 2 = 1 }
          | 4 => { x with lps0 := v } | 5 => { x with lpe0 := v } | 6 => { x with lct0 := v }
          | 7 => { x with lps1 := v } | 8 => { x with lpe1 := v } | 9 => { x with lct1 := v }
          | 10 => { x with etag := v.toNat / 32 % 1024 }
          | _ => { x with entry := v.toNat % 2 ^ 16 }
        Claims.OnlyCtx s t e { y.goOn with shadow := false })

/-- SRD gives the special register that the rt field numbers, in the layouts of R438 and R439. SWR writes the fields that the
mode may write: the loop registers in either mode, EPC, EXC, CTX.ETAG and FRAME.ENTRY in Kernel mode, where Task mode raises
PRIV. PC, MODE, a number above 11, and FRAME on the Walni-M raise ILLEGAL. -/
def Obligations.SpecialRegisters : Prop :=
  Claims.SrdReadsSpecialRegisters ∧
  Claims.SwrWritesSpecialRegisters

/-- Entry to an exception (R446, R450, R452), outside a handler and with no preemption held: EPC is the instruction, or its branch
with DS set; CAUSE, MS and LOOPEND are set; PMODE keeps the mode, which becomes Kernel; EL is set; the PC is the cause's vector;
loop counts and general registers stay. Inside a handler the context stops, with the double fault logged (R453). -/
def Obligations.ExceptionEntry : Prop :=
  ∀ (s : State) (e : Ex) (cause : Nat), Claims.Runs s e →
    let x := ctxAt s e
    let t := raiseExc e cause s
    let base : Nat := if (coreAt s e.core).baseline then (if e.core = 8 then 0x40000 else 0x10000) else 0
    (x.el = false → t = { s with io := t.io, plc := (onCtx e (fun _ => ctxAt t e) s).plc } ∧ Quiet s.io t.io ∧
      ctxAt t e = { x with
        epc := (x.slot.map (·.branch)).getD x.pc, ds := x.slot.isSome, ms := x.shadow, loopEnd := x.atEnd, pmode := x.task,
        task := false, el := true, cause := cause, pc := Claims.word (base + 0x400 + 0x20 * cause), slot := none,
        shadow := false, wait := .none, ghist := (x.slot.map (·.ghist)).getD x.ghist,
        rstack := (x.slot.map (·.rstack)).getD x.rstack }) ∧
    (x.el = true →
      ctxAt t e = { x with st := .stopped, wait := .none, slot := none, shadow := false } ∧
      (coreAt t e.core).excLog = some (cause, e.ctx, x.pc, true) ∧ Quiet s.io t.io ∧
      (∀ d : Ex, ¬ (d.core = e.core ∧ d.ctx = e.ctx) → ctxAt t d = ctxAt s d))

/-- What is raised at decode (R440, R441, R443, R445, R449): ILLEGAL for a word that is not defined on the core, ILLEGAL_DS in a
delay slot, ILLEGAL_LOOP at the end of an active loop; and the faults of a fetch, BUS outside the instruction space, MEMERR for a
word that does not decode (R435, R436). -/
def Sys2Proof.Claims.DecodeExceptions : Prop :=
  ∀ (s : State) (e : Ex) (w : Word) (a : Bool) (cond : Fin 16) (rd rs rt : Fin 32) (off imm : BitVec 16), Claims.Runs s e →
    (wordDefined e.isM w = false → exec (.undefinedInstruction e w) s = .next (Claims.raised e 0x01 s)) ∧
    (9 ≤ cond.val ∨ (cond.val = 0 ∧ rs ≠ 0) → exec (.br e a cond rs off) s = .next (Claims.raised e 0x01 s) ∧ exec (.brl e a cond rs off) s = .next (Claims.raised e 0x01 s)) ∧
    (rt ≠ 0 → exec (.clz e rd rs rt) s = .next (Claims.raised e 0x01 s) ∧ exec (.jml e rd rs rt) s = .next (Claims.raised e 0x01 s)) ∧
    (rs ≠ 0 → exec (.hik e rd rs imm) s = .next (Claims.raised e 0x01 s)) ∧
    (e.core = 8 → exec (.scan e rd rs rt) s = .next (Claims.raised e 0x01 s) ∧ exec (.evict e rd rs rt) s = .next (Claims.raised e 0x01 s) ∧
      exec (.fend e) s = .next (Claims.raised e 0x01 s)) ∧
    (∀ b, (ctxAt s e).slot = some b → b.rs ≠ 0 → b.rs = rd.val →
      exec (.add e rd rs rt) s = .next (Claims.raised e 0x02 s) ∧ exec (.trap e) s = .next (Claims.raised e 0x02 s) ∧ exec (.xret e) s = .next (Claims.raised e 0x02 s)) ∧
    ((ctxAt s e).slot = none → (ctxAt s e).atEnd = true →
      exec (.trap e) s = .next (Claims.raised e 0x03 s) ∧ exec (.mode e rs) s = .next (Claims.raised e 0x03 s) ∧
      (cond.val = 1 → exec (.br e a cond rs off) s = .next (Claims.raised e 0x03 s))) ∧
    exec (.instructionFetchFault e) s = .next (memErr e s) ∧
    (∀ u : State, ctxExists u e = true → (ctxAt u e).st = .running → (ctxAt u e).wait = .none →
      (if e.core = 8 then 0x60000 else 0x20000) ≤ (ctxAt u e).pc.toNat →
      exec (.instructionFetchFault e) u = .next (raiseExc e 0x06 u))

/-- A memory error of the fetch or of a load (R436): the uncorrectable one is logged, counted, raises its event and the exception
MEMERR; the corrected one is counted and raises its event. -/
def Sys2Proof.Claims.MemoryErrors : Prop :=
  ∀ (s : State) (e : Ex), Claims.Runs s e → (ctxAt s e).el = false → frozen s.io Reg.PLC_MEM_ERR = false →
    fld (memCorr e s) Reg.PLC_MEM_ERR 15 0 = min 65535 (fld s Reg.PLC_MEM_ERR 15 0 + 1) ∧
    fld (memErr e s) Reg.PLC_MEM_ERR 23 16 = min 255 (fld s Reg.PLC_MEM_ERR 23 16 + 1) ∧
    (memCorr e s).plc = s.plc ∧
    (coreAt (memErr e s) e.core).excLog = some (0x08, e.ctx, (ctxAt s e).pc, false) ∧
    (ctxAt (memErr e s) e).cause = 0x08 ∧ (ctxAt (memErr e s) e).epc = ((ctxAt s e).slot.map (·.branch)).getD (ctxAt s e).pc

/-- What is raised at decode (R440, R441, R443, R445, R449): ILLEGAL for a word that is not defined on the core, ILLEGAL_DS in a
delay slot, ILLEGAL_LOOP at the end of an active loop; and the faults of a fetch, BUS outside the instruction space, MEMERR for
a word that does not decode (R435, R436). A memory error of the fetch or of a load (R436): the uncorrectable one is logged,
counted, raises its event and the exception MEMERR; the corrected one is counted and raises its event. -/
def Obligations.DecodeExceptionsAndMemoryErrors : Prop :=
  Claims.DecodeExceptions ∧
  Claims.MemoryErrors

/-! ### Walni: coprocessors -/

/-- SCAN, HEATRD, HASH.SET and HASH.MIX (R467, R468) write their result to rd and change nothing else; an operand that is not valid
raises CPREJ. A HEATRD of a set that the TSC does not hold waits, and CP_RESULT_RETURN writes its result. -/
def Obligations.PureOperations : Prop :=
  ∀ (s : State) (e : Ex) (rd rs rt : Fin 32), Claims.Runs s e → Claims.Free (ctxAt s e) rd →
    let a := (ctxAt s e).reg rs
    let b := (ctxAt s e).reg rt
    (∃ t, exec (.hashMix e rd rs rt) s = .next t ∧ Claims.Writes s t e rd (crc32c (wordBytes a ++ wordBytes b))) ∧
    (b.toNat < 2 ^ 20 → (b.toNat / 256 % 4096 = devId s → Claims.inHome s (Claims.offset a b) 1) →
      ∃ t, exec (.hashSet e rd rs rt) s = .next t ∧
        Claims.Writes s t e rd (Claims.word (setOf s.hpt.setBits (Claims.offset a b) (b.toNat / 256 % 4096)))) ∧
    (2 ^ 20 ≤ b.toNat → exec (.hashSet e rd rs rt) s = .next (Claims.raised e 0x07 s)) ∧
    (e.core ≠ 8 →
      (a.toNat < 2 ^ s.hpt.setBits → ∃ t, exec (.scan e rd rs 0) s = .next t ∧ Claims.Writes s t e rd (scanWord s a.toNat)) ∧
      (a.toNat < 2 ^ s.hpt.setBits → tscHit s a.toNat = true → ∃ t, exec (.heatrd e rd rs 0) s = .next t ∧
        Claims.Writes s t e rd (heatWord s a.toNat (heatOf s))) ∧
      (a.toNat < 2 ^ s.hpt.setBits → tscHit s a.toNat = false → ∃ t, exec (.heatrd e rd rs 0) s = .next t ∧
        Claims.OnlyCtx s t e { ctxAt s e with wait := .heat rd a.toNat, iw := encR 0x38 rd rs 0 2 }) ∧
      (2 ^ s.hpt.setBits ≤ a.toNat ∨ rt ≠ 0 →
        exec (.scan e rd rs rt) s = .next (Claims.raised e 0x07 s) ∧ exec (.heatrd e rd rs rt) s = .next (Claims.raised e 0x07 s))) ∧
    (∀ (u : State) (d : Ex) (rds : List Rd) (set : Nat), u.ok = true → ctxExists u d = true → (ctxAt u d).wait = .heat rd set →
      (ctxAt u d).heldPre = false →
      ∃ t, exec (.cpResultReturn d rds) u = .next t ∧
        (rds.length = 4 → (∀ r ∈ rds, r.bursts = []) → setFailed u set = false →
          (t = { u with io := t.io, plc := (onCtx d (fun _ => ctxAt t d) u).plc }) ∧
          ctxAt t d = { (({ ctxAt u d with wait := .none }).setReg rd (heatWord u set fun k => (wayAt u k).heat)).goOn with
            shadow := false }))

/-- EVICT, PREFETCH, PIN, UNPIN and HINT_WRITE (R467, R469) go to the core's outbound queue as they commit, and
wait, uncommitted, while its 16 places are taken. -/
def Sys2Proof.Claims.EffectingOperations : Prop :=
  ∀ (s : State) (e : Ex) (rs rt : Fin 32), Claims.Runs s e → e.core ≠ 8 → Claims.Free (ctxAt s e) 0 →
    let a := (ctxAt s e).reg rs
    let b := (ctxAt s e).reg rt
    (a.toNat < 2 ^ s.hpt.setBits → b.toNat < 8 → ∃ t, exec (.evict e 0 rs rt) s = .next t ∧
      Claims.Effects s t e rs rt 1 (.evict a.toNat (b.toNat % 4) (b.toNat / 4 % 2 = 1))) ∧
    (b.toNat < 2 ^ 20 → Claims.inHome s (Claims.offset a b) (b.toNat / 2 ^ 16 % 16 + 1) →
      ∃ t, exec (.policyPrefetch e 0 rs rt) s = .next t ∧
      Claims.Effects s t e rs rt 2 (.prefetch (Claims.offset a b) (b.toNat / 2 ^ 8 % 256) (b.toNat / 2 ^ 16 % 16 + 1))) ∧
    (b.toNat < 2 ^ 12 → Claims.inHome s (Claims.offset a b) (b.toNat / 2 ^ 8 % 16 + 1) →
      (∃ t, exec (.policyPin e 0 rs rt) s = .next t ∧
        Claims.Effects s t e rs rt 3 (.pin (Claims.offset a b) (b.toNat / 2 ^ 8 % 16 + 1))) ∧
      (∃ t, exec (.policyUnpin e 0 rs rt) s = .next t ∧
        Claims.Effects s t e rs rt 4 (.unpin (Claims.offset a b) (b.toNat / 2 ^ 8 % 16 + 1)))) ∧
    (a.toNat < 2 ^ s.hpt.setBits → b.toNat / 8 % 2 ^ 21 = 0 → ∃ t, exec (.hintWrite e 0 rs rt) s = .next t ∧
      Claims.Effects s t e rs rt 5 (.hint a.toNat (b.toNat % 4) (b.toNat / 4 % 2 = 1) (b.toNat / 2 ^ 24)))

/-- An effecting operation whose rd is not g0 raises CPREJ. -/
def Sys2Proof.Claims.EffectingOperationsWait : Prop :=
  ∀ (s : State) (e : Ex) (rd rs rt : Fin 32), Claims.Runs s e → e.core ≠ 8 → Claims.Free (ctxAt s e) 0 →
    rd ≠ 0 → exec (.evict e rd rs rt) s = .next (Claims.raised e 0x07 s) ∧ exec (.policyPrefetch e rd rs rt) s = .next (Claims.raised e 0x07 s) ∧
      exec (.policyPin e rd rs rt) s = .next (Claims.raised e 0x07 s) ∧ exec (.policyUnpin e rd rs rt) s = .next (Claims.raised e 0x07 s) ∧
      exec (.hintWrite e rd rs rt) s = .next (Claims.raised e 0x07 s)

/-- EVICT, PREFETCH, PIN, UNPIN and HINT_WRITE (R467, R469) go to the core's outbound queue as they commit, and wait,
uncommitted, while its 16 places are taken. An effecting operation whose rd is not g0 raises CPREJ. -/
def Obligations.EffectingOperations : Prop :=
  Claims.EffectingOperations ∧
  Claims.EffectingOperationsWait

/-! ### Ticks, frames, policy -/

/-- EPOCH_TICK (R29, R31): the tick falls at the end of the epoch, however late the command comes. EPOCH_CNT rises and TICK_LAST
takes that TB value; the counters are copied into the snapshot; MED's figure and the calibration's are latched with the bank figures
(the next epoch ends one period later, or at the next multiple of the period with PHASE_LOCK); the policy contexts start their
frames; 160 ns after the tick the ledger is evaluated unless Fence has closed it (R33). Give-way steps and what waits on the tick follow. -/
def Obligations.TicksActInOrder : Prop :=
  ∀ (s : State) (adc : List Adc) (t : Nat), ticking s = true → s.epochEnd = some t →
    let p := 10 * fld s Reg.CTR_EPOCH 13 0
    let s0 := { s with tb := max s.tb t, epochCnt := s.epochCnt + 1, tickLast := t, epochAt := t,
                       epochEnd := some (if flag s Reg.CTR_EPOCH 16 = true then (t / p + 1) * p else t + p) }
    let s1 := onIo (fun io => flush (env (tally Ctr.CTR_TICK 1 s0)) (snapshot (s.epochCnt + 1) io)) (tally Ctr.CTR_TICK 1 s0)
    let s2 := { s1 with ldg := { s1.ldg with
      calBw := fld s1 Reg.LDG_CAL_BW 17 0, calPwr := fld s1 Reg.LDG_CAL_PWR 15 0, calPorts := fld s1 Reg.LDG_CAL_CFG 8 5,
      portsUp := portsOk s1, ticked := true } }
    let s3 := policyTick (latchBanks adc s2)
    let s4 := { s3 with tb := max s3.tb (t + 160) }
    exec (.epochTick adc) s = .next (settle (afterTick (undoShed (if s3.ldg.closed = true then s4 else tickLedger s4))))

/-- What a tick does to a context of the PCF (R456, R458): asleep, it starts a frame, in Kernel mode, out of any handler, at
ENTRY × 4; active, it is preempted and starts anew, with EPC, CAUSE 0x10, no active loop and OVR set; in a mode shadow the
preemption is held (R454). A stream read that it waits for consumes its entry (R492). General registers and the other contexts
stay. -/
def Obligations.FramesStartAtTheTick : Prop :=
  ∀ (s : State) (e : Ex), s.ok = true → ctxExists s e = true →
    let x := ctxAt s e
    let t := nextFrame e s
    let started := fun (y : Ctx) => { y with
      st := .running, task := false, el := false, active := true, ended := false, seq := s.epochCnt % 2 ^ 14,
      pc := Claims.word (4 * y.entry), slot := none, shadow := false, heldPre := false, wait := .none, frameAt := s.tb }
    (x.active = false → x.st = .asleep → t = onCtx e (fun _ => started x) s ∧ ctxAt t e = started x) ∧
    (x.active = false → x.st ≠ .asleep → t = s) ∧
    (x.active = true → ¬ (x.shadow = true ∧ x.st = .running) →
      ctxAt t e = started { x with epc := x.pc, cause := 0x10, lct0 := 0, lct1 := 0, ovr := true } ∧ Quiet s.io t.io ∧
      t = { s with io := t.io, plc := { (onCtx e (fun _ => ctxAt t e) s).plc with table := t.plc.table } } ∧
      t.plc.table = (match x.wait with | .stream _ => s.plc.table.tail | _ => s.plc.table)) ∧
    (x.active = true → x.shadow = true → x.st = .running →
      ctxAt t e = { x with heldPre := true } ∧
      t = { s with io := t.io, plc := (onCtx e (fun _ => ctxAt t e) s).plc } ∧ Quiet s.io t.io)

/-- CP3_DELIVERY (R470): the oldest operation of the core's queue leaves it and is delivered, or dropped where its capability is not
in force; contexts that waited go on. PREDICTOR_TAG_FLUSH (R465): a running context of another ETAG empties the shared tables
and becomes their owner. PREFETCH_ISSUE (R486) takes one sector of the next
issue queue in turn and requests its fill unless it is held. SPRING_STREAM_READ
(R492) gives rd the low half of the table's next entry, latches the high half and consumes the entry. -/
def Sys2Proof.Claims.PolicyEngineCommands : Prop :=
  (∀ (s : State) (k : Nat) (o : OutOp) (r : List OutOp), (coreAt s k).outq = o :: r →
    exec (.cp3Delivery k) s =
      .next (settle (wakeCtx k
        (let u := tally Ctr.PLC_CP3_SENT 1 (onCore k (fun c => { c with outq := r }) s)
         if capOn u k o.op.cap = true then effectOp k o u else tally Ctr.PLC_CP3_REJECT 1 u)))) ∧
  (∀ (s : State) (e : Ex), s.ok = true → ctxExists s e = true → (ctxAt s e).st = .running →
    (coreAt s e.core).owner ≠ (ctxAt s e).etag →
    ∃ t, exec (.predictorTagFlush e) s = .next t ∧ t = { s with io := t.io, plc := { s.plc with cores := t.plc.cores } } ∧
      (∀ k, coreAt t k = if k = e.core then { coreAt s k with ctrs := [], ind := [], owner := (ctxAt s e).etag } else coreAt s k) ∧
      Quiet s.io t.io) ∧
  (∀ (s : State) (i : Nat) (p : PfEnt) (r : List PfEnt), s.cache.shed < 2 → running s = true →
    (rrOrder (4 * coreCount s) s.plc.rrCtx).find? (fun i => !(ctxAt s ⟨i / 4, i % 4, false⟩).issue.isEmpty) = some i →
    (ctxAt s ⟨i / 4, i % 4, false⟩).issue = p :: r →
    let sk := devId s * 2 ^ 40 + p.so
    let u := onPlc (fun q => { q with rrCtx := i }) (onCtx ⟨i / 4, i % 4, false⟩ (fun x => { x with
      issue := if p.count ≤ 1 then r else { p with so := p.so + 1, count := p.count - 1 } :: r }) s)
    exec .prefetchIssue s = .next (if (findWay s sk).isSome = true then u else
      serve { Txn.blank with pool := .internal, src := .policy (i / 4) (i % 4), kind := .prefetch p.heat, sk := sk, encl := p.etag }
        (tally Ctr.PREFQ_ISSUE 1 u))) ∧
  (∀ (s : State) (e : Ex) (rd : Nat) (v : SprEnt) (r : List SprEnt), s.ok = true → ctxExists s e = true →
    (ctxAt s e).wait = .stream rd → (ctxAt s e).heldPre = false → s.plc.table = v :: r →
    ∃ t, exec (.springStreamRead e) s = .next t ∧ t.plc.table = r ∧
      ctxAt t e = { (({ ctxAt s e with wait := .none, springHi := Claims.word (v.word / 2 ^ 32) }).setReg rd
        (Claims.word v.word)).goOn with shadow := false } ∧ Quiet s.io t.io)

/-- SHED_STEP_ESCALATE (R92): after a further 1 µs of shortage the next of four give-way steps. PCF_DEMOTE (R479): a core whose
overruns reached the limit stops and goes on under the baseline policy, with EV_PCF_DEMOTED. SPRING_PACK_TIMEOUT (R488): 1 ms
after its oldest entry a core's ring is packed. BASELINE_SPRING_PASS (R495): the next pass opens a generation. -/
def Sys2Proof.Claims.PolicyTimers : Prop :=
  (∀ (s : State) (t : Nat), s.cache.shedAt = some t →
    exec .shedStepEscalate s =
      .next (settle (onCache (fun c => { c with shed := if c.shed < 4 then c.shed + 1 else 4, shedAt := some (max s.tb (t + 1000)) })
        { s with tb := max s.tb (t + 1000) }))) ∧
  (∀ (s : State) (k : Nat), s.ok = true → k < coreCount s → (coreAt s k).due = true → (coreAt s k).baseline = false →
    ∃ t, exec (.pcfDemote k) s = .next t ∧ t = { s with io := t.io, plc := { s.plc with cores := t.plc.cores } } ∧
      (coreAt t k).baseline = true ∧ (coreAt t k).demoted = true ∧ (coreAt t k).ram = (coreAt s k).ram ∧
      (∀ c, c < 4 → (ctxAt t ⟨k, c, false⟩).st = .stopped ∧ (ctxAt t ⟨k, c, false⟩).g = (ctxAt s ⟨k, c, false⟩).g) ∧
      (∀ j, j ≠ k → coreAt t j = coreAt s j) ∧ Quiet s.io t.io) ∧
  (∀ (s : State) (k : Nat), running s = true → (coreAt s k).ring ≠ [] →
    let u := { s with tb := max s.tb ((coreAt s k).ringAt + 1000000) }
    exec (.springPackTimeout k) s = .next (settle ((packRing k u).getD u))) ∧
  (∀ (s : State) (e : Ex), running s = true → e ∈ policyCtxs s → (coreAt s e.core).baseline = true →
    (ctxAt s e).st ≠ .notStarted → s.plc.passLeft = 0 →
    let u := { s with tb := max s.tb (s.plc.passAt + 1000000 * max 100 (fld s Reg.PLC_SPRING_CFG 23 8)) }
    exec .baselineSpringPass s = .next (settle (openGen (onPlc (fun p => { p with passAt := u.tb, passLeft := baseTurn u }) u))))

/-- CP3_DELIVERY (R470): the oldest operation of the core's queue leaves it and is delivered, or dropped where its capability is
not in force; contexts that waited go on. PREDICTOR_TAG_FLUSH (R465): a running context of another ETAG empties the shared
tables and becomes their owner. PREFETCH_ISSUE (R486) takes one sector of the next issue queue in turn and requests its fill
unless it is held. SPRING_STREAM_READ (R492) gives rd the low half of the table's next entry, latches the high half and consumes
the entry. SHED_STEP_ESCALATE (R92): after a further 1 µs of shortage the next of four give-way steps. PCF_DEMOTE (R479): a core
whose overruns reached the limit stops and goes on under the baseline policy, with EV_PCF_DEMOTED. SPRING_PACK_TIMEOUT (R488): 1
ms after its oldest entry a core's ring is packed. BASELINE_SPRING_PASS (R495): the next pass opens a generation. -/
def Obligations.PolicyEngine : Prop :=
  Claims.PolicyEngineCommands ∧
  Claims.PolicyTimers

/-! ### Register writes -/

namespace Sys2Proof.Claims

open Sys2Proof.Machine

/-- A write of word w to the register at off by master m is taken: m reaches the registers, is the owner with no handover open, the
part has the register, its page is not locked against it, and no reserved bit is written. -/
def MayWrite (s : State) (m : Master) (off w : Nat) : Prop :=
  reaches s m = true ∧ s.mgt.boot.nvDone = true ∧ isOwner s m = true ∧ s.mgt.own.handover = none ∧
    absentReg s.part off = false ∧ (lockable off = true → fldOf s.io (pageOf off + 12) 0 0 ≠ 1) ∧
    hitsRsv off (regOf s.io off).toNat w = false

/-- The state with the word stored that a write of w leaves in the register at off: its fields brought into their limits. -/
def stored (off w : Nat) (s : State) : State :=
  { s with io := putReg s.io off (BitVec.ofNat 32 (newWord s.part off (regOf s.io off).toNat w)) }

/-- The banks, or ports, of a 4-bit mask that is one bit. -/
def bit4 (n : Nat) : Fin 16 := Fin.ofNat 16 (2 ^ n)

end Sys2Proof.Claims

/-- REGISTER_WRITE (R14, R578): of an aligned word that the owner may write, the register takes it and what the register commands
follows; by a master that is not the owner it is discarded, counted and reported, and no other register changes; a write of a register
that the part does not have changes nothing (R3). -/
def Obligations.RegisterWrites : Prop :=
  (∀ (s : State) (m : Master) (off : Nat) (w : Word), Claims.MayWrite s m off w.toNat → regThere off = true → off < 0x400000 →
    off % 4 = 0 → freeReg off = false → calGuard s off = false → 0x40 ≤ off % 4096 →
    dataWrite off (newWord s.part off (regOf s.io off).toNat w.toNat) s = none →
    exec (.registerWrite m off 4 w.toNat) s =
      .next (settle (onWrite m off (regOf s.io off).toNat (newWord s.part off (regOf s.io off).toNat w.toNat) w.toNat
        (Claims.stored off w.toNat s)))) ∧
  (∀ (s : State) (m : Master) (off : Nat) (w : Word), s.ok = true → reaches s m = true → s.mgt.boot.nvDone = true →
    isOwner s m = false → off < 0x400000 → off % 4 = 0 → freeReg off = false → absentReg s.part off = false →
    frozen s.io Reg.MGT_NONOWNER_WR = false → ∃ t, exec (.registerWrite m off 4 w.toNat) s = .next t ∧ t = { s with io := t.io } ∧
      fld t Reg.MGT_NONOWNER_WR 15 0 = min 65535 (fld s Reg.MGT_NONOWNER_WR 15 0 + 1) ∧
      fld t Reg.MGT_NONOWNER_WR 18 16 = m.id ∧
      (∀ r, blockOf r ≠ Blk.evt → blockOf r ≠ blockOf Reg.MGT_NONOWNER_WR → regOf t.io r = regOf s.io r)) ∧
  (∀ (s : State) (m : Master) (off : Nat) (w : Word), off < 0x400000 → off % 4 = 0 → absentReg s.part off = true →
    exec (.registerWrite m off 4 w.toNat) s = .next s)

/-- EPOCH_PERIOD_WRITE and PHASE_LOCK_WRITE (R35, R36, R37): PERIOD is kept within 250 and 10,000; a changed period moves the end
of the epoch to the last tick plus the new period, where the tick fires at once if that has passed, or with PHASE_LOCK to the next
multiple of it; setting PHASE_LOCK alone moves it to the next multiple. Before the first tick the model counts from host link enable
(its choice, log entry 71). -/
def Obligations.EpochWrites : Prop :=
  ∀ (s : State) (m : Master) (w : Word) (e : Nat), s.ok = true → Claims.MayWrite s m Reg.CTR_EPOCH w.toNat →
    s.epochEnd = some e →
    let p := max 250 (min 10000 (w.toNat % 2 ^ 14))
    let lock := w.toNat / 2 ^ 16 % 2 = 1
    let next := (s.tb / (10 * p) + 1) * (10 * p)
    let u := Claims.stored Reg.CTR_EPOCH w.toNat s
    fld u Reg.CTR_EPOCH 13 0 = p ∧ fld u Reg.CTR_EPOCH 16 16 = w.toNat / 2 ^ 16 % 2 ∧
    (fld s Reg.CTR_EPOCH 13 0 ≠ p →
      let v0 := tally Ctr.CTR_TICK_RECOMPUTE 1 { u with epochEnd := some (if lock then next else s.epochAt + 10 * p) }
      let v := if ¬ lock ∧ s.epochAt + 10 * p ≤ s.tb ∧ ticking s = true then afterTick (undoShed (tickAll s.tb [] v0)) else v0
      exec (.epochPeriodWrite m w) s = .next (settle v) ∧ exec (.phaseLockWrite m w) s = .next (settle v)) ∧
    (fld s Reg.CTR_EPOCH 13 0 = p → lock → fld s Reg.CTR_EPOCH 16 16 = 0 →
      exec (.phaseLockWrite m w) s = .next (settle { u with epochEnd := some next }) ∧
      exec (.epochPeriodWrite m w) s = .next (settle { u with epochEnd := some next })) ∧
    (fld s Reg.CTR_EPOCH 13 0 = p → (¬ lock ∨ fld s Reg.CTR_EPOCH 16 16 = 1) →
      exec (.phaseLockWrite m w) s = .next (settle u) ∧ exec (.epochPeriodWrite m w) s = .next (settle u))

/-- Writes that command the ledger, the predictors and training: LDG.CAP and the arming register are evaluated at once (R174, R311), START
and ABORT of a calibration (R305, R306), PRED_FLUSH (R159), the full training of the next start-up (R406), and FORCE of the
handback wait (R279), which poisons the sectors still marked and records them in FX_FAIL. -/
def Obligations.LedgerAndCacheCommands : Prop :=
  ∀ (s : State) (m : Master) (w : Word),
    (Claims.MayWrite s m Reg.LDG_CAP w.toNat →
      let u := Claims.stored Reg.LDG_CAP w.toNat s
      exec (.ldgCapWrite m w) s = .next (settle (if s.ldg.closed = true then u else
        setRung (dAmount u) (rstateNow (onLdg (fun l => { l with cap := (figs u).cap l.capModel }) u))))) ∧
    (Claims.MayWrite s m Reg.LDG_CTL w.toNat →
      exec (.ldgArmWrite m w) s = .next (settle (rstateNow (Claims.stored Reg.LDG_CTL w.toNat s)))) ∧
    (Claims.MayWrite s m Reg.LDG_CAL_CMD 1 → running s = true → s.ldg.cal = none →
      exec (.calStart m) s = .next (settle (settle (rstateNow
        (onLdg (fun l => { l with cal := some ⟨1, s.tb⟩ }) (Claims.stored Reg.LDG_CAL_CMD 1 s)))))) ∧
    (Claims.MayWrite s m Reg.LDG_CAL_CMD 2 → s.ldg.cal ≠ none →
      exec (.calAbort m) s = .next (settle (settle (raise Ev.ldgCalFail 0 0 (calEnd 2 (Claims.stored Reg.LDG_CAL_CMD 2 s)))))) ∧
    (Claims.MayWrite s m Reg.TAG_PRED_FLUSH 1 → exec (.predFlushMiss m) s =
      .next (settle (onCache (fun c => { c with missPred := [] }) (Claims.stored Reg.TAG_PRED_FLUSH 1 s)))) ∧
    (Claims.MayWrite s m Reg.TAG_PRED_FLUSH 2 → exec (.predFlushWay m) s =
      .next (settle (onCache (fun c => { c with wayPred := [] }) (Claims.stored Reg.TAG_PRED_FLUSH 2 s)))) ∧
    (Claims.MayWrite s m Reg.CCH_TRAIN_CMD 1 → exec (.trainCmdFull m) s =
      .next (settle (onCch (fun c => { c with fullReq := true }) (Claims.stored Reg.CCH_TRAIN_CMD 1 s)))) ∧
    (Claims.MayWrite s m Reg.COH_FHB_CMD 1 → ¬ (s.fab.waiting = [] ∧ s.fab.marks = []) →
      let u := Claims.stored Reg.COH_FHB_CMD 1 s
      let u := eachIn s.fab.marks (fun x s =>
        hwFld Reg.COH_FX_FAIL 11 0 ((x.owner <|> x.hold.map (·.1)).getD 0) (hwFld Reg.COH_FX_FAIL 15 12 4
          (clearMark x.sk (poisonSector x.sk s)))) u
      let u := onFab (fun f => { f with forced := true }) u
      let u := eachIn u.fab.aside (fun m s => endAside m false s) u
      let u := onFab (fun f => { f with waiting := [], hold_ := false, holds := [] }) u
      exec (.fhbForce m) s = .next (settle (settle (handedBack (raise Ev.fhbForced 0 0 u)))))

/-- Address maps: a home-map entry made valid stands, a change of a valid entry or one while another is back-invalidated is refused
(R55, R56); one made invalid back-invalidates the lines that hosts hold under its window, and HMAP_INVALIDATION_DONE ends that once
none is left and no request addresses it; an HDM decoder that R44 allows is committed, another is not, and one that is released first
back-invalidates what hosts hold under it (R48). -/
def Obligations.AddressMapCommands : Prop :=
  (∀ (s : State) (m : Master) (w : Word), Claims.MayWrite s m Reg.COH_HMAP_DATA w.toNat →
    let win := fld s Reg.COH_HMAP_SEL 11 0
    let v := newWord s.part Reg.COH_HMAP_DATA (regOf s.io Reg.COH_HMAP_DATA).toNat w.toNat
    let n := HmapE.ofWord v
    let e := hmapEntry s win
    let kept := keepRsv Reg.COH_HMAP_DATA v
    (s.hpt.pend ≠ none ∨ (n.valid = true ∧ e.valid = true ∧ n ≠ e) →
      exec (.hmapDataWrite m w) s = .next (kept (rcFlag Reg.COH_HMAP_STS 1 s))) ∧
    (s.hpt.pend = none → n.valid = true → (e.valid = false ∨ n = e) →
      exec (.hmapDataWrite m w) s = .next (kept (settle (putHmap win n s)))) ∧
    (s.hpt.pend = none → n.valid = false →
      exec (.hmapDataWrite m w) s = .next (kept (settle (onHpt (fun h => { h with pend := some (win, windowKey s e) })
        (putHmap win n s)))))) ∧
  (∀ (s : State) (win key : Nat), s.hpt.pend = some (win, key) → trackedWays s key = [] →
    (∀ b ∈ s.cache.bis, b.sk / 2 ^ 28 ≠ key) → (∀ t ∈ s.cache.txns, t.held = true → t.sk / 2 ^ 28 ≠ key) →
    exec .hmapInvalidationDone s = .next { s with hpt := { s.hpt with pend := none } }) ∧
  (∀ (s : State) (p i : Nat) (d : Hdm), serves s p = true → i < 4 → hdmLocked (port s p) i = false →
    ((port s p).hdm.getD i none = none → hdmOk (port s p) i d = true →
      exec (.hdmDecoderCommit p i d) s = .next (settle (setDec p i (some { d with committed := true }) s))) ∧
    (hdmOk (port s p) i d = false →
      exec (.hdmDecoderCommit p i d) s = .next (emit (.cxl p 0 "ErrorNotCommitted" none false) s)) ∧
    (∀ old, (port s p).hdm.getD i none = some old → old.committed = true →
      exec (.hdmDecoderUncommit p i) s = .next (settle (onPort p (fun x => { x with
        walk := x.walk.filter (·.1 != i) ++ [(i, none)] }) s))))

/-- Commands on banks and fabric ports, for one bank or port of the mask: SVC_CMD discharges a bank at once, or after Holding (R366),
and takes an Isolated one back to Measuring (R394); LINK_CMD retrains a port that is up, trains one held down (R534), and
takes a port down (R517). -/
def Obligations.BankAndLinkCommands : Prop :=
  ∀ (s : State) (m : Master) (n : Nat), s.ok = true → n < 4 →
    let b := bank s n
    let x := fport s n
    (Claims.MayWrite s m Reg.RSV_SVC_CMD (2 ^ n) →
      let u := Claims.stored Reg.RSV_SVC_CMD (2 ^ n) s
      (b.st = .holding → exec (.svcDischarge m (Claims.bit4 n)) s =
        .next (settle (evalUnsched n (onBank n (fun b => { b with disReq := true }) u)))) ∧
      (b.st ≠ .absent → b.st ≠ .discharging → b.st ≠ .holding → b.present = true → exec (.svcDischarge m (Claims.bit4 n)) s =
        .next (settle (evalUnsched n (onBank n (fun b => { b with st := .discharging, bleed := true, disAt := some s.tb, disTold := false }) u))))) ∧
    (Claims.MayWrite s m Reg.RSV_SVC_CMD (16 * 2 ^ n) → b.st = .isolated → b.present = true → b.fault ≠ .present →
      bankEn s n = true → exec (.svcRecharge m (Claims.bit4 n)) s =
        .next (settle (onBank n (fun b => { b with st := .measuring, fault := .none })
          (Claims.stored Reg.RSV_SVC_CMD (16 * 2 ^ n) s)))) ∧
    (Claims.MayWrite s m Reg.FAB_LINK_CMD (2 ^ n) → n < fabPortCount s → flag s Reg.FAB_LINK_CFG n = true →
      (x.st = .up ∨ x.st = .replaying → exec (.linkRetrain m (Claims.bit4 n)) s =
        .next (settle (onFPort n (fun x => { x with st := .degrading, episode := none, wide := true })
          (Claims.stored Reg.FAB_LINK_CMD (2 ^ n) s)))) ∧
      (x.st = .down → exec (.linkRetrain m (Claims.bit4 n)) s =
        .next (settle (onFPort n (fun x => { x with st := .training, cmdDown := false })
          (Claims.stored Reg.FAB_LINK_CMD (2 ^ n) s))))) ∧
    (Claims.MayWrite s m Reg.FAB_LINK_CMD (16 * 2 ^ n) → n < fabPortCount s →
      exec (.linkTakeDown m (Claims.bit4 n)) s = .next (settle (settle (fabDown n true (Claims.stored Reg.FAB_LINK_CMD (16 * 2 ^ n) s)))))

/-- Locks and keys: ASSIGN_LOCK and DEBUG_CTL.LOCK (R563, R566) and a page's lock (R583) become 1 and nothing else is stored;
FW_KEY_REVOKE revokes, of the keys written, those below the one that verified the running MCF (R561). -/
def Obligations.LocksAndKeys : Prop :=
  (∀ (s : State) (m : Master), s.ok = true → Claims.MayWrite s m Reg.SEC_ASSIGN_LOCK 1 →
    exec (.assignLockSet m) s = .next (settle (Claims.stored Reg.SEC_ASSIGN_LOCK 1 s)) ∧
    fld (Claims.stored Reg.SEC_ASSIGN_LOCK 1 s) Reg.SEC_ASSIGN_LOCK 0 0 = 1) ∧
  (∀ (s : State) (m : Master), s.ok = true → Claims.MayWrite s m Reg.SEC_DEBUG_CTL 1 →
    exec (.debugLock m) s = .next (settle (Claims.stored Reg.SEC_DEBUG_CTL 1 s)) ∧
    fld (Claims.stored Reg.SEC_DEBUG_CTL 1 s) Reg.SEC_DEBUG_CTL 0 0 = 1) ∧
  (∀ (s : State) (m : Master) (off : Nat), s.ok = true → off < 0x400000 → regThere (pageOf off + 12) = true →
    Claims.MayWrite s m (pageOf off + 12) 1 →
    exec (.pgLockSet m off) s = .next (Claims.stored (pageOf off + 12) 1 s) ∧
    fld (Claims.stored (pageOf off + 12) 1 s) (pageOf off + 12) 0 0 = 1) ∧
  (∀ (s : State) (keys : Fin 16), hitsRsv Reg.SEC_FW_KEY_REVOKE (regOf s.io Reg.SEC_FW_KEY_REVOKE).toNat keys.val = false →
    s.mgt.boot.mcf ≠ none →
    let now := (List.range 4).filter fun k => keys.val / 2 ^ k % 2 == 1 && decide (k < s.mgt.boot.keyUsed) && !s.sec.revoked.contains k
    exec (.fwKeyRevoke keys) s = .next (settle (onSec (fun x => { x with revoked := x.revoked ++ now })
      (Claims.stored Reg.SEC_FW_KEY_REVOKE keys.val s))))

/-- Ownership (R587 to R590): a claim that passes makes the claimant the owner, with EV_MGT_OWNER_CHANGE; a heartbeat of the owner
restarts its age; a yield with bit 3 vacates, one that names a master that may own opens a handover; a lapse of 300 ms and a
handover not claimed within 10 ms vacate. Another master's claim that does not outrank the owner is refused. -/
def Obligations.OwnershipCommands : Prop :=
  ∀ (s : State) (m : Master) (w : Word), reaches s m = true → s.mgt.boot.nvDone = true →
    (s.rsv.pst = .run ∨ s.rsv.pst = .startup) →
    let whole := fun (off : Nat) => hitsRsv off (regOf s.io off).toNat w.toNat = false
    (whole Reg.MGT_OWN_CLAIM → w.toNat % 8 = m.id → 0 < w.toNat / 256 % 256 → mayOwn s m = true →
      (s.mgt.own.owner = none → s.mgt.own.handover = none →
        ∃ t, exec (.ownClaim m w) s = .next t ∧ t.mgt.own.owner = some m ∧ t.mgt.own.prio = w.toNat / 256 % 256 ∧
          t.mgt.own.hbAt = s.tb ∧ t.mgt.own.changes = (s.mgt.own.changes + 1) % 64 ∧
          t = { s with io := t.io, mgt := { s.mgt with own := t.mgt.own, nv := { s.mgt.nv with armed := none } } } ∧
          (s.io.ok = true → s.part ≠ .ex → Quiet s.io t.io)) ∧
      (∀ o, s.mgt.own.owner = some o → o ≠ m → s.mgt.own.handover = none → flag s Reg.MGT_OWN_CFG 6 = false →
        exec (.ownClaim m w) s = .next (raise Ev.mgtClaimRefused 0 0 (tally Ctr.MGT_CLAIM_REFUSED 1
          (rcFlag Reg.MGT_OWN_STS 25 (keepRsv Reg.MGT_OWN_CLAIM w.toNat s)))))) ∧
    (isOwner s m = true →
      (whole Reg.MGT_OWN_HB → exec (.ownHb m w) s =
        .next (onOwn (fun o => { o with hbAt := s.tb }) (keepRsv Reg.MGT_OWN_HB w.toNat s))) ∧
      (whole Reg.MGT_OWN_YIELD → w.toNat / 8 % 2 = 1 →
        ∃ t, exec (.ownYield m w) s = .next t ∧ t.mgt.own.owner = none ∧ t.mgt.own.handover = none) ∧
      (∀ h, whole Reg.MGT_OWN_YIELD → w.toNat / 8 % 2 = 0 → masterOf (w.toNat % 8) = some h → h ≠ m → mayOwn s h = true →
        exec (.ownYield m w) s =
          .next (onOwn (fun o => { o with handover := some (h, s.tb) }) (keepRsv Reg.MGT_OWN_YIELD w.toNat s)))) ∧
    (s.mgt.own.owner ≠ none → ∃ t, exec .ownerLapse s = .next t ∧ t.mgt.own.owner = none ∧
      t.tb = max s.tb (s.mgt.own.hbAt + 300000000)) ∧
    (∀ h a, s.mgt.own.handover = some (h, a) → ∃ t, exec .handoverTimeout s = .next t ∧ t.mgt.own.owner = none ∧
      t.mgt.own.handover = none ∧ t.tb = max s.tb (a + 10000000))

/-- Retained settings and resets: CFG_CMD stores what differs (R603), FACTORY arms and within 1 s restores, and the arm expires
after 1 s (R606); RESET_CMD starts a Warm reset by a drain where no remote sector is left or NO_RELEASE is set, else by the
release phase (R616), and resets a block that allows it (R618). -/
def Obligations.ConfigurationAndResetCommands : Prop :=
  ∀ (s : State) (m : Master),
    (Claims.MayWrite s m Reg.MGT_CFG_CMD 1 → s.mgt.nv.job = none →
      let u := onNv (fun n => { n with armed := none }) (Claims.stored Reg.MGT_CFG_CMD 1 s)
      exec (.cfgStore m) s = .next (settle (onNv (fun n => { n with armed := none }) (startStore (nvDiffs u) none u)))) ∧
    (Claims.MayWrite s m Reg.MGT_CFG_CMD 2 →
      let u := Claims.stored Reg.MGT_CFG_CMD 2 s
      (s.mgt.nv.armed = none →
        exec (.cfgFactory m) s = .next (settle (onNv (fun n => { n with armed := some (m, s.tb) }) u))) ∧
      (∀ t, s.mgt.nv.armed = some (m, t) → s.tb ≤ t + 1000000000 → s.mgt.nv.job = none →
        exec (.cfgFactory m) s = .next (settle (onNv (fun n => { n with armed := none, job := some .factory }) u)))) ∧
    (∀ o t, s.mgt.nv.armed = some (o, t) → exec .factoryArmExpire s =
      .next { s with tb := max s.tb (t + 1000000000), mgt := { s.mgt with nv := { s.mgt.nv with armed := none } } }) ∧
    (∀ nr : Bool, Claims.MayWrite s m Reg.MGT_RESET_CMD (if nr then 0x57520005 else 0x57520001) → running s = true →
      s.mgt.boot.drain = none → s.mgt.boot.release = none →
      let u := Claims.stored Reg.MGT_RESET_CMD (if nr then 0x57520005 else 0x57520001) s
      exec (.warmReset m nr) s = .next (settle (if nr = true ∨ remoteLeft u = false then
        fence 0 false [] [] (onBoot (fun b => { b with drain := some .warmCmd }) u) else releasePump (startRelease u)))) ∧
    (∀ b : Fin 16, Claims.MayWrite s m Reg.MGT_RESET_CMD (0x57520002 + 16 * b.val) → running s = true → s.mgt.boot.drain = none →
      let u := Claims.stored Reg.MGT_RESET_CMD (0x57520002 + 16 * b.val) s
      (b.val = 11 → exec (.blockReset m b) s = .next (settle (settle (raise Ev.resetDone 2 0 (resetPlc u))))) ∧
      (b.val = 3 → exec (.blockReset m b) s = .next (settle (raise Ev.resetDone 2 0 (resetEvt u)))) ∧
      (b.val = 15 → exec (.blockReset m b) s = .next (settle (settle (raise Ev.resetDone 2 0 (resetFab u))))))

/-- Q_CMD (R637): MARK starts an empty mark set; REWIND makes the live entries of the mark set unread again; RELEASE frees the entry
that Q_SEQ names; RELEASE_ALL_READ frees every entry that has been read. -/
def Obligations.QueueCommands : Prop :=
  ∀ (s : State) (m : Master), s.ok = true →
    (Claims.MayWrite s m Reg.EVT_Q_CMD 1 →
      exec (.mark m) s = .next (settle (let u := Claims.stored Reg.EVT_Q_CMD 1 s
        { u with io := { u.io with markOn := true, markSet := [] } }))) ∧
    (Claims.MayWrite s m Reg.EVT_Q_CMD 2 →
      exec (.rewind m) s = .next (settle (let u := Claims.stored Reg.EVT_Q_CMD 2 s
        { u with io := { u.io with
          markSet := [], q := s.io.q.map (fun e => if e.seq ∈ s.io.markSet then { e with read := false } else e) } }))) ∧
    (∀ e ∈ s.io.q, e.seq = (regOf s.io Reg.EVT_Q_SEQ).toNat → Claims.MayWrite s m Reg.EVT_Q_CMD 3 →
      exec (.release m) s = .next (settle (let u := Claims.stored Reg.EVT_Q_CMD 3 s
        { u with io := lossTry (env u) { u.io with q := s.io.q.filter (fun x => x.seq != e.seq) } }))) ∧
    (Claims.MayWrite s m Reg.EVT_Q_CMD 4 →
      exec (.releaseAllRead m) s = .next (settle (let u := Claims.stored Reg.EVT_Q_CMD 4 s
        { u with io := lossTry (env u) { u.io with q := s.io.q.filter (fun x => !x.read) } })))

/-! ### Host requests -/

namespace Sys2Proof.Claims

open Sys2Proof.Machine

/-- A request of host port p is taken: the link is up, it comes under a Req credit, and the device is in Run. -/
def Asks (s : State) (p : Nat) : Prop :=
  p < portCount s ∧ (port s p).up = true ∧ 0 < (port s p).req ∧ running s = true

/-- What every taken request does first: it uses its Req credit and is counted. -/
def asked (p : Nat) (s : State) : State := tally Ctr.HPT_REQ_RX 1 (onPort p (fun x => { x with req := x.req - 1 }) s)

/-- Decoder i of port p maps the HPA to the DA da, no walk of that decoder runs, and the home map gives the sector sk. -/
def Lands (s : State) (p hpa i da sk : Nat) : Prop :=
  decodeAt s p hpa = some (i, da) ∧ (∀ w ∈ (port s p).walk, w.1 ≠ i) ∧ mapDa s da = .ok sk

/-- A message of port p with what its decoder i and the home map make of it. -/
def there (s : State) (p i da sk : Nat) (t : Txn) : Txn := { t with da := da, encl := bindingOf s p i, sk := sk, line := da / 64 % 4 }

/-- A write of port p is taken: the link is up, the absorb step has not ended, and it comes under an RwD credit with its headroom. -/
def WriteAsks (s : State) (p : Nat) : Prop :=
  p < portCount s ∧ (port s p).up = true ∧ 0 < (port s p).head ∧ absorbs s = true

/-- What every taken write does first: its headroom becomes its reservation, it uses its credit and is counted, a poisoned one is
reported, and it is numbered in its port's order. -/
def writeAsked (p hpa : Nat) (bad : Bool) (s : State) : State :=
  let s := tally Ctr.HPT_RWD_RX 1 (onPort p (fun x => { x with rwd := x.rwd - 1 })
    (tellGrant false (if s.ldg.st = RState.armed then Resv.armed else Resv.wt) (dropHeads p 1 s)))
  let s := if bad then raise Ev.hpPoisonRx (dataAddr 3 hpa) p (tally Ctr.HPT_POISON_RX 1 s) else s
  onCache (fun c => { c with wseq := setAt c.wseq p fun _ => c.wseq.getD p 0 + 1 }) s

end Sys2Proof.Claims

/-- MEM_RD, and MEM_INV with MetaValue A (R82): a request that lands on a sector is admitted there with the class that its message and
MetaValue give it; one that no committed decoder maps is answered, a read with poisoned zeros, and its credit goes back (R54). -/
def Sys2Proof.Claims.HostReads : Prop :=
  ∀ (s : State) (p tag hpa i da sk : Nat) (mv : HSt) (dat nt : Bool) (u : Upset), Claims.Asks s p →
    let v := Claims.asked p s
    let kind := if dat = true ∨ mv = .s then Kind.rdS else if mv = .a then Kind.rdO else Kind.rdNA
    (Claims.Lands s p hpa i da sk →
      exec (.memRd p tag hpa mv dat u) s =
        .next (settle (admitTxn (Claims.there s p i da sk (hostTxn p tag hpa kind mv)) (upsetAt u sk v)).2) ∧
      exec (.memInv p tag hpa .a nt u) s =
        .next (settle (admitTxn (Claims.there s p i da sk (hostTxn p tag hpa .own .a)) (upsetAt u sk v)).2)) ∧
    (decodeAt s p hpa = none →
      let w := returnReq p (raise Ev.homeUnmapped (dataAddr 3 hpa) p v)
      exec (.memRd p tag hpa mv dat u) s = .next (settle (emit (.cxl p tag "MemData" none true) w)) ∧
      exec (.memInv p tag hpa .a nt u) s = .next (settle (emit (.cxl p tag "Cmp" none false) w)))

/-- Clean eviction notices, MEM_CLN_EVCT and MEM_INV with MetaValue I (R82, R213): the snoop filter shows I for the port where the
sector is present, the notice is answered with Cmp and its credit goes back; MEM_INV with MetaValue S has no meaning in the spec and
is not taken. MEM_SPEC_RD (R92): the hint starts a read of its own kind where an internal entry is free and no give-way step is
reached, else it is dropped; its credit goes back at once. -/
def Sys2Proof.Claims.HostNotices : Prop :=
  (∀ (s : State) (p tag hpa i da sk : Nat) (nt : Bool) (u : Upset), Claims.Asks s p → Claims.Lands s p hpa i da sk →
    let v := Claims.asked p s
    let w := match findWay s sk with
      | some k => setHost k (da / 64 % 4) p .i v
      | none => v
    let t := settle (emit (.cxl p tag "Cmp" none false) (returnReq p w))
    exec (.memClnEvct p tag hpa) s = .next t ∧ exec (.memInv p tag hpa .i nt u) s = .next t) ∧
  (∀ (s : State) (p tag hpa : Nat) (nt : Bool) (u : Upset), exec (.memInv p tag hpa .s nt u) s = .next s) ∧
  (∀ (s : State) (p hpa i da sk : Nat), Claims.Asks s p → Claims.Lands s p hpa i da sk →
    let v := returnReq p (Claims.asked p s)
    (s.cache.shed = 0 → poolUse s .internal < 2048 →
      exec (.memSpecRd p hpa) s = .next (settle (admitTxn (Claims.there s p i da sk
        { Txn.blank with pool := .internal, src := .engine, kind := .spec }) v).2)) ∧
    (0 < s.cache.shed ∨ 2048 ≤ poolUse s .internal → exec (.memSpecRd p hpa) s = .next (settle v)))

/-- MEM_RD, and MEM_INV with MetaValue A (R82): a request that lands on a sector is admitted there with the class that its
message and MetaValue give it; one that no committed decoder maps is answered, a read with poisoned zeros, and its credit goes
back (R54). Clean eviction notices, MEM_CLN_EVCT and MEM_INV with MetaValue I (R82, R213): the snoop filter shows I for the port
where the sector is present, the notice is answered with Cmp and its credit goes back; MEM_INV with MetaValue S has no meaning
in the spec and is not taken. MEM_SPEC_RD (R92): the hint starts a read of its own kind where an internal entry is free and no
give-way step is reached, else it is dropped; its credit goes back at once. -/
def Obligations.HostReadsAndNotices : Prop :=
  Claims.HostReads ∧
  Claims.HostNotices

/-- MEM_WR and MEM_WR_PTL (R82, R112, R178, R217, R294): the write's headroom becomes its reservation; it is numbered in its port's
order and admitted at its sector, as a write-back where it is poisoned, or a full line of a port that the snoop filter shows holding
it, else as a write of its enabled bytes; where a BISnp is outstanding to its port for the line of a resident sector, the snoop takes
it in. Without a headroom the link goes down; after the absorb step the write is discarded and counted (R372). -/
def Obligations.HostWrites : Prop :=
  (∀ (s : State) (p tag hpa i da sk : Nat) (mv : HSt) (d : Line) (mask : LineMask) (bad : Bool), Claims.WriteAsks s p →
    Claims.Lands s p hpa i da sk →
    let w := Claims.writeAsked p hpa bad s
    let held := match findWay s sk with
      | some k => decide (hostSt s k (da / 64 % 4) p ≠ .i)
      | none => false
    let t := fun (kind : Kind) (m : LineMask) => { Claims.there s p i da sk (hostTxn p tag hpa kind mv) with
      data := d, mask := m, poison := bad, resv := if s.ldg.st = RState.armed then Resv.armed else Resv.wt, rsz := 64
      wseq := s.cache.wseq.getD p 0 + 1, wport := p, arr := s.tb, cred := true }
    let whole := if bad = true ∨ held = true then Kind.wb else Kind.wrNA
    let part := if bad = true then Kind.wb else Kind.wrNA
    (findWay s sk = none ∨ biFind s p sk (da / 64 % 4) = none →
      exec (.memWr p tag hpa mv d bad .none) s = .next (settle (admitTxn (t whole fullMask) w).2) ∧
      exec (.memWrPtl p tag hpa mv d mask bad) s = .next (settle (admitTxn (t part mask) w).2)) ∧
    (∀ k b, findWay s sk = some k → biFind s p sk (da / 64 % 4) = some b →
      exec (.memWr p tag hpa mv d bad .none) s = .next (settle (snoopWriteback (t whole fullMask) b k w)) ∧
      exec (.memWrPtl p tag hpa mv d mask bad) s = .next (settle (snoopWriteback (t part mask) b k w)))) ∧
  (∀ (s : State) (p tag hpa : Nat) (mv : HSt) (d : Line) (mask : LineMask) (bad : Bool) (u : Upset), p < portCount s →
    (port s p).up = true →
    (absorbs s = true → (port s p).head = 0 → exec (.memWr p tag hpa mv d bad u) s = .next (settle (hostDown p s)) ∧
      exec (.memWrPtl p tag hpa mv d mask bad) s = .next (settle (hostDown p s))) ∧
    (absorbs s = false → exec (.memWr p tag hpa mv d bad u) s = .next (tally Ctr.RSV_FENCE_LATE_WR 1 s) ∧
      exec (.memWrPtl p tag hpa mv d mask bad) s = .next (tally Ctr.RSV_FENCE_LATE_WR 1 s)))

/-- AtomicOps on BAR4 and what their ALU does: an aligned PCIe AtomicOp is admitted at its sector (R105), a misaligned one gets Completer
Abort, any other access of BAR4 Unsupported Request (R84); the ALU step of an atomic runs on the way it probed (R222, R223), that of
an APPEND on its descriptor, with room for its write-through copies (R226). PRIORITY_PROMOTION takes the access of class P2 or P3 that
has waited longest up one class (R152). -/
def Obligations.AtomicCommands : Prop :=
  (∀ (s : State) (p tag da : Nat) (a : Atom), offers s p = true → da < bar4Size s → pcieAtomic a = true →
    (da % a.width ≠ 0 → exec (.atomicOp p tag da a) s = .next (emit (.cxl p tag "CA" none false) s)) ∧
    (∀ sk, da % a.width = 0 → mapDa s da = .ok sk →
      let n := s.cache.wseq.getD p 0 + 1
      exec (.atomicOp p tag da a) s = .next (settle (admitTxn { Txn.blank with
        pool := .host p, src := .hp p, kind := .atomic { a with off := da % 64 }, tag := tag, da := da, sk := sk, line := da / 64 % 4
        wseq := n, wport := p } (onCache (fun c => { c with wseq := setAt c.wseq p (fun _ => n) }) s)).2))) ∧
  (∀ (s : State) (p tag da : Nat), offers s p = true → da < bar4Size s →
    exec (.bar4NonAtomic p tag da) s = .next (emit (.cxl p tag "UR" none false) (raise Ev.hpBar4Ur (dataAddr 0 da) p s))) ∧
  (∀ (s : State) (id k len : Nat) (a : Atom) (t : Txn), txnAt s id = some t → t.ph = .alu k →
    (t.kind = .atomic a ∨ t.kind = .fAtom a → exec (.atmAluDone id) s = .next (settle (runAtom t a k s))) ∧
    (t.kind = .append len → wtRoom s (appendNeeds s t) = true → exec (.atmAluDone id) s = .next (settle (runAppend t len k s)))) ∧
  (∀ (s : State) (a : Access), nextPromoted s = some a →
    exec .priorityPromotion s = .next (promote a { s with tb := max s.tb (a.at_ + 4000) }))

/-- Back-invalidation answers (R209, R215 to R219): an answer that the BISnp allows ends it with the state answered, counted as stale where
the snoop filter held nothing certain; another is sent again while the retries of COH.BI_CFG last, then the port's link goes down; a
conflict is acknowledged at once and counted, with its credit; a BISnp without an answer takes the link down after its time.
HOST_BISNP_CREDIT gives the port credits to send them. -/
def Sys2Proof.Claims.BackInvalidation : Prop :=
  (∀ (s : State) (p hpa kind : Nat) (b : Bi), biAt s p hpa = some b →
    (kind = 0 →
      let v := tally Ctr.COH_BIRSP_I 1 s
      exec (.birsp p hpa kind) s = .next (settle (biDone b .i
        (if sfSt s b.way b.line b.port = .a ∧ b.wb = false then tally Ctr.COH_BISNP_STALE 1 v else v)))) ∧
    (kind = 1 → b.dat = true → exec (.birsp p hpa kind) s = .next (settle (biDone b .s (tally Ctr.COH_BIRSP_S 1 s)))) ∧
    (2 ≤ kind ∨ kind = 1 ∧ b.dat = false →
      let v := if kind = 1 then tally Ctr.COH_BIRSP_S 1 s else s
      (b.tries < fld v Reg.COH_BI_CFG 23 22 → exec (.birsp p hpa kind) s = .next (settle (onCache (fun c => { c with
        bis := c.bis.map fun x => if x = b then { x with tries := x.tries + 1, sent := none } else x }) v))) ∧
      (fld v Reg.COH_BI_CFG 23 22 ≤ b.tries → exec (.birsp p hpa kind) s =
        .next (settle (hostDown p (rcFlag Reg.COH_SF_STS 17 (raise Ev.cohBirspIllegal (dataAddr 3 hpa) p v))))))) ∧
  (∀ (s : State) (p hpa : Nat) (b : Bi), biAt s p hpa = some b → exec (.bisnpTimeout p hpa) s =
    .next (settle (hostDown p (rcFlag Reg.COH_SF_STS 17 (raise Ev.cohBisnpTimeout (dataAddr 3 hpa) p
      { s with tb := max s.tb (b.sent.getD 0 + 1000000 * max 1 (fld s Reg.COH_BI_CFG 9 0)) }))))) ∧
  (∀ (s : State) (p tag hpa : Nat), Claims.Asks s p →
    exec (.biconflict p tag hpa) s = .next (returnReq p (emit (.cxl p tag "BIConflictAck" none false)
      (tally Ctr.COH_BICONFLICT 1 (Claims.asked p s))))) ∧
  (∀ (s : State) (p n : Nat), p < portCount s → (port s p).up = true →
    exec (.hostBisnpCredit p n) s = .next (settle (onPort p (fun x => { x with bisnp := x.bisnp + n }) s)))

/-- Host links (R85, R108 to R110, R294): a link that comes up has 512 request and 256 write credits with a headroom for each write, of
the write-through kind unless the ledger is Armed; a link that goes down is reported with EV_HP_LINK_DOWN and leaves ownership vacant where its
host held it; a failed IDE check of an established stream first ends every enclave binding of the port. -/
def Sys2Proof.Claims.HostLinks : Prop :=
  (∀ (s : State) (p width n : Nat) (full : Bool), p < portCount s → s.mgt.boot.linksOn = true → running s = true →
    (port s p).up = false → p < s.hpt.ports.length →
    ∃ t, exec (.hostLinkUp p width full n) s = .next (settle t) ∧ (port t p).up = true ∧ (port t p).width = width ∧
      (port t p).req = 512 ∧ (port t p).rwd = 256 ∧ (port t p).head = 256 ∧ (port t p).bisnp = n ∧
      (port t p).headWt = (if s.ldg.st = .armed then 0 else 256) ∧ (port t p).owed = [] ∧ (port t p).hdm = (port s p).hdm ∧
      (∀ q, q ≠ p → port t q = port s q) ∧ t = { s with io := t.io, hpt := { s.hpt with ports := t.hpt.ports } } ∧
      (width = 16 → full = true → t.io = s.io)) ∧
  (∀ (s : State) (p : Nat) (perst : Bool), (port s p).up = true →
    exec (.hpLinkDown p perst) s = .next (settle (vacateIf (.hm (Fin.ofNat 4 p)) (raise Ev.hpLinkDown 0 p (portDown p s))))) ∧
  (∀ (s : State) (p : Nat) (perst : Bool), (port s p).up = false → exec (.hpLinkDown p perst) s = .next (settle s)) ∧
  (∀ (s : State) (p : Nat) (mem : Bool) (x : Stream), p < portCount s → (port s p).up = true →
    tblFind (if mem = true then s.sec.ideMem else s.sec.ideIo) p = some x →
    exec (.ideIntegrityFail p mem) s = .next (settle (hostDown p (raise Ev.hpIdeFail 0 p
      (onSec (fun x => { x with binds := x.binds.filter (fun b => b.1 / 4 != p) }) s))))) ∧
  (∀ (s : State) (p : Nat), p < portCount s → (port s p).up = true →
    exec (.correctableLinkError p) s = .next (raise Ev.hpLinkCorr 0 p (tally Ctr.HPT_LINK_CORR 1 s)))

/-- Back-invalidation answers (R209, R215 to R219): an answer that the BISnp allows ends it with the state answered, counted as
stale where the snoop filter held nothing certain; another is sent again while the retries of COH.BI_CFG last, then the port's
link goes down; a conflict is acknowledged at once and counted, with its credit; a BISnp without an answer takes the link down
after its time. HOST_BISNP_CREDIT gives the port credits to send them. Host links (R85, R108 to R110, R294): a link that comes
up has 512 request and 256 write credits with a headroom for each write, of the write-through kind unless the ledger is Armed; a
link that goes down is reported with EV_HP_LINK_DOWN and leaves ownership vacant where its host held it; a failed IDE check of
an established stream first ends every enclave binding of the port. -/
def Obligations.BackInvalidationAndHostLinks : Prop :=
  Claims.BackInvalidation ∧
  Claims.HostLinks

/-! ### The mailbox -/

namespace Sys2Proof.Claims

open Sys2Proof.Machine

/-- The mailbox of port p takes commands: link up, Run, an ordinary boot and no Tamper-Lock. -/
def Mail (s : State) (p : Nat) : Prop := serves s p = true ∧ s.mgt.boot.mode = 0 ∧ s.sec.lock = 0

/-- The host behind the mailbox is the owner, with no handover open. -/
def Owns (s : State) (p : Nat) : Prop := isOwner s (mailboxOf p) = true ∧ s.mgt.own.handover = none

/-- Every command taken is counted. -/
def mailed (s : State) : State := tally Ctr.HPT_MBOX_CMD 1 s

/-- A trailer that authenticates on port p (R551, R558). -/
def Trailed (s : State) (p : Nat) (tr : Trailer) : Prop :=
  tr.macOk = true ∧ (∃ x ∈ s.sec.sessions, x.id = tr.session ∧ x.port = p ∧ x.established = true ∧ x.lastSeq < tr.seq) ∧
    bindingNames s p tr.encl = true

/-- Its SEQ becomes its session's last one. -/
def trailed (tr : Trailer) (s : State) : State := onSec (fun x => { x with
  sessions := x.sessions.map fun y => if y.id = tr.session then { y with lastSeq := tr.seq } else y }) s

end Sys2Proof.Claims

/-- Commands that report (R80, R95, R111, R113, R338, R638): any host's mailbox answers them with the size of the DA space, the live entries
of an event log with the overflow indication first, the poison list with the lines that poison locators make persistent, the dirty
shutdown count, and what the firmware slots hold; an answer changes nothing but outputs and telemetry. -/
def Obligations.MailboxReports : Prop :=
  ∀ (s : State) (p log : Nat), s.ok = true → Claims.Mail s p →
    let v := Claims.mailed s
    exec (.identifyMemoryDevice p) s = .next (done p 0x4000 [(8, s.hpt.dsize), (8, 0), (8, 2 ^ 28)] v) ∧
    exec (.getEventRecords p log) s = .next (done p 0x0100 ((1, if (regOf v.io Reg.EVT_DROP).toNat = 0 then 0 else 1) ::
      (2, (v.io.q.filter (·.sev == logSev log)).length) :: (v.io.q.filter (·.sev == logSev log)).flatMap eventRecord) v) ∧
    exec (.getPoisonList p) s = .next (done p 0x4300
      (let all := s.cache.poison ++ (persistLines s).filter fun x => !(s.cache.poison.contains x)
       (2, all.length) :: all.map fun x => (8, x * 64)) v) ∧
    exec (.getShutdownState p) s = .next (done p 0x4303 [(1, if (port s p).shutDirty then 1 else 0), (4, s.mgt.nv.dirtyCnt)] v) ∧
    exec (.getFwInfo p) s = .next (done p 0x0200 (slotInfo s.mgt.flash.mcfA ++ slotInfo s.mgt.flash.mcfB ++ slotInfo s.mgt.flash.pcfA ++
      slotInfo s.mgt.flash.pcfB ++ [(1, s.mgt.flash.mcfActive), (1, if s.mgt.flash.mcfPending then 1 else 0), (1, s.mgt.flash.pcfActive),
        (1, if s.mgt.flash.pcfPending then 1 else 0)]) v) ∧
    ∀ opc fields, done p opc fields v = { v with io := (done p opc fields v).io } ∧
      ∃ pre, (done p opc fields v).io.out = pre ++ .mbox p opc "SUCCESS" (payloadOf fields) :: v.io.out

/-- Commands of the owner's mailbox (R54, R95, R96, R99, R338, R565, R619, R622, R638): event records are released; a line becomes poisoned and
stands in the poison list, or is written and leaves it; the first body part of an image begins a background command, leaves its slot
invalid and the transfer belongs to the port; the header makes the slot whole and ends the transfer; an activation arms the inactive
image. Both reach the boot flash over DMA channel 16, which must be secure. A host that is not the owner is answered NOT_OWNER. -/
def Obligations.MailboxOwnerCommands : Prop :=
  ∀ (s : State) (p typ da sk : Nat) (d : Line) (hs : List Nat) (img : Image), Claims.Mail s p →
    let v := Claims.mailed s
    (Claims.Owns s p →
      exec (.clearEventRecords p hs) s = .next (done p 0x0101 [] (eachIn hs releaseHandle v)) ∧
      (mapDa s da = .ok sk →
        exec (.injectPoison p da) s = .next (done p 0x4301 [] (ownWrite da sk 0 true (addPoison sk (da / 64 % 4) v))) ∧
        exec (.clearPoison p da d) s = .next (done p 0x4302 [] (ownWrite da sk d false
          (onCache (fun c => { c with poison := c.poison.filter (· != 4 * sk + da / 64 % 4) }) v)))) ∧
      (dmaSecure s 16 = true →
        (1 ≤ typ → typ ≤ 3 → img.typ = typ →
          (s.mgt.boot.transfer = none → bgBusy s p = false →
            exec (.transferFw p typ false img) s =
              .next (onBoot (fun b => { b with transfer := some p }) (onFlash (putImage typ false none) (cmdBegin p 0x0201 v))) ∧
            exec (.transferFw p typ true img) s = .next (bgEnd p 0x0201 "SUCCESS" (onFlash (putImage typ false (some img))
              (onBoot (fun b => { b with transfer := none }) (cmdBegin p 0x0201 v))))) ∧
          (s.mgt.boot.transfer = some p →
            exec (.transferFw p typ false img) s =
              .next (onBoot (fun b => { b with transfer := some p }) (onFlash (putImage typ false none) v)) ∧
            exec (.transferFw p typ true img) s = .next (bgEnd p 0x0201 "SUCCESS" (onFlash (putImage typ false (some img))
              (onBoot (fun b => { b with transfer := none }) v))))) ∧
        ((inactive 1 false s.mgt.flash).isSome → exec (.activateFw p 1 false) s =
          .next (done p 0x0202 [] (onFlash (fun f => { f with mcfPending := true, seq := f.seq + 1 }) v))) ∧
        ((inactive 2 false s.mgt.flash).isSome → exec (.activateFw p 2 false) s =
          .next (done p 0x0202 [] (onFlash (fun f => { f with pcfPending := true, seq := f.seq + 1 }) v)))) ∧
      (dmaSecure s 16 = false → (inactive 1 false s.mgt.flash).isSome → exec (.activateFw p 1 false) s =
        .next (mboxDone p 0x0202 "INTERNAL_ERROR" [] (raise Ev.secAttrFault 0 16 (tally Ctr.SEC_ATTR_FAULT 1 v))))) ∧
    (isOwner s (mailboxOf p) = false → ∀ c ∈ [Instr.clearEventRecords p hs, .injectPoison p da, .clearPoison p da d,
        .transferFw p typ false img, .transferFw p typ true img, .activateFw p typ false, .reserveArm p 0, .mediaFormat p],
      ∃ o, exec c s = .next (mboxDone p o "NOT_OWNER" [] v))

/-- RESERVE_CTL (R366, R367): ARM and DISARM set and clear the arming bit and the reserve state is evaluated at once; RECHARGE takes the
banks out of Isolated and answers at once; DISCHARGE is a background command that answers once no bank of its mask is still
discharging. Reserved bits are refused. -/
def Sys2Proof.Claims.ReserveCommands : Prop :=
  ∀ (s : State) (p banks : Nat), Claims.Mail s p → Claims.Owns s p →
    let v := Claims.mailed s
    exec (.reserveArm p 0) s = .next (done p 0xC050 [] (settle (rstateNow (hwFld Reg.LDG_CTL 0 0 1 v)))) ∧
    exec (.reserveDisarm p 0) s = .next (done p 0xC050 [] (settle (rstateNow (hwFld Reg.LDG_CTL 0 0 0 v)))) ∧
    exec (.reserveRecharge p banks 0) s = .next (done p 0xC050 [] (eachIn (maskBanks banks) rechargeBank v)) ∧
    (bgBusy s p = false →
      let t := settle (eachIn (maskBanks banks) dischargeBank (cmdBegin p 0xC050 v))
      let left := (maskBanks banks).filter fun n => (bank t n).st == .discharging || (bank t n).disReq
      exec (.reserveDischarge p banks 0) s = .next
        (if left = [] then bgEnd p 0xC050 "SUCCESS" t else onRsv (fun r => { r with waiters := r.waiters ++ [(p, left)] }) t)) ∧
    (∀ rsv, rsv ≠ 0 → ∀ c ∈ [Instr.reserveArm p rsv, .reserveDisarm p rsv, .reserveRecharge p banks rsv, .reserveDischarge p banks rsv],
      exec c s = .next (mboxDone p 0xC050 "INVALID_INPUT" [] v))

/-- Keys of the escrow (R543, R559, R560): in Tamper-Lock the recorded key takes the media keys and ranges of the area in force and a new
root key, and writes the area; with that write complete, Tamper-Lock ends with EV_ESCROW_UNLOCK. A key that does not match is counted,
and from the fourth in succession a wait begins that doubles up to an hour. CHANGE with the key in force writes the area under the new
one. The wait's end changes nothing but time. -/
def Sys2Proof.Claims.KeyEscrow : Prop :=
  (∀ (s : State) (p key : Nat) (tr : Trailer) (a : Area), serves s p = true → s.mgt.boot.mode ≠ 2 → Claims.Owns s p → ioSecured s p = true →
    Claims.Trailed s p tr → s.sec.lock ≠ 0 → s.sec.ready = true → s.mgt.boot.mediaDone = true → s.mgt.nv.escUntil ≤ s.tb →
    s.sec.unlock = none → members s ≠ [] → s.sec.area = some a →
    let v := cmdBegin p 0xC030 (onSec (fun x => { x with asserted := [] }) (Claims.trailed tr (Claims.mailed s)))
    (a.escrow = key → exec (.keyEscrowUnlock p key [] tr) s = .next (settle (bootPump (writeArea key { v with
      sec := { v.sec with
        draws := v.sec.draws + 1, gens := v.sec.gens + 1, root := some v.sec.draws, media := a.keys, ranges := a.ranges
        areaQ := [], areaA := [], areaB := [], unlock := some p } }).2))) ∧
    (a.escrow ≠ key → ∃ t, exec (.keyEscrowUnlock p key [] tr) s = .next t ∧ t.sec.lock = s.sec.lock ∧ t.sec.media = s.sec.media ∧
      t.mgt.nv.escFails = s.mgt.nv.escFails + 1 ∧
      t.mgt.nv.escUntil = (if s.mgt.nv.escFails < 3 then s.mgt.nv.escUntil
        else s.tb + 1000000000 * min 3600 (10 * 2 ^ (min 16 (s.mgt.nv.escFails - 3)))))) ∧
  (∀ (s : State) (p : Nat), s.sec.unlock = some p → s.sec.areaQ = [] →
    unlockStep s = leaveLock (raise Ev.escrowUnlock 0 p (bgEnd p 0xC030 "SUCCESS" { s with
      sec := { s.sec with unlock := none }, mgt := { s.mgt with nv := { s.mgt.nv with escFails := 0, escUntil := 0 } } }))) ∧
  (∀ (s : State) (p key new : Nat) (tr : Trailer), Claims.Mail s p → Claims.Owns s p → ioSecured s p = true → Claims.Trailed s p tr →
    s.sec.ready = true → s.mgt.nv.escUntil ≤ s.tb → opRuns s p 0xC030 = false → s.sec.area.isSome = true → areaEscrow s = key →
    exec (.keyEscrowChange p key new tr) s = .next (awaitArea p 0xC030 0
      (writeArea new (escrowOk (Claims.trailed tr (Claims.mailed s)))).2)) ∧
  (∀ s : State, s.tb < s.mgt.nv.escUntil → exec .escrowWaitExpire s = .next { s with tb := s.mgt.nv.escUntil })

/-- Commands within an SPDM session on enclaves and media keys (R341, R343, R552 to R555): CREATE enters the new ranges as creating under a key of the enclave;
DESTROY takes the bindings away and marks the ranges; ROTATE draws the new generation of a key and walks its pages; each
starts with a write of the wrapped-key area. ASSIGN_STAGE stores its items as one store (R564). A trailer that does not
authenticate is answered ENCLAVE_DENIED. -/
def Sys2Proof.Claims.SessionCommands : Prop :=
  ∀ (s : State) (p id : Nat) (tr : Trailer), Claims.Mail s p → Claims.Owns s p →
    let v := Claims.trailed tr (Claims.mailed s)
    (Claims.Trailed s p tr → 0 < id → id < 1024 →
      (∀ (ranges binds rs : List (Nat × Nat)), s.sec.ready = true → ranges.length ≤ 16 → binds.length ≤ 16 → enclaveBusy s p Mb.create id = false →
        newRanges s id ranges = .ok rs → (∀ b ∈ binds, mayBind s id b = true) →
        let u := enclaveKey id v
        let u := onSec (fun x => { x with
          ranges := ((freeRanges u rs.length).zip rs).foldl (fun t e => tblPut t e.1 ⟨e.2.1, e.2.2, id, .creating⟩) x.ranges }) u
        exec (.enclaveCreate p id ranges binds 0 tr) s = .next (enclaveOp p Mb.create id id
          (rs.map fun r => (16 * r.1, 16 * (r.2 + 1))) (binds.map fun b => 4 * b.1 + b.2) u)) ∧
      (enclaveBusy s p Mb.destroy id = false → s.sec.ranges.any (·.2.encl == id) = true →
        exec (.enclaveDestroy p id 0 tr) s = .next (enclaveOp p Mb.destroy id 0
          ((s.sec.ranges.filter (·.2.encl == id)).map fun r => (16 * r.2.base, 16 * (r.2.last + 1))) []
          (onRanges id (fun r => some { r with st := .destroying })
            (onSec (fun x => { x with binds := tblFilter (fun _ e => e != id) x.binds }) v))))) ∧
    (∀ (k : Nat) (x : MediaKey), Claims.Trailed s p tr → s.sec.ready = true → s.med.jrnl.rot = none → opRuns s p 0xC033 = false →
      tblFind s.sec.media k = some x →
      let g := (x.gen + 1) % 16
      let u := onJrnl (fun j => { j with rot := some ⟨k, x.gen, g, 0, false⟩ }) (onSec (fun y => { y with
        draws := y.draws + 1, gens := y.gens + 1, media := tblPut y.media k ⟨g, s.sec.draws, some (x.gen, x.tok)⟩ }) v)
      exec (.keyRotate p k tr) s = .next (awaitArea p 0xC033 k (writeArea (areaEscrow u) u).2)) ∧
    (∀ items : List (Nat × Nat × Nat), Claims.Trailed s p tr → items ≠ [] → items.length ≤ 64 → (∀ i ∈ items, (stageItem i).isSome = true) →
      s.mgt.nv.job = none → (bankSlots s s.mgt.nv.cur).length + items.length + 1 ≤ 6656 →
      (∃ q, q < portCount s ∧ nvGet ((items.filterMap stageItem).foldl (fun t r => nvRecord t (.change r.1 r.2.1 r.2.2)) (nvStored s))
        (NvT.assign + q) % 4 = 0) →
      exec (.assignStage p items 0 tr) s =
        .next (onNv (fun n => { n with job := some (.store (items.filterMap stageItem) (some p)) }) (cmdBegin p 0xC034 v))) ∧
    (tr.macOk = false → ∀ c ∈ [Instr.enclaveCreate p id [] [] 0 tr, .enclaveDestroy p id 0 tr, .keyRotate p id tr, .assignStage p [] 0 tr],
      ∃ o, exec c s = .next (mboxDone p o "ENCLAVE_DENIED" [] (raise Ev.spdmAuthFail 0 p (tally Ctr.SEC_AUTH_FAIL 1 (Claims.mailed s)))))

/-- Keys of the escrow (R543, R559, R560): in Tamper-Lock the recorded key takes the media keys and ranges of the area in force
and a new root key, and writes the area; with that write complete, Tamper-Lock ends with EV_ESCROW_UNLOCK. A key that does not
match is counted, and from the fourth in succession a wait begins that doubles up to an hour. CHANGE with the key in force
writes the area under the new one. The wait's end changes nothing but time. Commands within an SPDM session on enclaves and
media keys (R341, R343, R552 to R555): CREATE enters the new ranges as creating under a key of the enclave; DESTROY takes the
bindings away and marks the ranges; ROTATE draws the new generation of a key and walks its pages; each starts with a write of
the wrapped-key area. ASSIGN_STAGE stores its items as one store (R564). A trailer that does not authenticate is answered
ENCLAVE_DENIED. -/
def Obligations.KeysAndSessions : Prop :=
  Claims.KeyEscrow ∧
  Claims.SessionCommands

/-! ### Ranges, fences, atomics of the mailbox -/

namespace Sys2Proof.Claims

open Sys2Proof.Machine

/-- What a trailer leaves of the state, if there is one. -/
def trailedBy (tr : Option Trailer) (s : State) : State :=
  match tr with
  | some t => trailed t s
  | none => s

/-- A range command of a port begins as a background command: it holds an entry, and its sectors wait for the engines, for the enclave
of its trailer. -/
def ranged (p opc stage da len : Nat) (tr : Option Trailer) (s : State) : State :=
  let seg := if len = 0 then [] else [(da / 256, (da + len) / 256)]
  let o : RangeOp := {
    port := p, opcode := opc, stage := stage, segs := seg, all := seg, encl := (tr.map (·.encl)).getD 0, setEncl := none,
    binds := [], status := [], waits := [], flushing := [] }
  settle (onCache (fun c => { c with ops := c.ops ++ [o] }) (cmdBegin p opc (trailedBy tr (mailed s))))

end Sys2Proof.Claims

/-- Range commands of a mailbox (R95, R96, R97, R551): any host's, with a trailer that authenticates or none; a range of whole sectors starts as a
background command, whose sectors the engines then take one at a time; bounds within a sector are refused, and while a
background command of the port runs it is answered BUSY. ZALLOC_SECTOR_OP takes the next sector of a ZALLOC (R183): an unmapped one
leaves the range without a request, one in reach is requested as a whole-sector zero. -/
def Sys2Proof.Claims.RangeCommands : Prop :=
  (∀ (s : State) (p da len : Nat) (tr : Option Trailer), Claims.Mail s p → (∀ t, tr = some t → Claims.Trailed s p t) →
    let v := Claims.mailed s
    (da % 256 = 0 → len % 256 = 0 → bgBusy s p = false →
      exec (.zalloc p da len tr) s = .next (Claims.ranged p 0xC000 1 da len tr s) ∧
      exec (.prefetch p da len tr) s = .next (Claims.ranged p 0xC001 1 da len tr s) ∧
      exec (.pin p da len tr) s = .next (Claims.ranged p 0xC002 1 da len tr s) ∧
      exec (.unpin p da len tr) s = .next (Claims.ranged p 0xC003 1 da len tr s) ∧
      exec (.flush p da len tr) s = .next (Claims.ranged p 0xC004 2 da len tr s) ∧
      exec (.inval p da len tr) s = .next (Claims.ranged p 0xC005 1 da len tr s)) ∧
    ∀ c ∈ [(Instr.zalloc p da len tr, 0xC000), (.prefetch p da len tr, 0xC001), (.pin p da len tr, 0xC002),
        (.unpin p da len tr, 0xC003), (.flush p da len tr, 0xC004), (.inval p da len tr, 0xC005)],
      (da % 256 ≠ 0 ∨ len % 256 ≠ 0 → exec c.1 s = .next (mboxDone p c.2 "INVALID_INPUT" [] v)) ∧
      (da % 256 = 0 → len % 256 = 0 → bgBusy s p = true →
        exec c.1 s = .next (mboxDone p c.2 "BUSY" [] (Claims.trailedBy tr v)))) ∧
  ∀ (s : State) (p a b : Nat) (o : RangeOp) (r : List (Nat × Nat)),
    s.cache.ops.find? (fun o => o.port == p && o.stage == 1 && !o.segs.isEmpty && (o.opcode == 0xC000 || o.setEncl.isSome)) = some o →
    o.segs = (a, b) :: r → o.opcode ∉ [0xC001, 0xC002, 0xC003, 0xC005] →
    (∀ sk, (if o.setEncl.isSome = true then Except.ok (devId s * 2 ^ 40 + a) else mapDa s (256 * a)) = .ok sk →
      exec (.zallocSectorOp p) s = .next (settle (onOp o.port o.opcode RangeOp.advance
        (spawn o (256 * a) sk (.zalloc (o.setEncl.map (·.2))) s)))) ∧
    (∀ why, o.setEncl = none → mapDa s (256 * a) = .error why →
      exec (.zallocSectorOp p) s = .next (settle (onOp o.port o.opcode
        (fun o => (noteStatus (256 * a / 2 ^ 36) "UNMAPPED" o).skipWindow) (tellUnmapped why (256 * a) o.port s))))

/-- Fences (R101 to R104, R193): a fence waits for the writes that its ports had sent when it was issued, of its own port or, with
SCOPE_ALL, of every port. A doorbell's fence is one of its own port; with 16 outstanding it is discarded with OVF and
EV_HP_FENCE_OVF. GPF phase 1 withholds RwD credits on every port and phase 2 is a DFENCE over all ports. -/
def Obligations.FenceCommands : Prop :=
  (∀ (s : State) (p : Nat) (all : Bool), Claims.Mail s p → bgBusy s p = false →
    let v := Claims.mailed s
    let limits := if all then (List.range (portCount s)).map fun q => (q, s.cache.wseq.getD q 0) else [(p, s.cache.wseq.getD p 0)]
    let issued := fun (f : Fence) (s : State) => settle (onCache (fun c => { c with fences := c.fences ++ [f] }) s)
    exec (.dfence p (if all then 1 else 0)) s = .next (issued ⟨true, p, limits, .mailbox⟩ (cmdBegin p 0xC010 v)) ∧
    exec (.ofence p (if all then 1 else 0)) s = .next (issued ⟨false, p, limits, .mailbox⟩ (cmdBegin p 0xC011 v)) ∧
    (∀ w, 2 ≤ w → exec (.dfence p w) s = .next (mboxDone p 0xC010 "INVALID_INPUT" [] v) ∧
      exec (.ofence p w) s = .next (mboxDone p 0xC011 "INVALID_INPUT" [] v))) ∧
  (∀ (s : State) (p seq : Nat) (irq : Bool), offers s p = true →
    (doorbells s p < 16 →
      let v := onPort p (fun x => { x with ovf := false }) s
      exec (.doorbellDfence p seq irq) s = .next (issueFence ⟨true, p, [(p, s.cache.wseq.getD p 0)], .doorbell (seq % 65536) irq⟩ v) ∧
      exec (.doorbellOfence p seq irq) s = .next (issueFence ⟨false, p, [(p, s.cache.wseq.getD p 0)], .doorbell (seq % 65536) irq⟩ v)) ∧
    (16 ≤ doorbells s p →
      let v := raise Ev.hpFenceOvf 0 p (onPort p (fun x => { x with ovf := true }) s)
      exec (.doorbellDfence p seq irq) s = .next v ∧ exec (.doorbellOfence p seq irq) s = .next v)) ∧
  (∀ (s : State) (p : Nat), serves s p = true →
    exec (.gpfPhase1 p) s = .next { s with
      hpt := { s.hpt with ports := s.hpt.ports.map (fun x => { x with gpf := true }) }
      io := { s.io with out := .cxl p 0 "GPFPhase1Cpl" none false :: s.io.out } } ∧
    exec (.gpfPhase2 p) s = .next (issueFence
      ⟨true, p, (List.range (portCount s)).map fun q => (q, s.cache.wseq.getD q 0), .gpf⟩ s))

/-- ATOMIC and APPEND of a mailbox (R100, R221, R225): aligned, of a width that their operation has, they are admitted at their sector for the
mailbox with the enclave of their trailer; a misaligned one, and an APPEND of no byte or more than 64, is refused. MEDIA_FORMAT needs
READY and refuses when the configuration makes no media set; else it begins one (R71, R96). -/
def Sys2Proof.Claims.MailboxDataCommands : Prop :=
  ∀ (s : State) (p da len sk : Nat) (a : Atom) (d : Line), Claims.Mail s p →
    let v := Claims.mailed s
    let t := { Txn.blank with pool := .host p, src := .mbox p, da := da, sk := sk, line := da / 64 % 4 }
    (∀ tr : Option Trailer, mapDa s da = .ok sk → (∀ t, tr = some t → Claims.Trailed s p t) →
      let e := (tr.map (·.encl)).getD 0
      (mailAtomic a = true → da % a.width = 0 → exec (.atomic p da a tr) s =
        .next (settle (admitTxn { t with tag := 0xC020, kind := .atomic { a with off := da % 64 }, encl := e, data := 0 }
          (Claims.trailedBy tr v)).2)) ∧
      (da % 64 = 0 → 0 < len → len ≤ 64 → exec (.append p da len d tr) s =
        .next (settle (admitTxn { t with tag := 0xC021, kind := .append len, encl := e, data := d } (Claims.trailedBy tr v)).2))) ∧
    (mailAtomic a = false ∨ da % a.width ≠ 0 → exec (.atomic p da a none) s = .next (mboxDone p 0xC020 "INVALID_INPUT" [] v)) ∧
    (da % 64 ≠ 0 ∨ len = 0 ∨ 64 < len → exec (.append p da len d none) s = .next (mboxDone p 0xC021 "INVALID_INPUT" [] v)) ∧
    (Claims.Owns s p → s.sec.ready = false → exec (.mediaFormat p) s = .next (mboxDone p 0xC040 "NOT_READY" [] v)) ∧
    (Claims.Owns s p → s.sec.ready = true → bgBusy s p = false →
      (foundAll s = [] ∨ min 32 (foundAll s).length < fld s Reg.MED_LAYOUT 5 0 →
        ∃ u, exec (.mediaFormat p) s = .next (bgEnd p 0xC040 "INVALID_INPUT" u) ∧ u.med.media = s.med.media) ∧
      (foundAll s ≠ [] → fld s Reg.MED_LAYOUT 5 0 ≤ (foundAll s).length →
        ∃ u, createSet (some p) (cmdBegin p 0xC040 v) = some u ∧ exec (.mediaFormat p) s = .next (settle (moveStaged u))))

/-- Range commands of a mailbox (R95, R96, R97, R551): any host's, with a trailer that authenticates or none; a range of whole
sectors starts as a background command, whose sectors the engines then take one at a time; bounds within a sector are refused,
and while a background command of the port runs it is answered BUSY. ZALLOC_SECTOR_OP takes the next sector of a ZALLOC (R183):
an unmapped one leaves the range without a request, one in reach is requested as a whole-sector zero. ATOMIC and APPEND of a
mailbox (R100, R221, R225): aligned, of a width that their operation has, they are admitted at their sector for the mailbox with
the enclave of their trailer; a misaligned one, and an APPEND of no byte or more than 64, is refused. MEDIA_FORMAT needs READY
and refuses when the configuration makes no media set; else it begins one (R71, R96). -/
def Obligations.RangeAndDataCommands : Prop :=
  Claims.RangeCommands ∧
  Claims.MailboxDataCommands

/-! ### Coherence messages -/

namespace Sys2Proof.Claims

open Sys2Proof.Machine

/-- A message for this device arrives in order on a fabric port that carries messages, in Run. -/
def Arrives (s : State) (p lane seq : Nat) (m : FMsg) : Prop :=
  fpOk s p = true ∧ (fport s p).carries = true ∧ lane < 2 ∧ seq = ((fport s p).rxSeq + 1) % 4096 ∧ m.dst = ownNode s ∧ s.fab.idPending = false ∧
    s.rsv.pst = .run

/-- What every arriving message does: SEQ advances and its flits stand in the receive buffer. -/
def arrived (p lane : Nat) (m : FMsg) (s : State) : State :=
  tally Ctr.FAB_FLIT_RX (flitsOf m.opc) (onFPort p (fun x => { x with
    rxSeq := (x.rxSeq + flitsOf m.opc) % 4096, nakking := false
    rxFlits := setAt x.rxFlits (vcl (vcOf m.opc) lane) (· + flitsOf m.opc) }) s)

/-- Its flits leave the buffer and their credits go back. -/
def left (p lane : Nat) (m : FMsg) (s : State) : State := rxRelease p (vcOf m.opc) lane (flitsOf m.opc) s

/-- A message that is taken at once: its flits leave the buffer before it acts. -/
def took (p lane : Nat) (m : FMsg) (s : State) : State := left p lane m (arrived p lane m s)

/-- The sector of the message has this device as its home, with the capacity for it. -/
def HomeHere (s : State) (m : FMsg) : Prop := skHome m.sk = devId s ∧ 256 * skSo m.sk < homeCap s

/-- The message is not too old (R269): with time locked at both ends, it was sent at most half of TO_US ago. -/
def Fresh (s : State) (m : FMsg) : Prop := s.fab.locked = true → m.tl = true → s.tb ≤ m.time + halfTo s

/-- What a request's arrival at its home leaves: it is counted, admitted as t, and recorded until its ACK. -/
def homed (ctr : Nat) (rec : Bool) (m : FMsg) (t : Txn) (s : State) : State :=
  let r := admitTxn t (tally ctr 1 s)
  if rec then newRec m r.1 r.2 else r.2

end Sys2Proof.Claims

/-- Requests and returned data at their home (R256, R259, R264, R270, R278): one that is new, not late and for a sector of this device is
counted, admitted and, but for RD_NA, recorded; one for a sector that is not at home here is refused with ERR. -/
def Obligations.FabricRequests : Prop :=
  ∀ (s : State) (p lane seq : Nat) (m : FMsg), Claims.Arrives s p lane seq m → recOf s m.tid = none →
    Claims.Fresh s m →
    let v := Claims.arrived p lane m s
    (Claims.HomeHere s m →
      (m.src % 64 = 0 → m.opc = Op.rdS → exec (.rdS p lane seq m) s =
        .next (settle (Claims.homed Ctr.FX_RD_S true m (fabTxn p lane m .fabReq .fRdS) v))) ∧
      (m.src % 64 = 0 → m.opc = Op.rdO → exec (.rdO p lane seq m) s =
        .next (settle (Claims.homed Ctr.FX_RD_O true m (fabTxn p lane m .fabReq .fRdO) v))) ∧
      (m.src % 64 = 0 → m.opc = Op.rdONA → exec (.rdOna p lane seq m) s =
        .next (settle (Claims.homed Ctr.FX_RD_ONA true m (fabTxn p lane m .fabReq (.fOwn (m.flag Fl.z))) v))) ∧
      (m.src % 64 = 0 → m.opc = Op.fhb → exec (.fhb p lane seq m) s =
        .next (settle (Claims.homed Ctr.FX_WB_RX true m (fabTxn p lane m .fabRet (.fFhb (m.flag Fl.held))) v))) ∧
      (m.src % 64 = 0 → m.opc = Op.wb → exec (.wb p lane seq m) s = .next (settle (Claims.homed
        (if m.flag Fl.keep then Ctr.FX_WB_KEEP_RX else Ctr.FX_WB_RX) true m (fabTxn p lane m .fabRet (.fWb (m.flag Fl.keep))) v))) ∧
      (m.opc = Op.rdNA → exec (.rdNa p lane seq m) s =
        .next (settle (Claims.homed Ctr.FX_RD_NA false m (fabTxn p lane m .fabReq .fRdNA) v))) ∧
      (m.opc = Op.wrNA → exec (.wrNa p lane seq m) s = .next (settle (Claims.homed Ctr.FX_WR_NA true m { fabTxn p lane m .fabReq .fWrNA with
        opnds := maskBits m.bmask, lst := maskLst m.bmask, wport := 4 } v))) ∧
      (∀ a, m.opc = Op.atom → m.atom = some a → exec (.atom p lane seq m) s =
        .next (settle (Claims.homed Ctr.FX_ATOM true m (fabTxn p lane m .fabReq (.fAtom a)) v))) ∧
      (m.opc = Op.atom → m.atom = none → exec (.atom p lane seq m) s =
        .next (settle (Claims.homed Ctr.FX_ATOM true m (fabTxn p lane m .fabReq (.append m.alen)) v)))) ∧
    (skHome m.sk ≠ devId s → m.opc = Op.rdNA → exec (.rdNa p lane seq m) s =
      .next (settle (Claims.left p lane m (refuse m 1 (tally Ctr.FX_RD_NA 1 v)))))

/-- Snoops at a holder (R260, R262): each is admitted in the class of snoops with the node that wants the data; SNP_REFWD
sends held data again to the node it names, and answers RSP_MISS where nothing is held. -/
def Sys2Proof.Claims.FabricSnoops : Prop :=
  ∀ (s : State) (p lane seq : Nat) (m : FMsg), Claims.Arrives s p lane seq m →
    let v := Claims.arrived p lane m s
    let w := Claims.took p lane m s
    let fw := if m.flag Fl.fwd then some m.requester else none
    (m.opc = Op.snpS → exec (.snpS p lane seq m) s = .next (settle (admitTxn (fabTxn p lane m .fabSnp (.snpS fw)) v).2)) ∧
    (m.opc = Op.snpInv → exec (.snpInv p lane seq m) s = .next (settle (admitTxn (fabTxn p lane m .fabSnp (.snpInv fw)) v).2)) ∧
    (m.opc = Op.snpCur → exec (.snpCur p lane seq m) s =
      .next (settle (admitTxn (fabTxn p lane m .fabSnp (.snpCur m.requester)) v).2)) ∧
    (m.opc = Op.snpRefwd →
      (holdOf s m.sk m.tid = none → exec (.snpRefwd p lane seq m) s =
        .next (settle (sendMsg (msgTo w Op.rspMiss m.src m.tid m.gen m.sk) w))) ∧
      (∀ k, holdOf s m.sk m.tid = some k → m.aux ≠ m.src →
        let x := wayAt s k
        exec (.snpRefwd p lane seq m) s = .next (settle (sendMsg { msgTo w Op.data m.aux m.tid m.gen m.sk with
          st := Fs.e, encl := x.encl, lst := wayLst x, blk := wayBlk x } w))))

/-- Answers to snoops at the home (R249, R258 to R262, R280): each ends its snoop; RSP_I and RSP_MISS drop the holder from the directory, RSP_S
leaves it a sharer, RSP_FWD records that the requester has its data, and a hold where it says so; RSP_MISS with WB_PEND leaves the snoop to
the WB on its way; RSP_PEND restarts the timer of what waits. An answer to no snoop is stale. -/
def Sys2Proof.Claims.FabricSnoopAnswers : Prop :=
  ∀ (s : State) (p lane seq : Nat) (m : FMsg), Claims.Arrives s p lane seq m →
    let w := Claims.took p lane m s
    let gone := fun (x : SnpOut) (s : State) => onDirOf x.sk (fun k s => dirDrop k x.holder s) s
    (∀ x, snpOf s m = some x →
      (m.opc = Op.rspI → exec (.rspI p lane seq m) s = .next (settle (answered x (gone x w)))) ∧
      (m.opc = Op.rspS → exec (.rspS p lane seq m) s = .next (settle (answered x (onDirOf x.sk ownerShares w)))) ∧
      (m.opc = Op.rspMiss → m.flag Fl.wbPend = false → exec (.rspMiss p lane seq m) s =
        .next (settle (answered x (tally Ctr.FX_SNP_STALE 1 (gone x w))))) ∧
      (m.opc = Op.rspMiss → m.flag Fl.wbPend = true → exec (.rspMiss p lane seq m) s = .next (settle (onFab (fun f => { f with
        snps := f.snps.map (fun y => if y = x then { y with opc := Op.wb } else y) }) w))) ∧
      (m.opc = Op.rspFwd → m.flag Fl.held = false → m.st = Fs.i → exec (.rspFwd p lane seq m) s =
        .next (settle (answered x (gone x (supplied x w))))) ∧
      (m.opc = Op.rspFwd → m.flag Fl.held = true → m.st = Fs.s → exec (.rspFwd p lane seq m) s = .next (settle (answered x
        (tally Ctr.FX_HOLD 1 (onRec m.tid (fun r => { r with hold := some x.holder })
          (onFab (fun f => { f with holds := f.holds ++ [(x.sk, x.holder, m.requester / 64)] })
            (onDirOf x.sk ownerShares (supplied x w))))))))) ∧
    (∀ r, snpOf s m = none → m.opc = Op.rspMiss → recOf s m.tid = some r → r.hold = some (m.src / 64) →
      exec (.rspMiss p lane seq m) s = .next (settle (holdGone r (tally Ctr.FX_SNP_STALE 1 w)))) ∧
    (snpOf s m = none → (∀ r, recOf s m.tid = some r → r.hold ≠ some (m.src / 64)) → ∀ c ∈ [(Instr.rspI p lane seq m, Op.rspI), (.rspS p lane seq m, Op.rspS), (.rspMiss p lane seq m, Op.rspMiss),
      (.rspFwd p lane seq m, Op.rspFwd)], m.opc = c.2 → exec c.1 s = .next (settle (stale m w))) ∧
    (m.opc = Op.rspPend → exec (.rspPend p lane seq m) s = .next (settle (onFab (fun f => { f with
      snps := f.snps.map (fun x => if x.holder = m.src / 64 ∧ x.sk = m.sk then { x with at_ := s.tb } else x)
      reqs := f.reqs.map (fun r => if r.msg.tid = m.tid ∧ r.msg.sk = m.sk then { r with at_ := s.tb } else r)
      wbs := f.wbs.map (fun x => if x.tid = m.tid ∧ x.sk = m.sk then { x with at_ := s.tb } else x) }) w)))

/-- Snoops at a holder (R260, R262): each is admitted in the class of snoops with the node that wants the data; SNP_REFWD sends
held data again to the node it names, and answers RSP_MISS where nothing is held. Answers to snoops at the home (R249, R258 to
R262, R280): each ends its snoop; RSP_I and RSP_MISS drop the holder from the directory, RSP_S leaves it a sharer, RSP_FWD
records that the requester has its data, and a hold where it says so; RSP_MISS with WB_PEND leaves the snoop to the WB on its
way; RSP_PEND restarts the timer of what waits. An answer to no snoop is stale. -/
def Obligations.FabricSnoops : Prop :=
  Claims.FabricSnoops ∧
  Claims.FabricSnoopAnswers

/-- Answers at a requester (R241, R254, R256, R268, R271): of the live transaction, data is installed or handed on and acknowledged, a grant gives ownership
of the copy held, an atomic's result ends it, ERR fails it; of another generation or sector they are stale, of no request of this device they are stale too, else
acknowledged alone. -/
def Sys2Proof.Claims.FabricRequesterAnswers : Prop :=
  ∀ (s : State) (p lane seq : Nat) (m : FMsg), Claims.Arrives s p lane seq m →
    let w := Claims.took p lane m s
    let u := dropReq m.tid w
    (∀ (r : ReqOut) (t : Txn), reqOf s m.tid = some r → r.msg.sk = m.sk → r.msg.gen = m.gen → txnAt s r.txn = some t →
      (∀ k, m.opc = Op.data → r.msg.opc ≠ Op.rdNA → t.fabWay s = some k → exec (.data p lane seq m) s =
        .next (settle (ackTo m (if (wayAt s k).quar = true then lostWay t u else installRemote t m k u)))) ∧
      (m.opc = Op.data → r.msg.opc = Op.rdNA → m.encl = t.encl →
        let bad := m.lst.getD t.line .invalid == .poisonClean || m.lst.getD t.line .invalid == .poisonDirty
        exec (.data p lane seq m) s =
          .next (settle (retireWith t.id bad (answer t "MemData" (some ((m.blk.getD t.line none).getD 0)) bad u)))) ∧
      (∀ k, m.opc = Op.gnt → r.msg.flag Fl.z = false → t.fabWay s = some k → (wayAt s k).quar = false →
        exec (.gnt p lane seq m) s = .next (settle (ackTo m (onTxn t.id (fun t => { t with
          rsv2 := .none, ph := .looked none, since := s.tb })
          (carryHeat k 2 (burstsWritten k [0, 1, 2, 3] (onWay k (fun x => { x with rstate := 2, rsvBy := none }) u))))))) ∧
      (m.opc = Op.atomRes → exec (.atomRes p lane seq m) s = .next (settle (ackTo m
        (endAtom t (AtomOut.ofCode m.cause) (((m.blk.getD 0 none).getD 0).toNat) u)))) ∧
      (m.opc = Op.err → m.cause = 0 → exec (.err p lane seq m) s = .next (settle (ackTo m (failReq t 0 u)))) ∧
      (m.opc = Op.err → m.cause = 1 → exec (.err p lane seq m) s =
        .next (settle (ackTo m (failReq t 1 (tellUnmapped .unmapped t.da 0 u)))))) ∧
    ∀ c ∈ [(Instr.data p lane seq m, Op.data), (.gnt p lane seq m, Op.gnt), (.atomRes p lane seq m, Op.atomRes), (.err p lane seq m, Op.err)],
      m.opc = c.2 →
        (reqOf s m.tid = none → exec c.1 s =
          .next (settle (if m.requester = ownNode s then ackTo m w else stale m w))) ∧
        (∀ r, reqOf s m.tid = some r → (r.msg.sk ≠ m.sk ∨ r.msg.gen ≠ m.gen) → exec c.1 s = .next (settle (stale m w)))

/-- The other messages (R262, R264, R265, R279, R281, R528): CMP ends returned data, or the held data sent home; ACK puts the grant in the directory,
releases a forward hold and ends the record; RLS drops the held copy; EVC_E from the owner removes it, and is answered with CMP; FHB_DONE ends the wait
for its device; SNPDATA's lines come home within their snoop. A message for another device goes on. -/
def Sys2Proof.Claims.FabricOtherMessages : Prop :=
  ∀ (s : State) (p lane seq : Nat) (m : FMsg),
    (Claims.Arrives s p lane seq m →
      let w := Claims.took p lane m s
      (m.opc = Op.cmp →
        (∀ x, s.fab.wbs.find? (fun x => x.tid == m.tid && x.sk == m.sk) = some x →
          exec (.cmp p lane seq m) s = .next (settle (endWb x m w))) ∧
        (∀ k, s.fab.wbs = [] → holdOf s m.sk m.tid = some k → exec (.cmp p lane seq m) s = .next (settle (ackTo m (clearWay k w))))) ∧
      (∀ r, m.opc = Op.ack → recOf s m.tid = some r →
        (r.hold = none → exec (.ack p lane seq m) s = .next (settle (endRec r (recordGrant r w)))) ∧
        (∀ x, r.hold = some x → exec (.ack p lane seq m) s = .next (settle (endRec r
          (let u := recordGrant r w
           let u := sendMsg (msgTo u Op.rls (x * 64) r.tid r.gen r.sk) u
           let u := eachIn (u.fab.aside.filter fun y => y.sk == r.sk && y.src / 64 == x) (fun y s => endAside y false s) u
           onFab (fun f => { f with
             holds := f.holds.filter (fun h => !(h.1 == r.sk && h.2.1 == x))
             marks := f.marks.filter (fun y => !(y.sk == r.sk && y.hold.map (·.1) == some x)) }) u))))) ∧
      (∀ k, m.opc = Op.rls → holdOf s m.sk m.tid = some k → exec (.rls p lane seq m) s = .next (settle (clearWay k w))) ∧
      (m.opc = Op.evcE → Claims.Fresh s m → m.src % 64 = 0 →
        (isOwnerDev s m.sk (m.src / 64) = false → exec (.evcE p lane seq m) s =
          .next (settle (sendMsg (msgTo w Op.cmp m.src m.tid m.gen m.sk) w))) ∧
        (∀ k, isOwnerDev s m.sk (m.src / 64) = true → findWay s m.sk = some k →
          let u := dirDrop k (m.src / 64) w
          exec (.evcE p lane seq m) s = .next (settle (sendMsg (msgTo u Op.cmp m.src m.tid m.gen m.sk) u)))) ∧
      (m.opc = Op.fhbDone → Claims.Fresh s m → m.src % 64 = 0 →
        let d := m.src / 64
        let u := eachIn w.fab.marks (endMark d (m.flag Fl.dirtyLost)) w
        let u := eachIn (u.fab.aside.filter fun y => y.aux == d && !u.fab.marks.any (·.sk == y.sk)) (fun y s => endAside y false s) u
        exec (.fhbDone p lane seq m) s = .next (settle (handedBack (onFab (fun f => { f with
          waiting := f.waiting.filter (· != d), doneFrom := if f.doneFrom.contains d then f.doneFrom else d :: f.doneFrom }) u)))) ∧
      (∀ x, m.opc = Op.snpData → snpOf s m = some x → x.fwd = false → m.st ≠ Fs.s →
        let r := placeReturn m.sk m.lst m.blk [x.txn] (tally Ctr.FX_SNPDATA_RX 1 w)
        let u := onDirOf x.sk (fun k s => dirDrop k x.holder s) r.2
        exec (.snpdata p lane seq m) s = .next (settle (if r.1 then answered x u else
          onFab (fun f => { f with snps := f.snps.map (fun y => if y = x then { y with opc := Op.snpData } else y) }) u)))) ∧
    (fpOk s p = true → (fport s p).carries = true → lane < 2 → seq = ((fport s p).rxSeq + 1) % 4096 → m.dst / 64 ≠ devId s →
      exec (.transitMessage p lane seq m) s = .next (fabPump (onFab (fun f => { f with
        queue := f.queue ++ [⟨m, lane, s.tb, some (p, lane)⟩] }) (Claims.arrived p lane m s)))) ∧
    (fpOk s p = true → (fport s p).carries = true → lane < 2 → seq = ((fport s p).rxSeq + 1) % 4096 → m.dst / 64 = devId s →
      m.dst % 64 ≠ 0 → exec (.transitMessage p lane seq m) s =
        .next (Claims.left p lane m (tally Ctr.FX_STALE_DROP 1 (Claims.arrived p lane m s))))

/-- Answers at a requester (R241, R254, R256, R268, R271): of the live transaction, data is installed or handed on and
acknowledged, a grant gives ownership of the copy held, an atomic's result ends it, ERR fails it; of another generation or
sector they are stale, of no request of this device they are stale too, else acknowledged alone. The other messages (R262, R264,
R265, R279, R281, R528): CMP ends returned data, or the held data sent home; ACK puts the grant in the directory, releases a
forward hold and ends the record; RLS drops the held copy; EVC_E from the owner removes it, and is answered with CMP; FHB_DONE
ends the wait for its device; SNPDATA's lines come home within their snoop. A message for another device goes on. -/
def Obligations.FabricAnswers : Prop :=
  Claims.FabricRequesterAnswers ∧
  Claims.FabricOtherMessages

/-- Timers of the fabric (R251, R259, R261, R267 to R272, R276, R279): a request without an answer is sent again with the next generation while reissues last,
else it fails with EV_FX_FAIL; a response without an ACK and a snoop without an answer are sent again likewise; a transaction that
goes on tells the waiting party; a stall, and a wait for handbacks that lasts, is reported once; a first incarnation is noted and a
changed one starts the peer's handling. -/
def Obligations.FabricTimers : Prop :=
  (∀ (s : State) (tid : Nat) (r : ReqOut), reqOf s tid = some r →
    let v := { s with tb := max s.tb (r.at_ + fullTo s) }
    let home := r.msg.dst / 64
    (r.reissue < maxReissue s →
      let u := raise Ev.fxTimeout (dataPeer home 0 r.msg.tid) 0 (tally Ctr.FX_REISSUE 1 v)
      let m := { r.msg with gen := (r.msg.gen + 1) % 16, time := v.tb, tl := s.fab.locked }
      let o := sendVia (some r.port) m 0 u
      exec (.fxTimeout tid) s = .next (settle (onFab (fun f => { f with reqs := f.reqs.map (fun x =>
        if x = r then { x with msg := m, at_ := v.tb, reissue := r.reissue + 1, port := o.1 } else x) }) o.2))) ∧
    (∀ t, maxReissue s ≤ r.reissue → txnAt s r.txn = some t → exec (.fxTimeout tid) s =
      .next (settle (failReq t 0 (fxFail home 1 r.msg.tid (dropReq r.msg.tid v)))))) ∧
  (∀ (s : State) (tid : Nat) (w : WbOut), reqOf s tid = none → s.fab.wbs.find? (·.tid == tid) = some w →
    exec (.fxTimeout tid) s = .next (settle (wbTimeout w s))) ∧
  (∀ (s : State) (tid : Nat) (r : HRec) (a : FMsg), recOf s tid = some r → r.resp = some a →
    let v := { s with tb := max s.tb (r.respAt + fullTo s) }
    (r.resends < maxReissue s → exec (.homeResponseTimeout tid) s =
      .next (settle (sendMsg a (onRec tid (fun r => { r with respAt := v.tb, resends := r.resends + 1 }) v)))) ∧
    (maxReissue s ≤ r.resends → exec (.homeResponseTimeout tid) s =
      .next (settle (fxFail (r.req / 64) 1 tid (endRec r (recordGrant r v)))))) ∧
  (∀ (s : State) (sk dev : Nat) (x : SnpOut),
    s.fab.snps.find? (fun x => x.sk == sk && x.holder == dev && x.opc != Op.snpData) = some x → maxReissue s ≤ x.resends →
    isOwnerDev s sk dev = false →
    let v := { s with tb := max s.tb (x.at_ + fullTo s) }
    exec (.homeSnoopTimeout sk dev) s = .next (settle (answered x (onDirOf sk (fun k s => dirDrop k dev s)
      (raise Ev.fxHolderLost (dataPeer dev 2 ((txnAt s x.txn).getD { Txn.blank with tid := ownNode s * 2 ^ 22 }).tid) 0
        (hwFld Reg.COH_FX_FAIL 11 0 dev (hwFld Reg.COH_FX_FAIL 15 12 2 v))))))) ∧
  (∀ (s : State) (id : Nat) (t : Txn), txnAt s id = some t → t.isFab = true → t.ph ≠ .ack →
    let v := { s with tb := max s.tb (max t.arr t.pendAt + halfTo s) }
    exec (.rspPendInterval id) s = .next (settle (tally Ctr.FX_PEND_SENT 1 (sendMsg (reply t v Op.rspPend)
      (onTxn t.id (fun t => { t with pendAt := v.tb }) v))))) ∧
  (∀ (s : State) (id w : Nat) (t : Txn), txnAt s id = some t → t.dirAt = some w → t.dirTold = false →
    exec (.dirStallTimeout id) s = .next (raise Ev.dirStall 0 0 (onTxn id (fun t => { t with dirTold := true })
      { s with tb := max s.tb (w + 100000) }))) ∧
  (∀ (s : State) (dev inc : Nat), dev ≠ devId s →
    (tblFind s.fab.incarn dev = none → exec (.peerIncarnationChange dev inc) s =
      .next (settle (onFab (fun f => { f with incarn := tblPut f.incarn dev inc }) s))) ∧
    (∀ old, tblFind s.fab.incarn dev = some old → old ≠ inc → exec (.peerIncarnationChange dev inc) s =
      .next (settle (backPump (markPeer dev (handBack dev (raise Ev.peerRestart (dataPeer dev 0 0) 0
        (onFab (fun f => { f with incarn := tblPut f.incarn dev inc }) s)))))))) ∧
  (∀ s : State, s.fab.waiting ≠ [] → s.fab.waitTold = false → exec .fhbWaitTimeout s =
    .next (raise Ev.fhbWait 0 0 { s with
      tb := max s.tb (s.fab.waitAt + 1000000 * max 1 (fld s Reg.COH_FHB_CFG 15 0)), fab := { s.fab with waitTold := true } }))

/-! ### Tracker, DRAM, set cache, scheduler -/

/-- The tracker and DRAM (R90, R134, R145, R150, R188, R208, R220): a free entry goes to the oldest waiting request that may have one; the bursts
of a probe go on with their request, a return of an old generation is dropped with EV_TRK_STALE_RSP; a request whose DRAM writes are
done retires; one that waits 100 µs for a victim or for the snoop filter is reported, once. -/
def Sys2Proof.Claims.TrackerCommands : Prop :=
  (∀ (s : State) (pre post : List Txn) (t : Txn) (pool : Pool), s.cache.txns = pre ++ t :: post → t.ph = .entry → grantPool s t = some pool →
    (∀ u ∈ pre, u.ph = .entry → grantPool s u = none) →
    exec .trkEntryGrant s = .next (settle (giveEntry t pool s))) ∧
  (∀ s : State, (∀ t ∈ s.cache.txns, t.ph = .entry → grantPool s t = none) → exec .trkEntryGrant s = .next s) ∧
  (∀ (s : State) (id gen : Nat) (rds : List Rd),
    (txnAt s id = none ∨ (∃ t, txnAt s id = some t ∧ t.gen ≠ gen) →
      exec (.dramReadReturn id gen rds) s = .next (raise Ev.trkStaleRsp gen 0 (tally Ctr.TRK_STALE_RSP 1 s))) ∧
    (∀ t ws, txnAt s id = some t → t.gen = gen → t.ph = .probe ws → (∀ a, t.access s = some a → served s a = true) →
      exec (.dramReadReturn id gen rds) s = .next (settle (probeReturn t ws rds s)))) ∧
  (∀ (s : State) (id gen w : Nat) (t : Txn), txnAt s id = some t →
    (t.gen = gen → t.ph = .dram → exec (.dramWriteCompletion ⟨id, gen⟩) s = .next (settle (retire id s))) ∧
    (t.gen ≠ gen →
      exec (.dramWriteCompletion ⟨id, gen⟩) s = .next (raise Ev.trkStaleRsp gen 0 (tally Ctr.TRK_STALE_RSP 1 s))) ∧
    (t.vicAt = some w → t.vicTold = false → exec (.victimStallTimeout id) s = .next (raise Ev.victimStall 0 0
      (onTxn id (fun t => { t with vicTold := true }) { s with tb := max s.tb (w + 100000) }))) ∧
    (t.sfAt = some w → t.sfTold = false → exec (.sfStallTimeout id) s = .next (raise Ev.cohSfStall 0 0
      (onTxn id (fun t => { t with sfTold := true }) { s with tb := max s.tb (w + 100000) }))) ∧
    (t.vicTold = true → exec (.victimStallTimeout id) s = .next s) ∧ (t.sfTold = true → exec (.sfStallTimeout id) s = .next s))

/-- The set cache and the buffers (R126 to R129, R155, R169, R172, R180, R211): a fill whose last burst returns settles what its slices say and becomes usable with the increments it
carried, its budget starts again at the next microsecond; an entry of the write-back buffer that waits 10 ms is reported once; a combining
entry is written out at its age, or its shorter hold while the reserve is not Armed; a queued clean is written; a
queued walk of the snoop filter visits its sets. -/
def Sys2Proof.Claims.BufferCommands : Prop :=
  (∀ (s : State) (set : Nat) (e : Tsc) (rds : List Rd), tscAt s set = some e → e.usable = false →
    (∀ a, e.access s set = some a → served s a = true) →
    let v := upTo 4 (fun w s => fillWay set w (rds.getD w ⟨[]⟩) s) s
    ∃ t, exec (.tscFillDone set rds) s = .next (settle t) ∧
      (∀ f, tscAt v set = some f → f.usable = false → t = putTsc set { f with
        usable := true, heat := (List.range 4).map fun w => min 255 ((wayAt v (4 * set + w)).heat + f.carry.getD w 0)
        chg := (List.range 4).map fun w => decide (0 < f.carry.getD w 0), carry := [0, 0, 0, 0] } v) ∧
      ((∀ f, tscAt v set = some f → f.usable = true) → t = v)) ∧
  (∀ s : State, exec .tscFillBudgetReset s = .next { s with
    tb := (s.tb / 1000 + 1) * 1000, cache := { s.cache with tscFills := [], tscSlot := s.tb / 1000 + 1 } }) ∧
  (∀ (s : State) (sk : Nat) (e : WbE), wbEntry s sk = some e → e.told = false → exec (.wbStageStallTimeout sk) s =
    .next (raise Ev.wbStageStall 0 0 (onCache (fun c => { c with wb := c.wb.map (fun x => if x.sk = sk then { x with told := true } else x) })
      { s with tb := max s.tb (e.at_ + 10000000) }))) ∧
  (∀ (s : State) (sk : Nat) (e : NtE), ntEntry s sk = some e → e.out = none →
    exec (.ntAgeWriteout sk) s = .next (settle (startWriteOut sk .age
      { s with tb := max s.tb (e.at_ + 1000 * fld s Reg.WBF_NT_CFG 9 0) })) ∧
    (s.ldg.st ≠ .armed → exec (.ntHoldWriteout sk) s = .next (settle (startWriteOut sk .hold
      { s with tb := max s.tb (e.at_ + 1000 * fld s Reg.WBF_NT_CFG 15 10) })))) ∧
  (∀ (s : State) (k j stamp : Nat) (rest : List (Nat × Nat)), j < 4 → s.cache.cleanQ = (4 * k + j, stamp) :: rest → exec .cleanQueueApply s =
    .next (drainPump (settle (finishDone (burstsWritten k [j] (carryHeat k j (onCache (fun c => { c with cleanQ := rest }) s))))))) ∧
  (∀ (s : State) (w : Walk) (ws : List Walk), s.cache.walks = w :: ws → w.visited = false → exec .sfSuspectWalk s =
    .next (settle (walkVisit w.set (onCache (fun c => { c with walks := { w with visited := true } :: ws }) s))))

/-- Reservations and copies (R173 to R176, R295): the oldest waiting request of class B, else of class A, is granted what it waits for; the scheduler
copies the next dirty line in its walk's order, passing over hot sectors in Background, and does nothing while it is idle. -/
def Sys2Proof.Claims.ReservationAndScheduler : Prop :=
  (∀ (s : State) (t : Txn) (r : Resv), s.cache.txns.find? (fun t => t.resv == .waiting && !t.kind.classA) = some t → tryB s (t.rsz + 16) = some r →
    exec .reservationGrant s = .next (settle (tellGrant false r (onTxn t.id (fun t => { t with resv := r, ph := .looked none }) s)))) ∧
  (∀ (s : State) (t : Txn) (r : Resv), (∀ u ∈ s.cache.txns, u.resv = .waiting → u.kind.classA = true) → (∀ p, (port s p).owed = []) →
    s.cache.txns.find? (fun t => (t.resv == .waiting && t.kind.classA) || t.rsv2 == .waiting) = some t → t.rsv2 ≠ .waiting →
    tryA s (t.rsz + 16) = .ok r →
    exec .reservationGrant s = .next (settle (tellGrant true r (onTxn t.id (fun t =>
      if t.rsv2 = .waiting then { t with rsv2 := r, ph := .looked none } else { t with resv := r, ph := .looked none }) s)))) ∧
  (∀ (s : State) (r : Rd), (running s = false ∨ schedMode s = .idle) → exec (.wbSchedulerCopy r) s = .next s) ∧
  (∀ (s : State) (r : Rd) (k : Nat) (ks : List Nat), running s = true → schedMode s = .through ∨ schedMode s = .pressure →
    walkOrder s = k :: ks → (wayAt s k).remote = false → wbRoom s false = true →
    let v := clearRegions (passed s.cache.walkPos k) (tally Ctr.WBF_HOT_SKIP 0 (onCache (fun c => { c with skipping := false }) s))
    let next := if (copyable s k).length ≤ 1 then k + 1 else k
    exec (.wbSchedulerCopy r) s = .next (settle (schedCopy k r (onCache (fun c => { c with walkPos := next }) v))))

/-- The tracker and DRAM (R90, R134, R145, R150, R188, R208, R220): a free entry goes to the oldest waiting request that may
have one; the bursts of a probe go on with their request, a return of an old generation is dropped with EV_TRK_STALE_RSP; a
request whose DRAM writes are done retires; one that waits 100 µs for a victim or for the snoop filter is reported, once. The
set cache and the buffers (R126 to R129, R155, R169, R172, R180, R211): a fill whose last burst returns settles what its slices
say and becomes usable with the increments it carried, its budget starts again at the next microsecond; an entry of the
write-back buffer that waits 10 ms is reported once; a combining entry is written out at its age, or its shorter hold while the
reserve is not Armed; a queued clean is written; a queued walk of the snoop filter visits its sets. Reservations and copies
(R173 to R176, R295): the oldest waiting request of class B, else of class A, is granted what it waits for; the scheduler copies
the next dirty line in its walk's order, passing over hot sectors in Background, and does nothing while it is idle. -/
def Obligations.TrackerAndBuffers : Prop :=
  Claims.TrackerCommands ∧
  Claims.BufferCommands ∧
  Claims.ReservationAndScheduler

/-! ### Media and the journal -/

/-- Completions of media commands (R71, R168, R325, R331, R334, R341, R349, R350, R543): a completed read, page, home page or label write frees its command and
goes on with what waited for it; a failed read is issued once more where RETRY_RD is set, an aborted command is issued again, as is a summary page whose write failed the first time. -/
def Sys2Proof.Claims.MediaCompletions : Prop :=
  ∀ (s : State) (cid : Nat) (c : Cmd), findCmd s cid = some c → c.lost = false →
    ((∃ t g, c.what = .fill t g) ∨ (∃ p, c.what = .sinterRd p) →
      exec (.mediaReadCompletion cid .ok) s = .next (mediaOn (readDone c true (endCmd c true true s))) ∧
      exec (.mediaReadCompletion cid .aborted) s = .next (reissue c s) ∧
      (flag s Reg.MED_CMD_CFG 20 = true → c.retried = false → specCid s cid = false → exec (.mediaReadCompletion cid .err) s =
        .next (tally Ctr.MED_RD_RETRY 1 (reissue c (onCmd cid (fun c => { c with retried := true }) s)))) ∧
      (c.retried = true → specCid s cid = false → exec (.mediaReadCompletion cid .err) s =
        .next (mediaOn (readDone c false (endCmd c true false s))))) ∧
    ((∃ q, c.what = .page q) ∨ (∃ ns pg, c.what = .summary ns pg true) →
      exec (.journalPageCompletion cid .ok) s = .next (mediaOn (pageDone c true (endCmd c false true s))) ∧
      exec (.journalPageCompletion cid .err) s = .next (mediaOn (pageDone c false (endCmd c false false s))) ∧
      exec (.journalPageCompletion cid .aborted) s = .next (reissue c s)) ∧
    (∀ ns pg, c.what = .summary ns pg false →
      exec (.journalPageCompletion cid .ok) s = .next (mediaOn (endCmd c false true s)) ∧
      exec (.journalPageCompletion cid .err) s = .next (sumAgain c ns pg s) ∧
      exec (.journalPageCompletion cid .aborted) s = .next (reissue c s)) ∧
    (c.what = .create →
      exec (.journalPageCompletion cid .ok) s = .next (settle (bootPump (mediaOn (makeDone c.ns c.lba (endCmd c false true s))))) ∧
      exec (.journalPageCompletion cid .err) s = .next (settle (bootPump (makePump (endCmd c false false s)))) ∧
      exec (.labelAreaWriteCompletion cid .ok) s = .next (mediaOn (makeDone c.ns c.lba (endCmd c false true s)))) ∧
    (∀ p, c.what = .sinterWr p →
      exec (.sinterHomeWriteDone cid .ok) s = .next (mediaOn (homeWritten p (endCmd c false true s))) ∧
      exec (.sinterHomeWriteDone cid .err) s = .next (mediaOn (homeFailed p (endCmd c false false s))) ∧
      exec (.sinterHomeWriteDone cid .aborted) s = .next (reissue c s)) ∧
    ((∃ n, c.what = .anchor n) ∨ (∃ n, c.what = .area n) →
      exec (.labelAreaWriteCompletion cid .ok) s = .next (settle (bootPump (mediaOn (labelDone c (endCmd c false true s))))) ∧
      exec (.labelAreaWriteCompletion cid .err) s = .next (mediaOn (endCmd c false false s)) ∧
      exec (.labelAreaWriteCompletion cid .aborted) s = .next (reissue c s))

/-- Errors of media ports (R317, R318, R351, R352): a command that takes TO_MS is aborted; an abort that takes it resets the controller, whose
commands are lost; a reset controller that is ready again flushes its namespaces and issues the lost commands again, one that
is not ready within twice TO_MS is lost, as is a port whose link goes down; a controller that reports bad health raises its
event. -/
def Sys2Proof.Claims.MediaErrors : Prop :=
  (∀ (s : State) (cid : Nat) (c : Cmd), findCmd s cid = some c → c.lost = false →
    (c.abortAt = none →
      let v := onCmd cid (fun x => { x with abortAt := some (max s.tb (c.at_ + cmdTo s)) }) { s with tb := max s.tb (c.at_ + cmdTo s) }
      exec (.medCmdTimeout cid) s = .next (raise Ev.medCmdTimeout 0 c.port (rcCount Reg.MED_ERR_STS 31 24 1
        (emit (.nvme c.port cid "ABORT" c.ns c.lba) (tally Ctr.MED_ABORT 1 v))))) ∧
    (∀ t, c.abortAt = some t →
      let tb := max s.tb (t + cmdTo s)
      let v := onMPort c.port (fun p => { p with
        ctl := { p.ctl with ready := false, resetAt := some tb }, cmds := p.cmds.map (fun c => { c with lost := true }) }) { s with tb := tb }
      exec (.medAbortTimeout cid) s = .next (raise Ev.medCtrlReset 0 c.port (emit (.nvme c.port cid "RESET" 0 0) (tally Ctr.MED_CTRL_RESET 1 v))))) ∧
  (∀ (s : State) (p t : Nat), (s.med.ports.getD p MPort.off).ctl.resetAt = some t →
    exec (.medCtrlReadyTimeout p) s = .next (settle (bootPump (portLost p { s with tb := max s.tb (t + 2 * cmdTo s) }))) ∧
    (p < medPortCount s → s.mgt.boot.mode = 0 → s.rsv.pst = .run → ∀ nss last,
      exec (.medCtrlReady p nss last) s = .next (ctlBack p s))) ∧
  (∀ (s : State) (p : Nat), (s.med.ports.getD p MPort.off).link = true →
    exec (.mediaPortLost p) s = .next (settle (bootPump (portLost p s)))) ∧
  (∀ (s : State) (p used : Nat) (warn : Bool), p < s.med.ports.length → (s.med.ports.getD p MPort.off).ctl.ready = true →
    let told := fun (s : State) => if warn = true ∨ 100 ≤ used then raise Ev.medDriveHealth 0 p s else s
    let read := fun (s : State) => onMPort p (fun x => { x with ctl := { x.ctl with polled := s.tb } }) s
    exec (.smartPoll p warn used) s = .next (told (read { s with
      tb := max s.tb ((s.med.ports.getD p MPort.off).ctl.polled + 1000000 * max 1 (fld s Reg.MED_HEALTH_CFG 15 0)) })) ∧
    exec (.nvmeAsyncEvent p warn used) s = .next (told (read s)))

/-- Completions of media commands (R71, R168, R325, R331, R334, R341, R349, R350, R543): a completed read, page, home page or
label write frees its command and goes on with what waited for it; a failed read is issued once more where RETRY_RD is set, an
aborted command is issued again, as is a summary page whose write failed the first time. Errors of media ports (R317, R318,
R351, R352): a command that takes TO_MS is aborted; an abort that takes it resets the controller, whose commands are lost; a
reset controller that is ready again flushes its namespaces and issues the lost commands again, one that is not ready within
twice TO_MS is lost, as is a port whose link goes down; a controller that reports bad health raises its event. -/
def Obligations.MediaCommands : Prop :=
  Claims.MediaCompletions ∧
  Claims.MediaErrors

/-- The journal's own commands (R321, R322, R330, R334, R339, R340, R343): a page is packed 1 µs after its first record; the sinter engine locks its next
page, and the rotation's walk the next page of its key; a checkpoint begins CKPT_MS after the last; the head of a stream passes a
slot in which nothing lives; a rebuilt bucket of the index is reported. -/
def Obligations.JournalCommands : Prop :=
  (∀ (s : State) (e : WbE) (es : List WbE), s.cache.wb = e :: es → exec .journalPackTimeout s =
    .next (settle (packWb true { s with tb := max s.tb (e.at_ + 1000) }))) ∧
  (∀ (s u : State) (ns p : Nat), sintering s = true →
    (s.med.jrnl.sinters.filter (!·.rotate)).length < max 1 (fld s Reg.LDG_SINTER_CFG 17 8) →
    (fullRate s = true ∨ 0 < fld s Reg.LDG_SINTER_CFG 7 0) →
    (if (bucketPages s (fullChains s)).isEmpty = true then headPages s ns else bucketPages s (fullChains s)).find? (sinterable s) = some p →
    startSinter p false s = some u → exec (.sinterPage ns) s = .next (settle (sinterPump (paceSinter u)))) ∧
  (∀ (s u : State) (r : Rot) (p : Nat), s.med.jrnl.rot = some r → running s = true → s.med.jrnl.sinters = [] →
    nextOwned s r.key r.cursor = some p → startSinter p true s = some u → exec .rotatePageStep s = .next (settle (sinterPump u))) ∧
  (∀ (s u : State), running s = true → s.med.media.set_.isSome = true → s.med.jrnl.ckpt = none → s.med.jrnl.making = none →
    startCkpt { s with tb := max s.tb (s.med.jrnl.ckptAt + 1000000 * fld s Reg.LDG_JRNL_CFG 30 19) } = some u →
    exec .checkpointTimer s = .next (settle u)) ∧
  (∀ (s u : State) (ns : Nat), running s = true → ns < (mset s).n → (streamAt s ns).head < (streamAt s ns).tail →
    (streamAt s ns).head < headLimit s ns → liveRecs s ns (streamAt s ns).head = [] →
    (outstanding s ns).any (fun p => p.page / 64 == (streamAt s ns).head) = false → carrySlot ns [] s = some u →
    liveRecs u ns (streamAt s ns).head = [] →
    let w := onMedia (fun m => { m with
      pages := tblFilter (fun k _ => !(k / 2 ^ 40 == ns && k % 2 ^ 40 / 64 == (streamAt s ns).head)) m.pages }) u
    exec (.journalHeadAdvance ns) s = .next (settle (onStream ns (fun t => { t with head := t.head + 1 })
      (if (w.med.ports.getD (nsPort w ns) MPort.off).ctl.dsm = true then
        emit (.nvme (nsPort w ns) 0 "DEALLOCATE" ns (256 + 64 * (streamAt s ns).head % max 1 (mset w).jl)) w else w)))) ∧
  (∀ (s : State) (b : Nat), b < s.med.jrnl.nb → exec (.indexBucketRebuild b) s = .next (raise Ev.jrnlIndexRebuild 0 0 s))

/-- Retained settings and the work after a restart (R386 to R391, R603, R605, R606): a completed store appends a record for each setting and its commit, and a
bank that has become full is written anew in the other one; a restored factory image is in force; the sweep marks one set of a channel; the
rewarm reads the sectors of its next entry that are not resident; calibration fails when its write-back takes 10 s, and
its figures are stored when its drain is measured (R305). -/
def Obligations.RetainedAndRestartWork : Prop :=
  (∀ (s : State) (recs : List (Nat × Nat × Nat)) (stage : Option Nat), s.mgt.nv.job = some (.store recs stage) →
    (bankSlots s s.mgt.nv.cur).length + recs.length + 1 < 4992 →
    let rs := recs.map (fun r => NvRec.change r.1 r.2.1 r.2.2) ++ [.commit recs.length s.mgt.nv.seq]
    exec .nvmWriteCompletion s = .next (layoutStored recs (Sys2Proof.Machine.stored stage (tally Ctr.NV_RECORD rs.length
      (onNv (fun n => appendSlots rs { n with job := none }) s))))) ∧
  (∀ (s : State) (image recs : List (Nat × Nat × Nat)) (stage : Option Nat), s.mgt.nv.job = some (.sinter image (some recs) stage) →
    exec .nvmWriteCompletion s = .next (layoutStored recs (Sys2Proof.Machine.stored stage (raise Ev.nvSinter 0 0 (tally Ctr.NV_SINTER 1
      (writeImage image false (onNv (fun n => { n with job := none }) s))))))) ∧
  (∀ s : State, s.mgt.nv.job = some .factory → exec .nvmWriteCompletion s =
    .next (raise Ev.nvFactory 0 0 (onNv (fun n => { n with facDone := true }) (onCch (fun c => { c with record := none })
      (writeImage [] true (onNv (fun n => { n with job := none }) s)))))) ∧
  (∀ (s : State) (c : Nat), s.rsv.sweep = true → running s = true → c < 2 ^ s.hpt.chBits →
    let top := 2 ^ (s.hpt.setBits - s.hpt.chBits)
    let ms := fun (r : Rsv) => setAt r.marks c (fun m => min top (m + 1))
    exec (.restartSweepSet c) s = .next (onRsv (fun r => { r with marks := ms r, sweep := (ms r).any (· < top) })
      (tally Ctr.SWEEP_SET 1 (sweepRead (setAtPos s c (s.rsv.marks.getD c 0)) s)))) ∧
  (∀ (s after : State) (e : SchedEnt), s.rsv.rewarm = true → running s = true → nextEntry s = some (e, after) →
    let go := (entrySectors s e).1
    (∀ sk ∈ go, ∀ r ∈ readsFor s sk [0, 1, 2, 3], rewarmRoom s (nsPort s r.1) = true) →
    exec .rewarmRead s = .next (rewarmPump (settle (eachIn go (fun sk s => (admitTxn { Txn.blank with
      pool := .internal, src := .engine, kind := .prefetch e.2.2, tag := 1, sk := sk,
      encl := ((rangeOf s (skSo sk)).map (·.encl)).getD 0 } s).2)
      (paceRewarm (256 * go.length) (tally Ctr.REWARM_SKIP (entrySectors s e).2 after)))))) ∧
  (∀ s : State, s.rsv.rewarm = true → running s = true → nextEntry s = none → exec .rewarmRead s = .next (rewarmPump s)) ∧
  (∀ (s : State) (c : Cal), s.ldg.cal = some c →
    (c.step = 1 → exec .calWritebackTimeout s = .next (settle (calFail 3 { s with tb := max s.tb (c.since + 10000000000) }))) ∧
    (∀ bw pwr, c.step = 4 → 1000 ≤ bw →
      let v := testPages s
      exec (.calDrainDone bw pwr) s = .next (settle (raise Ev.ldgCalDone 0 0 (calEnd 1 (hwFld Reg.LDG_CAL_BW 17 0 (min bw 262143)
        (hwFld Reg.LDG_CAL_PWR 15 0 (min pwr 65535) (hwFld Reg.LDG_CAL_CFG 8 5 (portsOk v) v))))))))

/-! ### Power and resets -/

/-- Power fails (R369 to R381): in Run, PWRFAIL_N, the bus where RSV.PF_CFG lets it, and RAILS_GOOD start Fence with the trigger of each, which absorbs the writes and messages
on the wire; a tick due at that moment is cut short (R33); a pulse too short is counted and reported; Geyser whose drain is complete ends; a bank at VMIN takes a drain or
Dormant to Off, with the mark that the next start-up tells; DRAM out of regulation is held no longer. -/
def Sys2Proof.Claims.PowerFails : Prop :=
  (∀ (s : State) (w : List WireWr) (ms : List WireMsg), running s = true →
    let low := { s with rsv := { s.rsv with busLow := true } }
    exec (.pwrfailNAssert w ms) s = .next (fence 1 true w ms (cutTick { s with rsv := { s.rsv with pfLow := true } })) ∧
    exec (.busTrip w ms) s = .next (if flag s Reg.RSV_PF_CFG 8 = true then fence 2 true w ms (cutTick low) else low) ∧
    (s.rsv.mainEn = true → exec (.railsGoodFall w ms) s =
      .next (fence 3 true w ms (cutTick { s with rsv := { s.rsv with railsGood := false } }))) ∧
    exec .powerFailGlitch s = .next (raise Ev.rsvPfGlitch 0 0 (tally Ctr.RSV_PF_GLITCH 1 s))) ∧
  (∀ (s : State) (w : List WireWr) (ms : List WireMsg), s.rsv.mainEn = false → exec (.railsGoodFall w ms) s =
    .next { s with rsv := { s.rsv with railsGood := false } }) ∧
  (∀ (s : State) (f : BootFacts), s.rsv.pst = .geyser → drainedAll s = true → s.sec.quenched = false →
    exec (.geyserDrainComplete f) s = .next (endDrain f s)) ∧
  (∀ s : State, (s.rsv.pst = .geyser → (∃ b ∈ s.rsv.banks, b.st = .holding) →
      ∃ t, exec .bankVminReached s = .next t ∧ t.rsv.pst = .off ∧ t.rsv.oweAbort = true ∧ t.rsv.mainEn = false ∧
        t.rsv.last.drainDone = false) ∧
    (s.rsv.pst = .dormant →
      ∃ t, exec .bankVminReached s = .next t ∧ t.rsv.pst = .off ∧ t.rsv.oweDorm = true ∧ t.rsv.mainEn = false ∧ t.rsv.last.dormLost = true)) ∧
  (∀ s : State, exec .dramRailsLeaveRegulation s =
    .next { s with rsv := { s.rsv with sealRec := { s.rsv.sealRec with held := false } } })

/-- Power returns (R370, R380, R381, R610, R613, R665): auxiliary power drives MAIN_EN, as does good main power in Dormant and Off; RAILS_GOOD then starts
the device, from Dormant with its end recorded; a start-up whose conditions are met enables the host links, unless a power-fail condition
stands, which holds it and is reported after 1 s. -/
def Sys2Proof.Claims.PowerReturns : Prop :=
  (∀ s : State, s.mgt.boot.vaux = false → exec .vauxPowerUp s = .next { s with
    mgt := { s.mgt with boot := { s.mgt.boot with vaux := true } }
    rsv := { s.rsv with mainEn := true }
    io := { s.io with out := .pin "MAIN_EN" true :: s.io.out } }) ∧
  (∀ s : State,
    let v := { s with rsv := { s.rsv with pfLow := false, busLow := false, goodAt := s.tb } }
    (s.mgt.boot.vaux = true → s.rsv.pst = .dormant ∨ s.rsv.pst = .off → exec .mainPowerReturn s = .next { v with
      rsv := { v.rsv with mainEn := true }, io := { s.io with out := .pin "MAIN_EN" true :: s.io.out } }) ∧
    (s.rsv.pst = .run → exec .mainPowerReturn s = .next v)) ∧
  (∀ (s : State) (f : BootFacts), s.mgt.boot.vaux = true → s.rsv.mainEn = true →
    let v := { s with rsv := { s.rsv with railsGood := true } }
    (s.rsv.pst = .off → exec (.railsGoodRise f) s = .next (startUp .cold .mainCycle f v)) ∧
    (s.rsv.pst = .dormant → exec (.railsGoodRise f) s = .next (startUp .cold .mainCycle f (drivePin "DHU_EN" false (endDormant v)))) ∧
    (s.rsv.pst = .run → exec (.railsGoodRise f) s = .next v)) ∧
  (∀ s : State, s.rsv.pst = .startup → linkReady s = true →
    (s.rsv.pfLow = false → s.rsv.busLow = false →
      exec .hostLinkEnable s = .next (settle (enableLinks
        (if s.mgt.boot.heldAt.isSome then { s with tb := max s.tb (s.rsv.goodAt + 10000000) } else s)))) ∧
    (s.rsv.pfLow = true ∨ s.rsv.busLow = true →
      exec .hostLinkEnable s = .next { s with mgt := { s.mgt with boot := { s.mgt.boot with heldAt := some (s.mgt.boot.heldAt.getD s.tb) } } } ∧
      (∀ t, s.mgt.boot.heldAt = some t → s.mgt.boot.heldTold = false → exec .pfHeldTimeout s =
        .next (raise Ev.rsvPfHeld 0 0 { s with
          tb := max s.tb (t + 1000000000), mgt := { s.mgt with boot := { s.mgt.boot with heldTold := true } } }))))

/-- Power fails (R369 to R381): in Run, PWRFAIL_N, the bus where RSV.PF_CFG lets it, and RAILS_GOOD start Fence with the trigger
of each, which absorbs the writes and messages on the wire; a tick due at that moment is cut short (R33); a pulse too short is
counted and reported; Geyser whose drain is complete ends; a bank at VMIN takes a drain or Dormant to Off, with the mark that
the next start-up tells; DRAM out of regulation is held no longer. Power returns (R370, R380, R381, R610, R613, R665): auxiliary
power drives MAIN_EN, as does good main power in Dormant and Off; RAILS_GOOD then starts the device, from Dormant with its end
recorded; a start-up whose conditions are met enables the host links, unless a power-fail condition stands, which holds it and
is reported after 1 s. -/
def Obligations.PowerTransitions : Prop :=
  Claims.PowerFails ∧
  Claims.PowerReturns

/-- Resets (R15, R614 to R617, R622, R624): VAUX falling is a POR, after which the timebase, ownership, sessions, keys held in the core and queues are as at reset, while the banks'
NVM and the flash stay; RESET_N drains first in Run and starts the device anew in start-up; the release phase ends in the drain of a Warm
reset; the watchdog of a trial and the end of ROM recovery start the device anew. -/
def Obligations.Resets : Prop :=
  (∀ s : State, ∃ t, exec .vauxFall s = .next t ∧ t.tb = 0 ∧ t.mgt.boot.vaux = false ∧ t.mgt.boot.porDue = true ∧ t.mgt.own = Own.reset ∧
    t.rsv.pst = .off ∧ t.rsv.mainEn = false ∧ t.sec.root = none ∧ t.sec.cacheKey = none ∧ t.sec.media = [] ∧ t.sec.lock = 0 ∧ t.sec.sessions = [] ∧
    t.hpt = Hpt.reset ∧ t.ldg = Ldg.reset ∧ t.plc = Plc.reset ∧ t.io.q = [] ∧ t.mgt.flash = s.mgt.flash ∧ t.mgt.nv.bank0 = s.mgt.nv.bank0 ∧
    t.mgt.nv.bank1 = s.mgt.nv.bank1 ∧ t.sec.area = s.sec.area ∧ t.sec.revoked = s.sec.revoked ∧ t.fab = { Fab.reset with serial := s.fab.serial, idPending := s.fab.idPending }) ∧
  (∀ (s : State) (f : BootFacts),
    (running s = true → exec (.resetNAssert f) s =
      .next (fence 0 false [] [] (onBoot (fun b => { b with drain := some .resetN }) s))) ∧
    (s.rsv.pst = .startup → exec (.resetNAssert f) s = .next (startUp .cold .resetN f s)) ∧
    (∀ t, s.mgt.boot.trialEnd = some t → s.rsv.pst = .startup → exec (.bootWatchdogExpire f) s =
      .next (startUp .cold .watchdog f { s with tb := max s.tb t })) ∧
    (∀ t, s.mgt.boot.romAct = some t → s.mgt.boot.mode = 2 → exec (.romRecoveryReset f) s =
      .next (startUp .warm .warmCmd f { s with tb := max s.tb (t + 1000000000) }))) ∧
  (∀ (s : State) (t : Nat), s.mgt.boot.release = some t → running s = true → exec .releasePhaseTimeout s =
    .next (fence 0 false [] [] (onBoot (fun b => { b with drain := some .warmCmd })
      (if remoteLeft s = true then { s with tb := max s.tb (t + 20000000) } else s))))

/-! ### Reserve banks -/

/-- Banks (R360 to R368): a bank found present is measured; its capacity, within the range, lets it charge and moves its target; charged, it is Ready with
EV_RSV_BANK_READY, and falls back to Charging; a fault that fits its state isolates it; a completed discharge leaves it Isolated for service and ends
the commands that wait for it, one of 30 s is reported and ends them with TIMEOUT; a bled bank has its target's voltage. -/
def Obligations.BankCommands : Prop :=
  ∀ (s : State) (n : Nat), n < 4 → n < s.rsv.banks.length →
    let b := bank s n
    (b.st = .absent → bankEn s n = true → exec (.bankPresentDebounce n) s =
      .next (onBank n (fun b => { b with present := true, st := .measuring, fault := .none }) s)) ∧
    (b.st = .absent → bankEn s n = false → exec (.bankPresentDebounce n) s =
      .next (onBank n (fun b => { b with present := true, st := .isolated, fault := .none }) s)) ∧
    (b.st = .holding → exec (.bankFaultIsolate n .overcurrent) s = .next (settle (isolate n .overcurrent s))) ∧
    (b.st = .ready → exec (.bankFaultIsolate n .overvolt) s = .next (settle (isolate n .overvolt s)) ∧
      exec (.bankFaultIsolate n .reverse) s = .next (settle (isolate n .reverse s)) ∧
      exec (.bankRechargeThreshold n) s = .next (settle (onBank n (fun b => { b with st := .charging }) s))) ∧
    (∀ cap, b.st = .measuring → b.measAt = none → 2000 ≤ cap → cap ≤ 250000 →
      let v := onBank n (fun b => { b with cap := cap, measAt := some s.tb }) (tally Ctr.RSV_CAP_MEAS 1 s)
      exec (.bankCapMeasure n cap) s = .next (settle (onBank n (fun b => { b with st := if b.st = .measuring then .charging else b.st })
        (retarget n v)))) ∧
    (∀ cap, b.st = .measuring → b.measAt = none → cap < 2000 ∨ 250000 < cap →
      exec (.bankCapMeasure n cap) s = .next (settle (isolate n .capRange
        (onBank n (fun b => { b with cap := cap, measAt := some s.tb }) (tally Ctr.RSV_CAP_MEAS 1 s))))) ∧
    (chargeTurn s n = true → exec (.bankChargeDone n) s =
      .next (settle (raise Ev.rsvBankReady 0 n (onBank n (fun b => { b with st := .ready }) s)))) ∧
    (b.st = .discharging →
      (b.disTold = false → exec (.bankDischargeDone n) s = .next (settle (tellWaiters n (raise Ev.rsvDischargeDone 0 n
        (onBank n (fun b => { b with st := .isolated, fault := .service, bleed := false, disAt := none }) s))))) ∧
      (∀ t, b.disAt = some t → b.disTold = false → s.rsv.waiters = [] → exec (.bankDischargeTimeout n) s =
        .next (settle (raise Ev.rsvDischargeFail 0 n (onBank n (fun b => { b with disTold := true })
          { s with tb := max s.tb (t + 30000000000) }))))) ∧
    (b.bleed = true → b.st ≠ .discharging → exec (.bankBleedDone n) s =
      .next (settle (onBank n (fun b => { b with bleed := false, mv := min b.mv b.vtgt }) s)))

/-- Faults of the reserve (R368): a gate fault, and no usable bank for 2 s, each stand once, are reported with EV_RSV_FAULT and take part in the reserve state at once;
one whose condition has been absent for 1 s ends, and the reserve state is evaluated again. -/
def Sys2Proof.Claims.ReserveFaults : Prop :=
  ∀ s : State,
    let up := fun (f : RsvFault) => settle (rstateNow (raise Ev.rsvFault f.code 0 (onRsv (fun r => { r with faults := f :: r.faults }) s)))
    let down := fun (f : RsvFault) => settle (rstateNow (onRsv (fun r => { r with faults := r.faults.filter (· != f) }) s))
    (RsvFault.gate ∉ s.rsv.faults → exec .rsvGateFault s = .next (up .gate)) ∧
    (RsvFault.gate ∈ s.rsv.faults → exec .rsvGateFault s = .next s ∧ exec (.rsvFaultClear .gate) s = .next (down .gate)) ∧
    (noBank s = false → exec .rsvNoBankFault s = .next s) ∧
    (RsvFault.noBank ∉ s.rsv.faults → noBank s = true → exec .rsvNoBankFault s = .next (up .noBank)) ∧
    (RsvFault.noBank ∈ s.rsv.faults → noBank s = false → exec (.rsvFaultClear .noBank) s = .next (down .noBank)) ∧
    (RsvFault.adc ∈ s.rsv.faults → s.rsv.adcFails < 3 → exec (.rsvFaultClear .adc) s = .next (down .adc)) ∧
    (∀ f, f ∉ s.rsv.faults → exec (.rsvFaultClear f) s = .next s)

/-- RESERVE_CTL (R366, R367): ARM and DISARM set and clear the arming bit and the reserve state is evaluated at once; RECHARGE
takes the banks out of Isolated and answers at once; DISCHARGE is a background command that answers once no bank of its mask is
still discharging. Reserved bits are refused. Faults of the reserve (R368): a gate fault, and no usable bank for 2 s, each stand
once, are reported with EV_RSV_FAULT and take part in the reserve state at once; one whose condition has been absent for 1 s
ends, and the reserve state is evaluated again. -/
def Obligations.ReserveControl : Prop :=
  Claims.ReserveCommands ∧
  Claims.ReserveFaults

/-! ### Channels -/

/-- DRAM channels (R156, R404, R414, R415, R421 to R423): a scrub slot reads the 16 bursts of the set at its position, corrects what it finds and moves on; a
quarantined way that no host or device has a copy of is empty again; a refresh is sent and counted; the hottest sensor doubles the refresh above 85 °C and is reported when it does;
a channel that fails leaves its pair's other one as survivor where one is mirrored, else its content is lost; a resilver copies set by set until its pair is
whole. -/
def Obligations.ChannelCommands : Prop :=
  (∀ (s : State) (c : Nat) (rds : List Rd), running s = true → flag s Reg.CCH_SCRUB_CFG 8 = true → c < 2 ^ s.hpt.chBits → s.cch.mode = false →
    let i := scrubChan s c
    let set := setAtPos s c ((chan s i).scrub % 2 ^ (s.hpt.setBits - s.hpt.chBits))
    let v := tally Ctr.CCH_SCRUB_SLOT 1 (upTo 4 (fun w s => scrubWay set w (rds.getD w ⟨[]⟩) s) s)
    setFailed s set = false → v.cch.mode = false → exec (.scrubSlot c rds) s = .next (settle (onChan i (scrubNext v) v))) ∧
  (∀ (s : State) (k : Nat), (wayAt s k).quar = true → running s = true → sfFind s k = none → dirFind s k = none →
    exec (.quarantineRewrite k) s =
      .next (settle (burstsWritten k [0, 1, 2, 3] (onWay k (fun _ => Way.empty) (tally Ctr.CCH_SCRUB_SLOT 1 s))))) ∧
  (∀ (s : State) (c temp : Nat), (chan s c).on = true →
    exec (.refreshInterval c) s = .next (emit (.dram "REFSB" [c]) (tally Ctr.CCH_REFRESH 1 s)) ∧
    (temp ≤ 85 → exec (.thermalPoll c temp) s = .next (onChan c (fun x => { x with temp := temp % 256, ref2x := false }) s)) ∧
    (85 < temp →
      let v := tally Ctr.CCH_REF2X_MS 1 (onChan c (fun x => { x with temp := temp % 256, ref2x := true }) s)
      exec (.thermalPoll c temp) s = .next (if (chan s c).ref2x then v else raise Ev.cchThermal 0 c v)) ∧
    (s.cch.mirror = false →
      let v := onChan c (fun x => { x with st := .failed }) s
      exec (.channelFailDetect c) s = .next (settle (raise Ev.cchChannelFailed 0 c (keepRecord (onCache (fun x => { x with
        ways := x.ways.map (fun e => if setFailed v (e.1 / 4) then (e.1, e.2.lose) else e) }) v))))) ∧
    (s.cch.mirror = true → (chan s (if c % 2 = 0 then c + 1 else c - 1)).st ≠ .failed → pairAt s (c / 2) = Pair.whole →
      exec (.channelFailDetect c) s = .next (settle (raise Ev.mirrorFailover 0 c
        (keepRecord (onPair (c / 2) (fun _ => ⟨true, c % 2 == 0, none⟩) (onChan c (fun x => { x with st := .failed }) s))))))) ∧
  (∀ (s : State) (p q : Nat), (pairAt s p).resilver = some q → running s = true →
    let top := 2 ^ (s.hpt.setBits - s.hpt.chBits)
    let v := tally Ctr.CCH_RD_BURST 16 (tally Ctr.CCH_WR_BURST 16 s)
    (q + 1 < top → exec (.resilverSetCopy p false) s = .next (onPair p (fun x => { x with resilver := some (q + 1) }) v)) ∧
    (top ≤ q + 1 → exec (.resilverSetCopy p false) s = .next (settle (raise Ev.cchResilverDone 0 p (keepRecord
      (onChan (if (pairAt s p).odd then 2 * p else 2 * p + 1) (fun x => { x with st := .up }) (onPair p (fun _ => Pair.whole) v)))))) ∧
    exec (.resilverSetCopy p true) s = .next s)

/-! ### Fabric links and the fabric manager -/

/-- Flits and link states (R504 to R517): an idle flit acknowledges and returns credits, up to the grant; a failed flit is answered with NAK, a NAK is
answered by sending every flit after the last ACK again, both unless the replay budget is exceeded; an episode ends 2 µs after its last NAK, or degrades the link where it would last longer than WIN_US; a degraded link comes back at the width
of its lanes; a link that loses lock goes down, and one that trains comes up with the peer's grants. A queued message without a port to leave by is discarded after HOLD_US. -/
def Obligations.FabricLinkStates : Prop :=
  (∀ (s : State) (p ack lane n : Nat) (vc : VC), fpOk s p = true →
    ((fport s p).carries = true → lane < 2 →
      exec (.idleFlit p ack vc lane n) s = .next (settle (fabPump (onFPort p (fun x => { x with
        credits := setAt x.credits (vcl vc lane) (fun c => min (grantOf (vcl vc lane)) (c + n)) }) (ackFlits p ack s)))) ∧
      (let v := openEpisode p (onFPort p (fun x => { x with nakking := true }) s)
       (fport s p).nakking = false → overBudget v p = false → exec (.flitFailed p false false) s =
        .next (settle (emit (.link p "NAK" [(fport v p).rxSeq]) (tally Ctr.FAB_NAK 1 v)))) ∧
      (let v := openEpisode p (ackFlits p ack s)
       (overBudget v p = false → exec (.nak p ack) s = .next (settle (resend p v))) ∧
       (overBudget v p = true → exec (.nak p ack) s = .next (settle (degrade p v)))) ∧
      exec (.fabLinkDown p) s = .next (settle (fabDown p false s))) ∧
    ((fport s p).carries = false → exec (.idleFlit p ack vc lane n) s = .next s ∧ exec (.nak p ack) s = .next s)) ∧
  (∀ (s : State) (p : Nat) (e : Episode), (fport s p).episode = some e →
    let limit := e.start + 1000 * clampTo 2 20 (fld s Reg.FAB_REPLAY_CFG 8 4)
    (e.last + 2000 ≤ limit → exec (.replayEpisodeEnd p) s = .next (settle (fabPump (onFPort p (fun x => { x with
      episode := none, st := if x.st = .replaying then .up else x.st }) { s with tb := max s.tb (e.last + 2000) })))) ∧
    (limit < e.last + 2000 → exec (.replayEpisodeEnd p) s = .next (settle (degrade p { s with tb := max s.tb limit })))) ∧
  (∀ (s : State) (p ack w : Nat) (lanes : List Bool) (grants : List Nat), fpOk s p = true → (fport s p).st = .degrading →
    (fport s p).episode = none → widest lanes = some w → (fport s p).wide = true → w ≤ min 2 (fld s Reg.FAB_LINK_CFG 5 4) →
    let v := onFPort p (fun x => { x with st := .up, width := w, wide := false, nakking := false, episode := none }) (ackFlits p ack s)
    let v := onFPort p (fun x => { x with
      credits := freshCredits x grants, kept := List.replicate 8 0
      rxFlits := (List.range 8).map fun i => x.rxFlits.getD i 0 - x.kept.getD i 0 }) v
    let v := if w = 0 then v else raise Ev.fabLaneDegraded w p v
    exec (.laneDegrade p ack lanes grants) s = .next (settle (fabPump (resend p (sendGrants p v))))) ∧
  (∀ (s : State) (p : Nat) (w : Fin 3) (grants : List Nat), fpOk s p = true → (fport s p).st = .training → s.rsv.pst = .run →
    let v := onFPort p (fun x => { FPort.off with
      st := .up, width := w.val, credits := freshCredits FPort.off grants, lastDegrade := x.lastDegrade }) s
    exec (.fabLinkUp p w grants) s = .next (settle (fabPump (sendHello p (sendGrants p
      (emit (.link p "REPORT_UP" [s.fab.serial, p]) (raise Ev.fabLinkUp 0 p v))))))) ∧
  (∀ (s : State) (i : Nat) (q : Queued), s.fab.queue[i]? = some q → routePorts s (route? s (q.msg.dst / 64)) q.lane = [] →
    exec (.routeHoldTimeout i) s = .next (settle (leftQueue q (tally Ctr.FAB_HOLD_DROP 1
      { s with
        tb := max s.tb (q.since + 1000 * fld s Reg.FAB_ROUTE_CFG 15 0)
        fab := { s.fab with queue := s.fab.queue.eraseIdx i } }))))

/-- Neighbours and time (R518, R519, R530, R531): HELLO is sent every 100 µs; what a HELLO says is kept for its port, with its candidate one hop further, and starts
the handling of a peer's incarnation; a child's SYNC question is answered with the times of its arrival, an answer within 16 ns
locks; a child asks every INTERVAL_US; 10 ms without SYNC unlocks. Corrected symbols are counted, and reported where they exceed the limit. -/
def Sys2Proof.Claims.FabricNeighbours : Prop :=
  (∀ (s : State) (p : Nat), fpOk s p = true → (fport s p).carries = true →
    exec (.helloTimer p) s = .next (sendHello p { s with tb := max s.tb ((fport s p).helloAt + 100000) }) ∧
    (∀ h : Hello, h.idValid = true → h.id ≠ devId s → (fport s p).peer = none →
      let cand := h.best.bind fun (b : Nat × Nat × Nat × Nat) =>
        if b.2.1 < 16 ∧ b.1 ≠ 0 then some (Cand.mk b.1 b.2.2.1 b.2.2.2 (b.2.1 + 1) s.tb) else none
      let peer : Peer := ⟨h.serial, h.id, h.idValid, h.port, h.incarn, h.locked, h.fmHops, cand⟩
      exec (.hello p h) s = .next (settle (learnIncarn h.id h.incarn
        (chooseParent (elect (onFPort p (fun x => { x with peer := some peer }) s)))))) ∧
    (∀ t1, exec (.sync p (.ask t1)) s = .next (emit (.link p "SYNC" [t1, s.tb, s.tb]) s)) ∧
    (∀ t1 t2 t3 : Nat, s.fab.parent = some p → s.fab.isFm = false → flag s Reg.FAB_SYNC_CFG 0 = true →
      let off : Int := (((t2 : Int) - t1) - ((s.tb : Int) - t3)) / 2
      ∃ t, exec (.sync p (.answer t1 t2 t3)) s = .next t ∧ t.fab.offset = off ∧
        t.fab.locked = (decide (-16 ≤ off) && decide (off ≤ 16)) ∧ t.tb = (if 1000 < off then s.tb + off.toNat else s.tb) ∧
        t.fab.lastSync = t.tb)) ∧
  (∀ (s : State) (p : Nat), s.fab.parent = some p → (fport s p).carries = true → flag s Reg.FAB_SYNC_CFG 0 = true → s.fab.isFm = false →
    let tb := max s.tb (s.fab.syncAt + 1000 * clampTo 10 500 (fld s Reg.FAB_SYNC_CFG 9 1))
    exec .syncExchangeTimer s = .next (emit (.link p "SYNC" [tb]) { s with tb := tb, fab := { s.fab with syncAt := tb } })) ∧
  (∀ s : State, s.fab.locked = true → s.fab.isFm = false → exec .syncHoldoverExpire s =
    .next (raise Ev.fabSyncLost 0 0 { s with tb := max s.tb (s.fab.lastSync + 10000000), fab := { s.fab with locked := false } })) ∧
  (∀ (s : State) (p n : Nat), fpOk s p = true →
    let v := rcCount (Reg.FAB_ERR_CNT + 4 * p) 15 0 n (tally Ctr.FAB_FEC_CORR n s)
    exec (.fecInterval p n) s = .next (if fld v Reg.FAB_FEC_CFG 15 0 < n then raiseAtMost 1000000000 p Ev.fabFecHigh n p v else v))

/-- The fabric manager (R521 to R525): a neighbour's candidate that has not been refreshed for 10 ms is no candidate; a device that has been its own best for 5 ms is
elected and beacons every 1 ms, an FM without a beacon for 10 ms is lost; routes that the FM computed for itself are written, others go out under a tag until they
are acknowledged, sent again every 10 ms; a message is counted and acknowledged, or dropped where there is no room. -/
def Sys2Proof.Claims.FabricManager : Prop :=
  (∀ (s : State) (p : Nat) (q : Peer) (c : Cand), (fport s p).peer = some q → q.cand = some c → exec (.fmCandidateExpire p) s =
    .next (elect (onFPort p (fun x => { x with peer := x.peer.map (fun q => { q with cand := none }) })
      { s with tb := max s.tb (c.at_ + 10000000) }))) ∧
  (∀ (s : State) (t : Nat), s.fab.bestSince = some t → s.fab.isFm = false → running s = true →
    let v := { s with tb := max s.tb (t + 5000000) }
    let v := setFm (some ⟨devId v, fld v Reg.MGT_FAB_PRI 7 0, v.fab.serial, 0, v.tb⟩) v
    let v := onFab (fun f => { f with isFm := true, parent := none, offset := 0 }) v
    exec .fmElected s = .next (beacon (setLocked true (raise Ev.fabFmElected (dataPeer (devId v) 0 0) 0 v)))) ∧
  (∀ (s : State) (f : Fm), s.fab.fm = some f → s.fab.isFm = false → exec .fmLost s =
    .next (elect (raise Ev.fabFmLost (dataPeer f.id 0 0) 0 (setFm none { s with tb := max s.tb (f.beaconAt + 10000000) })))) ∧
  (∀ s : State, s.fab.isFm = true → running s = true →
    exec .fmBeaconTimer s = .next (beacon { s with tb := max s.tb (s.fab.beaconAt + 1000000) }) ∧
    (∀ dst e, routeFit e = true → exec (.fmRouteRecompute [(devId s, .route dst e)]) s = .next (settle (fabPump (putRoute dst e s)))) ∧
    (∀ dev dst e, dev ≠ devId s → routeFit e = true → exec (.fmRouteRecompute [(dev, .route dst e)]) s =
      .next (settle (fabPump (emit (.link 0 "FMC" [s.fab.fmcTag, dev, dst, e]) (onFab (fun f => { f with
        fmcTag := s.fab.fmcTag + 1, fmcOut := f.fmcOut ++ [⟨s.fab.fmcTag, dev, .route dst e, s.tb⟩] }) s)))))) ∧
  (∀ (s : State) (p src tag : Nat) (m : Fmc), fpOk s p = true → (fport s p).carries = true → running s = true →
    exec (.fmcMessage p src tag true m) s = .next (raise Ev.fabFmcDrop 0 p (tally Ctr.FAB_FMC_DROP 1 s)) ∧
    (let v := tally Ctr.FAB_FMC_RX 1 s
     exec (.fmcMessage p src tag false m) s =
      .next (applyFmc p src m (if m.acked then emit (.link p "FMC_ACK" [tag, src]) v else v)))) ∧
  (∀ (s : State) (tag : Nat), (∀ m, s.fab.fmcOut.find? (·.tag == tag) = some m →
    let tb := max s.tb (m.at_ + 10000000)
    exec (.fmcResendTimeout tag) s = .next (emit (.link 0 "FMC" [tag, m.dev]) { s with
      tb := tb, fab := { s.fab with fmcOut := s.fab.fmcOut.map (fun x => if x.tag = tag then { x with at_ := tb } else x) } })))

/-- Neighbours and time (R518, R519, R530, R531): HELLO is sent every 100 µs; what a HELLO says is kept for its port, with its
candidate one hop further, and starts the handling of a peer's incarnation; a child's SYNC question is answered with the times
of its arrival, an answer within 16 ns locks; a child asks every INTERVAL_US; 10 ms without SYNC unlocks. Corrected symbols are
counted, and reported where they exceed the limit. The fabric manager (R521 to R525): a neighbour's candidate that has not been
refreshed for 10 ms is no candidate; a device that has been its own best for 5 ms is elected and beacons every 1 ms, an FM
without a beacon for 10 ms is lost; routes that the FM computed for itself are written, others go out under a tag until they are
acknowledged, sent again every 10 ms; a message is counted and acknowledged, or dropped where there is no room. -/
def Obligations.FabricManagement : Prop :=
  Claims.FabricNeighbours ∧
  Claims.FabricManager

/-! ### Security: tamper, random numbers, SPDM -/

/-- Tamper and the random bit generator (R544 to R547, R567 to R570): a watched source in Run quenches at once, or first drains where POLICY says so; 1 ms after a Quench the
buffers are cleared, as they are once a drain that a Quench waits for has taken LDG.DRAIN_MAX; the start-up tests seed the DRBG and set READY, a health failure clears it, is counted and reported, and a reseed starts the count of its
requests again; an owner's read of RNG_DATA_LO while READY draws two outputs, one for each word, any other read returns 0. The outputs are free values of the
model (log entry 51). -/
def Obligations.TamperAndRandom : Prop :=
  (∀ (s : State) (t : Tamper) (w : List WireWr) (ms : List WireMsg), watched t s = true → s.sec.quenched = false → s.rsv.pst = .run →
    let v := onSec (fun x => { x with
      sources := if x.sources.contains t then x.sources else t :: x.sources
      asserted := if x.asserted.contains t then x.asserted else t :: x.asserted }) s
    (flag s Reg.SEC_TAMPER_CFG 2 = false → exec (.tamperTrigger t w ms) s = .next (quench v)) ∧
    (flag s Reg.SEC_TAMPER_CFG 2 = true → exec (.tamperTrigger t w ms) s =
      .next (fence 0 true w ms { v with sec := { v.sec with drainThen := some s.tb } }))) ∧
  (∀ s : State, s.sec.drainThen = none → s.sec.clearing = true → exec .quenchSramCleared s = .next (settle { s with
    cache := { s.cache with wb := [], nt := [] }
    med := { s.med with jrnl := { s.med.jrnl with staging := s.med.jrnl.staging.filter fun p => p.cid.isSome || p.done } }
    sec := { s.sec with clearing := false } })) ∧
  (∀ (s : State) (t : Nat), s.sec.drainThen = some t → s.rsv.pst = .geyser → exec .quenchSramCleared s =
    .next (drainPump (clearSram (quench { s with tb := max s.tb (t + 1000000 * fld s Reg.LDG_DRAIN_MAX 11 0) })))) ∧
  (∀ s : State, s.sec.ready = false → s.mgt.boot.vaux = true → exec .rngReady s = .next (settle (bootPump (raise Ev.rngReady 0 0
    { s with sec := { s.sec with trng := true, ready := true, gens := 0, seedAt := s.tb } })))) ∧
  (∀ s : State, s.sec.ready = true →
    (∃ t, exec .rngHealthFail s = .next t ∧ t = { s with io := t.io, sec := { s.sec with ready := false, gens := 0 } } ∧
      (s.io.ok = true → fld s Reg.SEC_RNG_STS 1 1 ≤ fld t Reg.SEC_RNG_STS 1 1 ∧
        ∀ r, blockOf r ≠ Blk.evt → blockOf r ≠ blockOf Reg.SEC_RNG_STS → regOf t.io r = regOf s.io r)) ∧
    exec .drbgReseed s = .next (let tb := if 2 ^ 16 ≤ s.sec.gens then s.tb else max s.tb (s.sec.seedAt + 1000000000)
      { s with tb := tb, sec := { s.sec with gens := 0, seedAt := tb } })) ∧
  (∀ (s : State) (m : Master),
    (isOwner s m = true → s.sec.ready = true → ∃ t, exec (.rngDataRead m true) s = .next t ∧
      t = { s with io := t.io, sec := { s.sec with draws := s.sec.draws + 2, gens := s.sec.gens + 1 } } ∧
      t.io.out = .regData m Reg.SEC_RNG_DATA_LO (Config.drbg s.sec.draws) :: s.io.out ∧
      tblFind t.io.hiLatch (8 * (Reg.SEC_RNG_DATA_LO + 4) + m.id) =
        some (BitVec.ofNat 32 ((Config.drbg (s.sec.draws + 1)).toNat % 2 ^ 16 + 2 ^ 31))) ∧
    (isOwner s m = false ∨ s.sec.ready = false → ∀ b, ∃ t, exec (.rngDataRead m b) s = .next t ∧ t = { s with io := t.io } ∧
      t.io.out = .regData m Reg.SEC_RNG_DATA_LO 0 :: s.io.out))

/-- SPDM requests that change nothing (R556, R557): they are answered over the DOE mailbox of their port with the version, the algorithms, the digest, the chain of slot 0, the
signed challenge and the measurements asked for; but for the first three they need READY. -/
def Sys2Proof.Claims.SpdmReports : Prop :=
  ∀ (s : State) (p : Nat), serves s p = true →
    let ans := fun (kind : String) (l : List Nat) => emit (.doe p kind l) s
    exec (.getVersion p) s = .next (ans "VERSION" [0x12]) ∧ exec (.getCapabilities p) s = .next (ans "CAPABILITIES" []) ∧
    exec (.negotiateAlgorithms p) s = .next (ans "ALGORITHMS" [384, 384, 384, 256]) ∧
    (s.sec.ready = true →
      exec (.getDigests p) s = .next (ans "DIGESTS" [1]) ∧
      (∀ nonce, exec (.getCertificate p 0) s = .next (ans "CERTIFICATE" (chain s)) ∧
        exec (.challenge p 0 nonce) s = .next (ans "CHALLENGE_AUTH" [nonce])) ∧
      (∀ slot nonce, slot ≠ 0 → exec (.getCertificate p slot) s = .next (ans "ERROR_INVALID_REQUEST" []) ∧
        exec (.challenge p slot nonce) s = .next (ans "ERROR_INVALID_REQUEST" [])) ∧
      (∀ idx, 1 ≤ idx → idx ≤ 5 → exec (.getMeasurements p idx) s = .next (ans "MEASUREMENTS" (measured s idx))) ∧
      exec (.getMeasurements p 255) s = .next (ans "MEASUREMENTS" (measured s 1 ++ measured s 2 ++ measured s 3 ++ measured s 4 ++ measured s 5))) ∧
    (s.sec.ready = false → ∀ c ∈ [Instr.getDigests p, .getCertificate p 0, .challenge p 0 0, .getMeasurements p 1, .keyExchange p],
      exec c s = .next (ans "ERROR_RESPONSE_NOT_READY" []))

/-- SPDM sessions and IDE (R106, R107, R538, R556, R558): KEY_EXCHANGE opens one of at most 8 with secrets newly drawn; FINISH with right data establishes it; HEARTBEAT answers and
KEY_UPDATE renews the secrets of an established one; END_SESSION discards it; a session of no such port is an error; IDE_KM establishes a stream with keys newly drawn, under a
session where it comes within one. -/
def Sys2Proof.Claims.SpdmSessions : Prop :=
  ∀ (s : State) (p id : Nat), serves s p = true → s.sec.ready = true →
    let reply := fun (kind : String) (l : List Nat) (t : State) => emit (.doe p kind l) t
    (s.sec.sessions.length < 8 → exec (.keyExchange p) s = .next (reply "KEY_EXCHANGE_RSP" [s.sec.nextSession] (tally Ctr.SEC_SPDM_SESSION 1 { s with
      sec := { s.sec with
        draws := s.sec.draws + 1, gens := s.sec.gens + 1, nextSession := s.sec.nextSession + 1
        sessions := s.sec.sessions ++ [⟨s.sec.nextSession, p, false, 0, s.sec.draws, 0⟩] } }))) ∧
    (8 ≤ s.sec.sessions.length → exec (.keyExchange p) s = .next (reply "ERROR_BUSY" [] s)) ∧
    (∀ x, s.sec.sessions.find? (fun x => x.id == id && x.port == p) = some x →
      let each := fun (f : Session → Session) => { s with
        sec := { s.sec with sessions := s.sec.sessions.map fun y => if y.id = id then f y else y } }
      exec (.finish p id true) s = .next (reply "FINISH_RSP" [id] (each fun y => { y with established := true })) ∧
      exec (.finish p id false) s = .next (reply "ERROR_DECRYPT" [id] s) ∧
      (x.established = true → exec (.heartbeat p id) s = .next (reply "HEARTBEAT_ACK" [id] s) ∧
        exec (.keyUpdate p id) s = .next (reply "KEY_UPDATE_ACK" [id] (each fun y => { y with updates := y.updates + 1 }))) ∧
      exec (.endSession p id) s = .next (reply "END_SESSION_ACK" [id]
        { s with sec := { s.sec with sessions := s.sec.sessions.filter (·.id != id) } })) ∧
    (s.sec.sessions.find? (fun x => x.id == id && x.port == p) = none → ∀ c ∈ [Instr.finish p id true, .heartbeat p id, .keyUpdate p id, .endSession p id],
      exec c s = .next (reply "ERROR_INVALID_SESSION" [id] s)) ∧
    (∀ skid, exec (.ideKm p true skid none) s = .next (reply "IDE_KM_ACK" [] { s with sec := { s.sec with
        draws := s.sec.draws + 1, gens := s.sec.gens + 1, ideMem := tblPut s.sec.ideMem p ⟨true, false, skid, s.sec.draws⟩ } }) ∧
      exec (.ideKm p false skid none) s = .next (reply "IDE_KM_ACK" [] { s with sec := { s.sec with
        draws := s.sec.draws + 1, gens := s.sec.gens + 1, ideIo := tblPut s.sec.ideIo p ⟨true, false, false, s.sec.draws⟩ } }) ∧
      ((∃ x ∈ s.sec.sessions, x.id = id ∧ x.port = p ∧ x.established = true) →
        exec (.ideKm p true skid (some id)) s = .next (reply "IDE_KM_ACK" [] { s with sec := { s.sec with
          draws := s.sec.draws + 1, gens := s.sec.gens + 1, ideMem := tblPut s.sec.ideMem p ⟨true, true, skid, s.sec.draws⟩ } })))

/-- SPDM requests that change nothing (R556, R557): they are answered over the DOE mailbox of their port with the version, the
algorithms, the digest, the chain of slot 0, the signed challenge and the measurements asked for; but for the first three they
need READY. SPDM sessions and IDE (R106, R107, R538, R556, R558): KEY_EXCHANGE opens one of at most 8 with secrets newly drawn;
FINISH with right data establishes it; HEARTBEAT answers and KEY_UPDATE renews the secrets of an established one; END_SESSION
discards it; a session of no such port is an error; IDE_KM establishes a stream with keys newly drawn, under a session where it
comes within one. -/
def Obligations.SpdmCommands : Prop :=
  Claims.SpdmReports ∧
  Claims.SpdmSessions

/-! ### The sideband and reads -/

/-- The sideband target (R595, R596): while it answers, a write of an aligned offset reaches the arbiter and its fate is kept for STATUS, a read returns the word and STATUS, whose two error bits
clear; CCCs give and take the dynamic address, enable and disable in-band interrupts, and return what the part fixes; a waiting interrupt goes out once. GETSTATUS returns a free
value, the identity bytes are constants of the part (log entry 58). -/
def Obligations.SidebandCommands : Prop :=
  ∀ s : State, s.mgt.boot.vaux = true → s.rsv.pst ≠ .off → s.rsv.pst ≠ .dormant →
    let on := fun (f : I3c → I3c) => { s with mgt := { s.mgt with i3c := f s.mgt.i3c } }
    let sends := fun (o : Out) (s : State) => { s with io := { s.io with out := o :: s.io.out } }
    let v := tally Ctr.I3C_XACT 1 s
    let clear := onI3c fun x => { x with lastWrDisc := false, pecErr := false }
    (∀ (off : Nat) (w : Word), off < 0x800000 → off % 4 = 0 →
      let r := regWrite .sb off 4 w.toNat v
      exec (.i3cWrite off w none) s = .next (onI3c (fun x => { x with lastWrDisc := r.1 }) r.2) ∧
      (let u := readAt .sb off 4 v
       exec (.i3cRead off none) s = .next (clear (emit (.i3c [sbStatus u]) u)))) ∧
    exec (.i3cStatus none) s = .next (clear (emit (.i3c [sbStatus v]) v)) ∧
    exec (.i3cStatus (some .proto)) s = .next (raiseAtMost 1000000000 0 Ev.i3cErr 0 0 (rcCount Reg.MGT_I3C_STS 23 16 1 s)) ∧
    (∀ a : Fin 128,
      (s.mgt.i3c.daddr = 0 → exec (.entdaa a) s = .next (on fun x => { x with daddr := a.val, i3cMode := a.val != 0 }) ∧
        (∀ k : Fin 128, k.val = fld s Reg.MGT_I3C_CFG 6 0 → exec (.setdasa k a) s = .next (on fun x => { x with daddr := a.val, i3cMode := a.val != 0 }))) ∧
      (∀ k : Fin 128, s.mgt.i3c.daddr = k.val → k.val ≠ 0 →
        exec (.setnewda k a) s = .next (on fun x => { x with daddr := a.val, i3cMode := a.val != 0 }) ∧ exec (.entdaa a) s = .next s)) ∧
    exec .rstdaa s = .next (on fun x => { x with daddr := 0, i3cMode := false }) ∧
    (∀ e, e % 2 = 1 → exec (.enec e) s = .next (on fun x => { x with enec := true }) ∧ exec (.disec e) s = .next (on fun x => { x with enec := false })) ∧
    (∀ e, e % 2 = 0 → exec (.enec e) s = .next s ∧ exec (.disec e) s = .next s) ∧
    (let bytes := fun (code len : Nat) => (List.range len).map fun i => Config.i3cByte code i % 256
     exec .getpid s = .next (sends (.i3c (bytes 0 6)) s) ∧ exec .getbcr s = .next (sends (.i3c (bytes 1 1)) s) ∧
     exec .getdcr s = .next (sends (.i3c (bytes 2 1)) s) ∧ exec .getmxds s = .next (sends (.i3c (bytes 3 2)) s)) ∧
    exec .getstatus s = .next (sends (.i3c [Config.freeValue s.freeCtr % 256, Config.freeValue s.freeCtr / 256 % 256])
      { s with freeCtr := s.freeCtr + 1 }) ∧
    (∀ a, exec (.rstact a) s = .next (on fun x => { x with rstact := a })) ∧
    (∀ sev, s.io.ibi = some sev → s.mgt.i3c.enec = true → exec .ibiSend s =
      .next { s with io := { s.io with ibi := none, out := .ibi sev :: s.io.out } })

/-- Reads with an effect (R10, R12, R77, R586, R636, R641, R648): an owner's read through the active window clears the RC fields of a register whose page is not frozen, and no other register changes; one by another master, and any
through the peek mirror, changes no register; a read of a low word latches its high word; a read of Q_ENTRY0 latches the head entry, an owner's takes it; an owner's read of SAMPLE_REC0
takes the oldest record. The end of a moderation interval sends a signal that was held. -/
def Obligations.ReadEffects : Prop :=
  (∀ (s : State) (m : Master) (off : Nat), reaches s m = true → off < 0x400000 → off % 4 = 0 → off ≠ Reg.SEC_RNG_DATA_LO →
    (pairLow off = false → off ≠ Reg.EVT_Q_ENTRY → off ≠ Reg.EVT_SAMPLE_REC → off ∉ [Reg.TRK_PEAK, Reg.WBF_PEAK, Reg.LDG_PEAK, Reg.MED_SLOT_PEAK] →
      ∃ t, exec (.rcFieldClearRead m off 4) s = .next t ∧ t = { s with io := t.io } ∧ t.io.out = .regData m off (readValue m off s) :: s.io.out ∧
        (isOwner s m = true → frozen s.io off = false →
          (regOf t.io off).toNat = ((regOf s.io off).toNat ^^^ ((regOf s.io off).toNat &&& rcBits off)) % 2 ^ 32) ∧
        (isOwner s m = false → t.io.regs = s.io.regs)) ∧
    exec (.rcFieldClearRead m (0x400000 + off) 4) s = .next (emit (.regData m off (view s off)) s) ∧
    (pairLow off = true → ∃ t, exec (.highWordLatchRead m off) s = .next t ∧ t = { s with io := t.io } ∧
      t.io.out = .regData m off (readValue m off s) :: s.io.out ∧
      tblFind t.io.hiLatch (8 * (off + 4) + m.id) = some (view s (off + 4)))) ∧
  (∀ (s : State) (m : Master), reaches s m = true →
    ∃ t, exec (.queueHeadRead m) s = .next t ∧ t = { s with io := t.io } ∧
      t.io.out = .regData m Reg.EVT_Q_ENTRY (readValue m Reg.EVT_Q_ENTRY s) :: s.io.out ∧
      tblFind t.io.qLatch m.id = some ((List.range 7).map fun i => headWord s.io.q (i + 1)) ∧
      (isOwner s m = false → t.io.q = s.io.q) ∧
      (∀ e, isOwner s m = true → qHead s.io.q = some e → s.io.loss = (0, 0, 0) →
        t.io.q = s.io.q.map (fun y => if y.seq = e.seq then { y with read := true } else y) ∧
        t.io.markSet = (if s.io.markOn then s.io.markSet ++ [e.seq] else s.io.markSet))) ∧
  (∀ (s : State) (m : Master), reaches s m = true → isOwner s m = true →
    ∃ t, exec (.sampleRecordRead m) s = .next t ∧ t = { s with io := t.io } ∧ t.io.samp.recs = s.io.samp.recs.tail ∧
      tblFind t.io.sampLatch m.id = some ((List.range 7).map fun i => sampWord s.io (i + 1)) ∧ t.io.regs = s.io.regs) ∧
  (∀ (s : State) (p v t : Nat), (tblGet Vec.idle s.io.vecs (256 * p + v)).start = some t →
    let u := { s with tb := max s.tb (t + 1000 * fld s Reg.EVT_MSIX_CFG 9 0) }
    exec (.msixModerationExpire p v) s = .next { u with io := flush (env u) (modExpire (env u) p v s.io) })

/-! ### Reset and idling -/

/-- What reset leaves (R15, R35, R577, R637): the timebase and the epoch count at 0, no owner, an empty queue of events, no command waiting, no session and no key, every cache way
empty; PERIOD reads 1,000. -/
def Sys2Proof.Claims.ResetValues : Prop :=
  let s := State.reset
  s.tb = 0 ∧ s.epochCnt = 0 ∧ s.tickLast = 0 ∧ s.mgt.own.owner = none ∧ s.mgt.own.handover = none ∧ s.io.q = [] ∧ s.io.nextSeq = 1 ∧
    s.pending = [] ∧ s.sec.sessions = [] ∧ s.sec.media = [] ∧ s.cache.ways = [] ∧ s.cache.txns = [] ∧ s.ldg.cal = none ∧
    fld s Reg.CTR_EPOCH 13 0 = 1000 ∧ fld s Reg.CTR_EPOCH 16 16 = 0 ∧ fld s Reg.SEC_ASSIGN_LOCK 0 0 = 0

/-- The state after reset has the invariant. What reset leaves (R15, R35, R577, R637): the timebase and the epoch count at 0, no
owner, an empty queue of events, no command waiting, no session and no key, every cache way empty; PERIOD reads 1,000. -/
def Obligations.ResetMeetsTheInvariant : Prop :=
  Claims.ResetMeetsTheInvariant ∧
  Claims.ResetValues

/-- With no command waiting the block idles (the model's choice, log entry 6): TB advances by 1 ns and what can go on goes on; no command
waits afterwards. -/
def Sys2Proof.Claims.IdlesOnAnEmptyQueue : Prop :=
  ∀ s : State, s.pending = [] → step s = .next (settle (afterTick { s with tb := s.tb + 1 })) ∧ ∀ t, step s = .next t → t.pending = []

/-- A step always answers a next state: no command faults or is refused, and only the front of the queue is taken away. With no
command waiting the block idles (the model's choice, log entry 6): TB advances by 1 ns and what can go on goes on; no command
waits afterwards. -/
def Obligations.StepAnswersAndKeepsTheQueue : Prop :=
  Claims.StepAnswersAndKeepsTheQueue ∧
  Claims.IdlesOnAnEmptyQueue
end

