-- ==== Sys2Proof/Laws/Answers.lean ====
section
/-! SUPPORT. No command faults and none is refused: each answers a next state, in every state. -/

namespace Sys2Proof.Machine

open Sys2Proof

/-- An outcome is a next state. -/
def Res.answers (r : Res) : Bool :=
  match r with
  | .next _ => true
  | _ => false

/-! ### Machine/HostPorts.lean -/

theorem execMemRd_next (p : Nat) (tag : Nat) (hpa : Nat) (mv : HSt) (dat : Bool) (u : Upset) (s : State) :
    (execMemRd p tag hpa mv dat u s).answers = true := by
  unfold execMemRd
  grind (splits := 16) [Res.answers]

theorem execMemInv_next (p : Nat) (tag : Nat) (hpa : Nat) (mv : HSt) (x_nt : Bool) (u : Upset) (s : State) :
    (execMemInv p tag hpa mv x_nt u s).answers = true := by
  unfold execMemInv
  grind (splits := 16) [Res.answers]

theorem execMemClnEvct_next (p : Nat) (tag : Nat) (hpa : Nat) (s : State) :
    (execMemClnEvct p tag hpa s).answers = true := by
  unfold execMemClnEvct
  grind (splits := 16) [Res.answers]

theorem execMemSpecRd_next (p : Nat) (hpa : Nat) (s : State) :
    (execMemSpecRd p hpa s).answers = true := by
  unfold execMemSpecRd
  grind (splits := 16) [Res.answers]

theorem execMemWr_next (p : Nat) (tag : Nat) (hpa : Nat) (mv : HSt) (data : Line) (poison : Bool) (u : Upset) (s : State) :
    (execMemWr p tag hpa mv data poison u s).answers = true := by
  unfold execMemWr
  grind (splits := 16) [Res.answers]

theorem execMemWrPtl_next (p : Nat) (tag : Nat) (hpa : Nat) (mv : HSt) (data : Line) (mask : LineMask) (poison : Bool) (s : State) :
    (execMemWrPtl p tag hpa mv data mask poison s).answers = true := by
  unfold execMemWrPtl
  grind (splits := 16) [Res.answers]

theorem execHostLinkUp_next (p : Nat) (width : Nat) (full : Bool) (bisnp : Nat) (s : State) :
    (execHostLinkUp p width full bisnp s).answers = true := by
  unfold execHostLinkUp
  grind (splits := 16) [Res.answers]

theorem execHpLinkDown_next (p : Nat) (x_perst : Bool) (s : State) :
    (execHpLinkDown p x_perst s).answers = true := by
  unfold execHpLinkDown
  grind (splits := 16) [Res.answers]

theorem execCorrectableLinkError_next (p : Nat) (s : State) :
    (execCorrectableLinkError p s).answers = true := by
  unfold execCorrectableLinkError
  grind (splits := 16) [Res.answers]

theorem execIdeIntegrityFail_next (p : Nat) (mem : Bool) (s : State) :
    (execIdeIntegrityFail p mem s).answers = true := by
  unfold execIdeIntegrityFail
  grind (splits := 16) [Res.answers]

theorem execHdmDecoderCommit_next (p : Nat) (i : Nat) (d : Hdm) (s : State) :
    (execHdmDecoderCommit p i d s).answers = true := by
  unfold execHdmDecoderCommit
  grind (splits := 16) [Res.answers]

theorem execHdmDecoderUncommit_next (p : Nat) (i : Nat) (s : State) :
    (execHdmDecoderUncommit p i s).answers = true := by
  unfold execHdmDecoderUncommit
  grind (splits := 16) [Res.answers]

theorem execBirsp_next (p : Nat) (hpa : Nat) (kind : Nat) (s : State) :
    (execBirsp p hpa kind s).answers = true := by
  unfold execBirsp
  grind (splits := 16) [Res.answers]

theorem execBiconflict_next (p : Nat) (tag : Nat) (hpa : Nat) (s : State) :
    (execBiconflict p tag hpa s).answers = true := by
  unfold execBiconflict
  grind (splits := 16) [Res.answers]

theorem execBisnpTimeout_next (p : Nat) (hpa : Nat) (s : State) :
    (execBisnpTimeout p hpa s).answers = true := by
  unfold execBisnpTimeout
  grind (splits := 16) [Res.answers]

theorem execHostBisnpCredit_next (p : Nat) (n : Nat) (s : State) :
    (execHostBisnpCredit p n s).answers = true := by
  unfold execHostBisnpCredit
  grind (splits := 16) [Res.answers]

theorem execAtomicOp_next (p : Nat) (tag : Nat) (da : Nat) (a : Atom) (s : State) :
    (execAtomicOp p tag da a s).answers = true := by
  unfold execAtomicOp
  grind (splits := 16) [Res.answers]

theorem execBar4NonAtomic_next (p : Nat) (tag : Nat) (da : Nat) (s : State) :
    (execBar4NonAtomic p tag da s).answers = true := by
  unfold execBar4NonAtomic
  grind (splits := 16) [Res.answers]

theorem execAtmAluDone_next (id : Nat) (s : State) :
    (execAtmAluDone id s).answers = true := by
  unfold execAtmAluDone
  grind (splits := 16) [Res.answers]

theorem execTrkEntryGrant_next (s : State) :
    (execTrkEntryGrant s).answers = true := by
  unfold execTrkEntryGrant
  grind (splits := 16) [Res.answers]

theorem execShedStepEscalate_next (s : State) :
    (execShedStepEscalate s).answers = true := by
  unfold execShedStepEscalate
  grind (splits := 16) [Res.answers]

theorem execDramReadReturn_next (id : Nat) (gen : Nat) (rds : List Rd) (s : State) :
    (execDramReadReturn id gen rds s).answers = true := by
  unfold execDramReadReturn
  grind (splits := 16) [Res.answers]

theorem execDramWriteCompletion_next (r : Echo) (s : State) :
    (execDramWriteCompletion r s).answers = true := by
  unfold execDramWriteCompletion
  grind (splits := 16) [Res.answers]

theorem execPriorityPromotion_next (s : State) :
    (execPriorityPromotion s).answers = true := by
  unfold execPriorityPromotion
  grind (splits := 16) [Res.answers]

/-! ### Machine/Mailbox.lean -/

theorem mbox_next (p : Nat) (opc : Nat) (owner : Bool) (f : State → State) (s : State) :
    (mbox p opc owner f s).answers = true := by
  unfold mbox
  grind (splits := 16) [Res.answers]

theorem execIdentifyMemoryDevice_next (p : Nat) (s : State) :
    (execIdentifyMemoryDevice p s).answers = true := by
  unfold execIdentifyMemoryDevice
  grind (splits := 16) [Res.answers, mbox_next]

theorem execGetEventRecords_next (p : Nat) (log : Nat) (s : State) :
    (execGetEventRecords p log s).answers = true := by
  unfold execGetEventRecords
  grind (splits := 16) [Res.answers, mbox_next]

theorem execClearEventRecords_next (p : Nat) (handles : List Nat) (s : State) :
    (execClearEventRecords p handles s).answers = true := by
  unfold execClearEventRecords
  grind (splits := 16) [Res.answers, mbox_next]

theorem execGetPoisonList_next (p : Nat) (s : State) :
    (execGetPoisonList p s).answers = true := by
  unfold execGetPoisonList
  grind (splits := 16) [Res.answers, mbox_next]

theorem execInjectPoison_next (p : Nat) (da : Nat) (s : State) :
    (execInjectPoison p da s).answers = true := by
  unfold execInjectPoison
  grind (splits := 16) [Res.answers, mbox_next]

theorem execClearPoison_next (p : Nat) (da : Nat) (data : Line) (s : State) :
    (execClearPoison p da data s).answers = true := by
  unfold execClearPoison
  grind (splits := 16) [Res.answers, mbox_next]

theorem execGetShutdownState_next (p : Nat) (s : State) :
    (execGetShutdownState p s).answers = true := by
  unfold execGetShutdownState
  grind (splits := 16) [Res.answers, mbox_next]

theorem setShutdownState_next (p : Nat) (dirty : Bool) (s : State) :
    (setShutdownState p dirty s).answers = true := by
  unfold setShutdownState
  grind (splits := 16) [Res.answers, mbox_next]

theorem setTimestamp_next (p : Nat) (ns : Nat) (s : State) :
    (setTimestamp p ns s).answers = true := by
  unfold setTimestamp
  grind (splits := 16) [Res.answers, mbox_next]

theorem getTimestamp_next (p : Nat) (s : State) :
    (getTimestamp p s).answers = true := by
  unfold getTimestamp
  grind (splits := 16) [Res.answers, mbox_next]

theorem execGetFwInfo_next (p : Nat) (s : State) :
    (execGetFwInfo p s).answers = true := by
  unfold execGetFwInfo
  grind (splits := 16) [Res.answers, mbox_next]

theorem execTransferFw_next (p : Nat) (typ : Nat) (last : Bool) (img : Image) (s : State) :
    (execTransferFw p typ last img s).answers = true := by
  unfold execTransferFw
  grind (splits := 16) [Res.answers, mbox_next]

theorem execActivateFw_next (p : Nat) (typ : Nat) (online : Bool) (s : State) :
    (execActivateFw p typ online s).answers = true := by
  unfold execActivateFw
  grind (splits := 16) [Res.answers, mbox_next]

theorem rangeCmd_next (p : Nat) (opc : Nat) (stage : Nat) (da : Nat) (len : Nat) (tr : Option Trailer) (s : State) :
    (rangeCmd p opc stage da len tr s).answers = true := by
  unfold rangeCmd
  grind (splits := 16) [Res.answers, mbox_next]

theorem execZalloc_next (p : Nat) (da : Nat) (len : Nat) (tr : Option Trailer) (s : State) :
    (execZalloc p da len tr s).answers = true := by
  unfold execZalloc
  grind (splits := 16) [Res.answers, rangeCmd_next]

theorem execPrefetch_next (p : Nat) (da : Nat) (len : Nat) (tr : Option Trailer) (s : State) :
    (execPrefetch p da len tr s).answers = true := by
  unfold execPrefetch
  grind (splits := 16) [Res.answers, rangeCmd_next]

theorem execPin_next (p : Nat) (da : Nat) (len : Nat) (tr : Option Trailer) (s : State) :
    (execPin p da len tr s).answers = true := by
  unfold execPin
  grind (splits := 16) [Res.answers, rangeCmd_next]

theorem execUnpin_next (p : Nat) (da : Nat) (len : Nat) (tr : Option Trailer) (s : State) :
    (execUnpin p da len tr s).answers = true := by
  unfold execUnpin
  grind (splits := 16) [Res.answers, rangeCmd_next]

theorem execFlush_next (p : Nat) (da : Nat) (len : Nat) (tr : Option Trailer) (s : State) :
    (execFlush p da len tr s).answers = true := by
  unfold execFlush
  grind (splits := 16) [Res.answers, rangeCmd_next]

theorem execInval_next (p : Nat) (da : Nat) (len : Nat) (tr : Option Trailer) (s : State) :
    (execInval p da len tr s).answers = true := by
  unfold execInval
  grind (splits := 16) [Res.answers, rangeCmd_next]

theorem execZallocSectorOp_next (p : Nat) (s : State) :
    (execZallocSectorOp p s).answers = true := by
  unfold execZallocSectorOp
  grind (splits := 16) [Res.answers]

theorem mboxFence_next (p : Nat) (opc : Nat) (payload : Nat) (dfence : Bool) (s : State) :
    (mboxFence p opc payload dfence s).answers = true := by
  unfold mboxFence
  grind (splits := 16) [Res.answers, mbox_next]

theorem execDfence_next (p : Nat) (payload : Nat) (s : State) :
    (execDfence p payload s).answers = true := by
  unfold execDfence
  grind (splits := 16) [Res.answers, mboxFence_next]

theorem execOfence_next (p : Nat) (payload : Nat) (s : State) :
    (execOfence p payload s).answers = true := by
  unfold execOfence
  grind (splits := 16) [Res.answers, mboxFence_next]

theorem doorbell_next (p : Nat) (seq : Nat) (irq : Bool) (dfence : Bool) (s : State) :
    (doorbell p seq irq dfence s).answers = true := by
  unfold doorbell
  grind (splits := 16) [Res.answers]

theorem execDoorbellDfence_next (p : Nat) (seq : Nat) (irq : Bool) (s : State) :
    (execDoorbellDfence p seq irq s).answers = true := by
  unfold execDoorbellDfence
  grind (splits := 16) [Res.answers, doorbell_next]

theorem execDoorbellOfence_next (p : Nat) (seq : Nat) (irq : Bool) (s : State) :
    (execDoorbellOfence p seq irq s).answers = true := by
  unfold execDoorbellOfence
  grind (splits := 16) [Res.answers, doorbell_next]

theorem execGpfPhase1_next (p : Nat) (s : State) :
    (execGpfPhase1 p s).answers = true := by
  unfold execGpfPhase1
  grind (splits := 16) [Res.answers]

theorem execGpfPhase2_next (p : Nat) (s : State) :
    (execGpfPhase2 p s).answers = true := by
  unfold execGpfPhase2
  grind (splits := 16) [Res.answers]

theorem execAtomic_next (p : Nat) (da : Nat) (a : Atom) (tr : Option Trailer) (s : State) :
    (execAtomic p da a tr s).answers = true := by
  unfold execAtomic
  grind (splits := 16) [Res.answers, mbox_next]

theorem execAppend_next (p : Nat) (da : Nat) (len : Nat) (data : Line) (tr : Option Trailer) (s : State) :
    (execAppend p da len data tr s).answers = true := by
  unfold execAppend
  grind (splits := 16) [Res.answers, mbox_next]

/-! ### Machine/Copying.lean -/

theorem execTscFillDone_next (set : Nat) (rds : List Rd) (s : State) :
    (execTscFillDone set rds s).answers = true := by
  unfold execTscFillDone
  grind (splits := 16) [Res.answers]

theorem execTscFillBudgetReset_next (s : State) :
    (execTscFillBudgetReset s).answers = true := by
  unfold execTscFillBudgetReset
  grind (splits := 16) [Res.answers]

theorem execVictimStallTimeout_next (id : Nat) (s : State) :
    (execVictimStallTimeout id s).answers = true := by
  unfold execVictimStallTimeout
  grind (splits := 16) [Res.answers]

theorem execSfStallTimeout_next (id : Nat) (s : State) :
    (execSfStallTimeout id s).answers = true := by
  unfold execSfStallTimeout
  grind (splits := 16) [Res.answers]

theorem execWbSchedulerCopy_next (r : Rd) (s : State) :
    (execWbSchedulerCopy r s).answers = true := by
  unfold execWbSchedulerCopy
  grind (splits := 16) [Res.answers]

theorem execWbStageStallTimeout_next (sk : Nat) (s : State) :
    (execWbStageStallTimeout sk s).answers = true := by
  unfold execWbStageStallTimeout
  grind (splits := 16) [Res.answers]

theorem execJournalPackTimeout_next (s : State) :
    (execJournalPackTimeout s).answers = true := by
  unfold execJournalPackTimeout
  grind (splits := 16) [Res.answers]

theorem execNtAgeWriteout_next (sk : Nat) (s : State) :
    (execNtAgeWriteout sk s).answers = true := by
  unfold execNtAgeWriteout
  grind (splits := 16) [Res.answers]

theorem execNtHoldWriteout_next (sk : Nat) (s : State) :
    (execNtHoldWriteout sk s).answers = true := by
  unfold execNtHoldWriteout
  grind (splits := 16) [Res.answers]

theorem execReservationGrant_next (s : State) :
    (execReservationGrant s).answers = true := by
  unfold execReservationGrant
  grind (splits := 16) [Res.answers]

theorem execSfSuspectWalk_next (s : State) :
    (execSfSuspectWalk s).answers = true := by
  unfold execSfSuspectWalk
  grind (splits := 16) [Res.answers]

/-! ### Machine/Sintering.lean -/

theorem execSinterPage_next (ns : Nat) (s : State) :
    (execSinterPage ns s).answers = true := by
  unfold execSinterPage
  grind (splits := 16) [Res.answers]

theorem execJournalHeadAdvance_next (ns : Nat) (s : State) :
    (execJournalHeadAdvance ns s).answers = true := by
  unfold execJournalHeadAdvance
  grind (splits := 16) [Res.answers]

theorem execCheckpointTimer_next (s : State) :
    (execCheckpointTimer s).answers = true := by
  unfold execCheckpointTimer
  grind (splits := 16) [Res.answers]

theorem execRotatePageStep_next (s : State) :
    (execRotatePageStep s).answers = true := by
  unfold execRotatePageStep
  grind (splits := 16) [Res.answers]

theorem execIndexBucketRebuild_next (b : Nat) (s : State) :
    (execIndexBucketRebuild b s).answers = true := by
  unfold execIndexBucketRebuild
  grind (splits := 16) [Res.answers]

/-! ### Machine/Fabric.lean -/

theorem receive_next (p : Nat) (lane : Nat) (seq : Nat) (m : FMsg) (free : Bool) (f : FMsg → State → State) (s : State) :
    (receive p lane seq m free f s).answers = true := by
  unfold receive
  grind (splits := 16) [Res.answers]

theorem execRdS_next (p : Nat) (lane : Nat) (seq : Nat) (m : FMsg) (s : State) :
    (execRdS p lane seq m s).answers = true := by
  unfold execRdS
  grind (splits := 16) [Res.answers, receive_next]

theorem execRdO_next (p : Nat) (lane : Nat) (seq : Nat) (m : FMsg) (s : State) :
    (execRdO p lane seq m s).answers = true := by
  unfold execRdO
  grind (splits := 16) [Res.answers, receive_next]

theorem execRdOna_next (p : Nat) (lane : Nat) (seq : Nat) (m : FMsg) (s : State) :
    (execRdOna p lane seq m s).answers = true := by
  unfold execRdOna
  grind (splits := 16) [Res.answers, receive_next]

theorem execRdNa_next (p : Nat) (lane : Nat) (seq : Nat) (m : FMsg) (s : State) :
    (execRdNa p lane seq m s).answers = true := by
  unfold execRdNa
  grind (splits := 16) [Res.answers, receive_next]

theorem execWrNa_next (p : Nat) (lane : Nat) (seq : Nat) (m : FMsg) (s : State) :
    (execWrNa p lane seq m s).answers = true := by
  unfold execWrNa
  grind (splits := 16) [Res.answers, receive_next]

theorem execAtom_next (p : Nat) (lane : Nat) (seq : Nat) (m : FMsg) (s : State) :
    (execAtom p lane seq m s).answers = true := by
  unfold execAtom
  grind (splits := 16) [Res.answers, receive_next]

theorem execEvcE_next (p : Nat) (lane : Nat) (seq : Nat) (m : FMsg) (s : State) :
    (execEvcE p lane seq m s).answers = true := by
  unfold execEvcE
  grind (splits := 16) [Res.answers, receive_next]

theorem execWb_next (p : Nat) (lane : Nat) (seq : Nat) (m : FMsg) (s : State) :
    (execWb p lane seq m s).answers = true := by
  unfold execWb
  grind (splits := 16) [Res.answers, receive_next]

theorem execFhb_next (p : Nat) (lane : Nat) (seq : Nat) (m : FMsg) (s : State) :
    (execFhb p lane seq m s).answers = true := by
  unfold execFhb
  grind (splits := 16) [Res.answers, receive_next]

theorem execFhbDone_next (p : Nat) (lane : Nat) (seq : Nat) (m : FMsg) (s : State) :
    (execFhbDone p lane seq m s).answers = true := by
  unfold execFhbDone
  grind (splits := 16) [Res.answers, receive_next]

theorem execSnpS_next (p : Nat) (lane : Nat) (seq : Nat) (m : FMsg) (s : State) :
    (execSnpS p lane seq m s).answers = true := by
  unfold execSnpS
  grind (splits := 16) [Res.answers, receive_next]

theorem execSnpInv_next (p : Nat) (lane : Nat) (seq : Nat) (m : FMsg) (s : State) :
    (execSnpInv p lane seq m s).answers = true := by
  unfold execSnpInv
  grind (splits := 16) [Res.answers, receive_next]

theorem execSnpCur_next (p : Nat) (lane : Nat) (seq : Nat) (m : FMsg) (s : State) :
    (execSnpCur p lane seq m s).answers = true := by
  unfold execSnpCur
  grind (splits := 16) [Res.answers, receive_next]

theorem execSnpRefwd_next (p : Nat) (lane : Nat) (seq : Nat) (m : FMsg) (s : State) :
    (execSnpRefwd p lane seq m s).answers = true := by
  unfold execSnpRefwd
  grind (splits := 16) [Res.answers, receive_next]

theorem homeRsp_next (p : Nat) (lane : Nat) (seq : Nat) (m : FMsg) (f : SnpOut → FMsg → State → State) (s : State) :
    (homeRsp p lane seq m f s).answers = true := by
  unfold homeRsp
  grind (splits := 16) [Res.answers, receive_next]

theorem execRspI_next (p : Nat) (lane : Nat) (seq : Nat) (m : FMsg) (s : State) :
    (execRspI p lane seq m s).answers = true := by
  unfold execRspI
  grind (splits := 16) [Res.answers, homeRsp_next]

theorem execRspS_next (p : Nat) (lane : Nat) (seq : Nat) (m : FMsg) (s : State) :
    (execRspS p lane seq m s).answers = true := by
  unfold execRspS
  grind (splits := 16) [Res.answers, homeRsp_next]

theorem execRspMiss_next (p : Nat) (lane : Nat) (seq : Nat) (m : FMsg) (s : State) :
    (execRspMiss p lane seq m s).answers = true := by
  unfold execRspMiss
  grind (splits := 16) [Res.answers, receive_next]

theorem execRspFwd_next (p : Nat) (lane : Nat) (seq : Nat) (m : FMsg) (s : State) :
    (execRspFwd p lane seq m s).answers = true := by
  unfold execRspFwd
  grind (splits := 16) [Res.answers, homeRsp_next]

theorem execSnpdata_next (p : Nat) (lane : Nat) (seq : Nat) (m : FMsg) (s : State) :
    (execSnpdata p lane seq m s).answers = true := by
  unfold execSnpdata
  grind (splits := 16) [Res.answers, receive_next]

theorem execRspPend_next (p : Nat) (lane : Nat) (seq : Nat) (m : FMsg) (s : State) :
    (execRspPend p lane seq m s).answers = true := by
  unfold execRspPend
  grind (splits := 16) [Res.answers, receive_next]

theorem execAck_next (p : Nat) (lane : Nat) (seq : Nat) (m : FMsg) (s : State) :
    (execAck p lane seq m s).answers = true := by
  unfold execAck
  grind (splits := 16) [Res.answers, receive_next]

theorem requesterRsp_next (p : Nat) (lane : Nat) (seq : Nat) (m : FMsg) (f : ReqOut → Txn → FMsg → State → State) (s : State) :
    (requesterRsp p lane seq m f s).answers = true := by
  unfold requesterRsp
  grind (splits := 16) [Res.answers, receive_next]

theorem execData_next (p : Nat) (lane : Nat) (seq : Nat) (m : FMsg) (s : State) :
    (execData p lane seq m s).answers = true := by
  unfold execData
  grind (splits := 16) [Res.answers, requesterRsp_next]

theorem execGnt_next (p : Nat) (lane : Nat) (seq : Nat) (m : FMsg) (s : State) :
    (execGnt p lane seq m s).answers = true := by
  unfold execGnt
  grind (splits := 16) [Res.answers, requesterRsp_next]

theorem execCmp_next (p : Nat) (lane : Nat) (seq : Nat) (m : FMsg) (s : State) :
    (execCmp p lane seq m s).answers = true := by
  unfold execCmp
  grind (splits := 16) [Res.answers, receive_next]

theorem execRls_next (p : Nat) (lane : Nat) (seq : Nat) (m : FMsg) (s : State) :
    (execRls p lane seq m s).answers = true := by
  unfold execRls
  grind (splits := 16) [Res.answers, receive_next]

theorem execErr_next (p : Nat) (lane : Nat) (seq : Nat) (m : FMsg) (s : State) :
    (execErr p lane seq m s).answers = true := by
  unfold execErr
  grind (splits := 16) [Res.answers, requesterRsp_next]

theorem execAtomRes_next (p : Nat) (lane : Nat) (seq : Nat) (m : FMsg) (s : State) :
    (execAtomRes p lane seq m s).answers = true := by
  unfold execAtomRes
  grind (splits := 16) [Res.answers, requesterRsp_next]

theorem execTransitMessage_next (p : Nat) (lane : Nat) (seq : Nat) (m : FMsg) (s : State) :
    (execTransitMessage p lane seq m s).answers = true := by
  unfold execTransitMessage
  grind (splits := 16) [Res.answers, receive_next]

theorem execFxTimeout_next (tid : Nat) (s : State) :
    (execFxTimeout tid s).answers = true := by
  unfold execFxTimeout
  grind (splits := 16) [Res.answers]

theorem execHomeResponseTimeout_next (tid : Nat) (s : State) :
    (execHomeResponseTimeout tid s).answers = true := by
  unfold execHomeResponseTimeout
  grind (splits := 16) [Res.answers]

theorem execHomeSnoopTimeout_next (sk : Nat) (dev : Nat) (s : State) :
    (execHomeSnoopTimeout sk dev s).answers = true := by
  unfold execHomeSnoopTimeout
  grind (splits := 16) [Res.answers]

theorem execRspPendInterval_next (id : Nat) (s : State) :
    (execRspPendInterval id s).answers = true := by
  unfold execRspPendInterval
  grind (splits := 16) [Res.answers]

theorem execDirStallTimeout_next (id : Nat) (s : State) :
    (execDirStallTimeout id s).answers = true := by
  unfold execDirStallTimeout
  grind (splits := 16) [Res.answers]

theorem execPeerIncarnationChange_next (dev : Nat) (inc : Nat) (s : State) :
    (execPeerIncarnationChange dev inc s).answers = true := by
  unfold execPeerIncarnationChange
  grind (splits := 16) [Res.answers]

theorem execFhbWaitTimeout_next (s : State) :
    (execFhbWaitTimeout s).answers = true := by
  unfold execFhbWaitTimeout
  grind (splits := 16) [Res.answers]

/-! ### Machine/Drain.lean -/

theorem execCleanQueueApply_next (s : State) :
    (execCleanQueueApply s).answers = true := by
  unfold execCleanQueueApply
  grind (splits := 16) [Res.answers]

theorem execPwrfailNAssert_next (wires : List WireWr) (msgs : List WireMsg) (s : State) :
    (execPwrfailNAssert wires msgs s).answers = true := by
  unfold execPwrfailNAssert
  grind (splits := 16) [Res.answers]

theorem execBusTrip_next (wires : List WireWr) (msgs : List WireMsg) (s : State) :
    (execBusTrip wires msgs s).answers = true := by
  unfold execBusTrip
  grind (splits := 16) [Res.answers]

theorem execPowerFailGlitch_next (s : State) :
    (execPowerFailGlitch s).answers = true := by
  unfold execPowerFailGlitch
  grind (splits := 16) [Res.answers]

/-! ### Machine/MediaIo.lean -/

theorem execMediaReadCompletion_next (cid : Nat) (out : MOut) (s : State) :
    (execMediaReadCompletion cid out s).answers = true := by
  unfold execMediaReadCompletion
  grind (splits := 16) [Res.answers]

theorem execSinterHomeWriteDone_next (cid : Nat) (out : MOut) (s : State) :
    (execSinterHomeWriteDone cid out s).answers = true := by
  unfold execSinterHomeWriteDone
  grind (splits := 16) [Res.answers]

theorem execMedCmdTimeout_next (cid : Nat) (s : State) :
    (execMedCmdTimeout cid s).answers = true := by
  unfold execMedCmdTimeout
  grind (splits := 16) [Res.answers]

theorem execMedAbortTimeout_next (cid : Nat) (s : State) :
    (execMedAbortTimeout cid s).answers = true := by
  unfold execMedAbortTimeout
  grind (splits := 16) [Res.answers]

theorem execSmartPoll_next (p : Nat) (warn : Bool) (used : Nat) (s : State) :
    (execSmartPoll p warn used s).answers = true := by
  unfold execSmartPoll
  grind (splits := 16) [Res.answers]

theorem execNvmeAsyncEvent_next (p : Nat) (warn : Bool) (used : Nat) (s : State) :
    (execNvmeAsyncEvent p warn used s).answers = true := by
  unfold execNvmeAsyncEvent
  grind (splits := 16) [Res.answers]

/-! ### Machine/Reserve.lean -/

theorem execBankPresentDebounce_next (n : Nat) (s : State) :
    (execBankPresentDebounce n s).answers = true := by
  unfold execBankPresentDebounce
  grind (splits := 16) [Res.answers]

theorem execBankFaultIsolate_next (n : Nat) (f : BankFault) (s : State) :
    (execBankFaultIsolate n f s).answers = true := by
  unfold execBankFaultIsolate
  grind (splits := 16) [Res.answers]

theorem execBankCapMeasure_next (n : Nat) (cap : Nat) (s : State) :
    (execBankCapMeasure n cap s).answers = true := by
  unfold execBankCapMeasure
  grind (splits := 16) [Res.answers]

theorem execBankChargeDone_next (n : Nat) (s : State) :
    (execBankChargeDone n s).answers = true := by
  unfold execBankChargeDone
  grind (splits := 16) [Res.answers]

theorem execBankRechargeThreshold_next (n : Nat) (s : State) :
    (execBankRechargeThreshold n s).answers = true := by
  unfold execBankRechargeThreshold
  grind (splits := 16) [Res.answers]

theorem execBankDischargeDone_next (n : Nat) (s : State) :
    (execBankDischargeDone n s).answers = true := by
  unfold execBankDischargeDone
  grind (splits := 16) [Res.answers]

theorem execBankDischargeTimeout_next (n : Nat) (s : State) :
    (execBankDischargeTimeout n s).answers = true := by
  unfold execBankDischargeTimeout
  grind (splits := 16) [Res.answers]

theorem reserveCtl_next (p : Nat) (rsv : Nat) (f : State → State) (s : State) :
    (reserveCtl p rsv f s).answers = true := by
  unfold reserveCtl
  grind (splits := 16) [Res.answers, mbox_next]

theorem execReserveArm_next (p : Nat) (rsv : Nat) (s : State) :
    (execReserveArm p rsv s).answers = true := by
  unfold execReserveArm
  grind (splits := 16) [Res.answers, reserveCtl_next]

theorem execReserveDisarm_next (p : Nat) (rsv : Nat) (s : State) :
    (execReserveDisarm p rsv s).answers = true := by
  unfold execReserveDisarm
  grind (splits := 16) [Res.answers, reserveCtl_next]

theorem execReserveDischarge_next (p : Nat) (banks : Nat) (rsv : Nat) (s : State) :
    (execReserveDischarge p banks rsv s).answers = true := by
  unfold execReserveDischarge
  grind (splits := 16) [Res.answers, reserveCtl_next]

theorem execReserveRecharge_next (p : Nat) (banks : Nat) (rsv : Nat) (s : State) :
    (execReserveRecharge p banks rsv s).answers = true := by
  unfold execReserveRecharge
  grind (splits := 16) [Res.answers, reserveCtl_next]

theorem execRsvGateFault_next (s : State) :
    (execRsvGateFault s).answers = true := by
  unfold execRsvGateFault
  grind (splits := 16) [Res.answers]

theorem execRsvNoBankFault_next (s : State) :
    (execRsvNoBankFault s).answers = true := by
  unfold execRsvNoBankFault
  grind (splits := 16) [Res.answers]

theorem execRsvFaultClear_next (f : RsvFault) (s : State) :
    (execRsvFaultClear f s).answers = true := by
  unfold execRsvFaultClear
  grind (splits := 16) [Res.answers]

theorem execCalWritebackTimeout_next (s : State) :
    (execCalWritebackTimeout s).answers = true := by
  unfold execCalWritebackTimeout
  grind (splits := 16) [Res.answers]

theorem execCalDrainDone_next (bw : Nat) (pwr : Nat) (s : State) :
    (execCalDrainDone bw pwr s).answers = true := by
  unfold execCalDrainDone
  grind (splits := 16) [Res.answers]

/-! ### Machine/Channels.lean -/

theorem execScrubSlot_next (c : Nat) (rds : List Rd) (s : State) :
    (execScrubSlot c rds s).answers = true := by
  unfold execScrubSlot
  grind (splits := 16) [Res.answers]

theorem execQuarantineRewrite_next (k : Nat) (s : State) :
    (execQuarantineRewrite k s).answers = true := by
  unfold execQuarantineRewrite
  grind (splits := 16) [Res.answers]

theorem execRefreshInterval_next (c : Nat) (s : State) :
    (execRefreshInterval c s).answers = true := by
  unfold execRefreshInterval
  grind (splits := 16) [Res.answers]

theorem execThermalPoll_next (c : Nat) (temp : Nat) (s : State) :
    (execThermalPoll c temp s).answers = true := by
  unfold execThermalPoll
  grind (splits := 16) [Res.answers]

theorem execChannelFailDetect_next (c : Nat) (s : State) :
    (execChannelFailDetect c s).answers = true := by
  unfold execChannelFailDetect
  grind (splits := 16) [Res.answers]

theorem execResilverSetCopy_next (p : Nat) (dropped : Bool) (s : State) :
    (execResilverSetCopy p dropped s).answers = true := by
  unfold execResilverSetCopy
  grind (splits := 16) [Res.answers]

/-! ### Machine/Retain.lean -/

theorem execFactoryArmExpire_next (s : State) :
    (execFactoryArmExpire s).answers = true := by
  unfold execFactoryArmExpire
  grind (splits := 16) [Res.answers]

theorem execNvmWriteCompletion_next (s : State) :
    (execNvmWriteCompletion s).answers = true := by
  unfold execNvmWriteCompletion
  grind (splits := 16) [Res.answers]

theorem execAssignStage_next (p : Nat) (items : List (Nat × Nat × Nat)) (rsv : Nat) (tr : Trailer) (s : State) :
    (execAssignStage p items rsv tr s).answers = true := by
  unfold execAssignStage
  grind (splits := 16) [Res.answers, mbox_next]

/-! ### Machine/Walni.lean -/

theorem runInstr_next (e : Ex) (i : Instr0) (act : State → State) (s : State) :
    (runInstr e i act s).answers = true := by
  unfold runInstr
  grind (splits := 16) [Res.answers]

theorem execInstructionFetchFault_next (e : Ex) (s : State) :
    (execInstructionFetchFault e s).answers = true := by
  unfold execInstructionFetchFault
  grind (splits := 16) [Res.answers]

theorem execUndefinedInstruction_next (e : Ex) (w : Word) (s : State) :
    (execUndefinedInstruction e w s).answers = true := by
  unfold execUndefinedInstruction
  grind (splits := 16) [Res.answers, runInstr_next]

/-! ### Machine/WalniAlu.lean -/

theorem aluR_next (e : Ex) (fn : Nat) (rd : Fin 32) (rs : Fin 32) (rt : Fin 32) (f : Word → Word → Word) (s : State) :
    (aluR e fn rd rs rt f s).answers = true := by
  unfold aluR
  grind (splits := 16) [Res.answers, runInstr_next]

theorem aluK_next (e : Ex) (fn : Nat) (rd : Fin 32) (rs : Fin 32) (k : Fin 32) (f : Word → Nat → Word) (s : State) :
    (aluK e fn rd rs k f s).answers = true := by
  unfold aluK
  grind (splits := 16) [Res.answers, runInstr_next]

theorem aluI_next (e : Ex) (op : Nat) (rd : Fin 32) (rs : Fin 32) (imm : BitVec 16) (f : Word → Word) (s : State) :
    (aluI e op rd rs imm f s).answers = true := by
  unfold aluI
  grind (splits := 16) [Res.answers, runInstr_next]

theorem execAdd_next (e : Ex) (rd : Fin 32) (rs : Fin 32) (rt : Fin 32) (s : State) :
    (execAdd e rd rs rt s).answers = true := by
  unfold execAdd
  grind (splits := 16) [Res.answers, aluR_next]

theorem execSub_next (e : Ex) (rd : Fin 32) (rs : Fin 32) (rt : Fin 32) (s : State) :
    (execSub e rd rs rt s).answers = true := by
  unfold execSub
  grind (splits := 16) [Res.answers, aluR_next]

theorem execAnd_next (e : Ex) (rd : Fin 32) (rs : Fin 32) (rt : Fin 32) (s : State) :
    (execAnd e rd rs rt s).answers = true := by
  unfold execAnd
  grind (splits := 16) [Res.answers, aluR_next]

theorem execOr_next (e : Ex) (rd : Fin 32) (rs : Fin 32) (rt : Fin 32) (s : State) :
    (execOr e rd rs rt s).answers = true := by
  unfold execOr
  grind (splits := 16) [Res.answers, aluR_next]

theorem execXor_next (e : Ex) (rd : Fin 32) (rs : Fin 32) (rt : Fin 32) (s : State) :
    (execXor e rd rs rt s).answers = true := by
  unfold execXor
  grind (splits := 16) [Res.answers, aluR_next]

theorem execNor_next (e : Ex) (rd : Fin 32) (rs : Fin 32) (rt : Fin 32) (s : State) :
    (execNor e rd rs rt s).answers = true := by
  unfold execNor
  grind (splits := 16) [Res.answers, aluR_next]

theorem execLts_next (e : Ex) (rd : Fin 32) (rs : Fin 32) (rt : Fin 32) (s : State) :
    (execLts e rd rs rt s).answers = true := by
  unfold execLts
  grind (splits := 16) [Res.answers, aluR_next]

theorem execLtu_next (e : Ex) (rd : Fin 32) (rs : Fin 32) (rt : Fin 32) (s : State) :
    (execLtu e rd rs rt s).answers = true := by
  unfold execLtu
  grind (splits := 16) [Res.answers, aluR_next]

theorem execMin_next (e : Ex) (rd : Fin 32) (rs : Fin 32) (rt : Fin 32) (s : State) :
    (execMin e rd rs rt s).answers = true := by
  unfold execMin
  grind (splits := 16) [Res.answers, aluR_next]

theorem execMax_next (e : Ex) (rd : Fin 32) (rs : Fin 32) (rt : Fin 32) (s : State) :
    (execMax e rd rs rt s).answers = true := by
  unfold execMax
  grind (splits := 16) [Res.answers, aluR_next]

theorem execMinu_next (e : Ex) (rd : Fin 32) (rs : Fin 32) (rt : Fin 32) (s : State) :
    (execMinu e rd rs rt s).answers = true := by
  unfold execMinu
  grind (splits := 16) [Res.answers, aluR_next]

theorem execMaxu_next (e : Ex) (rd : Fin 32) (rs : Fin 32) (rt : Fin 32) (s : State) :
    (execMaxu e rd rs rt s).answers = true := by
  unfold execMaxu
  grind (splits := 16) [Res.answers, aluR_next]

theorem execShl_next (e : Ex) (rd : Fin 32) (rs : Fin 32) (rt : Fin 32) (s : State) :
    (execShl e rd rs rt s).answers = true := by
  unfold execShl
  grind (splits := 16) [Res.answers, aluR_next]

theorem execShr_next (e : Ex) (rd : Fin 32) (rs : Fin 32) (rt : Fin 32) (s : State) :
    (execShr e rd rs rt s).answers = true := by
  unfold execShr
  grind (splits := 16) [Res.answers, aluR_next]

theorem execSar_next (e : Ex) (rd : Fin 32) (rs : Fin 32) (rt : Fin 32) (s : State) :
    (execSar e rd rs rt s).answers = true := by
  unfold execSar
  grind (splits := 16) [Res.answers, aluR_next]

theorem execRor_next (e : Ex) (rd : Fin 32) (rs : Fin 32) (rt : Fin 32) (s : State) :
    (execRor e rd rs rt s).answers = true := by
  unfold execRor
  grind (splits := 16) [Res.answers, aluR_next]

theorem execShlk_next (e : Ex) (rd : Fin 32) (rs : Fin 32) (k : Fin 32) (s : State) :
    (execShlk e rd rs k s).answers = true := by
  unfold execShlk
  grind (splits := 16) [Res.answers, aluK_next]

theorem execShrk_next (e : Ex) (rd : Fin 32) (rs : Fin 32) (k : Fin 32) (s : State) :
    (execShrk e rd rs k s).answers = true := by
  unfold execShrk
  grind (splits := 16) [Res.answers, aluK_next]

theorem execSark_next (e : Ex) (rd : Fin 32) (rs : Fin 32) (k : Fin 32) (s : State) :
    (execSark e rd rs k s).answers = true := by
  unfold execSark
  grind (splits := 16) [Res.answers, aluK_next]

theorem execMul_next (e : Ex) (rd : Fin 32) (rs : Fin 32) (rt : Fin 32) (s : State) :
    (execMul e rd rs rt s).answers = true := by
  unfold execMul
  grind (splits := 16) [Res.answers, aluR_next]

theorem execMulhu_next (e : Ex) (rd : Fin 32) (rs : Fin 32) (rt : Fin 32) (s : State) :
    (execMulhu e rd rs rt s).answers = true := by
  unfold execMulhu
  grind (splits := 16) [Res.answers, aluR_next]

theorem execMulhs_next (e : Ex) (rd : Fin 32) (rs : Fin 32) (rt : Fin 32) (s : State) :
    (execMulhs e rd rs rt s).answers = true := by
  unfold execMulhs
  grind (splits := 16) [Res.answers, aluR_next]

theorem execClz_next (e : Ex) (rd : Fin 32) (rs : Fin 32) (rt : Fin 32) (s : State) :
    (execClz e rd rs rt s).answers = true := by
  unfold execClz
  grind (splits := 16) [Res.answers, aluR_next]

theorem execOnes_next (e : Ex) (rd : Fin 32) (rs : Fin 32) (rt : Fin 32) (s : State) :
    (execOnes e rd rs rt s).answers = true := by
  unfold execOnes
  grind (splits := 16) [Res.answers, aluR_next]

theorem execAddk_next (e : Ex) (rd : Fin 32) (rs : Fin 32) (imm : BitVec 16) (s : State) :
    (execAddk e rd rs imm s).answers = true := by
  unfold execAddk
  grind (splits := 16) [Res.answers, aluI_next]

theorem execAndk_next (e : Ex) (rd : Fin 32) (rs : Fin 32) (imm : BitVec 16) (s : State) :
    (execAndk e rd rs imm s).answers = true := by
  unfold execAndk
  grind (splits := 16) [Res.answers, aluI_next]

theorem execOrk_next (e : Ex) (rd : Fin 32) (rs : Fin 32) (imm : BitVec 16) (s : State) :
    (execOrk e rd rs imm s).answers = true := by
  unfold execOrk
  grind (splits := 16) [Res.answers, aluI_next]

theorem execXork_next (e : Ex) (rd : Fin 32) (rs : Fin 32) (imm : BitVec 16) (s : State) :
    (execXork e rd rs imm s).answers = true := by
  unfold execXork
  grind (splits := 16) [Res.answers, aluI_next]

theorem execLtsk_next (e : Ex) (rd : Fin 32) (rs : Fin 32) (imm : BitVec 16) (s : State) :
    (execLtsk e rd rs imm s).answers = true := by
  unfold execLtsk
  grind (splits := 16) [Res.answers, aluI_next]

theorem execLtuk_next (e : Ex) (rd : Fin 32) (rs : Fin 32) (imm : BitVec 16) (s : State) :
    (execLtuk e rd rs imm s).answers = true := by
  unfold execLtuk
  grind (splits := 16) [Res.answers, aluI_next]

theorem execHik_next (e : Ex) (rd : Fin 32) (rs : Fin 32) (imm : BitVec 16) (s : State) :
    (execHik e rd rs imm s).answers = true := by
  unfold execHik
  grind (splits := 16) [Res.answers, aluI_next]

/-! ### Machine/WalniFlow.lean -/

theorem execPredictorTagFlush_next (e : Ex) (s : State) :
    (execPredictorTagFlush e s).answers = true := by
  unfold execPredictorTagFlush
  grind (splits := 16) [Res.answers]

theorem branch_next (e : Ex) (op : Nat) (a : Bool) (cond : Nat) (rs : Nat) (off : BitVec 16) (link : Bool) (s : State) :
    (branch e op a cond rs off link s).answers = true := by
  unfold branch
  grind (splits := 16) [Res.answers, runInstr_next]

theorem execBr_next (e : Ex) (a : Bool) (cond : Fin 16) (rs : Fin 32) (off : BitVec 16) (s : State) :
    (execBr e a cond rs off s).answers = true := by
  unfold execBr
  grind (splits := 16) [Res.answers, branch_next]

theorem execBrl_next (e : Ex) (a : Bool) (cond : Fin 16) (rs : Fin 32) (off : BitVec 16) (s : State) :
    (execBrl e a cond rs off s).answers = true := by
  unfold execBrl
  grind (splits := 16) [Res.answers, branch_next]

theorem jump_next (e : Ex) (link : Bool) (rd : Nat) (rs : Nat) (rt : Nat) (s : State) :
    (jump e link rd rs rt s).answers = true := by
  unfold jump
  grind (splits := 16) [Res.answers, runInstr_next]

theorem execJmp_next (e : Ex) (rd : Fin 32) (rs : Fin 32) (rt : Fin 32) (s : State) :
    (execJmp e rd rs rt s).answers = true := by
  unfold execJmp
  grind (splits := 16) [Res.answers, jump_next]

theorem execJml_next (e : Ex) (rd : Fin 32) (rs : Fin 32) (rt : Fin 32) (s : State) :
    (execJml e rd rs rt s).answers = true := by
  unfold execJml
  grind (splits := 16) [Res.answers, jump_next]

theorem startLoop_next (e : Ex) (w : Word) (level : Nat) (count : Ctx → Word) (off : BitVec 16) (s : State) :
    (startLoop e w level count off s).answers = true := by
  unfold startLoop
  grind (splits := 16) [Res.answers, runInstr_next]

theorem execLoop_next (e : Ex) (level : Fin 2) (rs : Fin 32) (off : BitVec 16) (s : State) :
    (execLoop e level rs off s).answers = true := by
  unfold execLoop
  grind (splits := 16) [Res.answers, startLoop_next]

theorem execLoopi_next (e : Ex) (level : Fin 2) (count : Fin 512) (off : BitVec 16) (s : State) :
    (execLoopi e level count off s).answers = true := by
  unfold execLoopi
  grind (splits := 16) [Res.answers, startLoop_next]

theorem execMode_next (e : Ex) (rs : Fin 32) (s : State) :
    (execMode e rs s).answers = true := by
  unfold execMode
  grind (splits := 16) [Res.answers, runInstr_next]

theorem execXret_next (e : Ex) (s : State) :
    (execXret e s).answers = true := by
  unfold execXret
  grind (splits := 16) [Res.answers, runInstr_next]

theorem execTrap_next (e : Ex) (s : State) :
    (execTrap e s).answers = true := by
  unfold execTrap
  grind (splits := 16) [Res.answers, runInstr_next]

theorem execDebug_next (e : Ex) (s : State) :
    (execDebug e s).answers = true := by
  unfold execDebug
  grind (splits := 16) [Res.answers, runInstr_next]

theorem execFend_next (e : Ex) (s : State) :
    (execFend e s).answers = true := by
  unfold execFend
  grind (splits := 16) [Res.answers, runInstr_next]

theorem execPflush_next (e : Ex) (s : State) :
    (execPflush e s).answers = true := by
  unfold execPflush
  grind (splits := 16) [Res.answers, runInstr_next]

theorem execSrd_next (e : Ex) (rd : Fin 32) (n : Fin 32) (s : State) :
    (execSrd e rd n s).answers = true := by
  unfold execSrd
  grind (splits := 16) [Res.answers, runInstr_next]

theorem execSwr_next (e : Ex) (rs : Fin 32) (n : Fin 32) (s : State) :
    (execSwr e rs n s).answers = true := by
  unfold execSwr
  grind (splits := 16) [Res.answers, runInstr_next]

/-! ### Machine/WalniCp.lean -/

theorem pureOp_next (e : Ex) (op : Nat) (fn : Nat) (rd : Fin 32) (rs : Fin 32) (rt : Fin 32) (ok : Ctx → Bool) (f : Ctx → Word) (s : State) :
    (pureOp e op fn rd rs rt ok f s).answers = true := by
  unfold pureOp
  grind (splits := 16) [Res.answers, runInstr_next]

theorem execScan_next (e : Ex) (rd : Fin 32) (rs : Fin 32) (rt : Fin 32) (s : State) :
    (execScan e rd rs rt s).answers = true := by
  unfold execScan
  grind (splits := 16) [Res.answers, pureOp_next]

theorem execHeatrd_next (e : Ex) (rd : Fin 32) (rs : Fin 32) (rt : Fin 32) (s : State) :
    (execHeatrd e rd rs rt s).answers = true := by
  unfold execHeatrd
  grind (splits := 16) [Res.answers, pureOp_next, runInstr_next]

theorem execCpResultReturn_next (e : Ex) (rds : List Rd) (s : State) :
    (execCpResultReturn e rds s).answers = true := by
  unfold execCpResultReturn
  grind (splits := 16) [Res.answers]

theorem execHashSet_next (e : Ex) (rd : Fin 32) (rs : Fin 32) (rt : Fin 32) (s : State) :
    (execHashSet e rd rs rt s).answers = true := by
  unfold execHashSet
  grind (splits := 16) [Res.answers, pureOp_next]

theorem execHashMix_next (e : Ex) (rd : Fin 32) (rs : Fin 32) (rt : Fin 32) (s : State) :
    (execHashMix e rd rs rt s).answers = true := by
  unfold execHashMix
  grind (splits := 16) [Res.answers, pureOp_next]

theorem effOp_next (e : Ex) (fn : Nat) (rd : Fin 32) (rs : Fin 32) (rt : Fin 32) (ok : Word → Word → Bool) (op : Word → Word → CpOp) (s : State) :
    (effOp e fn rd rs rt ok op s).answers = true := by
  unfold effOp
  grind (splits := 16) [Res.answers, runInstr_next]

theorem execEvict_next (e : Ex) (rd : Fin 32) (rs : Fin 32) (rt : Fin 32) (s : State) :
    (execEvict e rd rs rt s).answers = true := by
  unfold execEvict
  grind (splits := 16) [Res.answers, effOp_next]

theorem execPolicyPrefetch_next (e : Ex) (rd : Fin 32) (rs : Fin 32) (rt : Fin 32) (s : State) :
    (execPolicyPrefetch e rd rs rt s).answers = true := by
  unfold execPolicyPrefetch
  grind (splits := 16) [Res.answers, effOp_next]

theorem execPolicyPin_next (e : Ex) (rd : Fin 32) (rs : Fin 32) (rt : Fin 32) (s : State) :
    (execPolicyPin e rd rs rt s).answers = true := by
  unfold execPolicyPin
  grind (splits := 16) [Res.answers, effOp_next]

theorem execPolicyUnpin_next (e : Ex) (rd : Fin 32) (rs : Fin 32) (rt : Fin 32) (s : State) :
    (execPolicyUnpin e rd rs rt s).answers = true := by
  unfold execPolicyUnpin
  grind (splits := 16) [Res.answers, effOp_next]

theorem execHintWrite_next (e : Ex) (rd : Fin 32) (rs : Fin 32) (rt : Fin 32) (s : State) :
    (execHintWrite e rd rs rt s).answers = true := by
  unfold execHintWrite
  grind (splits := 16) [Res.answers, effOp_next]

theorem execCp3Delivery_next (k : Nat) (s : State) :
    (execCp3Delivery k s).answers = true := by
  unfold execCp3Delivery
  grind (splits := 16) [Res.answers]

/-! ### Machine/Policy.lean -/

theorem execSpringStreamRead_next (e : Ex) (s : State) :
    (execSpringStreamRead e s).answers = true := by
  unfold execSpringStreamRead
  grind (splits := 16) [Res.answers]

theorem execSpringPackTimeout_next (k : Nat) (s : State) :
    (execSpringPackTimeout k s).answers = true := by
  unfold execSpringPackTimeout
  grind (splits := 16) [Res.answers]

theorem execBaselineSpringPass_next (s : State) :
    (execBaselineSpringPass s).answers = true := by
  unfold execBaselineSpringPass
  grind (splits := 16) [Res.answers]

theorem execPcfDemote_next (k : Nat) (s : State) :
    (execPcfDemote k s).answers = true := by
  unfold execPcfDemote
  grind (splits := 16) [Res.answers]

theorem execPrefetchIssue_next (s : State) :
    (execPrefetchIssue s).answers = true := by
  unfold execPrefetchIssue
  grind (splits := 16) [Res.answers]

/-! ### Machine/FabMgmt.lean -/

theorem execIdleFlit_next (p : Nat) (ack : Nat) (vc : VC) (lane : Nat) (n : Nat) (s : State) :
    (execIdleFlit p ack vc lane n s).answers = true := by
  unfold execIdleFlit
  grind (splits := 16) [Res.answers]

theorem execFlitFailed_next (p : Nat) (uncorr : Bool) (again : Bool) (s : State) :
    (execFlitFailed p uncorr again s).answers = true := by
  unfold execFlitFailed
  grind (splits := 16) [Res.answers]

theorem execNak_next (p : Nat) (ack : Nat) (s : State) :
    (execNak p ack s).answers = true := by
  unfold execNak
  grind (splits := 16) [Res.answers]

theorem execReplayEpisodeEnd_next (p : Nat) (s : State) :
    (execReplayEpisodeEnd p s).answers = true := by
  unfold execReplayEpisodeEnd
  grind (splits := 16) [Res.answers]

theorem execLaneDegrade_next (p : Nat) (ack : Nat) (lanes : List Bool) (grants : List Nat) (s : State) :
    (execLaneDegrade p ack lanes grants s).answers = true := by
  unfold execLaneDegrade
  grind (splits := 16) [Res.answers]

theorem execFabLinkDown_next (p : Nat) (s : State) :
    (execFabLinkDown p s).answers = true := by
  unfold execFabLinkDown
  grind (splits := 16) [Res.answers]

theorem execFabLinkUp_next (p : Nat) (width : Fin 3) (grants : List Nat) (s : State) :
    (execFabLinkUp p width grants s).answers = true := by
  unfold execFabLinkUp
  grind (splits := 16) [Res.answers]

theorem execRouteHoldTimeout_next (i : Nat) (s : State) :
    (execRouteHoldTimeout i s).answers = true := by
  unfold execRouteHoldTimeout
  grind (splits := 16) [Res.answers]

theorem execFecInterval_next (p : Nat) (n : Nat) (s : State) :
    (execFecInterval p n s).answers = true := by
  unfold execFecInterval
  grind (splits := 16) [Res.answers]

theorem execHello_next (p : Nat) (h : Hello) (s : State) :
    (execHello p h s).answers = true := by
  unfold execHello
  grind (splits := 16) [Res.answers]

theorem execHelloTimer_next (p : Nat) (s : State) :
    (execHelloTimer p s).answers = true := by
  unfold execHelloTimer
  grind (splits := 16) [Res.answers]

theorem execFmCandidateExpire_next (p : Nat) (s : State) :
    (execFmCandidateExpire p s).answers = true := by
  unfold execFmCandidateExpire
  grind (splits := 16) [Res.answers]

theorem execFmElected_next (s : State) :
    (execFmElected s).answers = true := by
  unfold execFmElected
  grind (splits := 16) [Res.answers]

theorem execFmLost_next (s : State) :
    (execFmLost s).answers = true := by
  unfold execFmLost
  grind (splits := 16) [Res.answers]

theorem execFmBeaconTimer_next (s : State) :
    (execFmBeaconTimer s).answers = true := by
  unfold execFmBeaconTimer
  grind (splits := 16) [Res.answers]

theorem execFmcResendTimeout_next (tag : Nat) (s : State) :
    (execFmcResendTimeout tag s).answers = true := by
  unfold execFmcResendTimeout
  grind (splits := 16) [Res.answers]

theorem execSync_next (p : Nat) (m : SyncMsg) (s : State) :
    (execSync p m s).answers = true := by
  unfold execSync
  grind (splits := 16) [Res.answers]

theorem execSyncExchangeTimer_next (s : State) :
    (execSyncExchangeTimer s).answers = true := by
  unfold execSyncExchangeTimer
  grind (splits := 16) [Res.answers]

theorem execSyncHoldoverExpire_next (s : State) :
    (execSyncHoldoverExpire s).answers = true := by
  unfold execSyncHoldoverExpire
  grind (splits := 16) [Res.answers]

/-! ### Machine/Startup.lean -/

theorem execHostLinkEnable_next (s : State) :
    (execHostLinkEnable s).answers = true := by
  unfold execHostLinkEnable
  grind (splits := 16) [Res.answers]

theorem execPfHeldTimeout_next (s : State) :
    (execPfHeldTimeout s).answers = true := by
  unfold execPfHeldTimeout
  grind (splits := 16) [Res.answers]

theorem execRailsGoodRise_next (f : BootFacts) (s : State) :
    (execRailsGoodRise f s).answers = true := by
  unfold execRailsGoodRise
  grind (splits := 16) [Res.answers]

theorem execJournalPageCompletion_next (cid : Nat) (out : MOut) (s : State) :
    (execJournalPageCompletion cid out s).answers = true := by
  unfold execJournalPageCompletion
  grind (splits := 16) [Res.answers]

theorem execLabelAreaWriteCompletion_next (cid : Nat) (out : MOut) (s : State) :
    (execLabelAreaWriteCompletion cid out s).answers = true := by
  unfold execLabelAreaWriteCompletion
  grind (splits := 16) [Res.answers]

theorem execMediaPortLost_next (p : Nat) (s : State) :
    (execMediaPortLost p s).answers = true := by
  unfold execMediaPortLost
  grind (splits := 16) [Res.answers]

theorem execMedCtrlReadyTimeout_next (p : Nat) (s : State) :
    (execMedCtrlReadyTimeout p s).answers = true := by
  unfold execMedCtrlReadyTimeout
  grind (splits := 16) [Res.answers]

theorem execMedCtrlReady_next (p : Nat) (nss : List FoundNs) (last : Bool) (s : State) :
    (execMedCtrlReady p nss last s).answers = true := by
  unfold execMedCtrlReady
  grind (splits := 16) [Res.answers]

/-! ### Machine/Power.lean -/

theorem execGeyserDrainComplete_next (f : BootFacts) (s : State) :
    (execGeyserDrainComplete f s).answers = true := by
  unfold execGeyserDrainComplete
  grind (splits := 16) [Res.answers]

theorem execBankVminReached_next (s : State) :
    (execBankVminReached s).answers = true := by
  unfold execBankVminReached
  grind (splits := 16) [Res.answers]

theorem execMainPowerReturn_next (s : State) :
    (execMainPowerReturn s).answers = true := by
  unfold execMainPowerReturn
  grind (splits := 16) [Res.answers]

theorem execRailsGoodFall_next (wires : List WireWr) (msgs : List WireMsg) (s : State) :
    (execRailsGoodFall wires msgs s).answers = true := by
  unfold execRailsGoodFall
  grind (splits := 16) [Res.answers]

theorem execDramRailsLeaveRegulation_next (s : State) :
    (execDramRailsLeaveRegulation s).answers = true := by
  unfold execDramRailsLeaveRegulation
  grind (splits := 16) [Res.answers]

theorem execBankBleedDone_next (n : Nat) (s : State) :
    (execBankBleedDone n s).answers = true := by
  unfold execBankBleedDone
  grind (splits := 16) [Res.answers]

theorem execVauxPowerUp_next (s : State) :
    (execVauxPowerUp s).answers = true := by
  unfold execVauxPowerUp
  grind (splits := 16) [Res.answers]

theorem execVauxFall_next (s : State) :
    (execVauxFall s).answers = true := by
  unfold execVauxFall
  grind (splits := 16) [Res.answers]

theorem execResetNAssert_next (f : BootFacts) (s : State) :
    (execResetNAssert f s).answers = true := by
  unfold execResetNAssert
  grind (splits := 16) [Res.answers]

theorem execReleasePhaseTimeout_next (s : State) :
    (execReleasePhaseTimeout s).answers = true := by
  unfold execReleasePhaseTimeout
  grind (splits := 16) [Res.answers]

theorem execBootWatchdogExpire_next (f : BootFacts) (s : State) :
    (execBootWatchdogExpire f s).answers = true := by
  unfold execBootWatchdogExpire
  grind (splits := 16) [Res.answers]

theorem execRomRecoveryReset_next (f : BootFacts) (s : State) :
    (execRomRecoveryReset f s).answers = true := by
  unfold execRomRecoveryReset
  grind (splits := 16) [Res.answers]

theorem execTamperTrigger_next (t : Tamper) (wires : List WireWr) (msgs : List WireMsg) (s : State) :
    (execTamperTrigger t wires msgs s).answers = true := by
  unfold execTamperTrigger
  grind (splits := 16) [Res.answers]

theorem execQuenchSramCleared_next (s : State) :
    (execQuenchSramCleared s).answers = true := by
  unfold execQuenchSramCleared
  grind (splits := 16) [Res.answers]

/-! ### Machine/Rewarm.lean -/

theorem execRestartSweepSet_next (c : Nat) (s : State) :
    (execRestartSweepSet c s).answers = true := by
  unfold execRestartSweepSet
  grind (splits := 16) [Res.answers]

theorem execRewarmRead_next (s : State) :
    (execRewarmRead s).answers = true := by
  unfold execRewarmRead
  grind (splits := 16) [Res.answers]

theorem execEpochTick_next (adc : List Adc) (s : State) :
    (execEpochTick adc s).answers = true := by
  unfold execEpochTick
  grind (splits := 16) [Res.answers]

/-! ### Machine/Rng.lean -/

theorem execRngReady_next (s : State) :
    (execRngReady s).answers = true := by
  unfold execRngReady
  grind (splits := 16) [Res.answers]

theorem execRngHealthFail_next (s : State) :
    (execRngHealthFail s).answers = true := by
  unfold execRngHealthFail
  grind (splits := 16) [Res.answers]

theorem execDrbgReseed_next (s : State) :
    (execDrbgReseed s).answers = true := by
  unfold execDrbgReseed
  grind (splits := 16) [Res.answers]

theorem execRngDataRead_next (m : Master) (active : Bool) (s : State) :
    (execRngDataRead m active s).answers = true := by
  unfold execRngDataRead
  grind (splits := 16) [Res.answers]

theorem spdmPlain_next (p : Nat) (kind : String) (payload : List Nat) (s : State) :
    (spdmPlain p kind payload s).answers = true := by
  unfold spdmPlain
  grind (splits := 16) [Res.answers]

theorem spdm_next (p : Nat) (f : State → State) (s : State) :
    (spdm p f s).answers = true := by
  unfold spdm
  grind (splits := 16) [Res.answers]

theorem execGetVersion_next (p : Nat) (s : State) :
    (execGetVersion p s).answers = true := by
  unfold execGetVersion
  grind (splits := 16) [Res.answers, spdmPlain_next]

theorem execGetCapabilities_next (p : Nat) (s : State) :
    (execGetCapabilities p s).answers = true := by
  unfold execGetCapabilities
  grind (splits := 16) [Res.answers, spdmPlain_next]

theorem execNegotiateAlgorithms_next (p : Nat) (s : State) :
    (execNegotiateAlgorithms p s).answers = true := by
  unfold execNegotiateAlgorithms
  grind (splits := 16) [Res.answers, spdmPlain_next]

theorem execGetDigests_next (p : Nat) (s : State) :
    (execGetDigests p s).answers = true := by
  unfold execGetDigests
  grind (splits := 16) [Res.answers, spdm_next]

theorem execGetCertificate_next (p : Nat) (slot : Nat) (s : State) :
    (execGetCertificate p slot s).answers = true := by
  unfold execGetCertificate
  grind (splits := 16) [Res.answers, spdm_next]

theorem execChallenge_next (p : Nat) (slot : Nat) (nonce : Nat) (s : State) :
    (execChallenge p slot nonce s).answers = true := by
  unfold execChallenge
  grind (splits := 16) [Res.answers, spdm_next]

theorem execGetMeasurements_next (p : Nat) (idx : Nat) (s : State) :
    (execGetMeasurements p idx s).answers = true := by
  unfold execGetMeasurements
  grind (splits := 16) [Res.answers, spdm_next]

theorem execKeyExchange_next (p : Nat) (s : State) :
    (execKeyExchange p s).answers = true := by
  unfold execKeyExchange
  grind (splits := 16) [Res.answers, spdm_next]

theorem execFinish_next (p : Nat) (id : Nat) (ok : Bool) (s : State) :
    (execFinish p id ok s).answers = true := by
  unfold execFinish
  grind (splits := 16) [Res.answers, spdm_next]

theorem execHeartbeat_next (p : Nat) (id : Nat) (s : State) :
    (execHeartbeat p id s).answers = true := by
  unfold execHeartbeat
  grind (splits := 16) [Res.answers, spdm_next]

theorem execKeyUpdate_next (p : Nat) (id : Nat) (s : State) :
    (execKeyUpdate p id s).answers = true := by
  unfold execKeyUpdate
  grind (splits := 16) [Res.answers, spdm_next]

theorem execEndSession_next (p : Nat) (id : Nat) (s : State) :
    (execEndSession p id s).answers = true := by
  unfold execEndSession
  grind (splits := 16) [Res.answers, spdm_next]

theorem execIdeKm_next (p : Nat) (mem : Bool) (skid : Bool) (session : Option Nat) (s : State) :
    (execIdeKm p mem skid session s).answers = true := by
  unfold execIdeKm
  grind (splits := 16) [Res.answers, spdm_next]

/-! ### Machine/Sec.lean -/

theorem execKeyEscrowUnlock_next (p : Nat) (key : Nat) (asserted : List Tamper) (tr : Trailer) (s : State) :
    (execKeyEscrowUnlock p key asserted tr s).answers = true := by
  unfold execKeyEscrowUnlock
  grind (splits := 16) [Res.answers, mbox_next]

theorem execKeyEscrowChange_next (p : Nat) (key : Nat) (newKey : Nat) (tr : Trailer) (s : State) :
    (execKeyEscrowChange p key newKey tr s).answers = true := by
  unfold execKeyEscrowChange
  grind (splits := 16) [Res.answers, mbox_next]

theorem execEscrowWaitExpire_next (s : State) :
    (execEscrowWaitExpire s).answers = true := by
  unfold execEscrowWaitExpire
  grind (splits := 16) [Res.answers]

theorem execEnclaveCreate_next (p : Nat) (id : Nat) (ranges : List (Nat × Nat)) (binds : List (Nat × Nat)) (rsv : Nat) (tr : Trailer) (s : State) :
    (execEnclaveCreate p id ranges binds rsv tr s).answers = true := by
  unfold execEnclaveCreate
  grind (splits := 16) [Res.answers, mbox_next]

theorem execEnclaveDestroy_next (p : Nat) (id : Nat) (rsv : Nat) (tr : Trailer) (s : State) :
    (execEnclaveDestroy p id rsv tr s).answers = true := by
  unfold execEnclaveDestroy
  grind (splits := 16) [Res.answers, mbox_next]

theorem execKeyRotate_next (p : Nat) (k : Nat) (tr : Trailer) (s : State) :
    (execKeyRotate p k tr s).answers = true := by
  unfold execKeyRotate
  grind (splits := 16) [Res.answers, mbox_next]

theorem execMediaFormat_next (p : Nat) (s : State) :
    (execMediaFormat p s).answers = true := by
  unfold execMediaFormat
  grind (splits := 16) [Res.answers, mbox_next]

/-! ### Machine/RegRead.lean -/

theorem regRead_next (m : Master) (a : Nat) (size : Nat) (s : State) :
    (regRead m a size s).answers = true := by
  unfold regRead
  grind (splits := 16) [Res.answers]

theorem execRcFieldClearRead_next (m : Master) (a : Nat) (size : Nat) (s : State) :
    (execRcFieldClearRead m a size s).answers = true := by
  unfold execRcFieldClearRead
  grind (splits := 16) [Res.answers, regRead_next]

theorem execHighWordLatchRead_next (m : Master) (off : Nat) (s : State) :
    (execHighWordLatchRead m off s).answers = true := by
  unfold execHighWordLatchRead
  grind (splits := 16) [Res.answers, regRead_next]

theorem execQueueHeadRead_next (m : Master) (s : State) :
    (execQueueHeadRead m s).answers = true := by
  unfold execQueueHeadRead
  grind (splits := 16) [Res.answers, regRead_next]

theorem execSampleRecordRead_next (m : Master) (s : State) :
    (execSampleRecordRead m s).answers = true := by
  unfold execSampleRecordRead
  grind (splits := 16) [Res.answers, regRead_next]

theorem execMsixModerationExpire_next (p : Nat) (v : Nat) (s : State) :
    (execMsixModerationExpire p v s).answers = true := by
  unfold execMsixModerationExpire
  grind (splits := 16) [Res.answers]

/-! ### Machine/Ownership.lean -/

theorem execOwnerLapse_next (s : State) :
    (execOwnerLapse s).answers = true := by
  unfold execOwnerLapse
  grind (splits := 16) [Res.answers]

theorem execHandoverTimeout_next (s : State) :
    (execHandoverTimeout s).answers = true := by
  unfold execHandoverTimeout
  grind (splits := 16) [Res.answers]

/-! ### Machine/RegHooks.lean -/

theorem execHmapInvalidationDone_next (s : State) :
    (execHmapInvalidationDone s).answers = true := by
  unfold execHmapInvalidationDone
  grind (splits := 16) [Res.answers]

/-! ### Machine/RegWrite.lean -/

theorem regCmd_next (m : Master) (a : Nat) (size : Nat) (w : Nat) (s : State) :
    (regCmd m a size w s).answers = true := by
  unfold regCmd
  grind (splits := 16) [Res.answers]

theorem regPut_next (m : Master) (off : Nat) (w : Word) (s : State) :
    (regPut m off w s).answers = true := by
  unfold regPut
  grind (splits := 16) [Res.answers, regCmd_next]

theorem execRegisterWrite_next (m : Master) (a : Nat) (size : Nat) (w : Nat) (s : State) :
    (execRegisterWrite m a size w s).answers = true := by
  unfold execRegisterWrite
  grind (splits := 16) [Res.answers, regCmd_next]

theorem execEpochPeriodWrite_next (m : Master) (w : Word) (s : State) :
    (execEpochPeriodWrite m w s).answers = true := by
  unfold execEpochPeriodWrite
  grind (splits := 16) [Res.answers, regPut_next]

theorem execPhaseLockWrite_next (m : Master) (w : Word) (s : State) :
    (execPhaseLockWrite m w s).answers = true := by
  unfold execPhaseLockWrite
  grind (splits := 16) [Res.answers, regPut_next]

theorem execHmapDataWrite_next (m : Master) (w : Word) (s : State) :
    (execHmapDataWrite m w s).answers = true := by
  unfold execHmapDataWrite
  grind (splits := 16) [Res.answers, regPut_next]

theorem execPredFlushMiss_next (m : Master) (s : State) :
    (execPredFlushMiss m s).answers = true := by
  unfold execPredFlushMiss
  grind (splits := 16) [Res.answers, regPut_next]

theorem execPredFlushWay_next (m : Master) (s : State) :
    (execPredFlushWay m s).answers = true := by
  unfold execPredFlushWay
  grind (splits := 16) [Res.answers, regPut_next]

theorem execFhbForce_next (m : Master) (s : State) :
    (execFhbForce m s).answers = true := by
  unfold execFhbForce
  grind (splits := 16) [Res.answers, regPut_next]

theorem execLdgCapWrite_next (m : Master) (w : Word) (s : State) :
    (execLdgCapWrite m w s).answers = true := by
  unfold execLdgCapWrite
  grind (splits := 16) [Res.answers, regPut_next]

theorem execLdgArmWrite_next (m : Master) (w : Word) (s : State) :
    (execLdgArmWrite m w s).answers = true := by
  unfold execLdgArmWrite
  grind (splits := 16) [Res.answers, regPut_next]

theorem execCalStart_next (m : Master) (s : State) :
    (execCalStart m s).answers = true := by
  unfold execCalStart
  grind (splits := 16) [Res.answers, regPut_next]

theorem execCalAbort_next (m : Master) (s : State) :
    (execCalAbort m s).answers = true := by
  unfold execCalAbort
  grind (splits := 16) [Res.answers, regPut_next]

theorem execSvcDischarge_next (m : Master) (banks : Fin 16) (s : State) :
    (execSvcDischarge m banks s).answers = true := by
  unfold execSvcDischarge
  grind (splits := 16) [Res.answers, regPut_next]

theorem execSvcRecharge_next (m : Master) (banks : Fin 16) (s : State) :
    (execSvcRecharge m banks s).answers = true := by
  unfold execSvcRecharge
  grind (splits := 16) [Res.answers, regPut_next]

theorem execTrainCmdFull_next (m : Master) (s : State) :
    (execTrainCmdFull m s).answers = true := by
  unfold execTrainCmdFull
  grind (splits := 16) [Res.answers, regPut_next]

theorem execLinkRetrain_next (m : Master) (ports : Fin 16) (s : State) :
    (execLinkRetrain m ports s).answers = true := by
  unfold execLinkRetrain
  grind (splits := 16) [Res.answers, regPut_next]

theorem execLinkTakeDown_next (m : Master) (ports : Fin 16) (s : State) :
    (execLinkTakeDown m ports s).answers = true := by
  unfold execLinkTakeDown
  grind (splits := 16) [Res.answers, regPut_next]

theorem execFwKeyRevoke_next (keys : Fin 16) (s : State) :
    (execFwKeyRevoke keys s).answers = true := by
  unfold execFwKeyRevoke
  grind (splits := 16) [Res.answers]

theorem execDebugLock_next (m : Master) (s : State) :
    (execDebugLock m s).answers = true := by
  unfold execDebugLock
  grind (splits := 16) [Res.answers, regPut_next]

theorem execAssignLockSet_next (m : Master) (s : State) :
    (execAssignLockSet m s).answers = true := by
  unfold execAssignLockSet
  grind (splits := 16) [Res.answers, regPut_next]

theorem execOwnClaim_next (m : Master) (w : Word) (s : State) :
    (execOwnClaim m w s).answers = true := by
  unfold execOwnClaim
  grind (splits := 16) [Res.answers, regPut_next]

theorem execOwnHb_next (m : Master) (w : Word) (s : State) :
    (execOwnHb m w s).answers = true := by
  unfold execOwnHb
  grind (splits := 16) [Res.answers, regPut_next]

theorem execOwnYield_next (m : Master) (w : Word) (s : State) :
    (execOwnYield m w s).answers = true := by
  unfold execOwnYield
  grind (splits := 16) [Res.answers, regPut_next]

theorem execCfgStore_next (m : Master) (s : State) :
    (execCfgStore m s).answers = true := by
  unfold execCfgStore
  grind (splits := 16) [Res.answers, regPut_next]

theorem execCfgFactory_next (m : Master) (s : State) :
    (execCfgFactory m s).answers = true := by
  unfold execCfgFactory
  grind (splits := 16) [Res.answers, regPut_next]

theorem execPgLockSet_next (m : Master) (off : Nat) (s : State) :
    (execPgLockSet m off s).answers = true := by
  unfold execPgLockSet
  grind (splits := 16) [Res.answers, regPut_next]

theorem execWarmReset_next (m : Master) (noRelease : Bool) (s : State) :
    (execWarmReset m noRelease s).answers = true := by
  unfold execWarmReset
  grind (splits := 16) [Res.answers, regPut_next]

theorem execBlockReset_next (m : Master) (b : Fin 16) (s : State) :
    (execBlockReset m b s).answers = true := by
  unfold execBlockReset
  grind (splits := 16) [Res.answers, regPut_next]

theorem execMark_next (m : Master) (s : State) :
    (execMark m s).answers = true := by
  unfold execMark
  grind (splits := 16) [Res.answers, regPut_next]

theorem execRewind_next (m : Master) (s : State) :
    (execRewind m s).answers = true := by
  unfold execRewind
  grind (splits := 16) [Res.answers, regPut_next]

theorem execRelease_next (m : Master) (s : State) :
    (execRelease m s).answers = true := by
  unfold execRelease
  grind (splits := 16) [Res.answers, regPut_next]

theorem execReleaseAllRead_next (m : Master) (s : State) :
    (execReleaseAllRead m s).answers = true := by
  unfold execReleaseAllRead
  grind (splits := 16) [Res.answers, regPut_next]

/-! ### Machine/WalniMem.lean -/

theorem load_next (e : Ex) (op : Nat) (size : Nat) (rd : Fin 32) (rs : Fin 32) (imm : BitVec 16) (c : Ecc) (ext : Nat → Word) (s : State) :
    (load e op size rd rs imm c ext s).answers = true := by
  unfold load
  grind (splits := 16) [Res.answers, runInstr_next]

theorem store_next (e : Ex) (op : Nat) (size : Nat) (rd : Fin 32) (rs : Fin 32) (imm : BitVec 16) (s : State) :
    (store e op size rd rs imm s).answers = true := by
  unfold store
  grind (splits := 16) [Res.answers, runInstr_next]

theorem execLdw_next (e : Ex) (rd : Fin 32) (rs : Fin 32) (imm : BitVec 16) (c : Ecc) (s : State) :
    (execLdw e rd rs imm c s).answers = true := by
  unfold execLdw
  grind (splits := 16) [Res.answers, load_next]

theorem execLdh_next (e : Ex) (rd : Fin 32) (rs : Fin 32) (imm : BitVec 16) (c : Ecc) (s : State) :
    (execLdh e rd rs imm c s).answers = true := by
  unfold execLdh
  grind (splits := 16) [Res.answers, load_next]

theorem execLdhu_next (e : Ex) (rd : Fin 32) (rs : Fin 32) (imm : BitVec 16) (c : Ecc) (s : State) :
    (execLdhu e rd rs imm c s).answers = true := by
  unfold execLdhu
  grind (splits := 16) [Res.answers, load_next]

theorem execLdb_next (e : Ex) (rd : Fin 32) (rs : Fin 32) (imm : BitVec 16) (c : Ecc) (s : State) :
    (execLdb e rd rs imm c s).answers = true := by
  unfold execLdb
  grind (splits := 16) [Res.answers, load_next]

theorem execLdbu_next (e : Ex) (rd : Fin 32) (rs : Fin 32) (imm : BitVec 16) (c : Ecc) (s : State) :
    (execLdbu e rd rs imm c s).answers = true := by
  unfold execLdbu
  grind (splits := 16) [Res.answers, load_next]

theorem execStw_next (e : Ex) (rd : Fin 32) (rs : Fin 32) (imm : BitVec 16) (s : State) :
    (execStw e rd rs imm s).answers = true := by
  unfold execStw
  grind (splits := 16) [Res.answers, store_next]

theorem execSth_next (e : Ex) (rd : Fin 32) (rs : Fin 32) (imm : BitVec 16) (s : State) :
    (execSth e rd rs imm s).answers = true := by
  unfold execSth
  grind (splits := 16) [Res.answers, store_next]

theorem execStb_next (e : Ex) (rd : Fin 32) (rs : Fin 32) (imm : BitVec 16) (s : State) :
    (execStb e rd rs imm s).answers = true := by
  unfold execStb
  grind (splits := 16) [Res.answers, store_next]

theorem execCasw_next (e : Ex) (rd : Fin 32) (rs : Fin 32) (rt : Fin 32) (c : Ecc) (s : State) :
    (execCasw e rd rs rt c s).answers = true := by
  unfold execCasw
  grind (splits := 16) [Res.answers, runInstr_next]

/-! ### Machine/Sideband.lean -/

theorem execI3cWrite_next (off : Nat) (w : Word) (bad : Option I3cBad) (s : State) :
    (execI3cWrite off w bad s).answers = true := by
  unfold execI3cWrite
  grind (splits := 16) [Res.answers]

theorem execI3cRead_next (off : Nat) (bad : Option I3cBad) (s : State) :
    (execI3cRead off bad s).answers = true := by
  unfold execI3cRead
  grind (splits := 16) [Res.answers]

theorem execI3cStatus_next (bad : Option I3cBad) (s : State) :
    (execI3cStatus bad s).answers = true := by
  unfold execI3cStatus
  grind (splits := 16) [Res.answers]

theorem execEntdaa_next (a : Fin 128) (s : State) :
    (execEntdaa a s).answers = true := by
  unfold execEntdaa
  grind (splits := 16) [Res.answers]

theorem execSetdasa_next (stat : Fin 128) (a : Fin 128) (s : State) :
    (execSetdasa stat a s).answers = true := by
  unfold execSetdasa
  grind (splits := 16) [Res.answers]

theorem execSetnewda_next (old : Fin 128) (a : Fin 128) (s : State) :
    (execSetnewda old a s).answers = true := by
  unfold execSetnewda
  grind (splits := 16) [Res.answers]

theorem execRstdaa_next (s : State) :
    (execRstdaa s).answers = true := by
  unfold execRstdaa
  grind (splits := 16) [Res.answers]

theorem execEnec_next (events : Nat) (s : State) :
    (execEnec events s).answers = true := by
  unfold execEnec
  grind (splits := 16) [Res.answers]

theorem execDisec_next (events : Nat) (s : State) :
    (execDisec events s).answers = true := by
  unfold execDisec
  grind (splits := 16) [Res.answers]

theorem getCcc_next (code : Nat) (len : Nat) (s : State) :
    (getCcc code len s).answers = true := by
  unfold getCcc
  grind (splits := 16) [Res.answers]

theorem execGetpid_next (s : State) :
    (execGetpid s).answers = true := by
  unfold execGetpid
  grind (splits := 16) [Res.answers, getCcc_next]

theorem execGetbcr_next (s : State) :
    (execGetbcr s).answers = true := by
  unfold execGetbcr
  grind (splits := 16) [Res.answers, getCcc_next]

theorem execGetdcr_next (s : State) :
    (execGetdcr s).answers = true := by
  unfold execGetdcr
  grind (splits := 16) [Res.answers, getCcc_next]

theorem execGetmxds_next (s : State) :
    (execGetmxds s).answers = true := by
  unfold execGetmxds
  grind (splits := 16) [Res.answers, getCcc_next]

theorem execGetstatus_next (s : State) :
    (execGetstatus s).answers = true := by
  unfold execGetstatus
  grind (splits := 16) [Res.answers]

theorem execRstact_next (act : Nat) (s : State) :
    (execRstact act s).answers = true := by
  unfold execRstact
  grind (splits := 16) [Res.answers]

theorem execIbiSend_next (s : State) :
    (execIbiSend s).answers = true := by
  unfold execIbiSend
  grind (splits := 16) [Res.answers]

/-! ### Machine/Fmc.lean -/

theorem execFmRouteRecompute_next (out : List (Nat × Fmc)) (s : State) :
    (execFmRouteRecompute out s).answers = true := by
  unfold execFmRouteRecompute
  grind (splits := 16) [Res.answers]

theorem execFmcMessage_next (p : Nat) (src : Nat) (tag : Nat) (full : Bool) (m : Fmc) (s : State) :
    (execFmcMessage p src tag full m s).answers = true := by
  unfold execFmcMessage
  grind (splits := 16) [Res.answers]

/-! ### Every command -/

theorem answers_iff (r : Res) : r.answers = true ↔ ∃ t, r = .next t := by
  cases r <;> simp [Res.answers]

/-- Every command answers a next state. -/
theorem exec_answers (i : Instr) (s : State) : Res.answers (exec i s) = true := by
  cases i
  case epochTick adc => exact execEpochTick_next adc s
  case shedStepEscalate => exact execShedStepEscalate_next s
  case pcfDemote k => exact execPcfDemote_next k s
  case epochPeriodWrite m w => exact execEpochPeriodWrite_next m w s
  case phaseLockWrite m w => exact execPhaseLockWrite_next m w s
  case registerWrite m a size w => exact execRegisterWrite_next m a size w s
  case hmapDataWrite m w => exact execHmapDataWrite_next m w s
  case hmapInvalidationDone => exact execHmapInvalidationDone_next s
  case hdmDecoderCommit p n d => exact execHdmDecoderCommit_next p n d s
  case hdmDecoderUncommit p n => exact execHdmDecoderUncommit_next p n s
  case hostLinkUp p width full bisnp => exact execHostLinkUp_next p width full bisnp s
  case hpLinkDown p perst => exact execHpLinkDown_next p perst s
  case memRd p tag hpa mv dat u => exact execMemRd_next p tag hpa mv dat u s
  case memInv p tag hpa mv nt u => exact execMemInv_next p tag hpa mv nt u s
  case memClnEvct p tag hpa => exact execMemClnEvct_next p tag hpa s
  case memSpecRd p hpa => exact execMemSpecRd_next p hpa s
  case memWr p tag hpa mv data poison u => exact execMemWr_next p tag hpa mv data poison u s
  case memWrPtl p tag hpa mv data mask poison => exact execMemWrPtl_next p tag hpa mv data mask poison s
  case birsp p hpa kind => exact execBirsp_next p hpa kind s
  case biconflict p tag hpa => exact execBiconflict_next p tag hpa s
  case bisnpTimeout p hpa => exact execBisnpTimeout_next p hpa s
  case atomicOp p tag da a => exact execAtomicOp_next p tag da a s
  case atmAluDone id => exact execAtmAluDone_next id s
  case bar4NonAtomic p tag da => exact execBar4NonAtomic_next p tag da s
  case ideIntegrityFail p mem => exact execIdeIntegrityFail_next p mem s
  case identifyMemoryDevice p => exact execIdentifyMemoryDevice_next p s
  case getEventRecords p log => exact execGetEventRecords_next p log s
  case clearEventRecords p handles => exact execClearEventRecords_next p handles s
  case getPoisonList p => exact execGetPoisonList_next p s
  case injectPoison p da => exact execInjectPoison_next p da s
  case clearPoison p da data => exact execClearPoison_next p da data s
  case getShutdownState p => exact execGetShutdownState_next p s
  case getFwInfo p => exact execGetFwInfo_next p s
  case transferFw p typ last img => exact execTransferFw_next p typ last img s
  case activateFw p typ online => exact execActivateFw_next p typ online s
  case zalloc p da len tr => exact execZalloc_next p da len tr s
  case zallocSectorOp p => exact execZallocSectorOp_next p s
  case prefetch p da len tr => exact execPrefetch_next p da len tr s
  case pin p da len tr => exact execPin_next p da len tr s
  case unpin p da len tr => exact execUnpin_next p da len tr s
  case flush p da len tr => exact execFlush_next p da len tr s
  case inval p da len tr => exact execInval_next p da len tr s
  case dfence p payload => exact execDfence_next p payload s
  case ofence p payload => exact execOfence_next p payload s
  case doorbellDfence p seq irq => exact execDoorbellDfence_next p seq irq s
  case doorbellOfence p seq irq => exact execDoorbellOfence_next p seq irq s
  case gpfPhase1 p => exact execGpfPhase1_next p s
  case gpfPhase2 p => exact execGpfPhase2_next p s
  case atomic p da a tr => exact execAtomic_next p da a tr s
  case append p da len data tr => exact execAppend_next p da len data tr s
  case keyEscrowUnlock p key asserted tr => exact execKeyEscrowUnlock_next p key asserted tr s
  case keyEscrowChange p key newKey tr => exact execKeyEscrowChange_next p key newKey tr s
  case enclaveCreate p id ranges binds rsv tr => exact execEnclaveCreate_next p id ranges binds rsv tr s
  case enclaveDestroy p id rsv tr => exact execEnclaveDestroy_next p id rsv tr s
  case keyRotate p k tr => exact execKeyRotate_next p k tr s
  case rotatePageStep => exact execRotatePageStep_next s
  case assignStage p items rsv tr => exact execAssignStage_next p items rsv tr s
  case mediaFormat p => exact execMediaFormat_next p s
  case reserveArm p rsv => exact execReserveArm_next p rsv s
  case reserveDisarm p rsv => exact execReserveDisarm_next p rsv s
  case reserveDischarge p banks rsv => exact execReserveDischarge_next p banks rsv s
  case reserveRecharge p banks rsv => exact execReserveRecharge_next p banks rsv s
  case trkEntryGrant => exact execTrkEntryGrant_next s
  case dramReadReturn id gen rds => exact execDramReadReturn_next id gen rds s
  case tscFillDone set ids => exact execTscFillDone_next set ids s
  case tscFillBudgetReset => exact execTscFillBudgetReset_next s
  case victimStallTimeout id => exact execVictimStallTimeout_next id s
  case predFlushMiss m => exact execPredFlushMiss_next m s
  case predFlushWay m => exact execPredFlushWay_next m s
  case mediaReadCompletion cid out => exact execMediaReadCompletion_next cid out s
  case wbSchedulerCopy r => exact execWbSchedulerCopy_next r s
  case journalPackTimeout => exact execJournalPackTimeout_next s
  case journalPageCompletion cid out => exact execJournalPageCompletion_next cid out s
  case cleanQueueApply => exact execCleanQueueApply_next s
  case wbStageStallTimeout sk => exact execWbStageStallTimeout_next sk s
  case ntAgeWriteout sk => exact execNtAgeWriteout_next sk s
  case ntHoldWriteout sk => exact execNtHoldWriteout_next sk s
  case reservationGrant => exact execReservationGrant_next s
  case sfStallTimeout id => exact execSfStallTimeout_next id s
  case sfSuspectWalk => exact execSfSuspectWalk_next s
  case rdS p lane seq m => exact execRdS_next p lane seq m s
  case rdO p lane seq m => exact execRdO_next p lane seq m s
  case rdOna p lane seq m => exact execRdOna_next p lane seq m s
  case rdNa p lane seq m => exact execRdNa_next p lane seq m s
  case wrNa p lane seq m => exact execWrNa_next p lane seq m s
  case atom p lane seq m => exact execAtom_next p lane seq m s
  case evcE p lane seq m => exact execEvcE_next p lane seq m s
  case fhbDone p lane seq m => exact execFhbDone_next p lane seq m s
  case snpS p lane seq m => exact execSnpS_next p lane seq m s
  case snpInv p lane seq m => exact execSnpInv_next p lane seq m s
  case snpCur p lane seq m => exact execSnpCur_next p lane seq m s
  case snpRefwd p lane seq m => exact execSnpRefwd_next p lane seq m s
  case rspI p lane seq m => exact execRspI_next p lane seq m s
  case rspS p lane seq m => exact execRspS_next p lane seq m s
  case rspMiss p lane seq m => exact execRspMiss_next p lane seq m s
  case rspFwd p lane seq m => exact execRspFwd_next p lane seq m s
  case rspPend p lane seq m => exact execRspPend_next p lane seq m s
  case gnt p lane seq m => exact execGnt_next p lane seq m s
  case cmp p lane seq m => exact execCmp_next p lane seq m s
  case ack p lane seq m => exact execAck_next p lane seq m s
  case rls p lane seq m => exact execRls_next p lane seq m s
  case err p lane seq m => exact execErr_next p lane seq m s
  case atomRes p lane seq m => exact execAtomRes_next p lane seq m s
  case data p lane seq m => exact execData_next p lane seq m s
  case snpdata p lane seq m => exact execSnpdata_next p lane seq m s
  case wb p lane seq m => exact execWb_next p lane seq m s
  case fhb p lane seq m => exact execFhb_next p lane seq m s
  case fxTimeout tid => exact execFxTimeout_next tid s
  case homeResponseTimeout tid => exact execHomeResponseTimeout_next tid s
  case homeSnoopTimeout sk dev => exact execHomeSnoopTimeout_next sk dev s
  case rspPendInterval id => exact execRspPendInterval_next id s
  case dirStallTimeout id => exact execDirStallTimeout_next id s
  case peerIncarnationChange dev inc => exact execPeerIncarnationChange_next dev inc s
  case fhbWaitTimeout => exact execFhbWaitTimeout_next s
  case fhbForce m => exact execFhbForce_next m s
  case ldgCapWrite m w => exact execLdgCapWrite_next m w s
  case ldgArmWrite m w => exact execLdgArmWrite_next m w s
  case calStart m => exact execCalStart_next m s
  case calAbort m => exact execCalAbort_next m s
  case calWritebackTimeout => exact execCalWritebackTimeout_next s
  case calDrainDone bw pwr => exact execCalDrainDone_next bw pwr s
  case medCmdTimeout cid => exact execMedCmdTimeout_next cid s
  case medAbortTimeout cid => exact execMedAbortTimeout_next cid s
  case medCtrlReady p nss last => exact execMedCtrlReady_next p nss last s
  case medCtrlReadyTimeout p => exact execMedCtrlReadyTimeout_next p s
  case mediaPortLost p => exact execMediaPortLost_next p s
  case smartPoll p warn used => exact execSmartPoll_next p warn used s
  case nvmeAsyncEvent p warn used => exact execNvmeAsyncEvent_next p warn used s
  case sinterPage ns => exact execSinterPage_next ns s
  case sinterHomeWriteDone cid out => exact execSinterHomeWriteDone_next cid out s
  case journalHeadAdvance ns => exact execJournalHeadAdvance_next ns s
  case checkpointTimer => exact execCheckpointTimer_next s
  case indexBucketRebuild b => exact execIndexBucketRebuild_next b s
  case pwrfailNAssert wires msgs => exact execPwrfailNAssert_next wires msgs s
  case busTrip wires msgs => exact execBusTrip_next wires msgs s
  case railsGoodFall wires msgs => exact execRailsGoodFall_next wires msgs s
  case geyserDrainComplete f => exact execGeyserDrainComplete_next f s
  case bankVminReached => exact execBankVminReached_next s
  case mainPowerReturn => exact execMainPowerReturn_next s
  case railsGoodRise f => exact execRailsGoodRise_next f s
  case hostLinkEnable => exact execHostLinkEnable_next s
  case pfHeldTimeout => exact execPfHeldTimeout_next s
  case restartSweepSet c => exact execRestartSweepSet_next c s
  case rewarmRead => exact execRewarmRead_next s
  case bankPresentDebounce n => exact execBankPresentDebounce_next n s
  case bankFaultIsolate n f => exact execBankFaultIsolate_next n f s
  case bankCapMeasure n cap => exact execBankCapMeasure_next n cap s
  case bankChargeDone n => exact execBankChargeDone_next n s
  case bankRechargeThreshold n => exact execBankRechargeThreshold_next n s
  case svcDischarge m banks => exact execSvcDischarge_next m banks s
  case svcRecharge m banks => exact execSvcRecharge_next m banks s
  case bankDischargeDone n => exact execBankDischargeDone_next n s
  case bankDischargeTimeout n => exact execBankDischargeTimeout_next n s
  case rsvGateFault => exact execRsvGateFault_next s
  case rsvNoBankFault => exact execRsvNoBankFault_next s
  case rsvFaultClear f => exact execRsvFaultClear_next f s
  case scrubSlot c rds => exact execScrubSlot_next c rds s
  case quarantineRewrite k => exact execQuarantineRewrite_next k s
  case refreshInterval c => exact execRefreshInterval_next c s
  case thermalPoll c temp => exact execThermalPoll_next c temp s
  case channelFailDetect c => exact execChannelFailDetect_next c s
  case resilverSetCopy p dropped => exact execResilverSetCopy_next p dropped s
  case trainCmdFull m => exact execTrainCmdFull_next m s
  case add e rd rs rt => exact execAdd_next e rd rs rt s
  case sub e rd rs rt => exact execSub_next e rd rs rt s
  case and e rd rs rt => exact execAnd_next e rd rs rt s
  case or e rd rs rt => exact execOr_next e rd rs rt s
  case xor e rd rs rt => exact execXor_next e rd rs rt s
  case nor e rd rs rt => exact execNor_next e rd rs rt s
  case lts e rd rs rt => exact execLts_next e rd rs rt s
  case ltu e rd rs rt => exact execLtu_next e rd rs rt s
  case min e rd rs rt => exact execMin_next e rd rs rt s
  case max e rd rs rt => exact execMax_next e rd rs rt s
  case minu e rd rs rt => exact execMinu_next e rd rs rt s
  case maxu e rd rs rt => exact execMaxu_next e rd rs rt s
  case shl e rd rs rt => exact execShl_next e rd rs rt s
  case shr e rd rs rt => exact execShr_next e rd rs rt s
  case sar e rd rs rt => exact execSar_next e rd rs rt s
  case ror e rd rs rt => exact execRor_next e rd rs rt s
  case shlk e rd rs k => exact execShlk_next e rd rs k s
  case shrk e rd rs k => exact execShrk_next e rd rs k s
  case sark e rd rs k => exact execSark_next e rd rs k s
  case mul e rd rs rt => exact execMul_next e rd rs rt s
  case mulhu e rd rs rt => exact execMulhu_next e rd rs rt s
  case mulhs e rd rs rt => exact execMulhs_next e rd rs rt s
  case clz e rd rs rt => exact execClz_next e rd rs rt s
  case ones e rd rs rt => exact execOnes_next e rd rs rt s
  case addk e rd rs imm => exact execAddk_next e rd rs imm s
  case andk e rd rs imm => exact execAndk_next e rd rs imm s
  case ork e rd rs imm => exact execOrk_next e rd rs imm s
  case xork e rd rs imm => exact execXork_next e rd rs imm s
  case ltsk e rd rs imm => exact execLtsk_next e rd rs imm s
  case ltuk e rd rs imm => exact execLtuk_next e rd rs imm s
  case hik e rd rs imm => exact execHik_next e rd rs imm s
  case ldw e rd rs imm c => exact execLdw_next e rd rs imm c s
  case ldh e rd rs imm c => exact execLdh_next e rd rs imm c s
  case ldhu e rd rs imm c => exact execLdhu_next e rd rs imm c s
  case ldb e rd rs imm c => exact execLdb_next e rd rs imm c s
  case ldbu e rd rs imm c => exact execLdbu_next e rd rs imm c s
  case stw e rd rs imm => exact execStw_next e rd rs imm s
  case sth e rd rs imm => exact execSth_next e rd rs imm s
  case stb e rd rs imm => exact execStb_next e rd rs imm s
  case casw e rd rs rt c => exact execCasw_next e rd rs rt c s
  case br e a cond rs off => exact execBr_next e a cond rs off s
  case brl e a cond rs off => exact execBrl_next e a cond rs off s
  case jmp e rd rs rt => exact execJmp_next e rd rs rt s
  case jml e rd rs rt => exact execJml_next e rd rs rt s
  case loop e level rs off => exact execLoop_next e level rs off s
  case loopi e level count off => exact execLoopi_next e level count off s
  case mode e rs => exact execMode_next e rs s
  case xret e => exact execXret_next e s
  case trap e => exact execTrap_next e s
  case debug e => exact execDebug_next e s
  case fend e => exact execFend_next e s
  case pflush e => exact execPflush_next e s
  case srd e rd n => exact execSrd_next e rd n s
  case swr e rs n => exact execSwr_next e rs n s
  case predictorTagFlush e => exact execPredictorTagFlush_next e s
  case scan e rd rs rt => exact execScan_next e rd rs rt s
  case heatrd e rd rs rt => exact execHeatrd_next e rd rs rt s
  case cpResultReturn e ids => exact execCpResultReturn_next e ids s
  case hashSet e rd rs rt => exact execHashSet_next e rd rs rt s
  case hashMix e rd rs rt => exact execHashMix_next e rd rs rt s
  case evict e rd rs rt => exact execEvict_next e rd rs rt s
  case policyPrefetch e rd rs rt => exact execPolicyPrefetch_next e rd rs rt s
  case policyPin e rd rs rt => exact execPolicyPin_next e rd rs rt s
  case policyUnpin e rd rs rt => exact execPolicyUnpin_next e rd rs rt s
  case hintWrite e rd rs rt => exact execHintWrite_next e rd rs rt s
  case cp3Delivery k => exact execCp3Delivery_next k s
  case springStreamRead e => exact execSpringStreamRead_next e s
  case springPackTimeout k => exact execSpringPackTimeout_next k s
  case baselineSpringPass => exact execBaselineSpringPass_next s
  case prefetchIssue => exact execPrefetchIssue_next s
  case idleFlit p ack vc lane n => exact execIdleFlit_next p ack vc lane n s
  case flitFailed p uncorr again => exact execFlitFailed_next p uncorr again s
  case nak p ack => exact execNak_next p ack s
  case hello p h => exact execHello_next p h s
  case helloTimer p => exact execHelloTimer_next p s
  case sync p m => exact execSync_next p m s
  case syncExchangeTimer => exact execSyncExchangeTimer_next s
  case syncHoldoverExpire => exact execSyncHoldoverExpire_next s
  case transitMessage p lane seq m => exact execTransitMessage_next p lane seq m s
  case replayEpisodeEnd p => exact execReplayEpisodeEnd_next p s
  case laneDegrade p ack lanes grants => exact execLaneDegrade_next p ack lanes grants s
  case fabLinkDown p => exact execFabLinkDown_next p s
  case fabLinkUp p width grants => exact execFabLinkUp_next p width grants s
  case routeHoldTimeout n => exact execRouteHoldTimeout_next n s
  case fecInterval p n => exact execFecInterval_next p n s
  case linkRetrain m ports => exact execLinkRetrain_next m ports s
  case linkTakeDown m ports => exact execLinkTakeDown_next m ports s
  case fmCandidateExpire p => exact execFmCandidateExpire_next p s
  case fmElected => exact execFmElected_next s
  case fmLost => exact execFmLost_next s
  case fmBeaconTimer => exact execFmBeaconTimer_next s
  case fmRouteRecompute out => exact execFmRouteRecompute_next out s
  case fmcMessage p src tag full m => exact execFmcMessage_next p src tag full m s
  case fmcResendTimeout tag => exact execFmcResendTimeout_next tag s
  case tamperTrigger t wires msgs => exact execTamperTrigger_next t wires msgs s
  case quenchSramCleared => exact execQuenchSramCleared_next s
  case rngReady => exact execRngReady_next s
  case rngHealthFail => exact execRngHealthFail_next s
  case drbgReseed => exact execDrbgReseed_next s
  case rngDataRead m active => exact execRngDataRead_next m active s
  case getVersion p => exact execGetVersion_next p s
  case getCapabilities p => exact execGetCapabilities_next p s
  case negotiateAlgorithms p => exact execNegotiateAlgorithms_next p s
  case getDigests p => exact execGetDigests_next p s
  case getCertificate p slot => exact execGetCertificate_next p slot s
  case challenge p slot nonce => exact execChallenge_next p slot nonce s
  case getMeasurements p idx => exact execGetMeasurements_next p idx s
  case keyExchange p => exact execKeyExchange_next p s
  case finish p id ok => exact execFinish_next p id ok s
  case heartbeat p id => exact execHeartbeat_next p id s
  case keyUpdate p id => exact execKeyUpdate_next p id s
  case endSession p id => exact execEndSession_next p id s
  case fwKeyRevoke keys => exact execFwKeyRevoke_next keys s
  case debugLock m => exact execDebugLock_next m s
  case assignLockSet m => exact execAssignLockSet_next m s
  case ownClaim m w => exact execOwnClaim_next m w s
  case ownHb m w => exact execOwnHb_next m w s
  case ownYield m w => exact execOwnYield_next m w s
  case ownerLapse => exact execOwnerLapse_next s
  case handoverTimeout => exact execHandoverTimeout_next s
  case cfgStore m => exact execCfgStore_next m s
  case cfgFactory m => exact execCfgFactory_next m s
  case factoryArmExpire => exact execFactoryArmExpire_next s
  case pgLockSet m off => exact execPgLockSet_next m off s
  case i3cWrite off w bad => exact execI3cWrite_next off w bad s
  case i3cRead off bad => exact execI3cRead_next off bad s
  case i3cStatus bad => exact execI3cStatus_next bad s
  case entdaa a => exact execEntdaa_next a s
  case setdasa stat a => exact execSetdasa_next stat a s
  case setnewda old a => exact execSetnewda_next old a s
  case rstdaa => exact execRstdaa_next s
  case enec events => exact execEnec_next events s
  case disec events => exact execDisec_next events s
  case getpid => exact execGetpid_next s
  case getbcr => exact execGetbcr_next s
  case getdcr => exact execGetdcr_next s
  case getstatus => exact execGetstatus_next s
  case getmxds => exact execGetmxds_next s
  case rstact act => exact execRstact_next act s
  case ibiSend => exact execIbiSend_next s
  case resetNAssert f => exact execResetNAssert_next f s
  case warmReset m noRelease => exact execWarmReset_next m noRelease s
  case releasePhaseTimeout => exact execReleasePhaseTimeout_next s
  case blockReset m b => exact execBlockReset_next m b s
  case vauxPowerUp => exact execVauxPowerUp_next s
  case vauxFall => exact execVauxFall_next s
  case bootWatchdogExpire f => exact execBootWatchdogExpire_next f s
  case romRecoveryReset f => exact execRomRecoveryReset_next f s
  case escrowWaitExpire => exact execEscrowWaitExpire_next s
  case mark m => exact execMark_next m s
  case rewind m => exact execRewind_next m s
  case release m => exact execRelease_next m s
  case releaseAllRead m => exact execReleaseAllRead_next m s
  case queueHeadRead m => exact execQueueHeadRead_next m s
  case sampleRecordRead m => exact execSampleRecordRead_next m s
  case msixModerationExpire p v => exact execMsixModerationExpire_next p v s
  case highWordLatchRead m off => exact execHighWordLatchRead_next m off s
  case rcFieldClearRead m a size => exact execRcFieldClearRead_next m a size s
  case labelAreaWriteCompletion cid out => exact execLabelAreaWriteCompletion_next cid out s
  case dramWriteCompletion r => exact execDramWriteCompletion_next r s
  case correctableLinkError p => exact execCorrectableLinkError_next p s
  case ideKm p mem skid session => exact execIdeKm_next p mem skid session s
  case powerFailGlitch => exact execPowerFailGlitch_next s
  case dramRailsLeaveRegulation => exact execDramRailsLeaveRegulation_next s
  case bankBleedDone n => exact execBankBleedDone_next n s
  case nvmWriteCompletion => exact execNvmWriteCompletion_next s
  case undefinedInstruction e w => exact execUndefinedInstruction_next e w s
  case instructionFetchFault e => exact execInstructionFetchFault_next e s
  case hostBisnpCredit p n => exact execHostBisnpCredit_next p n s
  case priorityPromotion => exact execPriorityPromotion_next s

end Sys2Proof.Machine
end

