-- ==== Sys2Proof/Laws/Tbl.lean ====
section
/-! SUPPORT. Laws of the sparse tables: a read after a write, and the canonical form that every operation keeps. -/

namespace Sys2Proof.Machine

variable {α : Type}

/-! ### Reading -/

/-- A key below every listed one is not listed. -/
theorem tblFind_below {t : Tbl α} {k l : Nat} (h : keysRise (some l) t) (hk : k ≤ l) : tblFind t k = none := by
  induction t generalizing l with
  | nil => rfl
  | cons p r ih =>
    obtain ⟨i, v⟩ := p
    simp only [keysRise, Bool.and_eq_true, decide_eq_true_eq] at h
    rw [tblFind, if_neg (by omega), if_pos (by omega)]

theorem tblFind_put_same (t : Tbl α) (k : Nat) (v : α) : tblFind (tblPut t k v) k = some v := by
  induction t with
  | nil => simp [tblPut, tblFind]
  | cons p r ih =>
    obtain ⟨i, w⟩ := p
    unfold tblPut
    split
    · simp [tblFind]
    · split
      · simp [tblFind]
      · rw [tblFind, if_neg ‹_›, if_neg ‹_›, ih]

theorem tblFind_put_other (t : Tbl α) {k j : Nat} (v : α) (h : j ≠ k) : tblFind (tblPut t k v) j = tblFind t j := by
  induction t with
  | nil =>
    simp only [tblPut, tblFind]
    rw [if_neg (by omega)]
    split <;> rfl
  | cons p r ih =>
    obtain ⟨i, w⟩ := p
    unfold tblPut
    split
    · simp only [tblFind]
      split
      · omega
      · split
        · rw [if_neg (by omega), if_pos (by omega)]
        · rfl
    · split
      · subst_vars
        simp only [tblFind, if_neg h.symm]
      · simp only [tblFind, ih]

/-! ### The canonical form -/

theorem keysRise_weaken {t : Tbl α} {a b : Nat} (h : keysRise (some b) t) (hab : a ≤ b) : keysRise (some a) t := by
  cases t with
  | nil => rfl
  | cons p r =>
    simp only [keysRise, Bool.and_eq_true, decide_eq_true_eq] at h ⊢
    exact ⟨by omega, h.2⟩

theorem keysRise_wf {t : Tbl α} {a : Nat} (h : keysRise (some a) t) : tblWf t := by
  cases t with
  | nil => rfl
  | cons p r =>
    simp only [keysRise, Bool.and_eq_true] at h
    exact h.2

theorem keysRise_put {t : Tbl α} {l k : Nat} (v : α) (h : keysRise (some l) t) (hk : l < k) :
    keysRise (some l) (tblPut t k v) := by
  induction t generalizing l with
  | nil => simp [tblPut, keysRise, hk]
  | cons p r ih =>
    obtain ⟨i, w⟩ := p
    simp only [keysRise, Bool.and_eq_true, decide_eq_true_eq] at h
    unfold tblPut
    split
    · simp only [keysRise, Bool.and_eq_true, decide_eq_true_eq]; exact ⟨hk, ‹_›, h.2⟩
    · split
      · subst_vars; simp only [keysRise, Bool.and_eq_true, decide_eq_true_eq]; exact h
      · simp only [keysRise, Bool.and_eq_true, decide_eq_true_eq]; exact ⟨h.1, ih h.2 (by omega)⟩

/-- Listing a value keeps the canonical form. -/
theorem tblWf_put {t : Tbl α} (k : Nat) (v : α) (h : tblWf t) : tblWf (tblPut t k v) := by
  cases t with
  | nil => rfl
  | cons p r =>
    obtain ⟨i, w⟩ := p
    have h' : keysRise (some i) r := h
    unfold tblPut
    split
    · simp only [tblWf, keysRise, Bool.and_eq_true, decide_eq_true_eq]; exact ⟨‹_›, h'⟩
    · split
      · subst_vars; exact h'
      · exact keysRise_put v h' (by omega)

theorem keysRise_del {t : Tbl α} {l : Nat} (k : Nat) (h : keysRise (some l) t) : keysRise (some l) (tblDel t k) := by
  induction t generalizing l with
  | nil => rfl
  | cons p r ih =>
    obtain ⟨i, w⟩ := p
    unfold tblDel
    split
    · exact h
    · simp only [keysRise, Bool.and_eq_true, decide_eq_true_eq] at h
      split
      · exact keysRise_weaken h.2 (by omega)
      · simp only [keysRise, Bool.and_eq_true, decide_eq_true_eq]; exact ⟨h.1, ih h.2⟩

/-- Dropping a key keeps the canonical form. -/
theorem tblWf_del {t : Tbl α} (k : Nat) (h : tblWf t) : tblWf (tblDel t k) := by
  cases t with
  | nil => rfl
  | cons p r =>
    obtain ⟨i, w⟩ := p
    unfold tblDel
    split
    · exact h
    · split
      · exact keysRise_wf (show keysRise (some i) r from h)
      · exact keysRise_del k (show keysRise (some i) r from h)

theorem keysRise_filter {t : Tbl α} {l : Nat} (f : Nat × α → Bool) (h : keysRise (some l) t) :
    keysRise (some l) (t.filter f) := by
  induction t generalizing l with
  | nil => rfl
  | cons p r ih =>
    simp only [keysRise, Bool.and_eq_true, decide_eq_true_eq] at h
    rw [List.filter_cons]
    split
    · simp only [keysRise, Bool.and_eq_true, decide_eq_true_eq]; exact ⟨h.1, ih h.2⟩
    · exact ih (keysRise_weaken h.2 (by omega))

/-- Keeping some of the pairs keeps the canonical form. -/
theorem tblWf_filter {t : Tbl α} (f : Nat × α → Bool) (h : tblWf t) : tblWf (t.filter f) := by
  cases t with
  | nil => rfl
  | cons p r =>
    rw [List.filter_cons]
    split
    · exact keysRise_filter f (show keysRise (some p.1) r from h)
    · exact keysRise_wf (keysRise_filter f (show keysRise (some p.1) r from h))

theorem tblWf_foldPut {β : Type} (l : List β) (k : β → Nat) (v : β → α) {t : Tbl α} (h : tblWf t) :
    tblWf (l.foldl (fun t b => tblPut t (k b) (v b)) t) := by
  induction l generalizing t with
  | nil => exact h
  | cons b l ih => exact ih (tblWf_put _ _ h)

/-! ### What holds of every listed value -/

theorem all_put {t : Tbl α} {p : Nat × α → Bool} {k : Nat} {v : α} (h : t.all p) (hv : p (k, v)) :
    (tblPut t k v).all p := by
  induction t with
  | nil => simp [tblPut, hv]
  | cons q r ih =>
    obtain ⟨i, w⟩ := q
    simp only [List.all_cons, Bool.and_eq_true] at h
    unfold tblPut
    split
    · simp only [List.all_cons, Bool.and_eq_true]; exact ⟨hv, h⟩
    · split
      · simp only [List.all_cons, Bool.and_eq_true]; exact ⟨hv, h.2⟩
      · simp only [List.all_cons, Bool.and_eq_true]; exact ⟨h.1, ih h.2⟩

theorem all_del {t : Tbl α} {p : Nat × α → Bool} {k : Nat} (h : t.all p) : (tblDel t k).all p := by
  induction t with
  | nil => rfl
  | cons q r ih =>
    obtain ⟨i, w⟩ := q
    have h' := h
    simp only [List.all_cons, Bool.and_eq_true] at h
    unfold tblDel
    split
    · exact h'
    · split
      · exact h.2
      · simp only [List.all_cons, Bool.and_eq_true]; exact ⟨h.1, ih h.2⟩

/-- A write keeps the canonical form in which no listed value is the default. -/
theorem tblCanon_set [DecidableEq α] {d : α} {t : Tbl α} (k : Nat) (v : α) (h : tblCanon d t) :
    tblCanon d (tblSet d t k v) := by
  simp only [tblCanon, Bool.and_eq_true] at h ⊢
  unfold tblSet
  split
  · exact ⟨tblWf_del k h.1, all_del h.2⟩
  · exact ⟨tblWf_put k v h.1, all_put h.2 (by simpa using ‹_›)⟩

theorem tblWf_set [DecidableEq α] {d : α} {t : Tbl α} (k : Nat) (v : α) (h : tblWf t) : tblWf (tblSet d t k v) := by
  unfold tblSet
  split
  · exact tblWf_del k h
  · exact tblWf_put k v h

theorem tblFind_del_same {t : Tbl α} {k : Nat} (h : tblWf t) : tblFind (tblDel t k) k = none := by
  have H : ∀ (t : Tbl α) (l : Option Nat), keysRise l t → tblFind (tblDel t k) k = none := by
    intro t
    induction t with
    | nil => intro _ _; rfl
    | cons p r ih =>
      intro l h
      obtain ⟨i, w⟩ := p
      have hr : keysRise (some i) r := by
        cases l with
        | none => exact h
        | some l => simp only [keysRise, Bool.and_eq_true] at h; exact h.2
      unfold tblDel
      split
      · rw [tblFind, if_neg (by omega), if_pos ‹_›]
      · split
        · subst_vars; exact tblFind_below hr (Nat.le_refl _)
        · rw [tblFind, if_neg ‹_›, if_neg ‹_›]; exact ih _ hr
  exact H t none h

theorem tblFind_del_other {t : Tbl α} {k j : Nat} (hw : tblWf t) (h : j ≠ k) : tblFind (tblDel t k) j = tblFind t j := by
  have H : ∀ (t : Tbl α) (l : Option Nat), keysRise l t → tblFind (tblDel t k) j = tblFind t j := by
    intro t
    induction t with
    | nil => intro _ _; rfl
    | cons p r ih =>
      intro l hl
      obtain ⟨i, w⟩ := p
      have hr : keysRise (some i) r := by
        cases l with
        | none => exact hl
        | some l => simp only [keysRise, Bool.and_eq_true] at hl; exact hl.2
      unfold tblDel
      split
      · rfl
      · split
        · subst_vars
          rw [tblFind, if_neg (by omega)]
          split
          · exact tblFind_below hr (by omega)
          · rfl
        · simp only [tblFind, ih _ hr]
  exact H t none hw

/-- A read after a write of the same key gives the value written. -/
theorem tblGet_set_same [DecidableEq α] {d : α} {t : Tbl α} {k : Nat} {v : α} (h : tblWf t) :
    tblGet d (tblSet d t k v) k = v := by
  unfold tblGet tblSet
  split
  · rw [tblFind_del_same h]; exact Eq.symm ‹_›
  · rw [tblFind_put_same]; rfl

theorem tblFind_set_other [DecidableEq α] {d : α} {t : Tbl α} {k j : Nat} {v : α} (hw : tblWf t) (h : j ≠ k) :
    tblFind (tblSet d t k v) j = tblFind t j := by
  unfold tblSet
  split
  · rw [tblFind_del_other hw h]
  · rw [tblFind_put_other t v h]

/-- A write leaves every other key as it was. -/
theorem tblGet_set_other [DecidableEq α] {d : α} {t : Tbl α} {k j : Nat} {v : α} (hw : tblWf t) (h : j ≠ k) :
    tblGet d (tblSet d t k v) j = tblGet d t j := by
  unfold tblGet tblSet
  split
  · rw [tblFind_del_other hw h]
  · rw [tblFind_put_other t v h]

end Sys2Proof.Machine
end

