-- ==== Sys2Proof/Laws/Io.lean ====
section
/-! SUPPORT. What the operations of the register file and of EVT leave as it was, and that each of them keeps the telemetry
block within its bounds. -/

namespace Sys2Proof.Machine

open Sys2Proof

/-- The same queue, and nothing that could break a bound. -/
abbrev IoSame (x y : Io) : Prop :=
  y.q = x.q ∧ y.nextSeq = x.nextSeq ∧ y.samp.recs.length = x.samp.recs.length ∧
    (countersOk x.counters = true → countersOk y.counters = true) ∧ (outOk x.out = true → outOk y.out = true) ∧
    (tblWf x.regs = true → tblWf y.regs = true)

theorem IoSame.ok {x y : Io} (h : IoSame x y) : x.ok = true → y.ok = true := by
  grind [Io.ok]

theorem ioFold_same {α : Type} (f : Io → α → Io) (l : List α) (x : Io) (h : ∀ y a, IoSame y (f y a)) :
    IoSame x (l.foldl f x) := by
  induction l generalizing x with
  | nil => simp [IoSame]
  | cons a l ih => simp only [List.foldl_cons]; grind

theorem ioFold_ok {α : Type} (f : Io → α → Io) (l : List α) (x : Io) (h : ∀ y a, y.ok = true → (f y a).ok = true)
    (hx : x.ok = true) : (l.foldl f x).ok = true := by
  induction l generalizing x with
  | nil => exact hx
  | cons a l ih => simp only [List.foldl_cons]; exact ih _ (h _ _ hx)

/-! ### Operations that leave the queue alone -/

theorem putReg_same (x : Io) (off : Nat) (w : Word) : IoSame x (putReg x off w) := by
  grind [putReg, tblWf_set]

theorem putFld_same (x : Io) (off hi lo v : Nat) : IoSame x (putFld x off hi lo v) := by
  grind [putFld, putReg_same]

theorem setPgSts_same (x : Io) (page bit : Nat) : IoSame x (setPgSts x page bit) := by
  unfold setPgSts
  grind [putFld_same]

theorem rcAdd_same (off hi lo n : Nat) (x : Io) : IoSame x (rcAdd off hi lo n x) := by
  unfold rcAdd
  grind [putFld_same, setPgSts_same]

theorem rcSet_same (off bit : Nat) (x : Io) : IoSame x (rcSet off bit x) := rcAdd_same off bit bit 1 x

theorem peakMax_same (off hi lo v : Nat) (x : Io) : IoSame x (peakMax off hi lo v x) := by
  unfold peakMax
  grind [putFld_same]

theorem sampCount_same (i n : Nat) (x : Io) : IoSame x (sampCount i n x) := by
  unfold sampCount
  grind

theorem counters_set {t : Tbl Nat} {c : Nat} (i : Nat) (hc : c < 2 ^ 48) (h : countersOk t = true) :
    countersOk (tblSet 0 t i c) = true := by
  simp only [countersOk, Bool.and_eq_true] at h ⊢
  refine ⟨tblCanon_set _ _ h.1, ?_⟩
  unfold tblSet
  split
  · exact all_del h.2
  · exact all_put h.2 (by simpa using hc)

theorem outOk_cons {o : Out} {l : List Out} (ho : o.allowed = true) (h : outOk l = true) : outOk (o :: l) = true := by
  simp only [outOk, List.all_cons, Bool.and_eq_true] at h ⊢
  exact ⟨ho, h⟩

theorem count_same (i n : Nat) (x : Io) : IoSame x (count i n x) := by
  have hs := sampCount_same i n x
  unfold count
  split
  · dsimp only
    split
    · grind [counters_set]
    · have hm : ∀ m : Nat, m % 2 ^ 48 < 2 ^ 48 := fun m => Nat.mod_lt _ (by decide)
      grind [counters_set, rcSet_same]
  · simp [IoSame]

theorem sendVec_same (env : IoEnv) (p v : Nat) (y : Vec) (x : Io) : IoSame x (sendVec env p v y x) := by
  unfold sendVec
  grind [count_same, outOk, Out.allowed]

theorem signal_same (env : IoEnv) (p v e : Nat) (x : Io) : IoSame x (signal env p v e x) := by
  unfold signal
  have h := sendVec_same env p v (tblGet Vec.idle x.vecs (256 * p + v)) x
  split
  · simp [IoSame]
  · dsimp only
    split
    · simp [IoSame]
    · split
      · exact h
      · split
        · exact h
        · simp [IoSame]

theorem signalPorts_same (env : IoEnv) (ports v e : Nat) (x : Io) : IoSame x (signalPorts env ports v e x) := by
  unfold signalPorts
  exact ioFold_same _ _ _ fun y a => by grind [signal_same]

theorem route_same (env : IoEnv) (code : Nat) (sev : Sev) (encl : Nat) (x : Io) : IoSame x (route env code sev encl x) := by
  unfold route
  grind [signalPorts_same]

theorem modExpire_same (env : IoEnv) (p v : Nat) (x : Io) : IoSame x (modExpire env p v x) := by
  unfold modExpire
  grind [sendVec_same]

theorem dropHeld_same (p : Nat) (x : Io) : IoSame x (dropHeld p x) := by
  grind [dropHeld]

theorem sampTake_same (b : Bool) (x : Io) : IoSame x (sampTake b x).2 := by
  unfold sampTake
  grind

theorem snapshot_same (n : Nat) (x : Io) : IoSame x (snapshot n x) := by
  unfold snapshot
  grind [rcAdd_same, putFld_same]

/-! ### The queue -/

theorem nonCrit_append (q : List QEntry) (e : QEntry) :
    nonCritLive (q ++ [e]) = nonCritLive q + (if e.sev = .critical then 0 else 1) := by
  unfold nonCritLive
  rw [List.filter_append, List.length_append, List.filter_cons]
  cases e.sev <;> rfl

theorem nonCrit_filter (p : QEntry → Bool) (q : List QEntry) : nonCritLive (q.filter p) ≤ nonCritLive q := by
  unfold nonCritLive
  rw [List.filter_filter]
  induction q with
  | nil => simp
  | cons e q ih => simp only [List.filter_cons]; grind

theorem nonCrit_map (f : QEntry → QEntry) (hf : ∀ e, (f e).sev = e.sev) (q : List QEntry) :
    nonCritLive (q.map f) = nonCritLive q := by
  unfold nonCritLive
  induction q with
  | nil => rfl
  | cons e q ih => simp only [List.map_cons, List.filter_cons, hf]; split <;> simp [ih]

/-- Storing an event for which there is room. -/
theorem qStore_ok (env : IoEnv) (e : Ev) (d u c : Nat) (x : Io) (hl : x.q.length < 4096)
    (hn : e.sev ≠ .critical → nonCritLive x.q < 4032) (h : x.ok = true) : (qStore env e d u c x).ok = true := by
  unfold qStore
  refine (route_same _ _ _ _ _).ok ?_
  simp only [Io.ok, queueOk, seqOk, Bool.and_eq_true, decide_eq_true_eq] at h ⊢
  obtain ⟨⟨⟨⟨⟨h1, h2⟩, h3⟩, h4⟩, h5⟩, h6⟩ := h
  refine ⟨⟨⟨⟨⟨?_, ?_⟩, ?_⟩, h4⟩, h5⟩, h6⟩
  · simp only [List.length_append, List.length_singleton]; omega
  · rw [nonCrit_append]; grind
  · split <;> omega

theorem qDrop_length (q : List QEntry) (n : Nat) : (qDrop q n).length ≤ q.length := List.length_filter_le _ _

/-- Displacing an entry that is live makes room. -/
theorem qDisplace_ok (y : QEntry) (x : Io) (h : x.ok = true) : (qDisplace y x).ok = true := by
  have hq : ({ x with q := qDrop x.q y.seq } : Io).ok = true := by
    have h1 := qDrop_length x.q y.seq
    have h2 := nonCrit_filter (fun e => e.seq != y.seq) x.q
    simp only [Io.ok, queueOk, seqOk, Bool.and_eq_true, decide_eq_true_eq] at h ⊢
    obtain ⟨⟨⟨⟨⟨h3, h4⟩, h5⟩, h6⟩, h7⟩, h8⟩ := h
    exact ⟨⟨⟨⟨⟨by omega, Nat.le_trans h2 h4⟩, h5⟩, h6⟩, h7⟩, h8⟩
  have hc := (count_same Ctr.EVT_DISPLACED 1 _).ok ((rcAdd_same Reg.EVT_DROP 31 24 1 _).ok hq)
  unfold qDisplace
  split
  · exact hc
  · exact hc

theorem qDisplace_q (y : QEntry) (x : Io) : (qDisplace y x).q = qDrop x.q y.seq := by
  unfold qDisplace
  grind [count_same, rcAdd_same]

theorem qDrop_room {q : List QEntry} {y : QEntry} (h : y ∈ q) : (qDrop q y.seq).length < q.length := by
  unfold qDrop
  refine Nat.lt_of_le_of_ne (List.length_filter_le _ _) fun he => ?_
  have := List.length_filter_eq_length_iff.mp he y h
  simp at this

theorem qDrop_nonCrit {q : List QEntry} {y : QEntry} (h : y ∈ q) (hs : y.sev ≠ .critical) :
    nonCritLive (qDrop q y.seq) < nonCritLive q := by
  have hm : y ∈ q.filter fun e => e.sev != .critical := by simp [h, hs]
  unfold nonCritLive qDrop
  rw [List.filter_filter, show (fun a : QEntry => a.sev != Sev.critical && a.seq != y.seq) =
    (fun a => a.seq != y.seq && a.sev != Sev.critical) from funext fun a => Bool.and_comm _ _, ← List.filter_filter]
  refine Nat.lt_of_le_of_ne (List.length_filter_le _ _) fun he => ?_
  have := List.length_filter_eq_length_iff.mp he y hm
  simp at this

theorem oldestUnread_mem {q : List QEntry} {v : Sev} {y : QEntry} (h : oldestUnread q v = some y) : y ∈ q ∧ y.sev = v := by
  unfold oldestUnread at h
  have hs := List.find?_some h
  simp only [Bool.and_eq_true, beq_iff_eq] at hs
  exact ⟨List.mem_of_find?_eq_some h, hs.2⟩

theorem qCoalesce_ok (env : IoEnv) (y : QEntry) (m : Bool) (e : Ev) (c : Nat) (x : Io) (h : x.ok = true) :
    (qCoalesce env y m e c x).ok = true := by
  unfold qCoalesce
  refine (route_same _ _ _ _ _).ok ((count_same _ _ _).ok ?_)
  simp only [Io.ok, queueOk, seqOk, List.length_map] at h ⊢
  rw [nonCrit_map]
  · exact h
  · intro z; split <;> rfl

theorem qLose_ok (e : Ev) (x : Io) (h : x.ok = true) : (qLose e x).ok = true := by
  have hc := (count_same Ctr.EVT_DROP 1 x).ok h
  have h1 := (rcAdd_same Reg.EVT_DROP 7 0 1 _).ok hc
  have h2 := (rcAdd_same Reg.EVT_DROP 15 8 1 _).ok hc
  have h3 := (rcAdd_same Reg.EVT_DROP 23 16 1 _).ok hc
  unfold qLose
  cases e.sev
  · exact hc
  · exact h1
  · exact h2
  · exact h3

theorem Io.ok_len {x : Io} (h : x.ok = true) : x.q.length ≤ 4096 ∧ nonCritLive x.q ≤ 4032 := by
  simp only [Io.ok, queueOk, Bool.and_eq_true, decide_eq_true_eq] at h
  exact h.1.1.1.1

theorem arriveNonCrit_ok (env : IoEnv) (e : Ev) (d u c : Nat) (x : Io) (h : x.ok = true) :
    (arriveNonCrit env e d u c x).ok = true := by
  unfold arriveNonCrit
  split
  · have hr := ‹roomNonCrit x.q = true›
    simp only [roomNonCrit, Bool.and_eq_true, decide_eq_true_eq] at hr
    exact qStore_ok _ _ _ _ _ _ hr.2 (fun _ => hr.1) h
  · split
    · obtain ⟨hm, hs⟩ := oldestUnread_mem ‹_›
      have hl := Io.ok_len h
      refine qStore_ok _ _ _ _ _ _ ?_ (fun _ => ?_) (qDisplace_ok _ _ h)
      · rw [qDisplace_q]; exact Nat.lt_of_lt_of_le (qDrop_room hm) hl.1
      · rw [qDisplace_q]; exact Nat.lt_of_lt_of_le (qDrop_nonCrit hm (by rw [hs]; decide)) hl.2
    · exact qLose_ok _ _ h

theorem arriveCrit_ok (env : IoEnv) (e : Ev) (he : e.sev = .critical) (d u c : Nat) (x : Io) (h : x.ok = true) :
    (arriveCrit env e d u c x).ok = true := by
  have hl := Io.ok_len h
  have store : ∀ y ∈ x.q, (qStore env e d u c (qDisplace y x)).ok = true := fun y hm =>
    qStore_ok _ _ _ _ _ _ (by rw [qDisplace_q]; exact Nat.lt_of_lt_of_le (qDrop_room hm) hl.1) (fun hn => absurd he hn)
      (qDisplace_ok _ _ h)
  unfold arriveCrit
  split
  · exact qStore_ok _ _ _ _ _ _ ‹_› (fun hn => absurd he hn) h
  · split
    · rename_i y hy
      refine store y ?_
      cases h1 : oldestUnread x.q .info with
      | some z => rw [h1] at hy; cases hy; exact (oldestUnread_mem h1).1
      | none =>
        cases h2 : oldestUnread x.q .warning with
        | some z => rw [h1, h2] at hy; cases hy; exact (oldestUnread_mem h2).1
        | none => rw [h1, h2] at hy; exact (oldestUnread_mem hy).1
    · split
      · exact qCoalesce_ok _ _ _ _ _ _ h
      · split
        · exact qCoalesce_ok _ _ _ _ _ _ h
        · split
          · exact store _ (List.mem_of_find?_eq_some ‹_›)
          · split
            · exact qCoalesce_ok _ _ _ _ _ _ ((putFld_same _ _ _ _ _).ok ((rcAdd_same _ _ _ _ _).ok h))
            · exact h

theorem arrive_ok (env : IoEnv) (e : Ev) (d u c : Nat) (x : Io) (h : x.ok = true) : (arrive env e d u c x).ok = true := by
  unfold arrive
  split
  · exact arriveCrit_ok _ _ ‹_› _ _ _ _ ((count_same _ _ _).ok h)
  all_goals exact arriveNonCrit_ok _ _ _ _ _ _ ((count_same _ _ _).ok h)

theorem lossTry_ok (env : IoEnv) (x : Io) (h : x.ok = true) : (lossTry env x).ok = true := by
  unfold lossTry
  split
  · rename_i hc
    have hr := hc.2.1
    simp only [roomNonCrit, Bool.and_eq_true, decide_eq_true_eq] at hr
    have hs := count_same Ctr.EVT_RAISED_WARN 1 { x with loss := (0, 0, 0) }
    refine qStore_ok _ _ _ _ _ _ (by rw [hs.1]; exact hr.2) (fun _ => by rw [hs.1]; exact hr.1) (hs.ok ?_)
    exact h
  · exact h

theorem dueRound_ok (env : IoEnv) (x : Io) (h : x.ok = true) : (dueRound env x).ok = true := by
  unfold dueRound
  refine ioFold_ok _ _ _ (fun y d hy => ?_) h
  cases d with
  | alert page => exact arrive_ok _ _ _ _ _ _ hy
  | wrap i =>
    have hs := (signalPorts_same env (fldOf y Reg.EVT_VFIX 23 20) (fldOf y Reg.EVT_VFIX 15 8) 0 y).ok hy
    dsimp only
    split
    · exact hs
    · exact arrive_ok _ _ _ _ _ _ hs

theorem flush_ok (env : IoEnv) (x : Io) (h : x.ok = true) : (flush env x).ok = true :=
  lossTry_ok _ _ (dueRound_ok _ _ (dueRound_ok _ _ (dueRound_ok _ _ h)))

/-- Raising an event keeps the telemetry block within its bounds. -/
theorem raiseIo_ok (env : IoEnv) (e : Ev) (d u c : Nat) (x : Io) (h : x.ok = true) : (raiseIo env e d u c x).ok = true :=
  flush_ok _ _ (arrive_ok _ _ _ _ _ _ h)

theorem raiseLimited_ok (env : IoEnv) (ns src : Nat) (e : Ev) (d u c : Nat) (x : Io) (h : x.ok = true) :
    (raiseLimited env ns src e d u c x).ok = true := by
  have hl : ∀ t, ({ x with lastEv := t } : Io).ok = true := fun t => by
    exact h
  unfold raiseLimited
  split
  · split
    · exact raiseIo_ok _ _ _ _ _ _ (hl _)
    · exact h
  · exact raiseIo_ok _ _ _ _ _ _ (hl _)

/-! ### Queue commands and sampling -/

theorem filterQ_ok (p : QEntry → Bool) (x : Io) (h : x.ok = true) : ({ x with q := x.q.filter p } : Io).ok = true := by
  have h1 := List.length_filter_le p x.q
  have h2 := nonCrit_filter p x.q
  simp only [Io.ok, queueOk, seqOk, Bool.and_eq_true, decide_eq_true_eq] at h ⊢
  obtain ⟨⟨⟨⟨⟨h3, h4⟩, h5⟩, h6⟩, h7⟩, h8⟩ := h
  exact ⟨⟨⟨⟨⟨by omega, by omega⟩, h5⟩, h6⟩, h7⟩, h8⟩

theorem mapQ_ok (f : QEntry → QEntry) (hf : ∀ e, (f e).sev = e.sev) (x : Io) (h : x.ok = true) :
    ({ x with q := x.q.map f } : Io).ok = true := by
  simp only [Io.ok, queueOk, seqOk, List.length_map] at h ⊢
  rw [nonCrit_map f hf]
  exact h

theorem qRead_ok (env : IoEnv) (m : Nat) (owner : Bool) (x : Io) (h : x.ok = true) : (qRead env m owner x).ok = true := by
  have h1 : ({ x with qLatch := tblPut x.qLatch m ((List.range 7).map fun i => headWord x.q (i + 1)) } : Io).ok = true := by
    exact h
  unfold qRead
  dsimp only
  split
  · exact h1
  · rename_i e _
    split
    · exact lossTry_ok _ _ (mapQ_ok (fun y => if y.seq = e.seq then { y with read := true } else y)
        (fun e => by split <;> rfl) _ h1)
    · exact h1

theorem qRelease_ok (env : IoEnv) (seq : Nat) (x : Io) (h : x.ok = true) : (qRelease env seq x).ok = true := by
  unfold qRelease
  split
  · exact lossTry_ok _ _ (filterQ_ok _ _ h)
  · exact flush_ok _ _ ((rcSet_same _ _ _).ok h)

theorem qReleaseRead_ok (env : IoEnv) (x : Io) (h : x.ok = true) : (qReleaseRead env x).ok = true :=
  lossTry_ok _ _ (filterQ_ok _ _ h)

theorem qMark_ok (x : Io) (h : x.ok = true) : (qMark x).ok = true := by
  exact h

theorem qRewind_ok (x : Io) (h : x.ok = true) : (qRewind x).ok = true := by
  have := mapQ_ok (fun e => if e.seq ∈ x.markSet then { e with read := false } else e) (fun e => by split <;> rfl) x h
  exact this

theorem sampPush_ok (env : IoEnv) (r : BitVec 256) (x : Io) (h : x.ok = true) : (sampPush env r x).ok = true := by
  unfold sampPush
  dsimp only
  split
  · have h1 : ({ x with samp := { x.samp with recs := x.samp.recs ++ [r], full := decide (x.samp.recs.length + 1 = 4096) } } : Io).ok = true := by
      simp only [Io.ok, queueOk, seqOk, Bool.and_eq_true, decide_eq_true_eq] at h ⊢
      refine ⟨⟨h.1.1, ?_⟩, h.2⟩
      simp only [List.length_append, List.length_singleton]; omega
    have h2 := (count_same Ctr.EVT_SAMPLE_REC 1 _).ok h1
    have h3 := fun a b => (signalPorts_same env a b 0 _).ok h2
    split
    · split
      · exact raiseIo_ok _ _ _ _ _ _ (h3 _ _)
      · exact raiseIo_ok _ _ _ _ _ _ h2
    · split
      · exact flush_ok _ _ (h3 _ _)
      · exact flush_ok _ _ h2
  · exact flush_ok _ _ ((count_same _ _ _).ok ((rcAdd_same _ _ _ _ _).ok h))

theorem sampRead_ok (m : Nat) (x : Io) (h : x.ok = true) : (sampRead m x).ok = true := by
  simp only [Io.ok, Bool.and_eq_true, decide_eq_true_eq] at h
  simp only [sampRead, Io.ok, Bool.and_eq_true, decide_eq_true_eq, List.length_tail]
  exact ⟨⟨h.1.1, by omega⟩, h.2⟩

/-! ### What leaves the queue alone keeps the bounds -/

theorem putReg_ok (x : Io) (off : Nat) (w : Word) (h : x.ok = true) : (putReg x off w).ok = true :=
  (putReg_same _ _ _).ok h

theorem putFld_ok (x : Io) (off hi lo v : Nat) (h : x.ok = true) : (putFld x off hi lo v).ok = true :=
  (putFld_same _ _ _ _ _).ok h

theorem setPgSts_ok (x : Io) (page bit : Nat) (h : x.ok = true) : (setPgSts x page bit).ok = true :=
  (setPgSts_same _ _ _).ok h

theorem rcAdd_ok (off hi lo n : Nat) (x : Io) (h : x.ok = true) : (rcAdd off hi lo n x).ok = true :=
  (rcAdd_same _ _ _ _ _).ok h

theorem peakMax_ok (off hi lo v : Nat) (x : Io) (h : x.ok = true) : (peakMax off hi lo v x).ok = true :=
  (peakMax_same _ _ _ _ _).ok h

theorem count_ok (i n : Nat) (x : Io) (h : x.ok = true) : (count i n x).ok = true :=
  (count_same _ _ _).ok h

theorem signal_ok (env : IoEnv) (p v e : Nat) (x : Io) (h : x.ok = true) : (signal env p v e x).ok = true :=
  (signal_same _ _ _ _ _).ok h

theorem signalPorts_ok (env : IoEnv) (ports v e : Nat) (x : Io) (h : x.ok = true) : (signalPorts env ports v e x).ok = true :=
  (signalPorts_same _ _ _ _ _).ok h

theorem modExpire_ok (env : IoEnv) (p v : Nat) (x : Io) (h : x.ok = true) : (modExpire env p v x).ok = true :=
  (modExpire_same _ _ _ _).ok h

theorem dropHeld_ok (p : Nat) (x : Io) (h : x.ok = true) : (dropHeld p x).ok = true :=
  (dropHeld_same _ _).ok h

theorem snapshot_ok (n : Nat) (x : Io) (h : x.ok = true) : (snapshot n x).ok = true :=
  (snapshot_same _ _).ok h

theorem sampTake_ok (b : Bool) (x : Io) (h : x.ok = true) : (sampTake b x).2.ok = true := (sampTake_same b x).ok h

end Sys2Proof.Machine
end

