-- ==== Sys2Proof/Laws/GoodBase.lean ====
section
/-! SUPPORT. What no command changes, and what every command keeps: which part it is and the queue of the commands that wait
stay as they are; the telemetry block stays within its bounds; what is held by address stays in its canonical form. -/

set_option Elab.async false

namespace Sys2Proof.Machine

open Sys2Proof

/-- What a state is compared with: a part, a queue, and whether `State.ok` is asked. -/
structure Hold where
  part : Part
  queue : List Instr
  ok : Bool

/-- The state has that part and that queue, and `State.ok` where asked. -/
def Good (x : Hold) (s : State) : Prop := s.part = x.part ∧ s.pending = x.queue ∧ (x.ok = true → s.ok = true)

/-- A state against itself. -/
theorem Good.self (s : State) : Good ⟨s.part, s.pending, s.ok⟩ s := ⟨.refl _, .refl _, id⟩

/-- Two states that agree on what `Good` reads, with telemetry that stays within its bounds. -/
theorem Good.of {x : Hold} {s t : State} (h : Good x s) (hp : t.part = s.part) (hq : t.pending = s.pending)
    (hi : s.io.ok = true → t.io.ok = true) (hm : (s.memWf && s.shapeOk) = true → (t.memWf && t.shapeOk) = true) :
    Good x t := by
  refine ⟨hp.trans h.1, hq.trans h.2.1, fun ho => ?_⟩
  have := h.2.2 ho
  rw [State.ok, Bool.and_eq_true] at this ⊢
  exact ⟨hi this.1, hm this.2⟩

/-! ### Combinators -/

theorem foldl_good {x : Hold} {α : Type} (f : State → α → State) (l : List α) (s : State)
    (h : ∀ y a, Good x y → Good x (f y a)) (hk : Good x s) : Good x (l.foldl f s) := by
  induction l generalizing s with
  | nil => exact hk
  | cons a l ih => exact ih _ (h s a hk)

grind_pattern foldl_good => l.foldl f s, Good x s

theorem eachIn_good {x : Hold} {α : Type} (l : List α) (f : α → State → State) (s : State)
    (h : ∀ a y, Good x y → Good x (f a y)) (hk : Good x s) : Good x (eachIn l f s) :=
  foldl_good _ l s (fun y a => h a y) hk

grind_pattern eachIn_good => eachIn l f s, Good x s

theorem upTo_good {x : Hold} (n : Nat) (f : Nat → State → State) (s : State)
    (h : ∀ a y, Good x y → Good x (f a y)) (hk : Good x s) : Good x (upTo n f s) :=
  eachIn_good (List.range n) f s h hk

/-- `upTo` with the bound on the position. -/
theorem upTo_lt_good {x : Hold} (n : Nat) (f : Nat → State → State) (s : State)
    (h : ∀ a, a < n → ∀ y, Good x y → Good x (f a y)) (hk : Good x s) : Good x (upTo n f s) := by
  suffices H : ∀ (l : List Nat), (∀ a ∈ l, a < n) → ∀ s, Good x s → Good x (eachIn l f s) from
    H _ (fun a ha => List.mem_range.mp ha) s hk
  intro l
  induction l with
  | nil => intro _ s hk; exact hk
  | cons a l ih => intro hl s hk; exact ih (fun b hb => hl b (by simp [hb])) _ (h a (hl a (by simp)) s hk)

grind_pattern upTo_good => upTo n f s, Good x s

theorem foldlp_good {x : Hold} {α β : Type} (f : β × State → α → β × State) (l : List α) (s : β × State)
    (h : ∀ y a, Good x y.2 → Good x (f y a).2) (hk : Good x s.2) : Good x (l.foldl f s).2 := by
  induction l generalizing s with
  | nil => exact hk
  | cons a l ih => exact ih _ (h s a hk)

theorem foldlq_good {x : Hold} {α β : Type} (f : β × State → α → β × State) (l : List α) (b : β) (s : State)
    (h : ∀ y a, Good x y.2 → Good x (f y a).2) (hk : Good x s) : Good x (l.foldl f (b, s)).2 :=
  foldlp_good f l (b, s) h hk

grind_pattern foldlq_good => l.foldl f (b, s), Good x s

theorem foldlt_good {x : Hold} {α β γ : Type} (f : β × γ × State → α → β × γ × State) (l : List α) (s : β × γ × State)
    (h : ∀ y a, Good x y.2.2 → Good x (f y a).2.2) (hk : Good x s.2.2) : Good x (l.foldl f s).2.2 := by
  induction l generalizing s with
  | nil => exact hk
  | cons a l ih => exact ih _ (h s a hk)

grind_pattern foldlt_good => l.foldl f s, Good x s.2.2

theorem ite_good {x : Hold} {c : Prop} [Decidable c] {a b : State} (ha : Good x a) (hb : Good x b) :
    Good x (if c then a else b) := by
  split
  · exact ha
  · exact hb

theorem getD_good {x : Hold} {o : Option State} {d : State} (h : ∀ u, o = some u → Good x u) (hd : Good x d) :
    Good x (o.getD d) := by
  cases o with
  | none => exact hd
  | some u => exact h u rfl

/-- A fold that stops at `none`. -/
theorem foldBind_good {x : Hold} {α β : Type} (f : β × State → α → Option (β × State)) (l : List α)
    (hf : ∀ p a q, f p a = some q → Good x p.2 → Good x q.2) (acc : Option (β × State))
    (h : ∀ q, acc = some q → Good x q.2) (q : β × State)
    (hq : l.foldl (fun acc a => acc.bind fun p => f p a) acc = some q) : Good x q.2 := by
  induction l generalizing acc with
  | nil => exact h q hq
  | cons a l ih =>
    refine ih (acc.bind fun p => f p a) ?_ hq
    intro r hr
    obtain ⟨p, hp, hpr⟩ := Option.bind_eq_some_iff.mp hr
    exact hf p a r hpr (h p hp)

/-! ### The register file and EVT -/

theorem onIo_good {x : Hold} (f : Io → Io) (s : State) (h : s.io.ok = true → (f s.io).ok = true) (hk : Good x s) :
    Good x (onIo f s) := hk.of rfl rfl h id

grind_pattern onIo_good => onIo f s, Good x s

theorem hwFld_good {x : Hold} (off hi lo v : Nat) (s : State) (hk : Good x s) : Good x (hwFld off hi lo v s) :=
  onIo_good _ s (putFld_ok _ _ _ _ _) hk

grind_pattern hwFld_good => hwFld off hi lo v s, Good x s

theorem raise_good {x : Hold} (e : Ev) (data unit : Nat) (s : State) (hk : Good x s) : Good x (raise e data unit s) :=
  onIo_good _ s (raiseIo_ok _ _ _ _ _ _) hk

grind_pattern raise_good => raise e data unit s, Good x s

theorem raiseE_good {x : Hold} (e : Ev) (data unit encl : Nat) (s : State) (hk : Good x s) :
    Good x (raiseE e data unit encl s) := onIo_good _ s (raiseIo_ok _ _ _ _ _ _) hk

grind_pattern raiseE_good => raiseE e data unit encl s, Good x s

theorem raiseAtMost_good {x : Hold} (ns src : Nat) (e : Ev) (data unit : Nat) (s : State) (hk : Good x s) :
    Good x (raiseAtMost ns src e data unit s) := onIo_good _ s (raiseLimited_ok _ _ _ _ _ _ _ _) hk

grind_pattern raiseAtMost_good => raiseAtMost ns src e data unit s, Good x s

theorem tally_good {x : Hold} (i n : Nat) (s : State) (hk : Good x s) : Good x (tally i n s) :=
  onIo_good _ s (fun h => flush_ok _ _ (count_ok _ _ _ h)) hk

grind_pattern tally_good => tally i n s, Good x s

theorem rcCount_good {x : Hold} (off hi lo n : Nat) (s : State) (hk : Good x s) : Good x (rcCount off hi lo n s) :=
  onIo_good _ s (fun h => flush_ok _ _ (rcAdd_ok _ _ _ _ _ h)) hk

grind_pattern rcCount_good => rcCount off hi lo n s, Good x s

theorem rcFlag_good {x : Hold} (off bit : Nat) (s : State) (hk : Good x s) : Good x (rcFlag off bit s) :=
  rcCount_good _ _ _ _ s hk

grind_pattern rcFlag_good => rcFlag off bit s, Good x s

theorem peak_good {x : Hold} (off hi lo v : Nat) (s : State) (hk : Good x s) : Good x (peak off hi lo v s) :=
  onIo_good _ s (peakMax_ok _ _ _ _ _) hk

grind_pattern peak_good => peak off hi lo v s, Good x s

theorem emit_good {x : Hold} (o : Out) (s : State) (ho : o.allowed = true) (hk : Good x s) : Good x (emit o s) := by
  refine onIo_good _ s (fun h => ?_) hk
  simp only [Io.ok, Bool.and_eq_true] at h ⊢
  exact ⟨h.1, outOk_cons ho h.2.1, h.2.2⟩

grind_pattern emit_good => emit o s, Good x s

theorem mboxDone_good {x : Hold} (p opc : Nat) (status : String) (payload : List Byte) (s : State) (hk : Good x s) :
    Good x (mboxDone p opc status payload s) := by
  unfold mboxDone
  split
  · exact onIo_good _ _ (signal_ok _ _ _ _ _) (emit_good _ s rfl hk)
  · exact hk

grind_pattern mboxDone_good => mboxDone p opc status payload s, Good x s

/-! ### Parts of the state -/

theorem onMedia_good {x : Hold} (f : Media → Media) (s : State)
    (hp : tblWf s.med.media.pages = true → tblWf (f s.med.media).pages = true)
    (hh : tblWf s.med.media.homeLines = true → tblWf (f s.med.media).homeLines = true) (hk : Good x s) :
    Good x (onMedia f s) := by
  refine hk.of rfl rfl id fun h => ?_
  simp only [State.memWf, State.shapeOk, onMedia, Bool.and_eq_true] at h ⊢
  exact ⟨⟨⟨hp h.1.1.1, hh h.1.1.2⟩, h.1.2⟩, h.2⟩

grind_pattern onMedia_good => onMedia f s, Good x s

theorem onPlc_good {x : Hold} (f : Plc → Plc) (s : State) (h : ramsOk s.plc.cores = true → ramsOk (f s.plc).cores = true)
    (hc : coresOk s.plc.cores = true → coresOk (f s.plc).cores = true) (hk : Good x s) : Good x (onPlc f s) := by
  refine hk.of rfl rfl id fun hm => ?_
  simp only [State.memWf, State.shapeOk, onPlc, Bool.and_eq_true] at hm ⊢
  exact ⟨⟨hm.1.1, h hm.1.2⟩, hm.2.1, hc hm.2.2⟩

grind_pattern onPlc_good => onPlc f s, Good x s

theorem onHpt_good {x : Hold} (f : Hpt → Hpt) (s : State) (h : (f s.hpt).ports.length = s.hpt.ports.length)
    (hk : Good x s) : Good x (onHpt f s) := by
  refine hk.of rfl rfl id fun hm => ?_
  simp only [State.memWf, State.shapeOk, onHpt, h] at hm ⊢
  exact hm

grind_pattern onHpt_good => onHpt f s, Good x s

theorem onFab_good {x : Hold} (f : Fab → Fab) (s : State) (h : s.fab.ports.length = 4 → (f s.fab).ports.length = 4)
    (hk : Good x s) : Good x (onFab f s) := by
  refine hk.of rfl rfl id fun hm => ?_
  simp only [State.memWf, State.shapeOk, onFab, Bool.and_eq_true, beq_iff_eq] at hm ⊢
  exact ⟨hm.1, ⟨⟨⟨⟨hm.2.1.1.1.1.1, h hm.2.1.1.1.1.2⟩, hm.2.1.1.1.2⟩, hm.2.1.1.2⟩, hm.2.1.2⟩, hm.2.2⟩

grind_pattern onFab_good => onFab f s, Good x s

theorem onRsv_good {x : Hold} (f : Rsv → Rsv) (s : State) (h : (f s.rsv).banks.length = s.rsv.banks.length)
    (hk : Good x s) : Good x (onRsv f s) := by
  refine hk.of rfl rfl id fun hm => ?_
  simp only [State.memWf, State.shapeOk, onRsv, h] at hm ⊢
  exact hm

grind_pattern onRsv_good => onRsv f s, Good x s

theorem onCch_good {x : Hold} (f : Cch → Cch) (s : State) (h : cchOk s.cch = true → cchOk (f s.cch) = true)
    (hk : Good x s) : Good x (onCch f s) := by
  refine hk.of rfl rfl id fun hm => ?_
  simp only [State.memWf, State.shapeOk, onCch, Bool.and_eq_true] at hm ⊢
  exact ⟨hm.1, ⟨hm.2.1.1, h hm.2.1.2⟩, hm.2.2⟩

grind_pattern onCch_good => onCch f s, Good x s

theorem setAt_length {α : Type} (l : List α) (i : Nat) (f : α → α) : (setAt l i f).length = l.length := by
  induction l generalizing i with
  | nil => cases i <;> rfl
  | cons a l ih =>
    cases i with
    | zero => rfl
    | succ i => simp only [setAt, List.length_cons, ih]

grind_pattern setAt_length => (setAt l i f).length

theorem setAt_map {α β : Type} (l : List α) (i : Nat) (f : α → α) (d : α) (h : α → β)
    (hf : i < l.length → h (f (l.getD i d)) = h (l.getD i d)) : (setAt l i f).map h = l.map h := by
  induction l generalizing i with
  | nil => cases i <;> rfl
  | cons a l ih =>
    cases i with
    | zero => simp only [setAt, List.map_cons]; rw [show h (f a) = h a from hf (by simp)]
    | succ i =>
      simp only [setAt, List.map_cons]
      rw [ih i fun hi => hf (by simpa using hi)]

theorem ramsOk_set {cs : List Core} (i : Nat) {f : Core → Core} (hf : ∀ c, tblCanon 0 c.ram = true → tblCanon 0 (f c).ram = true)
    (h : ramsOk cs = true) : ramsOk (setAt cs i f) = true := by
  induction cs generalizing i with
  | nil => cases i <;> exact h
  | cons c cs ih =>
    simp only [ramsOk, List.all_cons, Bool.and_eq_true] at h ih
    cases i with
    | zero => simp only [setAt, ramsOk, List.all_cons, Bool.and_eq_true]; exact ⟨hf c h.1, h.2⟩
    | succ i => simp only [setAt, ramsOk, List.all_cons, Bool.and_eq_true]; exact ⟨h.1, ih i h.2⟩

/-- The register counts of a core's contexts. -/
def Core.shape (c : Core) : List Nat := c.ctxs.map (·.g.length)

theorem Core.shape_eq (c : Core) : c.shape = c.ctxs.map (·.g.length) := rfl

grind_pattern Core.shape_eq => c.shape

theorem coresOk_set {cs : List Core} (i : Nat) {f : Core → Core}
    (hf : (f (cs.getD i (Core.reset 0))).shape = (cs.getD i (Core.reset 0)).shape)
    (h : coresOk cs = true) : coresOk (setAt cs i f) = true := by
  unfold coresOk at h ⊢
  rw [setAt_map cs i f (Core.reset 0) (fun c : Core => c.ctxs.map fun x : Ctx => x.g.length) fun _ => hf]
  exact h

/-- A core 0 to 7 that is given four contexts of 32 registers. -/
theorem coresOk_put {cs : List Core} (i : Nat) (hi : i < 8) {f : Core → Core} (hf : ∀ c, (f c).shape = [32, 32, 32, 32])
    (h : coresOk cs = true) : coresOk (setAt cs i f) = true := by
  unfold coresOk at h ⊢
  have h' := eq_of_beq h
  rw [setAt_map cs i f (Core.reset 0) (fun c : Core => c.ctxs.map fun x : Ctx => x.g.length) fun hl => ?_]
  · exact h
  · refine (hf _).trans ?_
    have : (cs.map fun c => c.ctxs.map (·.g.length)).getD i [] = [32, 32, 32, 32] := by
      rw [h']
      exact (by decide : ∀ i < 8, (List.replicate 8 [32, 32, 32, 32] ++ [[32]]).getD i [] = [32, 32, 32, 32]) i hi
    rw [← this]
    simp [List.getD, hl]

/-- A state with other fields than those that `Good` reads. -/
theorem mk_good {x : Hold} {s : State} (tb epochCnt tickLast : Nat) (epochEnd : Option Nat) (epochAt : Nat) (io : Io) (mgt : Mgt) (sec : Sec)
    (hpt : Hpt) (cache : Cache) (ldg : Ldg) (med : Med) (rsv : Rsv) (cch : Cch) (plc : Plc) (fab : Fab) (freeCtr : Nat)
    (hi : s.io.ok = true → io.ok = true) (hm : med.media = s.med.media) (hp : plc.cores = s.plc.cores)
    (hh : hpt.ports.length = s.hpt.ports.length) (hf : fab.ports.length = s.fab.ports.length)
    (hd : med.ports.length = s.med.ports.length) (hr : rsv.banks.length = s.rsv.banks.length)
    (hc : cchOk s.cch = true → cchOk cch = true) (hk : Good x s) :
    Good x ⟨s.part, tb, epochCnt, tickLast, epochEnd, epochAt, io, mgt, sec, hpt, cache, ldg, med, rsv, cch, plc, fab, freeCtr,
      s.pending⟩ := by
  refine hk.of rfl rfl hi fun h => ?_
  simp only [State.memWf, State.shapeOk, hm, hp, hh, hf, hd, hr, Bool.and_eq_true] at h ⊢
  exact ⟨h.1, ⟨h.2.1.1, hc h.2.1.2⟩, h.2.2⟩

grind_pattern mk_good => State.mk s.part tb epochCnt tickLast epochEnd epochAt io mgt sec hpt cache ldg med rsv cch plc fab freeCtr
  s.pending, Good x s

end Sys2Proof.Machine
end

