-- ==== Sys2Proof/Laws/GoodStore.lean ====
section
/-! SUPPORT. What `Good` says is kept by every operation of Machine/: Ops, Addr, Ledger, Ways, Jrnl, Area, Dram, FabLink, Txns, Tsc, Own. -/

set_option Elab.async false

namespace Sys2Proof.Machine

open Sys2Proof

/-! ### Machine/Ops.lean -/

theorem until__good {hx : Hold} (t : Nat) (s : State) (hk : Good hx s) :
    Good hx (until_ t s) := by
  unfold until_
  grind (gen := 24) (splits := 14) (ematch := 20)

grind_pattern until__good => until_ t s, Good hx s

theorem draw_good {hx : Hold} (s : State) {q₁ : Nat} {u₁ : State} (hk : Good hx s) :
    draw s = (q₁, u₁) → Good hx u₁ := by
  unfold draw
  grind (gen := 24) (splits := 14) (ematch := 20)

theorem drawKey_good {hx : Hold} (s : State) {q₁ : Nat} {u₁ : State} (hk : Good hx s) :
    drawKey s = (q₁, u₁) → Good hx u₁ := by
  unfold drawKey
  grind (gen := 24) (splits := 14) (ematch := 20)

theorem onCache_good {hx : Hold} (f : Cache → Cache) (s : State) (hk : Good hx s) :
    Good hx (onCache f s) := by
  unfold onCache
  grind (gen := 24) (splits := 14) (ematch := 20)

grind_pattern onCache_good => onCache f s, Good hx s

theorem onJrnl_good {hx : Hold} (f : Jrnl → Jrnl) (s : State) (hk : Good hx s) :
    Good hx (onJrnl f s) := by
  unfold onJrnl
  grind (gen := 24) (splits := 14) (ematch := 20)

grind_pattern onJrnl_good => onJrnl f s, Good hx s

theorem onLdg_good {hx : Hold} (f : Ldg → Ldg) (s : State) (hk : Good hx s) :
    Good hx (onLdg f s) := by
  unfold onLdg
  grind (gen := 24) (splits := 14) (ematch := 20)

grind_pattern onLdg_good => onLdg f s, Good hx s

theorem onSec_good {hx : Hold} (f : Sec → Sec) (s : State) (hk : Good hx s) :
    Good hx (onSec f s) := by
  unfold onSec
  grind (gen := 24) (splits := 14) (ematch := 20)

grind_pattern onSec_good => onSec f s, Good hx s

theorem onBoot_good {hx : Hold} (f : Boot → Boot) (s : State) (hk : Good hx s) :
    Good hx (onBoot f s) := by
  unfold onBoot
  grind (gen := 24) (splits := 14) (ematch := 20)

grind_pattern onBoot_good => onBoot f s, Good hx s

theorem onNv_good {hx : Hold} (f : Nvm → Nvm) (s : State) (hk : Good hx s) :
    Good hx (onNv f s) := by
  unfold onNv
  grind (gen := 24) (splits := 14) (ematch := 20)

grind_pattern onNv_good => onNv f s, Good hx s

theorem onOwn_good {hx : Hold} (f : Own → Own) (s : State) (hk : Good hx s) :
    Good hx (onOwn f s) := by
  unfold onOwn
  grind (gen := 24) (splits := 14) (ematch := 20)

grind_pattern onOwn_good => onOwn f s, Good hx s

theorem onPort_good {hx : Hold} (p : Nat) (f : Port → Port) (s : State) (hk : Good hx s) :
    Good hx (onPort p f s) := by
  unfold onPort
  grind (gen := 24) (splits := 14) (ematch := 20)

grind_pattern onPort_good => onPort p f s, Good hx s

/-! ### Machine/Addr.lean -/

theorem tellUnmapped_good {hx : Hold} (why : Unmap) (da : Nat) (unit : Nat) (s : State) (hk : Good hx s) :
    Good hx (tellUnmapped why da unit s) := by
  unfold tellUnmapped
  grind (gen := 24) (splits := 14) (ematch := 20)

grind_pattern tellUnmapped_good => tellUnmapped why da unit s, Good hx s

/-! ### Machine/Ledger.lean -/

theorem setRState_good {hx : Hold} (n : RState) (s : State) (hk : Good hx s) :
    Good hx (setRState n s) := by
  unfold setRState
  grind (gen := 24) (splits := 14) (ematch := 20)

grind_pattern setRState_good => setRState n s, Good hx s

theorem rstateNow_good {hx : Hold} (s : State) (hk : Good hx s) :
    Good hx (rstateNow s) := by
  unfold rstateNow
  grind (gen := 24) (splits := 14) (ematch := 20)

grind_pattern rstateNow_good => rstateNow s, Good hx s

theorem publish_good {hx : Hold} (tick : Bool) (energies : List Nat) (d : Nat) (s : State) (hk : Good hx s) :
    Good hx (publish tick energies d s) := by
  unfold publish
  grind (gen := 24) (splits := 14) (ematch := 20)

grind_pattern publish_good => publish tick energies d s, Good hx s

theorem setRung_good {hx : Hold} (d : Nat) (s : State) (hk : Good hx s) :
    Good hx (setRung d s) := by
  unfold setRung
  grind (gen := 24) (splits := 14) (ematch := 20)

grind_pattern setRung_good => setRung d s, Good hx s

theorem tickLedger_good {hx : Hold} (s : State) (hk : Good hx s) :
    Good hx (tickLedger s) := by
  have step : ∀ (t : State) (d : Nat), Good hx t →
      Good hx (match t.ldg.st with
        | .unarmed =>
          if t.ldg.valid ∧ fld t Reg.LDG_CAP 29 16 * 2 ^ 20 ≤ t.ldg.cap ∧ below90 d t.ldg.cap ∧ t.ldg.capModel ≠ 0 then
            setRState .armed t else t
        | .overdrawn =>
          if ¬ t.ldg.valid ∨ t.ldg.capModel = 0 then setRState .unarmed t
          else if below90 d t.ldg.cap then setRState .armed t else t
        | .armed => if ¬ t.ldg.valid ∨ t.ldg.capModel = 0 then setRState .unarmed t else t
        | .disarmed => t) := by
    intro t d ht
    split
    all_goals grind
  have tail : ∀ (t : State) (c : Prop) [Decidable c] (i : Nat), Good hx t → Good hx (if c then tally i 1 t else t) :=
    fun t c _ i ht => ite_good (tally_good _ _ _ ht) ht
  unfold tickLedger
  exact tail _ _ _ (tail _ _ _ (tail _ _ _ (setRung_good _ _ (rstateNow_good _ (step _ _
    (tally_good _ _ _ (publish_good _ _ _ _ hk)))))))

grind_pattern tickLedger_good => tickLedger s, Good hx s

theorem latchFigs_good {hx : Hold} (s : State) (hk : Good hx s) :
    Good hx (latchFigs s) := by
  unfold latchFigs
  grind (gen := 24) (splits := 14) (ematch := 20) [putReg_ok, flush_ok, snapshot_ok]

grind_pattern latchFigs_good => latchFigs s, Good hx s

theorem tickHead_good {hx : Hold} (t : Nat) (s : State) (hk : Good hx s) :
    Good hx (tickHead t s) := by
  unfold tickHead
  grind (gen := 24) (splits := 14) (ematch := 20) [putReg_ok, flush_ok, snapshot_ok]

grind_pattern tickHead_good => tickHead t s, Good hx s

theorem evalUnsched_good {hx : Hold} (n : Nat) (s : State) (hk : Good hx s) :
    Good hx (evalUnsched n s) := by
  unfold evalUnsched
  grind (gen := 24) (splits := 14) (ematch := 20)

grind_pattern evalUnsched_good => evalUnsched n s, Good hx s

theorem releaseBanks_good {hx : Hold} (s : State) (hk : Good hx s) :
    Good hx (releaseBanks s) := by
  unfold releaseBanks
  grind (gen := 24) (splits := 14) (ematch := 20) [Option.map_eq_some_iff]

grind_pattern releaseBanks_good => releaseBanks s, Good hx s

theorem calEnd_good {hx : Hold} (result : Nat) (s : State) (hk : Good hx s) :
    Good hx (calEnd result s) := by
  unfold calEnd
  grind (gen := 24) (splits := 14) (ematch := 20) [Option.map_eq_some_iff, Out.allowed]

grind_pattern calEnd_good => calEnd result s, Good hx s

theorem calFail_good {hx : Hold} (result : Nat) (s : State) (hk : Good hx s) :
    Good hx (calFail result s) := by
  unfold calFail
  grind (gen := 24) (splits := 14) (ematch := 20)

grind_pattern calFail_good => calFail result s, Good hx s

theorem calPump_good {hx : Hold} (s : State) (hk : Good hx s) :
    Good hx (calPump s) := by
  unfold calPump
  grind (gen := 24) (splits := 14) (ematch := 20) [Option.map_eq_some_iff]

grind_pattern calPump_good => calPump s, Good hx s

theorem tellGrant_good {hx : Hold} (a : Bool) (r : Resv) (s : State) (hk : Good hx s) :
    Good hx (tellGrant a r s) := by
  unfold tellGrant
  grind (gen := 24) (splits := 14) (ematch := 20)

grind_pattern tellGrant_good => tellGrant a r s, Good hx s

theorem tellWait_good {hx : Hold} (w : WaitA) (s : State) (hk : Good hx s) :
    Good hx (tellWait w s) := by
  unfold tellWait
  grind (gen := 24) (splits := 14) (ematch := 20)

grind_pattern tellWait_good => tellWait w s, Good hx s

theorem dropHeads_good {hx : Hold} (p : Nat) (n : Nat) (s : State) (hk : Good hx s) :
    Good hx (dropHeads p n s) := by
  unfold dropHeads
  grind (gen := 24) (splits := 14) (ematch := 20)

grind_pattern dropHeads_good => dropHeads p n s, Good hx s

theorem convertHead_good {hx : Hold} (p : Nat) (s : State) {q₁ : Resv} {u₁ : State} (hk : Good hx s) :
    convertHead p s = some (q₁, u₁) → Good hx u₁ := by
  unfold convertHead
  grind (gen := 24) (splits := 14) (ematch := 20)

theorem returnRwd_good {hx : Hold} (p : Nat) (s : State) {u₁ : State} (hk : Good hx s) :
    returnRwd p s = some u₁ → Good hx u₁ := by
  unfold returnRwd
  grind (gen := 24) (splits := 14) (ematch := 20)

theorem oweRwd_good {hx : Hold} (p : Nat) (s : State) (hk : Good hx s) :
    Good hx (oweRwd p s) := by
  unfold oweRwd
  grind (gen := 24) (splits := 14) (ematch := 20) [→ returnRwd_good]

grind_pattern oweRwd_good => oweRwd p s, Good hx s

theorem peakD_good {hx : Hold} (s : State) (hk : Good hx s) :
    Good hx (peakD s) := by
  unfold peakD
  grind (gen := 24) (splits := 14) (ematch := 20)

grind_pattern peakD_good => peakD s, Good hx s

/-! ### Machine/Ways.lean -/

theorem onWay_good {hx : Hold} (k : Nat) (f : Way → Way) (s : State) (hk : Good hx s) :
    Good hx (onWay k f s) := by
  unfold onWay
  grind (gen := 24) (splits := 14) (ematch := 20)

grind_pattern onWay_good => onWay k f s, Good hx s

theorem clearWay_good {hx : Hold} (k : Nat) (s : State) (hk : Good hx s) :
    Good hx (clearWay k s) := by
  unfold clearWay
  grind (gen := 24) (splits := 14) (ematch := 20)

grind_pattern clearWay_good => clearWay k s, Good hx s

theorem markRegion_good {hx : Hold} (set : Nat) (s : State) (hk : Good hx s) :
    Good hx (markRegion set s) := by
  unfold markRegion
  grind (gen := 24) (splits := 14) (ematch := 20)

grind_pattern markRegion_good => markRegion set s, Good hx s

/-! ### Machine/Jrnl.lean -/

theorem onMPort_good {hx : Hold} (i : Nat) (f : MPort → MPort) (s : State) (hk : Good hx s) :
    Good hx (onMPort i f s) := by
  unfold onMPort
  grind (gen := 24) (splits := 14) (ematch := 20)

grind_pattern onMPort_good => onMPort i f s, Good hx s

theorem sendCmd_good {hx : Hold} (i : Nat) (ns : Nat) (lba : Nat) (what : MCmd) (read : Bool) (s : State) (hk : Good hx s) :
    Good hx (sendCmd i ns lba what read s) := by
  unfold sendCmd
  grind (gen := 24) (splits := 14) (ematch := 20) [Out.allowed, nvmeOp]

grind_pattern sendCmd_good => sendCmd i ns lba what read s, Good hx s

theorem submit_good {hx : Hold} (ns : Nat) (lba : Nat) (what : MCmd) (read : Bool) (s : State) {q₁ : Nat} {u₁ : State} (hk
    : Good hx s) :
    submit ns lba what read s = some (q₁, u₁) → Good hx u₁ := by
  unfold submit
  grind (gen := 24) (splits := 14) (ematch := 20) [Out.allowed]

theorem freeCmd_good {hx : Hold} (cid : Nat) (s : State) (hk : Good hx s) :
    Good hx (freeCmd cid s) := by
  unfold freeCmd
  grind (gen := 24) (splits := 14) (ematch := 20) [Option.map_eq_some_iff]

grind_pattern freeCmd_good => freeCmd cid s, Good hx s

theorem onStream_good {hx : Hold} (ns : Nat) (f : JStream → JStream) (s : State) (hk : Good hx s) :
    Good hx (onStream ns f s) := by
  unfold onStream
  grind (gen := 24) (splits := 14) (ematch := 20)

grind_pattern onStream_good => onStream ns f s, Good hx s

theorem tellRecs_good {hx : Hold} (rs : List JRec) (s : State) (hk : Good hx s) :
    Good hx (tellRecs rs s) := by
  unfold tellRecs
  grind (gen := 24) (splits := 14) (ematch := 20)

grind_pattern tellRecs_good => tellRecs rs s, Good hx s

theorem submitPage_good {hx : Hold} (pseq : Nat) (s : State) (hk : Good hx s) :
    Good hx (submitPage pseq s) := by
  unfold submitPage
  grind (gen := 24) (splits := 14) (ematch := 20) [→ submit_good, Option.map_eq_some_iff]

grind_pattern submitPage_good => submitPage pseq s, Good hx s

theorem packOn_good {hx : Hold} (ns : Nat) (rs : List JRec) (olds : List (Option (Nat × Nat × Nat))) (s : State) {u₁ :
    State} (hk : Good hx s) :
    packOn ns rs olds s = some u₁ → Good hx u₁ := by
  intro h
  unfold packOn at h
  split at h
  · exact absurd h (by simp)
  · rw [← Option.some.inj h]
    exact tally_good _ _ _ (tellRecs_good _ _ (submitPage_good _ _ (onJrnl_good _ _ (onJrnl_good _ _ (onStream_good _ _ _ hk)))))

theorem packPage_good {hx : Hold} (avoid : Option Nat) (rs : List JRec) (olds : List (Option (Nat × Nat × Nat))) (s :
    State) {u₁ : State} (hk : Good hx s) :
    packPage avoid rs olds s = some u₁ → Good hx u₁ := by
  unfold packPage
  grind (gen := 24) (splits := 14) (ematch := 20) [→ packOn_good]

theorem packRecs_good {hx : Hold} (avoid : Option Nat) (rs : List JRec) (s : State) {q₁ : List JRec} {u₁ : State} (hk :
    Good hx s) :
    packRecs avoid rs s = (q₁, u₁) → Good hx u₁ := by
  unfold packRecs
  grind (gen := 24) (splits := 14) (ematch := 20) [→ packPage_good]

theorem commitPage_good {hx : Hold} (rs : List JRec) (s : State) {u₁ : State} (hk : Good hx s) :
    commitPage rs s = some u₁ → Good hx u₁ := by
  unfold commitPage
  grind (gen := 24) (splits := 14) (ematch := 20) [→ packPage_good, Option.map_eq_some_iff]

theorem packWb_good {hx : Hold} (force : Bool) (s : State) (hk : Good hx s) :
    Good hx (packWb force s) := by
  unfold packWb
  grind (gen := 24) (splits := 14) (ematch := 20) [→ commitPage_good, Option.map_eq_some_iff]

grind_pattern packWb_good => packWb force s, Good hx s

theorem makeClean_good {hx : Hold} (k : Nat) (j : Nat) (s : State) (hk : Good hx s) :
    Good hx (makeClean k j s) := by
  unfold makeClean
  grind (gen := 24) (splits := 14) (ematch := 20)

grind_pattern makeClean_good => makeClean k j s, Good hx s

theorem cleanLine_good {hx : Hold} (k : Nat) (j : Nat) (s : State) (hk : Good hx s) :
    Good hx (cleanLine k j s) := by
  unfold cleanLine
  grind (gen := 24) (splits := 14) (ematch := 20)

grind_pattern cleanLine_good => cleanLine k j s, Good hx s

theorem submitSums_good {hx : Hold} (ns : Nat) (s : State) (hk : Good hx s) :
    Good hx (submitSums ns s) := by
  unfold submitSums
  grind (gen := 24) (splits := 14) (ematch := 20) [→ submit_good]

grind_pattern submitSums_good => submitSums ns s, Good hx s

theorem consumePage_good {hx : Hold} (pseq : Nat) (s : State) (hk : Good hx s) :
    Good hx (consumePage pseq s) := by
  unfold consumePage
  split
  · exact hk
  · dsimp only
    split
    · exact onJrnl_good _ _ hk
    · refine submitSums_good _ _ (onCache_good _ _ (eachIn_good _ _ _ (fun a y hy => cleanLine_good _ _ _ hy) (tally_good _ _ _
        (onJrnl_good _ _ (onMedia_good _ _ (tblWf_put _ _) id hk)))))

grind_pattern consumePage_good => consumePage pseq s, Good hx s

theorem consumeDone_good {hx : Hold} (s : State) (hk : Good hx s) :
    Good hx (consumeDone s) := by
  unfold consumeDone
  grind (gen := 24) (splits := 14) (ematch := 20) [Option.map_eq_some_iff]

grind_pattern consumeDone_good => consumeDone s, Good hx s

theorem repackPage_good {hx : Hold} (pseq : Nat) (s : State) (hk : Good hx s) :
    Good hx (repackPage pseq s) := by
  unfold repackPage
  grind (gen := 24) (splits := 14) (ematch := 20) [→ packPage_good, Option.map_eq_some_iff]

grind_pattern repackPage_good => repackPage pseq s, Good hx s

theorem submitPages_good {hx : Hold} (s : State) (hk : Good hx s) :
    Good hx (submitPages s) := by
  unfold submitPages
  grind (gen := 24) (splits := 14) (ematch := 20) [Option.map_eq_some_iff]

grind_pattern submitPages_good => submitPages s, Good hx s

/-! ### Machine/Area.lean -/

theorem areaPump_good {hx : Hold} (s : State) (hk : Good hx s) :
    Good hx (areaPump s) := by
  unfold areaPump
  grind (gen := 24) (splits := 14) (ematch := 20) [→ submit_good]

grind_pattern areaPump_good => areaPump s, Good hx s

theorem writeArea_good {hx : Hold} (escrow : Nat) (s : State) {q₁ : Nat} {u₁ : State} (hk : Good hx s) :
    writeArea escrow s = (q₁, u₁) → Good hx u₁ := by
  unfold writeArea
  grind (gen := 24) (splits := 14) (ematch := 20)

theorem areaCheck_good {hx : Hold} (s : State) (hk : Good hx s) :
    Good hx (areaCheck s) := by
  unfold areaCheck
  grind (gen := 24) (splits := 14) (ematch := 20)

grind_pattern areaCheck_good => areaCheck s, Good hx s

theorem areaDone_good {hx : Hold} (ns : Nat) (seq : Nat) (copyB : Bool) (s : State) (hk : Good hx s) :
    Good hx (areaDone ns seq copyB s) := by
  unfold areaDone
  grind (gen := 24) (splits := 14) (ematch := 20) [Option.map_eq_some_iff]

grind_pattern areaDone_good => areaDone ns seq copyB s, Good hx s

/-! ### Machine/Dram.lean -/

theorem onChan_good {hx : Hold} (c : Nat) (f : Chan → Chan) (s : State) (hk : Good hx s) :
    Good hx (onChan c f s) := by
  unfold onChan
  grind (gen := 24) (splits := 14) (ematch := 20) [cchOk]

grind_pattern onChan_good => onChan c f s, Good hx s

theorem onPair_good {hx : Hold} (p : Nat) (f : Pair → Pair) (s : State) (hk : Good hx s) :
    Good hx (onPair p f s) := by
  unfold onPair
  grind (gen := 24) (splits := 14) (ematch := 20) [cchOk]

grind_pattern onPair_good => onPair p f s, Good hx s

theorem burstsWritten_good {hx : Hold} (k : Nat) (js : List Nat) (s : State) (hk : Good hx s) :
    Good hx (burstsWritten k js s) := by
  unfold burstsWritten
  grind (gen := 24) (splits := 14) (ematch := 20) [cchOk]

grind_pattern burstsWritten_good => burstsWritten k js s, Good hx s

theorem corrPump_good {hx : Hold} (s : State) (hk : Good hx s) :
    Good hx (corrPump s) := by
  unfold corrPump
  refine eachIn_good _ _ _ (fun b y hy => ?_) hk
  have hd : Good hx (draw y).2 := draw_good y hy rfl
  grind [cchOk]

grind_pattern corrPump_good => corrPump s, Good hx s

theorem corrected_good {hx : Hold} (x : BurstAt) (ctr : Nat) (dev : Nat) (s : State) (hk : Good hx s) :
    Good hx (corrected x ctr dev s) := by
  unfold corrected
  grind (gen := 24) (splits := 14) (ematch := 20) [cchOk]

grind_pattern corrected_good => corrected x ctr dev s, Good hx s

theorem keepRecord_good {hx : Hold} (s : State) (hk : Good hx s) :
    Good hx (keepRecord s) := by
  unfold keepRecord
  refine onCch_good _ _ (fun h => ?_) hk
  simp only [cchOk, Bool.and_eq_true] at h ⊢
  refine ⟨h.1, ?_⟩
  cases s.cch.record with
  | none => rfl
  | some r => exact h.1.2

grind_pattern keepRecord_good => keepRecord s, Good hx s

theorem trialSuccess_good {hx : Hold} (x : BurstAt) (dev : Nat) (s : State) (hk : Good hx s) :
    Good hx (trialSuccess x dev s) := by
  unfold trialSuccess
  grind (gen := 24) (splits := 14) (ematch := 20) [cchOk]

grind_pattern trialSuccess_good => trialSuccess x dev s, Good hx s

theorem uncorrected_good {hx : Hold} (x : BurstAt) (s : State) (hk : Good hx s) :
    Good hx (uncorrected x s) := by
  unfold uncorrected
  grind (gen := 24) (splits := 14) (ematch := 20) [cchOk]

grind_pattern uncorrected_good => uncorrected x s, Good hx s

theorem tellCorr_good {hx : Hold} (x : BurstAt) (c : Copy) (s : State) (hk : Good hx s) :
    Good hx (tellCorr x c s) := by
  unfold tellCorr
  grind (gen := 24) (splits := 14) (ematch := 20) [cchOk]

grind_pattern tellCorr_good => tellCorr x c s, Good hx s

theorem breakPair_good {hx : Hold} (p : Nat) (odd : Bool) (s : State) (hk : Good hx s) :
    Good hx (breakPair p odd s) := by
  unfold breakPair
  grind (gen := 24) (splits := 14) (ematch := 20)

grind_pattern breakPair_good => breakPair p odd s, Good hx s

theorem keepFlips_good {hx : Hold} (k : Nat) (j : Nat) (f : Flips) (s : State) (hk : Good hx s) :
    Good hx (keepFlips k j f s) := by
  unfold keepFlips
  grind (gen := 24) (splits := 14) (ematch := 20)

grind_pattern keepFlips_good => keepFlips k j f s, Good hx s

theorem arbitrate_good {hx : Hold} (x : BurstAt) (s : State) (hk : Good hx s) :
    Good hx (arbitrate x s) := by
  unfold arbitrate
  grind (gen := 24) (splits := 14) (ematch := 20)

grind_pattern arbitrate_good => arbitrate x s, Good hx s

theorem takeCopy_good {hx : Hold} (x : BurstAt) (c : Copy) (s : State) {q₁ : Got} {u₁ : State} (hk : Good hx s) :
    takeCopy x c s = (q₁, u₁) → Good hx u₁ := by
  unfold takeCopy
  grind (gen := 24) (splits := 14) (ematch := 20) [cchOk]

theorem readOne_good {hx : Hold} (x : BurstAt) (c : Copy) (s : State) {q₁ : Got} {u₁ : State} (hk : Good hx s) :
    readOne x c s = (q₁, u₁) → Good hx u₁ := by
  unfold readOne
  grind (gen := 24) (splits := 14) (ematch := 20) [→ takeCopy_good]

theorem splitPair_good {hx : Hold} (p : Nat) (x : BurstAt) (s : State) {q₁ : Got} {u₁ : State} (hk : Good hx s) :
    splitPair p x s = (q₁, u₁) → Good hx u₁ := by
  unfold splitPair
  grind (gen := 24) (splits := 14) (ematch := 20)

theorem benignRead_good {hx : Hold} (p : Nat) (s : State) (hk : Good hx s) :
    Good hx (benignRead p s) := by
  unfold benignRead
  grind (gen := 24) (splits := 14) (ematch := 20)

grind_pattern benignRead_good => benignRead p s, Good hx s

theorem readPair_good {hx : Hold} (p : Nat) (x : BurstAt) (a : Copy) (b : Copy) (s : State) {q₁ : Got} {u₁ : State} (hk :
    Good hx s) :
    readPair p x a b s = (q₁, u₁) → Good hx u₁ := by
  unfold readPair
  grind (gen := 24) (splits := 14) (ematch := 20) [→ splitPair_good, → takeCopy_good]

theorem tellOthers_good {hx : Hold} (x : BurstAt) (f : Flips) (s : State) (hk : Good hx s) :
    Good hx (tellOthers x f s) := by
  unfold tellOthers
  grind (gen := 24) (splits := 14) (ematch := 20) [cchOk]

grind_pattern tellOthers_good => tellOthers x f s, Good hx s

theorem readBurst_good {hx : Hold} (set : Nat) (way : Nat) (line : Nat) (r : Rd) (s : State) {q₁ : Got} {u₁ : State} (hk :
    Good hx s) :
    readBurst set way line r s = (q₁, u₁) → Good hx u₁ := by
  unfold readBurst
  grind (gen := 24) (splits := 14) (ematch := 20) [Option.map_eq_some_iff, → readOne_good, → readPair_good]

/-! ### Machine/FabLink.lean -/

theorem onFPort_good {hx : Hold} (p : Nat) (f : FPort → FPort) (s : State) (hk : Good hx s) :
    Good hx (onFPort p f s) := by
  unfold onFPort
  grind (gen := 24) (splits := 14) (ematch := 20)

grind_pattern onFPort_good => onFPort p f s, Good hx s

theorem putOnLink_good {hx : Hold} (p : Nat) (lane : Nat) (m : FMsg) (s : State) (hk : Good hx s) :
    Good hx (putOnLink p lane m s) := by
  unfold putOnLink
  grind (gen := 24) (splits := 14) (ematch := 20) [Out.allowed]

grind_pattern putOnLink_good => putOnLink p lane m s, Good hx s

theorem trySend_good {hx : Hold} (avoid : Option Nat) (m : FMsg) (lane : Nat) (s : State) {q₁ : SendOut} {u₁ : State} (hk
    : Good hx s) :
    trySend avoid m lane s = (q₁, u₁) → Good hx u₁ := by
  unfold trySend
  grind (gen := 24) (splits := 14) (ematch := 20)

theorem sendVia_good {hx : Hold} (avoid : Option Nat) (m : FMsg) (lane : Nat) (s : State) {q₁ : Nat} {u₁ : State} (hk :
    Good hx s) :
    sendVia avoid m lane s = (q₁, u₁) → Good hx u₁ := by
  unfold sendVia
  grind (gen := 24) (splits := 14) (ematch := 20) [→ trySend_good]

theorem sendMsg_good {hx : Hold} (m : FMsg) (s : State) (hk : Good hx s) :
    Good hx (sendMsg m s) := by
  unfold sendMsg
  grind (gen := 24) (splits := 14) (ematch := 20) [→ sendVia_good]

grind_pattern sendMsg_good => sendMsg m s, Good hx s

theorem rxRelease_good {hx : Hold} (p : Nat) (v : VC) (lane : Nat) (n : Nat) (s : State) (hk : Good hx s) :
    Good hx (rxRelease p v lane n s) := by
  unfold rxRelease
  grind (gen := 24) (splits := 14) (ematch := 20) [Out.allowed]

grind_pattern rxRelease_good => rxRelease p v lane n s, Good hx s

theorem leftQueue_good {hx : Hold} (q : Queued) (s : State) (hk : Good hx s) :
    Good hx (leftQueue q s) := by
  unfold leftQueue
  grind (gen := 24) (splits := 14) (ematch := 20)

grind_pattern leftQueue_good => leftQueue q s, Good hx s

theorem fabPump_good {hx : Hold} (s : State) (hk : Good hx s) :
    Good hx (fabPump s) := by
  unfold fabPump
  grind (gen := 24) (splits := 14) (ematch := 20) [→ trySend_good]

grind_pattern fabPump_good => fabPump s, Good hx s

theorem rxAccept_good {hx : Hold} (p : Nat) (lane : Nat) (seq : Nat) (m : FMsg) (s : State) {q₁ : Bool} {u₁ : State} (hk :
    Good hx s) :
    rxAccept p lane seq m s = (q₁, u₁) → Good hx u₁ := by
  unfold rxAccept
  grind (gen := 24) (splits := 14) (ematch := 20)

theorem openEpisode_good {hx : Hold} (p : Nat) (s : State) (hk : Good hx s) :
    Good hx (openEpisode p s) := by
  unfold openEpisode
  grind (gen := 24) (splits := 14) (ematch := 20) [Option.map_eq_some_iff]

grind_pattern openEpisode_good => openEpisode p s, Good hx s

theorem startDegrade_good {hx : Hold} (p : Nat) (s : State) (hk : Good hx s) :
    Good hx (startDegrade p s) := by
  unfold startDegrade
  grind (gen := 24) (splits := 14) (ematch := 20)

grind_pattern startDegrade_good => startDegrade p s, Good hx s

theorem fabDown_good {hx : Hold} (p : Nat) (cmd : Bool) (s : State) (hk : Good hx s) :
    Good hx (fabDown p cmd s) := by
  unfold fabDown
  grind (gen := 24) (splits := 14) (ematch := 20) [Option.map_eq_some_iff, Out.allowed]

grind_pattern fabDown_good => fabDown p cmd s, Good hx s

/-! ### Machine/Txns.lean -/

theorem onTxn_good {hx : Hold} (id : Nat) (f : Txn → Txn) (s : State) (hk : Good hx s) :
    Good hx (onTxn id f s) := by
  unfold onTxn
  grind (gen := 24) (splits := 14) (ematch := 20) [Option.map_eq_some_iff]

grind_pattern onTxn_good => onTxn id f s, Good hx s

theorem setPh_good {hx : Hold} (id : Nat) (p : Phase) (s : State) (hk : Good hx s) :
    Good hx (setPh id p s) := by
  unfold setPh
  grind (gen := 24) (splits := 14) (ematch := 20)

grind_pattern setPh_good => setPh id p s, Good hx s

theorem returnReq_good {hx : Hold} (p : Nat) (s : State) (hk : Good hx s) :
    Good hx (returnReq p s) := by
  unfold returnReq
  grind (gen := 24) (splits := 14) (ematch := 20)

grind_pattern returnReq_good => returnReq p s, Good hx s

theorem trkPeak_good {hx : Hold} (s : State) (hk : Good hx s) :
    Good hx (trkPeak s) := by
  unfold trkPeak
  grind (gen := 24) (splits := 14) (ematch := 20)

grind_pattern trkPeak_good => trkPeak s, Good hx s

theorem giveEntry_good {hx : Hold} (t : Txn) (p : Pool) (s : State) (hk : Good hx s) :
    Good hx (giveEntry t p s) := by
  unfold giveEntry
  grind (gen := 24) (splits := 14) (ematch := 20)

grind_pattern giveEntry_good => giveEntry t p s, Good hx s

theorem releaseCredit_good {hx : Hold} (t : Txn) (s : State) (hk : Good hx s) :
    Good hx (releaseCredit t s) := by
  unfold releaseCredit
  grind (gen := 24) (splits := 14) (ematch := 20)

grind_pattern releaseCredit_good => releaseCredit t s, Good hx s

theorem enqueue_good {hx : Hold} (t : Txn) (s : State) (hk : Good hx s) :
    Good hx (enqueue t s) := by
  unfold enqueue
  grind (gen := 24) (splits := 14) (ematch := 20)

grind_pattern enqueue_good => enqueue t s, Good hx s

theorem admit_good {hx : Hold} (t : Txn) (s : State) {q₁ : Nat} {u₁ : State} (hk : Good hx s) :
    admitTxn t s = (q₁, u₁) → Good hx u₁ := by
  unfold admitTxn
  grind (gen := 24) (splits := 14) (ematch := 20)

theorem cmdBegin_good {hx : Hold} (p : Nat) (opc : Nat) (s : State) (hk : Good hx s) :
    Good hx (cmdBegin p opc s) := by
  unfold cmdBegin
  grind (gen := 24) (splits := 14) (ematch := 20) [→ admit_good]

grind_pattern cmdBegin_good => cmdBegin p opc s, Good hx s

theorem cmdEnd_good {hx : Hold} (p : Nat) (opc : Nat) (s : State) (hk : Good hx s) :
    Good hx (cmdEnd p opc s) := by
  unfold cmdEnd
  grind (gen := 24) (splits := 14) (ematch := 20)

grind_pattern cmdEnd_good => cmdEnd p opc s, Good hx s

theorem bgDone_good {hx : Hold} (p : Nat) (opc : Nat) (status : String) (payload : List Byte) (s : State) (hk : Good hx s) :
    Good hx (bgDone p opc status payload s) := by
  unfold bgDone
  grind (gen := 24) (splits := 14) (ematch := 20)

grind_pattern bgDone_good => bgDone p opc status payload s, Good hx s

theorem unsent_good {hx : Hold} (t : Txn) (s : State) {q₁ : Bool} {u₁ : State} (hk : Good hx s) :
    unsent t s = (q₁, u₁) → Good hx u₁ := by
  unfold unsent
  grind (gen := 24) (splits := 14) (ematch := 20) [→ draw_good]

theorem squash_good {hx : Hold} (t : Txn) (s : State) (hk : Good hx s) :
    Good hx (squash t s) := by
  unfold squash
  grind (gen := 24) (splits := 14) (ematch := 20) [→ unsent_good]

grind_pattern squash_good => squash t s, Good hx s

theorem stepBack_good {hx : Hold} (t : Txn) (s : State) (hk : Good hx s) :
    Good hx (stepBack t s) := by
  unfold stepBack
  grind (gen := 24) (splits := 14) (ematch := 20)

grind_pattern stepBack_good => stepBack t s, Good hx s

theorem becomeSole_good {hx : Hold} (id : Nat) (s : State) (hk : Good hx s) :
    Good hx (becomeSole id s) := by
  unfold becomeSole
  grind (gen := 24) (splits := 14) (ematch := 20)

grind_pattern becomeSole_good => becomeSole id s, Good hx s

theorem answer_good {hx : Hold} (t : Txn) (kind : String) (data : Option Line) (poison : Bool) (s : State) (hk : Good hx s) :
    Good hx (answer t kind data poison s) := by
  unfold answer
  grind (gen := 24) (splits := 14) (ematch := 20) [Option.map_eq_some_iff, Out.allowed, signal_ok]

grind_pattern answer_good => answer t kind data poison s, Good hx s

theorem txnSample_good {hx : Hold} (t : Txn) (skid : Bool) (poison : Bool) (s : State) (hk : Good hx s) :
    Good hx (txnSample t skid poison s) := by
  unfold txnSample
  grind (gen := 24) (splits := 14) (ematch := 20) [→ draw_good, sampPush_ok]

grind_pattern txnSample_good => txnSample t skid poison s, Good hx s

theorem sampleTxn_good {hx : Hold} (t : Txn) (poison : Bool) (s : State) (hk : Good hx s) :
    Good hx (sampleTxn t poison s) := by
  have hs : ∀ b, Good hx { s with io := (sampTake b s.io).2 } := fun b => hk.of rfl rfl (sampTake_ok _ _) id
  unfold sampleTxn
  grind

grind_pattern sampleTxn_good => sampleTxn t poison s, Good hx s

/-! ### Machine/Tsc.lean -/

theorem putTsc_good {hx : Hold} (set : Nat) (e : Tsc) (s : State) (hk : Good hx s) :
    Good hx (putTsc set e s) := by
  unfold putTsc
  grind (gen := 24) (splits := 14) (ematch := 20)

grind_pattern putTsc_good => putTsc set e s, Good hx s

theorem tscTouch_good {hx : Hold} (set : Nat) (s : State) (hk : Good hx s) :
    Good hx (tscTouch set s) := by
  unfold tscTouch
  grind (gen := 24) (splits := 14) (ematch := 20) [Option.map_eq_some_iff]

grind_pattern tscTouch_good => tscTouch set s, Good hx s

theorem loseCarry_good {hx : Hold} (e : Tsc) (s : State) (hk : Good hx s) :
    Good hx (loseCarry e s) := by
  unfold loseCarry
  grind (gen := 24) (splits := 14) (ematch := 20)

grind_pattern loseCarry_good => loseCarry e s, Good hx s

theorem heatBack_good {hx : Hold} (k : Nat) (h : Nat) (s : State) (hk : Good hx s) :
    Good hx (heatBack k h s) := by
  have h1 : Good hx (draw s).2 := draw_good s hk (Prod.eta _).symm
  unfold heatBack
  grind

grind_pattern heatBack_good => heatBack k h s, Good hx s

theorem tscDrop_good {hx : Hold} (set : Nat) (s : State) (hk : Good hx s) :
    Good hx (tscDrop set s) := by
  unfold tscDrop
  grind (gen := 24) (splits := 14) (ematch := 20) [→ draw_good]

grind_pattern tscDrop_good => tscDrop set s, Good hx s

theorem tscRoom_good {hx : Hold} (set : Nat) (s : State) (hk : Good hx s) :
    Good hx (tscRoom set s) := by
  unfold tscRoom
  grind (gen := 24) (splits := 14) (ematch := 20) [→ draw_good]

grind_pattern tscRoom_good => tscRoom set s, Good hx s

theorem tscFill_good {hx : Hold} (set : Nat) (carry : Option Nat) (s : State) (hk : Good hx s) :
    Good hx (tscFill set carry s) := by
  unfold tscFill
  grind (gen := 24) (splits := 14) (ematch := 20) [Option.map_eq_some_iff]

grind_pattern tscFill_good => tscFill set carry s, Good hx s

theorem promote_good {hx : Hold} (a : Access) (s : State) (hk : Good hx s) :
    Good hx (promote a s) := by
  unfold promote
  grind (gen := 24) (splits := 14) (ematch := 20) [Option.map_eq_some_iff]

grind_pattern promote_good => promote a s, Good hx s

theorem tscReady_good {hx : Hold} (set : Nat) (s : State) (hk : Good hx s) :
    Good hx (tscReady set s) := by
  unfold tscReady
  grind (gen := 24) (splits := 14) (ematch := 20) [Option.map_eq_some_iff]

grind_pattern tscReady_good => tscReady set s, Good hx s

theorem changeHeat_good {hx : Hold} (k : Nat) (f : Nat → Nat) (s : State) (hk : Good hx s) :
    Good hx (changeHeat k f s) := by
  unfold changeHeat
  grind (gen := 24) (splits := 14) (ematch := 20)

grind_pattern changeHeat_good => changeHeat k f s, Good hx s

theorem heatUp_good {hx : Hold} (k : Nat) (s : State) (hk : Good hx s) :
    Good hx (heatUp k s) := by
  unfold heatUp
  grind (gen := 24) (splits := 14) (ematch := 20)

grind_pattern heatUp_good => heatUp k s, Good hx s

theorem heatSet_good {hx : Hold} (k : Nat) (h : Nat) (s : State) (hk : Good hx s) :
    Good hx (heatSet k h s) := by
  unfold heatSet
  grind (gen := 24) (splits := 14) (ematch := 20)

grind_pattern heatSet_good => heatSet k h s, Good hx s

theorem carryHeat_good {hx : Hold} (k : Nat) (j : Nat) (s : State) (hk : Good hx s) :
    Good hx (carryHeat k j s) := by
  unfold carryHeat
  grind (gen := 24) (splits := 14) (ematch := 20)

grind_pattern carryHeat_good => carryHeat k j s, Good hx s

theorem tscUpset_good {hx : Hold} (set : Nat) (s : State) (hk : Good hx s) :
    Good hx (tscUpset set s) := by
  unfold tscUpset
  grind (gen := 24) (splits := 14) (ematch := 20)

grind_pattern tscUpset_good => tscUpset set s, Good hx s

theorem tscFillOnHit_good {hx : Hold} (set : Nat) (way : Nat) (s : State) (hk : Good hx s) :
    Good hx (tscFillOnHit set way s) := by
  unfold tscFillOnHit
  grind (gen := 24) (splits := 14) (ematch := 20)

grind_pattern tscFillOnHit_good => tscFillOnHit set way s, Good hx s

theorem trainWay_good {hx : Hold} (set : Nat) (way : Nat) (s : State) (hk : Good hx s) :
    Good hx (trainWay set way s) := by
  unfold trainWay
  grind (gen := 24) (splits := 14) (ematch := 20)

grind_pattern trainWay_good => trainWay set way s, Good hx s

theorem trainMiss_good {hx : Hold} (so : Nat) (encl : Nat) (miss : Bool) (s : State) (hk : Good hx s) :
    Good hx (trainMiss so encl miss s) := by
  unfold trainMiss
  grind (gen := 24) (splits := 14) (ematch := 20)

grind_pattern trainMiss_good => trainMiss so encl miss s, Good hx s

theorem clearMissTag_good {hx : Hold} (encl : Nat) (s : State) (hk : Good hx s) :
    Good hx (clearMissTag encl s) := by
  unfold clearMissTag
  grind (gen := 24) (splits := 14) (ematch := 20)

grind_pattern clearMissTag_good => clearMissTag encl s, Good hx s

theorem tellHint_good {hx : Hold} (set : Nat) (s : State) (hk : Good hx s) :
    Good hx (tellHint set s) := by
  unfold tellHint
  grind (gen := 24) (splits := 14) (ematch := 20)

grind_pattern tellHint_good => tellHint set s, Good hx s

theorem tellChoice_good {hx : Hold} (s : State) (c : Choice × Bool) (hk : Good hx s) :
    Good hx (tellChoice s c) := by
  unfold tellChoice
  grind (gen := 24) (splits := 14) (ematch := 20)

grind_pattern tellChoice_good => tellChoice s c, Good hx s

theorem dropReserved_good {hx : Hold} (t : Txn) (s : State) (hk : Good hx s) :
    Good hx (dropReserved t s) := by
  unfold dropReserved
  grind (gen := 24) (splits := 14) (ematch := 20)

grind_pattern dropReserved_good => dropReserved t s, Good hx s

theorem tellLook_good {hx : Hold} (t : Txn) (s : State) (hk : Good hx s) :
    Good hx (tellLook t s) := by
  unfold tellLook
  grind (gen := 24) (splits := 14) (ematch := 20)

grind_pattern tellLook_good => tellLook t s, Good hx s

theorem retireWith_good {hx : Hold} (id : Nat) (poison : Bool) (s : State) (hk : Good hx s) :
    Good hx (retireWith id poison s) := by
  unfold retireWith
  grind (gen := 24) (splits := 14) (ematch := 20) [Option.map_eq_some_iff]

grind_pattern retireWith_good => retireWith id poison s, Good hx s

theorem retire_good {hx : Hold} (id : Nat) (s : State) (hk : Good hx s) :
    Good hx (retire id s) := by
  unfold retire
  grind (gen := 24) (splits := 14) (ematch := 20)

grind_pattern retire_good => retire id s, Good hx s

/-! ### Machine/Own.lean -/

theorem setOwner_good {hx : Hold} (o : Option Master) (prio : Nat) (s : State) (hk : Good hx s) :
    Good hx (setOwner o prio s) := by
  unfold setOwner
  grind (gen := 24) (splits := 14) (ematch := 20)

grind_pattern setOwner_good => setOwner o prio s, Good hx s

theorem vacate_good {hx : Hold} (s : State) (hk : Good hx s) :
    Good hx (vacate s) := by
  unfold vacate
  grind (gen := 24) (splits := 14) (ematch := 20)

grind_pattern vacate_good => vacate s, Good hx s

theorem vacateIf_good {hx : Hold} (m : Master) (s : State) (hk : Good hx s) :
    Good hx (vacateIf m s) := by
  unfold vacateIf
  grind (gen := 24) (splits := 14) (ematch := 20)

grind_pattern vacateIf_good => vacateIf m s, Good hx s

end Sys2Proof.Machine
end

