-- ==== Sys2Proof/Laws/GoodCache.lean ====
section
/-! SUPPORT. What `Good` says is kept by every operation of Machine/: Snoop, Copies, Dir, Gates, Fills, Acts, Homes. -/

set_option Elab.async false

namespace Sys2Proof.Machine

open Sys2Proof

/-! ### Machine/Snoop.lean -/

theorem sfFree_good {hx : Hold} (i : Nat) (s : State) (hk : Good hx s) :
    Good hx (sfFree i s) := by
  unfold sfFree
  grind (gen := 24) (splits := 14) (ematch := 20)

grind_pattern sfFree_good => sfFree i s, Good hx s

theorem sfUse_good {hx : Hold} (i : Nat) (s : State) (hk : Good hx s) :
    Good hx (sfUse i s) := by
  unfold sfUse
  grind (gen := 24) (splits := 14) (ematch := 20)

grind_pattern sfUse_good => sfUse i s, Good hx s

theorem setHost_good {hx : Hold} (k : Nat) (j : Nat) (p : Nat) (h : HSt) (s : State) (hk : Good hx s) :
    Good hx (setHost k j p h s) := by
  unfold setHost
  grind (gen := 24) (splits := 14) (ematch := 20)

grind_pattern setHost_good => setHost k j p h s, Good hx s

theorem sfVictim_good {hx : Hold} (s : State) (x : Nat) {q₁ : Nat} {u₁ : State} (hk : Good hx s) :
    sfVictim s x = some (q₁, u₁) → Good hx u₁ := by
  intro h
  simp only [sfVictim] at h
  repeat' split at h
  all_goals grind (gen := 24) (splits := 14) (ematch := 20) [Option.map_eq_some_iff]

theorem sfAlloc_good {hx : Hold} (i : Nat) (k : Nat) (s : State) (hk : Good hx s) :
    Good hx (sfAlloc i k s) := by
  unfold sfAlloc
  grind (gen := 24) (splits := 14) (ematch := 20)

grind_pattern sfAlloc_good => sfAlloc i k s, Good hx s

theorem biPump_good {hx : Hold} (s : State) (hk : Good hx s) :
    Good hx (biPump s) := by
  unfold biPump
  grind (gen := 24) (splits := 14) (ematch := 20) [Option.map_eq_some_iff, Out.allowed]

grind_pattern biPump_good => biPump s, Good hx s

theorem biAdd_good {hx : Hold} (p : Nat) (k : Nat) (j : Nat) (dat : Bool) (walk : Bool) (s : State) (hk : Good hx s) :
    Good hx (biAdd p k j dat walk s) := by
  unfold biAdd
  grind (gen := 24) (splits := 14) (ematch := 20) [Option.map_eq_some_iff]

grind_pattern biAdd_good => biAdd p k j dat walk s, Good hx s

theorem snoopLine_good {hx : Hold} (k : Nat) (j : Nat) (skip : Option Nat) (w : Want) (s : State) (hk : Good hx s) :
    Good hx (snoopLine k j skip w s) := by
  unfold snoopLine
  grind (gen := 24) (splits := 14) (ematch := 20)

grind_pattern snoopLine_good => snoopLine k j skip w s, Good hx s

theorem snoopAll_good {hx : Hold} (k : Nat) (s : State) (hk : Good hx s) :
    Good hx (snoopAll k s) := by
  unfold snoopAll
  grind (gen := 24) (splits := 14) (ematch := 20)

grind_pattern snoopAll_good => snoopAll k s, Good hx s

theorem biDone_good {hx : Hold} (b : Bi) (h : HSt) (s : State) (hk : Good hx s) :
    Good hx (biDone b h s) := by
  unfold biDone
  grind (gen := 24) (splits := 14) (ematch := 20)

grind_pattern biDone_good => biDone b h s, Good hx s

theorem sfParS_good {hx : Hold} (k : Nat) (s : State) (hk : Good hx s) :
    Good hx (sfParS k s) := by
  unfold sfParS
  grind (gen := 24) (splits := 14) (ematch := 20) [Option.map_eq_some_iff]

grind_pattern sfParS_good => sfParS k s, Good hx s

theorem sfParA_good {hx : Hold} (k : Nat) (s : State) (hk : Good hx s) :
    Good hx (sfParA k s) := by
  unfold sfParA
  grind (gen := 24) (splits := 14) (ematch := 20)

grind_pattern sfParA_good => sfParA k s, Good hx s

theorem portDown_good {hx : Hold} (p : Nat) (s : State) (hk : Good hx s) :
    Good hx (portDown p s) := by
  unfold portDown
  grind (gen := 24) (splits := 14) (ematch := 20) [Option.map_eq_some_iff, dropHeld_ok]

grind_pattern portDown_good => portDown p s, Good hx s

theorem hostDown_good {hx : Hold} (p : Nat) (s : State) (hk : Good hx s) :
    Good hx (hostDown p s) := by
  unfold hostDown
  grind (gen := 24) (splits := 14) (ematch := 20)

grind_pattern hostDown_good => hostDown p s, Good hx s

/-! ### Machine/Copies.lean -/

theorem writeLine_good {hx : Hold} (k : Nat) (j : Nat) (data : Line) (m : LineMask) (poison : Bool) (wt : Bool) (s :
    State) (hk : Good hx s) :
    Good hx (writeLine k j data m poison wt s) := by
  unfold writeLine
  grind (gen := 24) (splits := 14) (ematch := 20)

grind_pattern writeLine_good => writeLine k j data m poison wt s, Good hx s

theorem addPoison_good {hx : Hold} (sk : Nat) (j : Nat) (s : State) (hk : Good hx s) :
    Good hx (addPoison sk j s) := by
  unfold addPoison
  grind (gen := 24) (splits := 14) (ematch := 20)

grind_pattern addPoison_good => addPoison sk j s, Good hx s

theorem poisonLine_good {hx : Hold} (k : Nat) (j : Nat) (dirty : Bool) (s : State) (hk : Good hx s) :
    Good hx (poisonLine k j dirty s) := by
  unfold poisonLine
  grind (gen := 24) (splits := 14) (ematch := 20)

grind_pattern poisonLine_good => poisonLine k j dirty s, Good hx s

theorem tellWbFull_good {hx : Hold} (s : State) (hk : Good hx s) :
    Good hx (tellWbFull s) := by
  unfold tellWbFull
  grind (gen := 24) (splits := 14) (ematch := 20)

grind_pattern tellWbFull_good => tellWbFull s, Good hx s

theorem putCopies_good {hx : Hold} (sk : Nat) (encl : Nat) (kind : CopyKind) (ls : List (Option CLine)) (s : State) (hk :
    Good hx s) :
    Good hx (putCopies sk encl kind ls s) := by
  unfold putCopies
  grind (gen := 24) (splits := 14) (ematch := 20) [Option.map_eq_some_iff]

grind_pattern putCopies_good => putCopies sk encl kind ls s, Good hx s

theorem copyLines_good {hx : Hold} (k : Nat) (js : List Nat) (kind : CopyKind) (wait : List Nat) (s : State) (hk : Good hx
    s) :
    Good hx (copyLines k js kind wait s) := by
  unfold copyLines
  grind (gen := 24) (splits := 14) (ematch := 20) [Option.map_eq_some_iff]

grind_pattern copyLines_good => copyLines k js kind wait s, Good hx s

theorem copyVictim_good {hx : Hold} (k : Nat) (s : State) (hk : Good hx s) :
    Good hx (copyVictim k s) := by
  unfold copyVictim
  grind (gen := 24) (splits := 14) (ematch := 20) [Option.map_eq_some_iff, Option.bind_eq_some_iff]

grind_pattern copyVictim_good => copyVictim k s, Good hx s

/-! ### Machine/Dir.lean -/

theorem dirFree_good {hx : Hold} (i : Nat) (s : State) (hk : Good hx s) :
    Good hx (dirFree i s) := by
  unfold dirFree
  grind (gen := 24) (splits := 14) (ematch := 20)

grind_pattern dirFree_good => dirFree i s, Good hx s

theorem putDir_good {hx : Hold} (i : Nat) (e : DirE) (s : State) (hk : Good hx s) :
    Good hx (putDir i e s) := by
  unfold putDir
  grind (gen := 24) (splits := 14) (ematch := 20)

grind_pattern putDir_good => putDir i e s, Good hx s

theorem dirDrop_good {hx : Hold} (k : Nat) (d : Nat) (s : State) (hk : Good hx s) :
    Good hx (dirDrop k d s) := by
  unfold dirDrop
  grind (gen := 24) (splits := 14) (ematch := 20)

grind_pattern dirDrop_good => dirDrop k d s, Good hx s

theorem dirClear_good {hx : Hold} (k : Nat) (s : State) (hk : Good hx s) :
    Good hx (dirClear k s) := by
  unfold dirClear
  grind (gen := 24) (splits := 14) (ematch := 20)

grind_pattern dirClear_good => dirClear k s, Good hx s

theorem sendSnoop_good {hx : Hold} (id : Nat) (opc : Nat) (dev : Nat) (fwd : Bool) (bcast : Bool) (tid : Nat) (gen : Nat)
    (sk : Nat) (s : State) (hk : Good hx s) :
    Good hx (sendSnoop id opc dev fwd bcast tid gen sk s) := by
  unfold sendSnoop
  grind (gen := 24) (splits := 14) (ematch := 20)

grind_pattern sendSnoop_good => sendSnoop id opc dev fwd bcast tid gen sk s, Good hx s

theorem recallAll_good {hx : Hold} (id : Nat) (k : Nat) (tid : Nat) (gen : Nat) (sk : Nat) (but : Option Nat) (s : State)
    (hk : Good hx s) :
    Good hx (recallAll id k tid gen sk but s) := by
  unfold recallAll
  grind (gen := 24) (splits := 14) (ematch := 20)

grind_pattern recallAll_good => recallAll id k tid gen sk but s, Good hx s

theorem dirParP_good {hx : Hold} (k : Nat) (s : State) (hk : Good hx s) :
    Good hx (dirParP k s) := by
  unfold dirParP
  grind (gen := 24) (splits := 14) (ematch := 20)

grind_pattern dirParP_good => dirParP k s, Good hx s

theorem dirParA_good {hx : Hold} (k : Nat) (s : State) (hk : Good hx s) :
    Good hx (dirParA k s) := by
  unfold dirParA
  grind (gen := 24) (splits := 14) (ematch := 20)

grind_pattern dirParA_good => dirParA k s, Good hx s

theorem sendWb_good {hx : Hold} (w : Way) (sk : Nat) (keep : Bool) (fhb : Bool) (held : Bool) (wait : List Nat) (s :
    State) (hk : Good hx s) :
    Good hx (sendWb w sk keep fhb held wait s) := by
  unfold sendWb
  grind (gen := 24) (splits := 14) (ematch := 20) [→ sendVia_good, Option.map_eq_some_iff]

grind_pattern sendWb_good => sendWb w sk keep fhb held wait s, Good hx s

theorem sendKeep_good {hx : Hold} (k : Nat) (wait : List Nat) (s : State) (hk : Good hx s) :
    Good hx (sendKeep k wait s) := by
  unfold sendKeep
  grind (gen := 24) (splits := 14) (ematch := 20) [Option.map_eq_some_iff]

grind_pattern sendKeep_good => sendKeep k wait s, Good hx s

theorem evictWay_good {hx : Hold} (k : Nat) (notify : Bool) (s : State) (hk : Good hx s) :
    Good hx (evictWay k notify s) := by
  unfold evictWay
  grind (gen := 24) (splits := 14) (ematch := 20)

grind_pattern evictWay_good => evictWay k notify s, Good hx s

theorem quarantine_good {hx : Hold} (k : Nat) (s : State) (hk : Good hx s) :
    Good hx (quarantine k s) := by
  unfold quarantine
  grind (gen := 24) (splits := 14) (ematch := 20)

grind_pattern quarantine_good => quarantine k s, Good hx s

/-! ### Machine/Gates.lean -/

theorem waitIn_good {hx : Hold} (t : Txn) (p : Phase) (s : State) {u₁ : State} (hk : Good hx s) :
    waitIn t p s = .moved u₁ → Good hx u₁ := by
  unfold waitIn
  grind (gen := 24) (splits := 14) (ematch := 20)

theorem tellViolation_good {hx : Hold} (t : Txn) (s : State) (hk : Good hx s) :
    Good hx (tellViolation t s) := by
  unfold tellViolation
  grind (gen := 24) (splits := 14) (ematch := 20) [Option.map_eq_some_iff, raiseLimited_ok]

grind_pattern tellViolation_good => tellViolation t s, Good hx s

theorem noteTxn_good {hx : Hold} (t : Txn) (st : String) (s : State) (hk : Good hx s) :
    Good hx (noteTxn t st s) := by
  unfold noteTxn
  grind (gen := 24) (splits := 14) (ematch := 20) [Option.map_eq_some_iff]

grind_pattern noteTxn_good => noteTxn t st s, Good hx s

theorem respond_good {hx : Hold} (t : Txn) (m : FMsg) (s : State) (hk : Good hx s) :
    Good hx (respond t m s) := by
  unfold respond
  grind (gen := 24) (splits := 14) (ematch := 20) [Option.map_eq_some_iff]

grind_pattern respond_good => respond t m s, Good hx s

theorem dropRec_good {hx : Hold} (t : Txn) (s : State) (hk : Good hx s) :
    Good hx (dropRec t s) := by
  unfold dropRec
  grind (gen := 24) (splits := 14) (ematch := 20)

grind_pattern dropRec_good => dropRec t s, Good hx s

theorem failRecord_good {hx : Hold} (desc : Nat) (s : State) (hk : Good hx s) :
    Good hx (failRecord desc s) := by
  unfold failRecord
  grind (gen := 24) (splits := 14) (ematch := 20)

grind_pattern failRecord_good => failRecord desc s, Good hx s

theorem failTxn_good {hx : Hold} (t : Txn) (cause : Nat) (s : State) (hk : Good hx s) :
    Good hx (failTxn t cause s) := by
  unfold failTxn
  grind (gen := 24) (splits := 14) (ematch := 20)

grind_pattern failTxn_good => failTxn t cause s, Good hx s

theorem gateEncl_good {hx : Hold} (t : Txn) (s : State) {u₁ : State} (hk : Good hx s) :
    gateEncl t s = .moved u₁ → Good hx u₁ := by
  unfold gateEncl
  grind (gen := 24) (splits := 14) (ematch := 20)

theorem gateSole_good {hx : Hold} (t : Txn) (s : State) {u₁ : State} (hk : Good hx s) :
    gateSole t s = .moved u₁ → Good hx u₁ := by
  unfold gateSole
  grind (gen := 24) (splits := 14) (ematch := 20)

theorem demandDone_good {hx : Hold} (id : Nat) (s : State) (hk : Good hx s) :
    Good hx (demandDone id s) := by
  unfold demandDone
  grind (gen := 24) (splits := 14) (ematch := 20)

grind_pattern demandDone_good => demandDone id s, Good hx s

theorem gateRemote_good {hx : Hold} (t : Txn) (k : Nat) (s : State) {u₁ : State} (hk : Good hx s) :
    gateRemote t k s = .moved u₁ → Good hx u₁ := by
  intro h
  simp only [gateRemote, Gate.andThen, Gate.then_] at h
  repeat' split at h
  all_goals grind (gen := 24) (splits := 14) (ematch := 20) [→ gateSole_good, → waitIn_good, Gate.then_, Gate.andThen]

/-! ### Machine/Fills.lean -/

theorem askPorts_good {hx : Hold} (t : Txn) (k : Nat) (j : Nat) (dat : Bool) (ps : List Nat) (s : State) (hk : Good hx s) :
    Good hx (askPorts t k j dat ps s) := by
  unfold askPorts
  grind (gen := 24) (splits := 14) (ematch := 20) [Option.map_eq_some_iff]

grind_pattern askPorts_good => askPorts t k j dat ps s, Good hx s

theorem gateSf_good {hx : Hold} (t : Txn) (k : Nat) (s : State) {u₁ : State} (hk : Good hx s) :
    gateSf t k s = .moved u₁ → Good hx u₁ := by
  unfold gateSf
  grind (gen := 24) (splits := 14) (ematch := 20) [→ sfVictim_good, → waitIn_good]

theorem gateLeave_good {hx : Hold} (t : Txn) (k : Nat) (s : State) {u₁ : State} (hk : Good hx s) :
    gateLeave t k s = .moved u₁ → Good hx u₁ := by
  unfold gateLeave
  grind (gen := 24) (splits := 14) (ematch := 20) [→ gateSf_good]

theorem gateHosts_good {hx : Hold} (t : Txn) (k : Nat) (s : State) {u₁ : State} (hk : Good hx s) :
    gateHosts t k s = .moved u₁ → Good hx u₁ := by
  intro h
  simp only [gateHosts, Gate.andThen, Gate.then_] at h
  repeat' split at h
  all_goals grind (gen := 24) (splits := 14) (ematch := 20) [→ gateSole_good, → waitIn_good, Gate.then_, Gate.andThen, →
      gateLeave_good]

theorem gateDir_good {hx : Hold} (t : Txn) (k : Nat) (s : State) {u₁ : State} (hk : Good hx s) :
    gateDir t k s = .moved u₁ → Good hx u₁ := by
  unfold gateDir
  grind (gen := 24) (splits := 14) (ematch := 20) [→ waitIn_good]

theorem gateWay_good {hx : Hold} (t : Txn) (s : State) {u₁ : State} (hk : Good hx s) :
    gateWay t s = .moved u₁ → Good hx u₁ := by
  unfold gateWay
  grind (gen := 24) (splits := 14) (ematch := 20) [→ waitIn_good]

theorem gateEvict_good {hx : Hold} (t : Txn) (k : Nat) (s : State) {u₁ : State} (hk : Good hx s) :
    gateEvict t k s = .moved u₁ → Good hx u₁ := by
  unfold gateEvict
  grind (gen := 24) (splits := 14) (ematch := 20) [→ waitIn_good]

theorem gateResv_good {hx : Hold} (t : Txn) (a : Bool) (size : Nat) (s : State) {u₁ : State} (hk : Good hx s) :
    gateResv t a size s = .moved u₁ → Good hx u₁ := by
  unfold gateResv
  grind (gen := 24) (splits := 14) (ematch := 20) [→ waitIn_good]

theorem gateRsv2_good {hx : Hold} (t : Txn) (s : State) {u₁ : State} (hk : Good hx s) :
    gateRsv2 t s = .moved u₁ → Good hx u₁ := by
  unfold gateRsv2
  grind (gen := 24) (splits := 14) (ematch := 20) [→ waitIn_good]

theorem freeResv_good {hx : Hold} (id : Nat) (s : State) (hk : Good hx s) :
    Good hx (freeResv id s) := by
  unfold freeResv
  grind (gen := 24) (splits := 14) (ematch := 20)

grind_pattern freeResv_good => freeResv id s, Good hx s

theorem submitReads_good {hx : Hold} (t : Txn) (rs : List (Nat × Nat)) (s : State) {q₁ : List Nat} {u₁ : State} (hk : Good
    hx s) :
    submitReads t rs s = some (q₁, u₁) → Good hx u₁ := by
  intro h
  refine foldBind_good (x := hx) (fun (p : List Nat × State) (r : Nat × Nat) =>
    match (if t.src = .engine then sharedRead p.2 r.1 r.2 else none) with
    | some c => some (p.1 ++ [c], p.2)
    | none => (submit r.1 r.2 (.fill t.id t.gen) true p.2).map fun (c, s) => (p.1 ++ [c], s)) rs ?_ (some ([], s)) ?_ _ h
  · intro p r q hq hp
    dsimp only at hq
    split at hq
    · cases hq; exact hp
    · obtain ⟨⟨c, s'⟩, hc, hd⟩ := Option.map_eq_some_iff.mp hq
      cases hd
      exact submit_good _ _ _ _ _ hp hc
  · intro q hq; cases hq; exact hk

theorem startFill_good {hx : Hold} (t : Txn) (k : Option Nat) (js : List Nat) (s : State) {u₁ : State} (hk : Good hx s) :
    startFill t k js s = .moved u₁ → Good hx u₁ := by
  unfold startFill
  grind (gen := 24) (splits := 14) (ematch := 20) [→ submitReads_good, → waitIn_good]

theorem tellBadLine_good {hx : Hold} (t : Txn) (j : Nat) (s : State) (hk : Good hx s) :
    Good hx (tellBadLine t j s) := by
  unfold tellBadLine
  grind (gen := 24) (splits := 14) (ematch := 20) [Option.map_eq_some_iff]

grind_pattern tellBadLine_good => tellBadLine t j s, Good hx s

theorem install_good {hx : Hold} (t : Txn) (k : Nat) (fresh : Bool) (heat : Nat) (s : State) (hk : Good hx s) :
    Good hx (install t k fresh heat s) := by
  unfold install
  grind (gen := 24) (splits := 14) (ematch := 20) [Option.map_eq_some_iff]

grind_pattern install_good => install t k fresh heat s, Good hx s

/-! ### Machine/Acts.lean -/

theorem onNt_good {hx : Hold} (sk : Nat) (f : NtE → NtE) (s : State) (hk : Good hx s) :
    Good hx (onNt sk f s) := by
  unfold onNt
  grind (gen := 24) (splits := 14) (ematch := 20) [Option.map_eq_some_iff]

grind_pattern onNt_good => onNt sk f s, Good hx s

theorem startWriteOut_good {hx : Hold} (sk : Nat) (c : WoCause) (s : State) (hk : Good hx s) :
    Good hx (startWriteOut sk c s) := by
  unfold startWriteOut
  grind (gen := 24) (splits := 14) (ematch := 20) [→ admit_good]

grind_pattern startWriteOut_good => startWriteOut sk c s, Good hx s

theorem gateNt_good {hx : Hold} (t : Txn) (s : State) {u₁ : State} (hk : Good hx s) :
    gateNt t s = .moved u₁ → Good hx u₁ := by
  intro h
  simp only [gateNt, Gate.andThen, Gate.then_] at h
  repeat' split at h
  all_goals grind (gen := 24) (splits := 14) (ematch := 20) [→ gateSole_good, → waitIn_good, Gate.then_, Gate.andThen]

theorem gateEntry_good {hx : Hold} (t : Txn) (s : State) {u₁ : State} (hk : Good hx s) :
    gateEntry t s = .moved u₁ → Good hx u₁ := by
  unfold gateEntry
  grind (gen := 24) (splits := 14) (ematch := 20) [→ waitIn_good]

theorem mergeNt_good {hx : Hold} (t : Txn) (j : Nat) (data : Line) (m : LineMask) (s : State) (hk : Good hx s) :
    Good hx (mergeNt t j data m s) := by
  unfold mergeNt
  grind (gen := 24) (splits := 14) (ematch := 20) [Option.map_eq_some_iff]

grind_pattern mergeNt_good => mergeNt t j data m s, Good hx s

theorem fullOut_good {hx : Hold} (sk : Nat) (s : State) (hk : Good hx s) :
    Good hx (fullOut sk s) := by
  unfold fullOut
  grind (gen := 24) (splits := 14) (ematch := 20)

grind_pattern fullOut_good => fullOut sk s, Good hx s

theorem endNt_good {hx : Hold} (t : Txn) (s : State) (hk : Good hx s) :
    Good hx (endNt t s) := by
  unfold endNt
  grind (gen := 24) (splits := 14) (ematch := 20)

grind_pattern endNt_good => endNt t s, Good hx s

theorem gateNtResv_good {hx : Hold} (t : Txn) (s : State) {u₁ : State} (hk : Good hx s) :
    gateNtResv t s = .moved u₁ → Good hx u₁ := by
  unfold gateNtResv
  grind (gen := 24) (splits := 14) (ematch := 20) [→ gateResv_good]

theorem gateCopies_good {hx : Hold} (t : Txn) (s : State) {u₁ : State} (hk : Good hx s) :
    gateCopies t s = .moved u₁ → Good hx u₁ := by
  intro h
  simp only [gateCopies, Gate.andThen, Gate.then_] at h
  repeat' split at h
  all_goals grind (gen := 24) (splits := 14) (ematch := 20) [→ gateHosts_good, → gateRemote_good, Gate.then_, Gate.andThen]

theorem actNt_good {hx : Hold} (t : Txn) (s : State) {u₁ : State} (hk : Good hx s) :
    actNt t s = some u₁ → Good hx u₁ := by
  intro h
  simp only [actNt, Gate.andThen, Gate.then_] at h
  repeat' split at h
  all_goals grind (gen := 24) (splits := 14) (ematch := 20) [→ gateCopies_good, → gateEncl_good, → gateEntry_good, →
      gateNtResv_good, → gateSole_good, Gate.then_, Gate.andThen]

theorem gatePlace_good {hx : Hold} (t : Txn) (s : State) {u₁ : State} (hk : Good hx s) :
    gatePlace t s = .moved u₁ → Good hx u₁ := by
  intro h
  simp only [gatePlace, Gate.andThen, Gate.then_] at h
  repeat' split at h
  all_goals grind (gen := 24) (splits := 14) (ematch := 20) [→ gateEvict_good, → gateWay_good, Gate.then_, Gate.andThen]

theorem sendReq_good {hx : Hold} (t : Txn) (m : FMsg) (w : Option Nat) (s : State) (hk : Good hx s) :
    Good hx (sendReq t m w s) := by
  unfold sendReq
  grind (gen := 24) (splits := 14) (ematch := 20) [→ sendVia_good]

grind_pattern sendReq_good => sendReq t m w s, Good hx s

theorem gateAsk_good {hx : Hold} (t : Txn) (s : State) {u₁ : State} (hk : Good hx s) :
    gateAsk t s = .moved u₁ → Good hx u₁ := by
  intro h
  simp only [gateAsk, Gate.andThen, Gate.then_] at h
  repeat' split at h
  all_goals grind (gen := 24) (splits := 14) (ematch := 20) [→ gateSole_good, → waitIn_good, Gate.then_, Gate.andThen]

theorem gateHave_good {hx : Hold} (t : Txn) (z : Bool) (s : State) {u₁ : State} (hk : Good hx s) :
    gateHave t z s = .moved u₁ → Good hx u₁ := by
  intro h
  simp only [gateHave, Gate.andThen, Gate.then_] at h
  repeat' split at h
  all_goals grind (gen := 24) (splits := 14) (ematch := 20) [→ gateAsk_good, → gatePlace_good, → gateRsv2_good,
      Gate.then_, Gate.andThen]

theorem nameWay_good {hx : Hold} (t : Txn) (k : Nat) (s : State) (hk : Good hx s) :
    Good hx (nameWay t k s) := by
  unfold nameWay
  grind (gen := 24) (splits := 14) (ematch := 20) [Option.map_eq_some_iff]

grind_pattern nameWay_good => nameWay t k s, Good hx s

theorem gateFill_good {hx : Hold} (t : Txn) (whole : Bool) (js : List Nat) (s : State) {u₁ : State} (hk : Good hx s) :
    gateFill t whole js s = .moved u₁ → Good hx u₁ := by
  intro h
  simp only [gateFill, Gate.andThen, Gate.then_] at h
  repeat' split at h
  all_goals grind (gen := 24) (splits := 14) (ematch := 20) [→ gateHave_good, → gatePlace_good, → gateSole_good, →
      startFill_good, Gate.then_, Gate.andThen]

theorem gateRoom_good {hx : Hold} (t : Txn) (s : State) {u₁ : State} (hk : Good hx s) :
    gateRoom t s = .moved u₁ → Good hx u₁ := by
  unfold gateRoom
  grind (gen := 24) (splits := 14) (ematch := 20) [→ gateHave_good, → gatePlace_good]

theorem companions_good {hx : Hold} (t : Txn) (s : State) (hk : Good hx s) :
    Good hx (companions t s) := by
  unfold companions
  grind (gen := 24) (splits := 14) (ematch := 20) [→ admit_good]

grind_pattern companions_good => companions t s, Good hx s

theorem endFill_good {hx : Hold} (t : Txn) (s : State) (hk : Good hx s) :
    Good hx (endFill t s) := by
  unfold endFill
  grind (gen := 24) (splits := 14) (ematch := 20)

grind_pattern endFill_good => endFill t s, Good hx s

theorem giveLine_good {hx : Hold} (t : Txn) (k : Nat) (s : State) (hk : Good hx s) :
    Good hx (giveLine t k s) := by
  unfold giveLine
  grind (gen := 24) (splits := 14) (ematch := 20)

grind_pattern giveLine_good => giveLine t k s, Good hx s

theorem answerEarly_good {hx : Hold} (t : Txn) (k : Nat) (s : State) {u₁ : State} (hk : Good hx s) :
    answerEarly t k s = some u₁ → Good hx u₁ := by
  unfold answerEarly
  grind (gen := 24) (splits := 14) (ematch := 20) [Option.map_eq_some_iff, → gateLeave_good]

theorem endRead_good {hx : Hold} (t : Txn) (k : Nat) (s : State) (hk : Good hx s) :
    Good hx (endRead t k s) := by
  unfold endRead
  grind (gen := 24) (splits := 14) (ematch := 20)

grind_pattern endRead_good => endRead t k s, Good hx s

theorem actRead_good {hx : Hold} (t : Txn) (s : State) {u₁ : State} (hk : Good hx s) :
    actRead t s = some u₁ → Good hx u₁ := by
  intro h
  simp only [actRead, Gate.andThen, Gate.then_] at h
  repeat' split at h
  all_goals grind (gen := 24) (splits := 14) (ematch := 20) [→ gateAsk_good, → gateCopies_good, → gateEncl_good, →
      gateFill_good, → gateLeave_good, → gateNt_good, → gateSole_good, → startFill_good, Option.map_eq_some_iff,
      Gate.then_, Gate.andThen]

theorem endRdNA_good {hx : Hold} (t : Txn) (s : State) (hk : Good hx s) :
    Good hx (endRdNA t s) := by
  unfold endRdNA
  grind (gen := 24) (splits := 14) (ematch := 20)

grind_pattern endRdNA_good => endRdNA t s, Good hx s

theorem gateIssued_good {hx : Hold} (t : Txn) (s : State) {u₁ : State} (hk : Good hx s) :
    gateIssued t s = .moved u₁ → Good hx u₁ := by
  unfold gateIssued
  grind (gen := 24) (splits := 14) (ematch := 20) [Option.map_eq_some_iff]

theorem actFetch_good {hx : Hold} (t : Txn) (s : State) {u₁ : State} (hk : Good hx s) :
    actFetch t s = some u₁ → Good hx u₁ := by
  intro h
  simp only [actFetch, Gate.andThen, Gate.then_] at h
  repeat' split at h
  all_goals grind (gen := 24) (splits := 14) (ematch := 20) [→ gateFill_good, → gateNt_good, Gate.then_, Gate.andThen, →
      gateEncl_good, → gateIssued_good]

theorem actUnpin_good {hx : Hold} (t : Txn) (s : State) {u₁ : State} (hk : Good hx s) :
    actUnpin t s = some u₁ → Good hx u₁ := by
  intro h
  simp only [actUnpin, Gate.andThen, Gate.then_] at h
  repeat' split at h
  all_goals grind (gen := 24) (splits := 14) (ematch := 20) [Gate.then_, Gate.andThen, → gateEncl_good, → gateNt_good]

theorem gateWt_good {hx : Hold} (t : Txn) (s : State) {u₁ : State} (hk : Good hx s) :
    gateWt t s = .moved u₁ → Good hx u₁ := by
  unfold gateWt
  grind (gen := 24) (splits := 14) (ematch := 20) [→ waitIn_good]

theorem ackWrite_good {hx : Hold} (t : Txn) (k : Nat) (js : List Nat) (say : State → State) (s : State) (hsay : ∀ z, Good
    hx z → Good hx (say z)) (hk : Good hx s) :
    Good hx (ackWrite t k js say s) := by
  unfold ackWrite
  grind (gen := 24) (splits := 14) (ematch := 20)

grind_pattern ackWrite_good => ackWrite t k js say s, Good hx s

theorem actCopy_good {hx : Hold} (t : Txn) (k : Nat) (j : Nat) (s : State) {u₁ : State} (hk : Good hx s) :
    actCopy t k j s = some u₁ → Good hx u₁ := by
  unfold actCopy
  grind (gen := 24) (splits := 14) (ematch := 20)

theorem actWrite_good {hx : Hold} (t : Txn) (s : State) {u₁ : State} (hk : Good hx s) :
    actWrite t s = some u₁ → Good hx u₁ := by
  intro h
  simp only [actWrite, Gate.andThen, Gate.then_] at h
  repeat' split at h
  all_goals grind (gen := 24) (splits := 14) (ematch := 20) [→ gateCopies_good, → gateEncl_good, → gateNt_good, →
      gateResv_good, → gateRoom_good, → gateSole_good, → gateWt_good, Gate.then_, Gate.andThen, → gateLeave_good]

theorem endOut_good {hx : Hold} (t : Txn) (s : State) (hk : Good hx s) :
    Good hx (endOut t s) := by
  unfold endOut
  grind (gen := 24) (splits := 14) (ematch := 20)

grind_pattern endOut_good => endOut t s, Good hx s

theorem gateOutRoom_good {hx : Hold} (t : Txn) (e : NtE) (s : State) {u₁ : State} (hk : Good hx s) :
    gateOutRoom t e s = .moved u₁ → Good hx u₁ := by
  unfold gateOutRoom
  grind (gen := 24) (splits := 14) (ematch := 20) [→ waitIn_good]

theorem outToWay_good {hx : Hold} (t : Txn) (e : NtE) (k : Nat) (s : State) (hk : Good hx s) :
    Good hx (outToWay t e k s) := by
  unfold outToWay
  grind (gen := 24) (splits := 14) (ematch := 20)

grind_pattern outToWay_good => outToWay t e k s, Good hx s

theorem actOutRemote_good {hx : Hold} (t : Txn) (e : NtE) (s : State) {u₁ : State} (hk : Good hx s) :
    actOutRemote t e s = some u₁ → Good hx u₁ := by
  intro h
  simp only [actOutRemote, actOutRemote.sendOut, Gate.then_] at h
  repeat' split at h
  all_goals grind (gen := 24) (splits := 14) (ematch := 20) [→ gateAsk_good, Option.map_eq_some_iff, Gate.then_, Gate.andThen]

theorem actOut_good {hx : Hold} (t : Txn) (c : WoCause) (s : State) {u₁ : State} (hk : Good hx s) :
    actOut t c s = some u₁ → Good hx u₁ := by
  intro h
  simp only [actOut, Gate.andThen, Gate.then_] at h
  repeat' split at h
  all_goals grind (gen := 24) (splits := 14) (ematch := 20) [→ actOutRemote_good, → gatePlace_good, → startFill_good, →
      waitIn_good, Option.map_eq_some_iff, Gate.then_, Gate.andThen, → gateOutRoom_good]

theorem zeroWay_good {hx : Hold} (k : Nat) (wt : Bool) (s : State) (hk : Good hx s) :
    Good hx (zeroWay k wt s) := by
  unfold zeroWay
  grind (gen := 24) (splits := 14) (ematch := 20) [Option.map_eq_some_iff]

grind_pattern zeroWay_good => zeroWay k wt s, Good hx s

theorem gateOut_good {hx : Hold} (t : Txn) (s : State) {u₁ : State} (hk : Good hx s) :
    gateOut t s = .moved u₁ → Good hx u₁ := by
  unfold gateOut
  grind (gen := 24) (splits := 14) (ematch := 20) [→ waitIn_good]

theorem gateZeroRoom_good {hx : Hold} (t : Txn) (s : State) {u₁ : State} (hk : Good hx s) :
    gateZeroRoom t s = .moved u₁ → Good hx u₁ := by
  unfold gateZeroRoom
  grind (gen := 24) (splits := 14) (ematch := 20) [Option.map_eq_some_iff, → waitIn_good]

theorem endZalloc_good {hx : Hold} (t : Txn) (k : Nat) (own : Option Nat) (r : Resv) (s : State) (hk : Good hx s) :
    Good hx (endZalloc t k own r s) := by
  have h1 : Good hx (zeroWay k (r == .wt) (onCache (fun c => { c with nt := c.nt.filter (·.sk != t.sk) }) s)) := by grind
  unfold endZalloc
  dsimp only
  revert h1
  generalize zeroWay k (r == .wt) (onCache (fun c => { c with nt := c.nt.filter (·.sk != t.sk) }) s) = s₁
  intro h1
  have h2 : Good hx (match own with
    | some e => onWay k (fun w => { w with encl := e }) s₁
    | none => s₁) := by split <;> grind
  revert h2
  generalize (match own with
    | some e => onWay k (fun w => { w with encl := e }) s₁
    | none => s₁) = s₂
  intro h2
  refine setPh_good _ _ _ ?_
  repeat' with_reducible refine ite_good ?_ ?_
  all_goals grind

grind_pattern endZalloc_good => endZalloc t k own r s, Good hx s

theorem actZalloc_good {hx : Hold} (t : Txn) (own : Option Nat) (s : State) {u₁ : State} (hk : Good hx s) :
    actZalloc t own s = some u₁ → Good hx u₁ := by
  intro h
  simp only [actZalloc, Gate.andThen, Gate.then_] at h
  repeat' split at h
  all_goals grind (gen := 24) (splits := 14) (ematch := 20) [→ gateCopies_good, → gateEncl_good, → gateHave_good, →
      gateOut_good, → gatePlace_good, → gateResv_good, → gateSole_good, Option.map_eq_some_iff, Gate.then_, Gate.andThen,
      → gateZeroRoom_good]

theorem actInval_good {hx : Hold} (t : Txn) (s : State) {u₁ : State} (hk : Good hx s) :
    actInval t s = some u₁ → Good hx u₁ := by
  intro h
  simp only [actInval, Gate.andThen, Gate.then_] at h
  repeat' split at h
  all_goals grind (gen := 24) (splits := 14) (ematch := 20) [→ gateEncl_good, → gateHosts_good, → gateNt_good, →
      gateRemote_good, Option.map_eq_some_iff, Gate.then_, Gate.andThen]

theorem actAtom_good {hx : Hold} (t : Txn) (s : State) {u₁ : State} (hk : Good hx s) :
    actAtom t s = some u₁ → Good hx u₁ := by
  intro h
  simp only [actAtom, Gate.andThen, Gate.then_] at h
  repeat' split at h
  all_goals grind (gen := 24) (splits := 14) (ematch := 20) [→ gateCopies_good, → gateEncl_good, → gateFill_good, →
      gateNt_good, → gateResv_good, → gateSole_good, Gate.then_, Gate.andThen, → gateWt_good]

theorem actAtomRemote_good {hx : Hold} (t : Txn) (a : Option Atom) (len : Nat) (s : State) {u₁ : State} (hk : Good hx s) :
    actAtomRemote t a len s = some u₁ → Good hx u₁ := by
  intro h
  simp only [actAtomRemote, Gate.andThen, Gate.then_] at h
  repeat' split at h
  all_goals grind (gen := 24) (splits := 14) (ematch := 20) [→ gateAsk_good, → gateCopies_good, → gateEncl_good, →
      gateNt_good, Gate.then_, Gate.andThen]

theorem endAtom_good {hx : Hold} (t : Txn) (o : AtomOut) (old : Nat) (s : State) (hk : Good hx s) :
    Good hx (endAtom t o old s) := by
  unfold endAtom
  grind (gen := 24) (splits := 14) (ematch := 20)

grind_pattern endAtom_good => endAtom t o old s, Good hx s

theorem runAtom_good {hx : Hold} (t : Txn) (a : Atom) (k : Nat) (s : State) (hk : Good hx s) :
    Good hx (runAtom t a k s) := by
  unfold runAtom
  grind (gen := 24) (splits := 14) (ematch := 20)

grind_pattern runAtom_good => runAtom t a k s, Good hx s

theorem actAppend_good {hx : Hold} (t : Txn) (len : Nat) (s : State) {u₁ : State} (hk : Good hx s) :
    actAppend t len s = some u₁ → Good hx u₁ := by
  intro h
  simp only [actAppend, Gate.andThen, Gate.then_] at h
  repeat' split at h
  all_goals grind (gen := 24) (splits := 14) (ematch := 20) [→ admit_good, → gateCopies_good, → gateEncl_good, →
      gateFill_good, → gateNt_good, → gateResv_good, → gateSole_good, Gate.then_, Gate.andThen]

theorem actRecord_good {hx : Hold} (t : Txn) (desc : Nat) (s : State) {u₁ : State} (hk : Good hx s) :
    actRecord t desc s = some u₁ → Good hx u₁ := by
  intro h
  simp only [actRecord, Gate.andThen, Gate.then_] at h
  repeat' split at h
  all_goals grind (gen := 24) (splits := 14) (ematch := 20) [→ gateCopies_good, → gateEncl_good, → gateFill_good, →
      gateNt_good, → gateResv_good, → gateSole_good, Option.map_eq_some_iff, Gate.then_, Gate.andThen]

theorem runAppend_good {hx : Hold} (t : Txn) (len : Nat) (k : Nat) (s : State) (hk : Good hx s) :
    Good hx (runAppend t len k s) := by
  unfold runAppend
  grind (gen := 24) (splits := 14) (ematch := 20) [Option.map_eq_some_iff]

grind_pattern runAppend_good => runAppend t len k s, Good hx s

/-! ### Machine/Homes.lean -/

theorem dirGrant_good {hx : Hold} (k : Nat) (q : Nat) (excl : Bool) (s : State) (hk : Good hx s) :
    Good hx (dirGrant k q excl s) := by
  unfold dirGrant
  grind (gen := 24) (splits := 14) (ematch := 20)

grind_pattern dirGrant_good => dirGrant k q excl s, Good hx s

theorem gateShare_good {hx : Hold} (t : Txn) (k : Nat) (s : State) {u₁ : State} (hk : Good hx s) :
    gateShare t k s = .moved u₁ → Good hx u₁ := by
  unfold gateShare
  grind (gen := 24) (splits := 14) (ematch := 20)

theorem gateNear_good {hx : Hold} (t : Txn) (k : Nat) (s : State) {u₁ : State} (hk : Good hx s) :
    gateNear t k s = .moved u₁ → Good hx u₁ := by
  unfold gateNear
  grind (gen := 24) (splits := 14) (ematch := 20)

theorem gateSharers_good {hx : Hold} (t : Txn) (s : State) {u₁ : State} (hk : Good hx s) :
    gateSharers t s = .moved u₁ → Good hx u₁ := by
  intro h
  simp only [gateSharers, Gate.andThen, Gate.then_] at h
  repeat' split at h
  all_goals grind (gen := 24) (splits := 14) (ematch := 20) [→ gateNear_good, → gateShare_good, Gate.then_, Gate.andThen]

theorem endHome_good {hx : Hold} (t : Txn) (m : FMsg) (s : State) (hk : Good hx s) :
    Good hx (endHome t m s) := by
  unfold endHome
  grind (gen := 24) (splits := 14) (ematch := 20)

grind_pattern endHome_good => endHome t m s, Good hx s

theorem endForward_good {hx : Hold} (t : Txn) (s : State) (hk : Good hx s) :
    Good hx (endForward t s) := by
  unfold endForward
  grind (gen := 24) (splits := 14) (ematch := 20)

grind_pattern endForward_good => endForward t s, Good hx s

theorem actFRdS_good {hx : Hold} (t : Txn) (s : State) {u₁ : State} (hk : Good hx s) :
    actFRdS t s = some u₁ → Good hx u₁ := by
  intro h
  simp only [actFRdS, Gate.andThen, Gate.then_] at h
  repeat' split at h
  all_goals grind (gen := 24) (splits := 14) (ematch := 20) [→ gateCopies_good, → gateDir_good, → gateEncl_good, →
      gateFill_good, → gateNt_good, → gateSharers_good, → gateSole_good, Option.map_eq_some_iff, Gate.then_, Gate.andThen]

theorem actFOwn_good {hx : Hold} (t : Txn) (z : Bool) (upgrade : Bool) (s : State) {u₁ : State} (hk : Good hx s) :
    actFOwn t z upgrade s = some u₁ → Good hx u₁ := by
  intro h
  simp only [actFOwn, Gate.andThen, Gate.then_] at h
  repeat' split at h
  all_goals grind (gen := 24) (splits := 14) (ematch := 20) [→ gateCopies_good, → gateDir_good, → gateEncl_good, →
      gateFill_good, → gateHosts_good, → gateNt_good, → gateSole_good, Option.map_eq_some_iff, Gate.then_, Gate.andThen]

theorem actFRdNA_good {hx : Hold} (t : Txn) (s : State) {u₁ : State} (hk : Good hx s) :
    actFRdNA t s = some u₁ → Good hx u₁ := by
  intro h
  simp only [actFRdNA, Gate.andThen, Gate.then_] at h
  repeat' split at h
  all_goals grind (gen := 24) (splits := 14) (ematch := 20) [→ gateCopies_good, → gateEncl_good, → gateFill_good, →
      gateNt_good, → gateSole_good, Gate.then_, Gate.andThen]

theorem putLine_good {hx : Hold} (k : Nat) (j : Nat) (ls : LS) (data : Line) (wt : Bool) (s : State) (hk : Good hx s) :
    Good hx (putLine k j ls data wt s) := by
  unfold putLine
  grind (gen := 24) (splits := 14) (ematch := 20)

grind_pattern putLine_good => putLine k j ls data wt s, Good hx s

theorem tellB_good {hx : Hold} (r : Option Resv) (s : State) (hk : Good hx s) :
    Good hx (tellB r s) := by
  unfold tellB
  grind (gen := 24) (splits := 14) (ematch := 20)

grind_pattern tellB_good => tellB r s, Good hx s

theorem placeReturn_good {hx : Hold} (sk : Nat) (lst : List LS) (blk : List (Option Line)) (waits : List Nat) (s : State)
    {q₁ : Bool} {u₁ : State} (hk : Good hx s) :
    placeReturn sk lst blk waits s = (q₁, u₁) → Good hx u₁ := by
  unfold placeReturn
  grind (gen := 24) (splits := 14) (ematch := 20) [Option.map_eq_some_iff]

theorem clearMark_good {hx : Hold} (sk : Nat) (s : State) (hk : Good hx s) :
    Good hx (clearMark sk s) := by
  unfold clearMark
  grind (gen := 24) (splits := 14) (ematch := 20)

grind_pattern clearMark_good => clearMark sk s, Good hx s

theorem endReturn_good {hx : Hold} (t : Txn) (reject : Bool) (s : State) (hk : Good hx s) :
    Good hx (endReturn t reject s) := by
  unfold endReturn
  grind (gen := 24) (splits := 14) (ematch := 20)

grind_pattern endReturn_good => endReturn t reject s, Good hx s

theorem settleHold_good {hx : Hold} (sk : Nat) (d : Nat) (s : State) (hk : Good hx s) :
    Good hx (settleHold sk d s) := by
  unfold settleHold
  grind (gen := 24) (splits := 14) (ematch := 20) [Option.map_eq_some_iff]

grind_pattern settleHold_good => settleHold sk d s, Good hx s

theorem actReturn_good {hx : Hold} (t : Txn) (s : State) {u₁ : State} (hk : Good hx s) :
    actReturn t s = some u₁ → Good hx u₁ := by
  intro h
  simp only [actReturn, Gate.andThen, Gate.then_] at h
  repeat' split at h
  all_goals grind (gen := 24) (splits := 14) (ematch := 20) [→ placeReturn_good, → waitIn_good, Gate.then_, Gate.andThen]

theorem dropCopy_good {hx : Hold} (k : Nat) (s : State) (hk : Good hx s) :
    Good hx (dropCopy k s) := by
  unfold dropCopy
  grind (gen := 24) (splits := 14) (ematch := 20)

grind_pattern dropCopy_good => dropCopy k s, Good hx s

theorem toShared_good {hx : Hold} (k : Nat) (s : State) (hk : Good hx s) :
    Good hx (toShared k s) := by
  unfold toShared
  grind (gen := 24) (splits := 14) (ematch := 20) [Option.map_eq_some_iff]

grind_pattern toShared_good => toShared k s, Good hx s

theorem fwdData_good {hx : Hold} (t : Txn) (w : Way) (st : Nat) (lst : List LS) (s : State) (hk : Good hx s) :
    Good hx (fwdData t w st lst s) := by
  unfold fwdData
  grind (gen := 24) (splits := 14) (ematch := 20)

grind_pattern fwdData_good => fwdData t w st lst s, Good hx s

theorem tellHome_good {hx : Hold} (t : Txn) (opc : Nat) (st : Nat) (flags : Nat) (s : State) (hk : Good hx s) :
    Good hx (tellHome t opc st flags s) := by
  unfold tellHome
  grind (gen := 24) (splits := 14) (ematch := 20)

grind_pattern tellHome_good => tellHome t opc st flags s, Good hx s

theorem tellData_good {hx : Hold} (t : Txn) (w : Way) (st : Nat) (s : State) (hk : Good hx s) :
    Good hx (tellData t w st s) := by
  unfold tellData
  grind (gen := 24) (splits := 14) (ematch := 20)

grind_pattern tellData_good => tellData t w st s, Good hx s

theorem answerSnoop_good {hx : Hold} (t : Txn) (k : Nat) (s : State) (hk : Good hx s) :
    Good hx (answerSnoop t k s) := by
  unfold answerSnoop
  grind (gen := 24) (splits := 14) (ematch := 20)

grind_pattern answerSnoop_good => answerSnoop t k s, Good hx s

theorem actSnoop_good {hx : Hold} (t : Txn) (s : State) {u₁ : State} (hk : Good hx s) :
    actSnoop t s = some u₁ → Good hx u₁ := by
  intro h
  simp only [actSnoop, Gate.andThen, Gate.then_] at h
  repeat' split at h
  all_goals grind (gen := 24) (splits := 14) (ematch := 20) [→ gateHosts_good, Gate.then_, Gate.andThen]

end Sys2Proof.Machine
end

