-- ==== Sys2Proof/Laws/GoodEngine.lean ====
section
/-! SUPPORT. What `Good` says is kept by every operation of Machine/: Engine, HostPorts, Mailbox, Copying, Sintering. -/

set_option Elab.async false

namespace Sys2Proof.Machine

open Sys2Proof

/-! ### Machine/Arrive.lean -/

theorem upsetAt_good {hx : Hold} (u : Upset) (sk : Nat) (s : State) (hk : Good hx s) :
    Good hx (upsetAt u sk s) := by
  unfold upsetAt
  grind (gen := 24) (splits := 14) (ematch := 20)

grind_pattern upsetAt_good => upsetAt u sk s, Good hx s

theorem creditBack_good {hx : Hold} (h : HeldKind) (t : Txn) (p : Nat) (s : State) (hk : Good hx s) :
    Good hx (creditBack h t p s) := by
  unfold creditBack
  grind (gen := 24) (splits := 14) (ematch := 20)

grind_pattern creditBack_good => creditBack h t p s, Good hx s

theorem turnAway_good {hx : Hold} (h : HeldKind) (t : Txn) (p : Nat) (s : State) (hk : Good hx s) :
    Good hx (turnAway h t p s) := by
  unfold turnAway
  grind (gen := 24) (splits := 14) (ematch := 20)

grind_pattern turnAway_good => turnAway h t p s, Good hx s

theorem rewritten_good {hx : Hold} (k : Nat) (j : Nat) (s : State) (hk : Good hx s) :
    Good hx (rewritten k j s) := by
  unfold rewritten
  grind (gen := 24) (splits := 14) (ematch := 20) [Option.map_eq_some_iff]

grind_pattern rewritten_good => rewritten k j s, Good hx s

theorem snoopWriteback_good {hx : Hold} (t : Txn) (b : Bi) (k : Nat) (s : State) (hk : Good hx s) :
    Good hx (snoopWriteback t b k s) := by
  unfold snoopWriteback
  grind (gen := 24) (splits := 14) (ematch := 20) [→ admit_good, Option.map_eq_some_iff]

grind_pattern snoopWriteback_good => snoopWriteback t b k s, Good hx s

theorem placeWrite_good {hx : Hold} (t : Txn) (p : Nat) (s : State) (hk : Good hx s) :
    Good hx (placeWrite t p s) := by
  unfold placeWrite
  grind (gen := 24) (splits := 14) (ematch := 20) [→ admit_good]

grind_pattern placeWrite_good => placeWrite t p s, Good hx s

theorem cleanAt_good {hx : Hold} (t : Txn) (p : Nat) (s : State) (hk : Good hx s) :
    Good hx (cleanAt t p s) := by
  unfold cleanAt
  grind (gen := 24) (splits := 14) (ematch := 20)

grind_pattern cleanAt_good => cleanAt t p s, Good hx s

theorem hintAt_good {hx : Hold} (t : Txn) (p : Nat) (s : State) (hk : Good hx s) :
    Good hx (hintAt t p s) := by
  unfold hintAt
  grind (gen := 24) (splits := 14) (ematch := 20) [→ admit_good]

grind_pattern hintAt_good => hintAt t p s, Good hx s

theorem toSector_good {hx : Hold} (h : HeldKind) (u : Upset) (t : Txn) (p : Nat) (s : State) (hk : Good hx s) :
    Good hx (toSector h u t p s) := by
  unfold toSector
  grind (gen := 24) (splits := 14) (ematch := 20) [→ admit_good]

grind_pattern toSector_good => toSector h u t p s, Good hx s

theorem ingress_good {hx : Hold} (h : HeldKind) (u : Upset) (t : Txn) (p : Nat) (s : State) (hk : Good hx s) :
    Good hx (ingress h u t p s) := by
  unfold ingress
  grind (gen := 24) (splits := 14) (ematch := 20)

grind_pattern ingress_good => ingress h u t p s, Good hx s

theorem walkSnoops_good {hx : Hold} (p : Nat) (d : Hdm) (s : State) (hk : Good hx s) :
    Good hx (walkSnoops p d s) := by
  unfold walkSnoops
  grind (gen := 24) (splits := 14) (ematch := 20)

grind_pattern walkSnoops_good => walkSnoops p d s, Good hx s

theorem setDec_good {hx : Hold} (p : Nat) (i : Nat) (d : Option Hdm) (s : State) (hk : Good hx s) :
    Good hx (setDec p i d s) := by
  unfold setDec
  grind (gen := 24) (splits := 14) (ematch := 20)

grind_pattern setDec_good => setDec p i d s, Good hx s

theorem release_good {hx : Hold} (p : Nat) (s : State) (hk : Good hx s) :
    Good hx (release p s) := by
  unfold release
  grind (gen := 24) (splits := 14) (ematch := 20)

grind_pattern release_good => release p s, Good hx s

theorem runWalk_good {hx : Hold} (p : Nat) (s : State) {q₁ : Bool} {u₁ : State} (hk : Good hx s) :
    runWalk p s = (q₁, u₁) → Good hx u₁ := by
  unfold runWalk
  grind (gen := 24) (splits := 14) (ematch := 20) [Option.map_eq_some_iff]

theorem pendSnoops_good {hx : Hold} (s : State) (hk : Good hx s) :
    Good hx (pendSnoops s) := by
  unfold pendSnoops
  grind (gen := 24) (splits := 14) (ematch := 20)

grind_pattern pendSnoops_good => pendSnoops s, Good hx s

theorem runWalks_good {hx : Hold} (s : State) {q₁ : Bool} {u₁ : State} (hk : Good hx s) :
    runWalks s = (q₁, u₁) → Good hx u₁ := by
  unfold runWalks
  grind (gen := 24) (splits := 14) (ematch := 20) [→ runWalk_good]

/-! ### Machine/Engine.lean -/

theorem lookedUp_good {hx : Hold} (t : Txn) (out : Nat) (hit : Option Nat) (s : State) (hk : Good hx s) :
    Good hx (lookedUp t out hit s) := by
  unfold lookedUp
  grind (gen := 24) (splits := 14) (ematch := 20)

grind_pattern lookedUp_good => lookedUp t out hit s, Good hx s

theorem lookMiss_good {hx : Hold} (t : Txn) (s : State) (hk : Good hx s) :
    Good hx (lookMiss t s) := by
  unfold lookMiss
  grind (gen := 24) (splits := 14) (ematch := 20)

grind_pattern lookMiss_good => lookMiss t s, Good hx s

theorem runAhead_good {hx : Hold} (t : Txn) (s : State) (hk : Good hx s) :
    Good hx (runAhead t s) := by
  unfold runAhead
  grind (gen := 24) (splits := 14) (ematch := 20) [→ submitReads_good]

grind_pattern runAhead_good => runAhead t s, Good hx s

theorem probe_good {hx : Hold} (t : Txn) (ws : List Nat) (s : State) (hk : Good hx s) :
    Good hx (probe t ws s) := by
  unfold probe
  grind (gen := 24) (splits := 14) (ematch := 20) [Out.allowed]

grind_pattern probe_good => probe t ws s, Good hx s

theorem sweepRead_good {hx : Hold} (set : Nat) (s : State) (hk : Good hx s) :
    Good hx (sweepRead set s) := by
  unfold sweepRead
  grind (gen := 24) (splits := 14) (ematch := 20)

grind_pattern sweepRead_good => sweepRead set s, Good hx s

theorem lookup_good {hx : Hold} (t : Txn) (s : State) (hk : Good hx s) :
    Good hx (lookup t s) := by
  unfold lookup
  grind (gen := 24) (splits := 14) (ematch := 20)

grind_pattern lookup_good => lookup t s, Good hx s

theorem poisonWay_good {hx : Hold} (k : Nat) (s : State) (hk : Good hx s) :
    Good hx (poisonWay k s) := by
  unfold poisonWay
  grind (gen := 24) (splits := 14) (ematch := 20)

grind_pattern poisonWay_good => poisonWay k s, Good hx s

theorem poisonLost_good {hx : Hold} (k : Nat) (j : Nat) (s : State) (hk : Good hx s) :
    Good hx (poisonLost k j s) := by
  unfold poisonLost
  grind (gen := 24) (splits := 14) (ematch := 20)

grind_pattern poisonLost_good => poisonLost k j s, Good hx s

theorem nameAs_good {hx : Hold} (k : Nat) (v : Nat) (s : State) (hk : Good hx s) :
    Good hx (nameAs k v s) := by
  unfold nameAs
  grind (gen := 24) (splits := 14) (ematch := 20)

grind_pattern nameAs_good => nameAs k v s, Good hx s

theorem slicesRead_good {hx : Hold} (k : Nat) (sl : List (Option Nat)) (s : State) (hk : Good hx s) :
    Good hx (slicesRead k sl s) := by
  unfold slicesRead
  grind (gen := 24) (splits := 14) (ematch := 20)

grind_pattern slicesRead_good => slicesRead k sl s, Good hx s

theorem sliceRead_good {hx : Hold} (k : Nat) (rd : Rd) (j : Nat) (s : State) {q₁ : Option Nat} {u₁ : State} (hk : Good hx s) :
    sliceRead k rd j s = (q₁, u₁) → Good hx u₁ := by
  unfold sliceRead
  grind (gen := 24) (splits := 14) (ematch := 20) [→ readBurst_good]

theorem readLines_good {hx : Hold} (k : Nat) (rd : Rd) (js : List Nat) (s : State) {q₁ : List (Option Nat)} {u₁ : State}
    (hk : Good hx s) :
    readLines k rd js s = (q₁, u₁) → Good hx u₁ := by
  induction js generalizing s q₁ u₁ with
  | nil => unfold readLines; grind
  | cons j js ih => unfold readLines; grind [→ sliceRead_good]

theorem readSlices_good {hx : Hold} (k : Nat) (rd : Rd) (s : State) {q₁ : List (Option Nat)} {u₁ : State} (hk : Good hx s) :
    readSlices k rd s = (q₁, u₁) → Good hx u₁ := by
  unfold readSlices
  grind (gen := 24) (splits := 14) (ematch := 20) [→ readLines_good]

theorem readOthers_good {hx : Hold} (k : Nat) (j : Nat) (rd : Rd) (s : State) {q₁ : List (Option Nat)} {u₁ : State} (hk :
    Good hx s) :
    readOthers k j rd s = (q₁, u₁) → Good hx u₁ := by
  unfold readOthers
  grind (gen := 24) (splits := 14) (ematch := 20) [→ readLines_good]

theorem badBurst_good {hx : Hold} (k : Nat) (j : Nat) (rd : Rd) (s : State) (hk : Good hx s) :
    Good hx (badBurst k j rd s) := by
  unfold badBurst
  grind (gen := 24) (splits := 14) (ematch := 20) [→ readOthers_good]

grind_pattern badBurst_good => badBurst k j rd s, Good hx s

theorem awaitJudge_good {hx : Hold} (id : Nat) (x : Judge) (s : State) (hk : Good hx s) :
    Good hx (awaitJudge id x s) := by
  unfold awaitJudge
  grind (gen := 24) (splits := 14) (ematch := 20)

grind_pattern awaitJudge_good => awaitJudge id x s, Good hx s

theorem blindJudge_good {hx : Hold} (id : Nat) (k : Nat) (j : Nat) (rd : Rd) (s : State) (hk : Good hx s) :
    Good hx (blindJudge id k j rd s) := by
  unfold blindJudge
  grind (gen := 24) (splits := 14) (ematch := 20) [→ readOthers_good]

grind_pattern blindJudge_good => blindJudge id k j rd s, Good hx s

theorem probeBad_good {hx : Hold} (id : Nat) (k : Nat) (j : Nat) (rd : Rd) (s : State) (hk : Good hx s) :
    Good hx (probeBad id k j rd s) := by
  unfold probeBad
  grind (gen := 24) (splits := 14) (ematch := 20) [cchOk]

grind_pattern probeBad_good => probeBad id k j rd s, Good hx s

theorem probeWay_good {hx : Hold} (t : Txn) (w : Nat) (rd : Rd) (s : State) (hk : Good hx s) :
    Good hx (probeWay t w rd s) := by
  unfold probeWay
  grind (gen := 24) (splits := 14) (ematch := 20) [→ readBurst_good]

grind_pattern probeWay_good => probeWay t w rd s, Good hx s

theorem judgeParity_good {hx : Hold} (x : Judge) (s : State) (hk : Good hx s) :
    Good hx (judgeParity x s) := by
  unfold judgeParity
  grind (gen := 24) (splits := 14) (ematch := 20)

grind_pattern judgeParity_good => judgeParity x s, Good hx s

theorem compare__good {hx : Hold} (t : Txn) (ws : List Nat) (s : State) (hk : Good hx s) :
    Good hx (compare_ t ws s) := by
  unfold compare_
  dsimp only
  have hm : ∀ y, Good hx y → ∀ c : Prop, ∀ _ : Decidable c, Good hx (if c then trainMiss (skSo t.sk) t.encl true y else y) :=
    fun y hy c _ => ite_good (trainMiss_good _ _ _ _ hy) hy
  split
  · refine lookedUp_good _ _ _ _ (squash_good _ _ (ite_good hk (tscFillOnHit_good _ _ _ ?_)))
    refine ite_good (trainMiss_good _ _ _ _ (trainWay_good _ _ _ ?_)) (trainWay_good _ _ _ ?_)
    all_goals exact ite_good (tally_good _ _ _ hk) hk
  · refine ite_good (probe_good _ _ _ (tally_good _ _ _ hk)) (lookMiss_good _ _ (hm _ hk _ _))

grind_pattern compare__good => compare_ t ws s, Good hx s

theorem actJudge_good {hx : Hold} (t : Txn) (ws : List Nat) (s : State) {u₁ : State} (hk : Good hx s) :
    actJudge t ws s = some u₁ → Good hx u₁ := by
  unfold actJudge
  grind (gen := 24) (splits := 14) (ematch := 20)

theorem probeReturn_good {hx : Hold} (t : Txn) (ws : List Nat) (rds : List Rd) (s : State) (hk : Good hx s) :
    Good hx (probeReturn t ws rds s) := by
  unfold probeReturn
  grind (gen := 24) (splits := 14) (ematch := 20)

grind_pattern probeReturn_good => probeReturn t ws rds s, Good hx s

theorem lostFill_good {hx : Hold} (t : Txn) (s : State) (hk : Good hx s) :
    Good hx (lostFill t s) := by
  unfold lostFill
  grind (gen := 24) (splits := 14) (ematch := 20) [Option.map_eq_some_iff]

grind_pattern lostFill_good => lostFill t s, Good hx s

theorem endReads_good {hx : Hold} (t : Txn) (s : State) (hk : Good hx s) :
    Good hx (endReads t s) := by
  unfold endReads
  grind (gen := 24) (splits := 14) (ematch := 20)

grind_pattern endReads_good => endReads t s, Good hx s

theorem actEvict_good {hx : Hold} (t : Txn) (s : State) {u₁ : State} (hk : Good hx s) :
    actEvict t s = some u₁ → Good hx u₁ := by
  intro h
  simp only [actEvict, Gate.andThen, Gate.then_] at h
  repeat' split at h
  all_goals grind (gen := 24) (splits := 14) (ematch := 20) [→ gateEvict_good, → gateNt_good, Gate.then_, Gate.andThen]

theorem actFlush_good {hx : Hold} (t : Txn) (s : State) {u₁ : State} (hk : Good hx s) :
    actFlush t s = some u₁ → Good hx u₁ := by
  intro h
  simp only [actFlush, Gate.andThen, Gate.then_] at h
  repeat' split at h
  all_goals grind (gen := 24) (splits := 14) (ematch := 20) [Option.map_eq_some_iff, Gate.then_, Gate.andThen, →
      gateEncl_good, →
      gateNt_good, → waitIn_good, → gateNt_good]

theorem actFailed_good {hx : Hold} (t : Txn) (s : State) {u₁ : State} (hk : Good hx s) :
    actFailed t s = some u₁ → Good hx u₁ := by
  intro h
  simp only [actFailed, Gate.andThen, Gate.then_] at h
  repeat' split at h
  all_goals grind (gen := 24) (splits := 14) (ematch := 20) [Gate.then_, Gate.andThen, → gateEncl_good]

theorem effect_good {hx : Hold} (t : Txn) (s : State) {u₁ : State} (hk : Good hx s) :
    effect t s = some u₁ → Good hx u₁ := by
  unfold effect
  grind (gen := 24) (splits := 14) (ematch := 20) [→ actAppend_good, → actAtomRemote_good, → actAtom_good, →
      actEvict_good, → actFOwn_good, → actFRdNA_good, → actFRdS_good, → actFetch_good, → actInval_good, → actNt_good, →
      actOut_good, → actRead_good, → actRecord_good, → actReturn_good, → actSnoop_good, → actWrite_good, → actZalloc_good, → actEvict_good, → actFlush_good, → actOut_good, → actUnpin_good, → actFailed_good]

theorem noteWait_good {hx : Hold} (t : Txn) (s : State) {u₁ : State} (hk : Good hx s) :
    noteWait t s = some u₁ → Good hx u₁ := by
  unfold noteWait
  grind (gen := 24) (splits := 14) (ematch := 20)

theorem act_good {hx : Hold} (t : Txn) (s : State) {u₁ : State} (hk : Good hx s) :
    act t s = some u₁ → Good hx u₁ := by
  unfold act
  grind (gen := 24) (splits := 14) (ematch := 20) [→ effect_good, → noteWait_good, → actCopy_good, → answerEarly_good,
      Option.bind_eq_some_iff, → actJudge_good]

theorem runTxn_good {hx : Hold} (n : Nat) (id : Nat) (moved : Bool) (s : State) {q₁ : Bool} {u₁ : State} (hk : Good hx s) :
    runTxn n id moved s = (q₁, u₁) → Good hx u₁ := by
  induction n generalizing moved s with
  | zero => intro h; cases h; exact hk
  | succ n ih =>
    intro h
    unfold runTxn at h
    split at h
    · cases h; exact hk
    · split at h
      · exact ih _ _ (act_good _ _ hk ‹_›) h
      · cases h; exact hk

theorem runTxns_good {hx : Hold} (s : State) {q₁ : Bool} {u₁ : State} (hk : Good hx s) :
    runTxns s = (q₁, u₁) → Good hx u₁ := by
  intro h
  have := foldlp_good (x := hx) (fun (x : Bool × State) id => ((x.1 || (runTxn 48 id false x.2).1), (runTxn 48 id false x.2).2))
    (s.cache.txns.map (·.id)) (false, s) (fun x a hx => runTxn_good _ _ _ _ hx (Prod.eta _).symm) hk
  unfold runTxns at h
  rw [show u₁ = _ from (congrArg Prod.snd h).symm]
  exact this

theorem copyDone_good {hx : Hold} (t : Txn) (s : State) (hk : Good hx s) :
    Good hx (copyDone t s) := by
  unfold copyDone
  grind (gen := 24) (splits := 14) (ematch := 20)

grind_pattern copyDone_good => copyDone t s, Good hx s

theorem ackOne_good {hx : Hold} (id : Nat) (s : State) (hk : Good hx s) :
    Good hx (ackOne id s) := by
  unfold ackOne
  grind (gen := 24) (splits := 14) (ematch := 20)

grind_pattern ackOne_good => ackOne id s, Good hx s

theorem runAcks_good {hx : Hold} (s : State) {q₁ : Bool} {u₁ : State} (hk : Good hx s) :
    runAcks s = (q₁, u₁) → Good hx u₁ := by
  unfold runAcks
  grind (gen := 24) (splits := 14) (ematch := 20)

theorem onOp_good {hx : Hold} (p : Nat) (opc : Nat) (f : RangeOp → RangeOp) (s : State) (hk : Good hx s) :
    Good hx (onOp p opc f s) := by
  unfold onOp
  grind (gen := 24) (splits := 14) (ematch := 20) [Option.map_eq_some_iff]

grind_pattern onOp_good => onOp p opc f s, Good hx s

theorem spawn_good {hx : Hold} (o : RangeOp) (da : Nat) (sk : Nat) (k : Kind) (s : State) (hk : Good hx s) :
    Good hx (spawn o da sk k s) := by
  unfold spawn
  grind (gen := 24) (splits := 14) (ematch := 20) [→ admit_good]

grind_pattern spawn_good => spawn o da sk k s, Good hx s

theorem opSector_good {hx : Hold} (o : RangeOp) (s : State) {u₁ : State} (hk : Good hx s) :
    opSector o s = some u₁ → Good hx u₁ := by
  unfold opSector
  grind (gen := 24) (splits := 14) (ematch := 20) [Option.map_eq_some_iff]

theorem closeOp_good {hx : Hold} (o : RangeOp) (status : String) (s : State) (hk : Good hx s) :
    Good hx (closeOp o status s) := by
  unfold closeOp
  grind (gen := 24) (splits := 14) (ematch := 20)

grind_pattern closeOp_good => closeOp o status s, Good hx s

theorem onRanges_good {hx : Hold} (e : Nat) (f : Range → Option Range) (s : State) (hk : Good hx s) :
    Good hx (onRanges e f s) := by
  unfold onRanges
  grind (gen := 24) (splits := 14) (ematch := 20) [Option.map_eq_some_iff]

grind_pattern onRanges_good => onRanges e f s, Good hx s

theorem enclaveNext_good {hx : Hold} (o : RangeOp) (e : Nat) (s : State) (hk : Good hx s) :
    Good hx (enclaveNext o e s) := by
  unfold enclaveNext
  grind (gen := 24) (splits := 14) (ematch := 20) [→ writeArea_good, Option.bind_eq_some_iff]

grind_pattern enclaveNext_good => enclaveNext o e s, Good hx s

theorem opEnd_good {hx : Hold} (o : RangeOp) (s : State) {u₁ : State} (hk : Good hx s) :
    opEnd o s = some u₁ → Good hx u₁ := by
  unfold opEnd
  grind (gen := 24) (splits := 14) (ematch := 20)

theorem runOp_good {hx : Hold} (o : RangeOp) (s : State) {u₁ : State} (hk : Good hx s) :
    runOp o s = some u₁ → Good hx u₁ := by
  unfold runOp
  grind (gen := 24) (splits := 14) (ematch := 20) [→ opEnd_good, → opSector_good]

theorem runOps_good {hx : Hold} (s : State) {q₁ : Bool} {u₁ : State} (hk : Good hx s) :
    runOps s = (q₁, u₁) → Good hx u₁ := by
  intro h
  unfold runOps at h
  rw [show u₁ = _ from (congrArg Prod.snd h).symm]
  refine foldlp_good _ _ (false, s) (fun y a hy => foldlp_good _ _ (y.1, y.2) (fun z b hz => ?_) hy) hk
  dsimp only
  split
  · exact hz
  · split
    · exact runOp_good _ _ hz ‹_›
    · exact hz

theorem closeFence_good {hx : Hold} (f : Fence) (s : State) (hk : Good hx s) :
    Good hx (closeFence f s) := by
  unfold closeFence
  grind (gen := 24) (splits := 14) (ematch := 20) [Out.allowed, signal_ok]

grind_pattern closeFence_good => closeFence f s, Good hx s

theorem runFences_good {hx : Hold} (s : State) {q₁ : Bool} {u₁ : State} (hk : Good hx s) :
    runFences s = (q₁, u₁) → Good hx u₁ := by
  unfold runFences
  grind (gen := 24) (splits := 14) (ematch := 20)

theorem packs_good {hx : Hold} (s : State) (hk : Good hx s) :
    Good hx (packs s) := by
  unfold packs
  grind (gen := 24) (splits := 14) (ematch := 20)

grind_pattern packs_good => packs s, Good hx s

theorem pump_good {hx : Hold} (n : Nat) (s : State) (hk : Good hx s) :
    Good hx (pump n s) := by
  induction n generalizing s with
  | zero => exact hk
  | succ n ih =>
    have h4 : Good hx (runFences (runOps (runTxns (runAcks s).2).2).2).2 :=
      runFences_good _ (runOps_good _ (runTxns_good _ (runAcks_good _ hk (Prod.eta _).symm) (Prod.eta _).symm) (Prod.eta _).symm)
        (Prod.eta _).symm
    have h : Good hx (runWalks (runFences (runOps (runTxns (runAcks s).2).2).2).2).2 := runWalks_good _ h4 (Prod.eta _).symm
    unfold pump
    dsimp only
    split
    · exact ih _ h
    · exact h

grind_pattern pump_good => pump n s, Good hx s

theorem giveWay_good {hx : Hold} (s : State) (hk : Good hx s) :
    Good hx (giveWay s) := by
  unfold giveWay
  grind (gen := 24) (splits := 14) (ematch := 20)

grind_pattern giveWay_good => giveWay s, Good hx s

theorem unfull_good {hx : Hold} (s : State) (hk : Good hx s) :
    Good hx (unfull s) := by
  unfold unfull
  grind (gen := 24) (splits := 14) (ematch := 20)

grind_pattern unfull_good => unfull s, Good hx s

theorem walkEnd_good {hx : Hold} (s : State) (hk : Good hx s) :
    Good hx (walkEnd s) := by
  unfold walkEnd
  grind (gen := 24) (splits := 14) (ematch := 20)

grind_pattern walkEnd_good => walkEnd s, Good hx s

theorem unbelow_good {hx : Hold} (s : State) (hk : Good hx s) :
    Good hx (unbelow s) := by
  unfold unbelow
  grind (gen := 24) (splits := 14) (ematch := 20)

grind_pattern unbelow_good => unbelow s, Good hx s

theorem tellHigh_good {hx : Hold} (s : State) (hk : Good hx s) :
    Good hx (tellHigh s) := by
  unfold tellHigh
  grind (gen := 24) (splits := 14) (ematch := 20)

grind_pattern tellHigh_good => tellHigh s, Good hx s

theorem settle_good {hx : Hold} (s : State) (hk : Good hx s) :
    Good hx (settle s) := by
  unfold settle
  grind (gen := 24) (splits := 14) (ematch := 20)

grind_pattern settle_good => settle s, Good hx s

theorem serve_good {hx : Hold} (t : Txn) (s : State) (hk : Good hx s) :
    Good hx (serve t s) := by
  unfold serve
  grind (gen := 24) (splits := 14) (ematch := 20) [→ admit_good]

grind_pattern serve_good => serve t s, Good hx s

/-! ### Machine/HostPorts.lean -/

theorem ingressNow_good {hx : Hold} (h : HeldKind) (u : Upset) (t : Txn) (p : Nat) (s : State) (hk : Good hx s) :
    Good hx (ingressNow h u t p s) := by
  unfold ingressNow
  grind (gen := 24) (splits := 14) (ematch := 20)

grind_pattern ingressNow_good => ingressNow h u t p s, Good hx s

theorem onReqCredit_good {hx : Hold} (p : Nat) (f : State → State) (s : State) (hf : ∀ z, Good hx z → Good hx (f z)) (hk :
    Good hx s) :
    Good hx (onReqCredit p f s) := by
  unfold onReqCredit
  grind (gen := 24) (splits := 14) (ematch := 20)

grind_pattern onReqCredit_good => onReqCredit p f s, Good hx s

theorem execMemRd_good {hx : Hold} (p : Nat) (tag : Nat) (hpa : Nat) (mv : HSt) (dat : Bool) (u : Upset) (s : State) {u₁ :
    State} (hk : Good hx s) :
    execMemRd p tag hpa mv dat u s = .next u₁ → Good hx u₁ := by
  unfold execMemRd
  grind (gen := 24) (splits := 14) (ematch := 20)

theorem cleanNotice_good {hx : Hold} (p : Nat) (tag : Nat) (hpa : Nat) (s : State) (hk : Good hx s) :
    Good hx (cleanNotice p tag hpa s) := by
  unfold cleanNotice
  grind (gen := 24) (splits := 14) (ematch := 20)

grind_pattern cleanNotice_good => cleanNotice p tag hpa s, Good hx s

theorem execMemInv_good {hx : Hold} (p : Nat) (tag : Nat) (hpa : Nat) (mv : HSt) (x_nt : Bool) (u : Upset) (s : State) {u₁
    : State} (hk : Good hx s) :
    execMemInv p tag hpa mv x_nt u s = .next u₁ → Good hx u₁ := by
  unfold execMemInv
  grind (gen := 24) (splits := 14) (ematch := 20)

theorem execMemClnEvct_good {hx : Hold} (p : Nat) (tag : Nat) (hpa : Nat) (s : State) {u₁ : State} (hk : Good hx s) :
    execMemClnEvct p tag hpa s = .next u₁ → Good hx u₁ := by
  unfold execMemClnEvct
  grind (gen := 24) (splits := 14) (ematch := 20)

theorem execMemSpecRd_good {hx : Hold} (p : Nat) (hpa : Nat) (s : State) {u₁ : State} (hk : Good hx s) :
    execMemSpecRd p hpa s = .next u₁ → Good hx u₁ := by
  unfold execMemSpecRd
  grind (gen := 24) (splits := 14) (ematch := 20)

theorem writeIn_good {hx : Hold} (p : Nat) (u : Upset) (t : Txn) (s : State) (hk : Good hx s) :
    Good hx (writeIn p u t s) := by
  unfold writeIn
  grind (gen := 24) (splits := 14) (ematch := 20) [→ convertHead_good, Option.map_eq_some_iff]

grind_pattern writeIn_good => writeIn p u t s, Good hx s

theorem execMemWr_good {hx : Hold} (p : Nat) (tag : Nat) (hpa : Nat) (mv : HSt) (data : Line) (poison : Bool) (u : Upset)
    (s : State) {u₁ : State} (hk : Good hx s) :
    execMemWr p tag hpa mv data poison u s = .next u₁ → Good hx u₁ := by
  unfold execMemWr
  grind (gen := 24) (splits := 14) (ematch := 20)

theorem execMemWrPtl_good {hx : Hold} (p : Nat) (tag : Nat) (hpa : Nat) (mv : HSt) (data : Line) (mask : LineMask) (poison
    : Bool) (s : State) {u₁ : State} (hk : Good hx s) :
    execMemWrPtl p tag hpa mv data mask poison s = .next u₁ → Good hx u₁ := by
  unfold execMemWrPtl
  grind (gen := 24) (splits := 14) (ematch := 20)

theorem execHostLinkUp_good {hx : Hold} (p : Nat) (width : Nat) (full : Bool) (bisnp : Nat) (s : State) {u₁ : State} (hk :
    Good hx s) :
    execHostLinkUp p width full bisnp s = .next u₁ → Good hx u₁ := by
  unfold execHostLinkUp
  grind (gen := 24) (splits := 14) (ematch := 20)

theorem execHpLinkDown_good {hx : Hold} (p : Nat) (x_perst : Bool) (s : State) {u₁ : State} (hk : Good hx s) :
    execHpLinkDown p x_perst s = .next u₁ → Good hx u₁ := by
  unfold execHpLinkDown
  grind (gen := 24) (splits := 14) (ematch := 20)

theorem execCorrectableLinkError_good {hx : Hold} (p : Nat) (s : State) {u₁ : State} (hk : Good hx s) :
    execCorrectableLinkError p s = .next u₁ → Good hx u₁ := by
  unfold execCorrectableLinkError
  grind (gen := 24) (splits := 14) (ematch := 20)

theorem execIdeIntegrityFail_good {hx : Hold} (p : Nat) (mem : Bool) (s : State) {u₁ : State} (hk : Good hx s) :
    execIdeIntegrityFail p mem s = .next u₁ → Good hx u₁ := by
  unfold execIdeIntegrityFail
  grind (gen := 24) (splits := 14) (ematch := 20) [Option.bind_eq_some_iff]

theorem changeHdm_good {hx : Hold} (p : Nat) (i : Nat) (d : Option Hdm) (s : State) (hk : Good hx s) :
    Good hx (changeHdm p i d s) := by
  unfold changeHdm
  grind (gen := 24) (splits := 14) (ematch := 20)

grind_pattern changeHdm_good => changeHdm p i d s, Good hx s

theorem execHdmDecoderCommit_good {hx : Hold} (p : Nat) (i : Nat) (d : Hdm) (s : State) {u₁ : State} (hk : Good hx s) :
    execHdmDecoderCommit p i d s = .next u₁ → Good hx u₁ := by
  unfold execHdmDecoderCommit
  grind (gen := 24) (splits := 14) (ematch := 20) [Option.map_eq_some_iff, Out.allowed]

theorem execHdmDecoderUncommit_good {hx : Hold} (p : Nat) (i : Nat) (s : State) {u₁ : State} (hk : Good hx s) :
    execHdmDecoderUncommit p i s = .next u₁ → Good hx u₁ := by
  unfold execHdmDecoderUncommit
  grind (gen := 24) (splits := 14) (ematch := 20) [Option.map_eq_some_iff]

theorem execBirsp_good {hx : Hold} (p : Nat) (hpa : Nat) (kind : Nat) (s : State) {u₁ : State} (hk : Good hx s) :
    execBirsp p hpa kind s = .next u₁ → Good hx u₁ := by
  unfold execBirsp
  grind (gen := 24) (splits := 14) (ematch := 20) [Option.map_eq_some_iff, Out.allowed]

theorem execBiconflict_good {hx : Hold} (p : Nat) (tag : Nat) (hpa : Nat) (s : State) {u₁ : State} (hk : Good hx s) :
    execBiconflict p tag hpa s = .next u₁ → Good hx u₁ := by
  unfold execBiconflict
  grind (gen := 24) (splits := 14) (ematch := 20)

theorem biTimeout_good {hx : Hold} (b : Bi) (s : State) (hk : Good hx s) :
    Good hx (biTimeout b s) := by
  unfold biTimeout
  grind (gen := 24) (splits := 14) (ematch := 20)

grind_pattern biTimeout_good => biTimeout b s, Good hx s

theorem execBisnpTimeout_good {hx : Hold} (p : Nat) (hpa : Nat) (s : State) {u₁ : State} (hk : Good hx s) :
    execBisnpTimeout p hpa s = .next u₁ → Good hx u₁ := by
  unfold execBisnpTimeout
  grind (gen := 24) (splits := 14) (ematch := 20)

theorem execHostBisnpCredit_good {hx : Hold} (p : Nat) (n : Nat) (s : State) {u₁ : State} (hk : Good hx s) :
    execHostBisnpCredit p n s = .next u₁ → Good hx u₁ := by
  unfold execHostBisnpCredit
  grind (gen := 24) (splits := 14) (ematch := 20)

theorem execAtomicOp_good {hx : Hold} (p : Nat) (tag : Nat) (da : Nat) (a : Atom) (s : State) {u₁ : State} (hk : Good hx s) :
    execAtomicOp p tag da a s = .next u₁ → Good hx u₁ := by
  unfold execAtomicOp
  grind (gen := 24) (splits := 14) (ematch := 20)

theorem execBar4NonAtomic_good {hx : Hold} (p : Nat) (tag : Nat) (da : Nat) (s : State) {u₁ : State} (hk : Good hx s) :
    execBar4NonAtomic p tag da s = .next u₁ → Good hx u₁ := by
  unfold execBar4NonAtomic
  grind (gen := 24) (splits := 14) (ematch := 20)

theorem execAtmAluDone_good {hx : Hold} (id : Nat) (s : State) {u₁ : State} (hk : Good hx s) :
    execAtmAluDone id s = .next u₁ → Good hx u₁ := by
  unfold execAtmAluDone
  grind (gen := 24) (splits := 14) (ematch := 20)

theorem execTrkEntryGrant_good {hx : Hold} (s : State) {u₁ : State} (hk : Good hx s) :
    execTrkEntryGrant s = .next u₁ → Good hx u₁ := by
  unfold execTrkEntryGrant
  grind (gen := 24) (splits := 14) (ematch := 20)

theorem execShedStepEscalate_good {hx : Hold} (s : State) {u₁ : State} (hk : Good hx s) :
    execShedStepEscalate s = .next u₁ → Good hx u₁ := by
  unfold execShedStepEscalate
  grind (gen := 24) (splits := 14) (ematch := 20)

theorem execDramReadReturn_good {hx : Hold} (id : Nat) (gen : Nat) (rds : List Rd) (s : State) {u₁ : State} (hk : Good hx s) :
    execDramReadReturn id gen rds s = .next u₁ → Good hx u₁ := by
  unfold execDramReadReturn
  grind (gen := 24) (splits := 14) (ematch := 20)

theorem execDramWriteCompletion_good {hx : Hold} (r : Echo) (s : State) {u₁ : State} (hk : Good hx s) :
    execDramWriteCompletion r s = .next u₁ → Good hx u₁ := by
  unfold execDramWriteCompletion
  grind (gen := 24) (splits := 14) (ematch := 20)

theorem execPriorityPromotion_good {hx : Hold} (s : State) {u₁ : State} (hk : Good hx s) :
    execPriorityPromotion s = .next u₁ → Good hx u₁ := by
  unfold execPriorityPromotion
  grind (gen := 24) (splits := 14) (ematch := 20)

/-! ### Machine/Mailbox.lean -/

theorem mbox_good {hx : Hold} (p : Nat) (opc : Nat) (owner : Bool) (f : State → State) (s : State) {u₁ : State} (hf : ∀ z,
    Good hx z → Good hx (f z)) (hk : Good hx s) :
    mbox p opc owner f s = .next u₁ → Good hx u₁ := by
  unfold mbox
  grind (gen := 24) (splits := 14) (ematch := 20)

theorem done_good {hx : Hold} (p : Nat) (opc : Nat) (payload : List (Nat × Nat)) (s : State) (hk : Good hx s) :
    Good hx (done p opc payload s) := by
  unfold done
  grind (gen := 24) (splits := 14) (ematch := 20)

grind_pattern done_good => done p opc payload s, Good hx s

theorem invalid_good {hx : Hold} (p : Nat) (opc : Nat) (s : State) (hk : Good hx s) :
    Good hx (invalid p opc s) := by
  unfold invalid
  grind (gen := 24) (splits := 14) (ematch := 20)

grind_pattern invalid_good => invalid p opc s, Good hx s

theorem takeTrailer_good {hx : Hold} (p : Nat) (t : Trailer) (s : State) {q₁ : Option Nat} {u₁ : State} (hk : Good hx s) :
    takeTrailer p t s = (q₁, u₁) → Good hx u₁ := by
  unfold takeTrailer
  grind (gen := 24) (splits := 14) (ematch := 20) [Option.map_eq_some_iff]

theorem withEnclave_good {hx : Hold} (p : Nat) (opc : Nat) (tr : Option Trailer) (f : Nat → State → State) (s : State) (hf
    : ∀ y0 z, Good hx z → Good hx (f y0 z)) (hk : Good hx s) :
    Good hx (withEnclave p opc tr f s) := by
  unfold withEnclave
  grind (gen := 24) (splits := 14) (ematch := 20) [→ takeTrailer_good]

grind_pattern withEnclave_good => withEnclave p opc tr f s, Good hx s

theorem background_good {hx : Hold} (p : Nat) (opc : Nat) (f : State → State) (s : State) (hf : ∀ z, Good hx z → Good hx
    (f z)) (hk : Good hx s) :
    Good hx (background p opc f s) := by
  unfold background
  grind (gen := 24) (splits := 14) (ematch := 20)

grind_pattern background_good => background p opc f s, Good hx s

theorem bgEnd_good {hx : Hold} (p : Nat) (opc : Nat) (status : String) (s : State) (hk : Good hx s) :
    Good hx (bgEnd p opc status s) := by
  unfold bgEnd
  grind (gen := 24) (splits := 14) (ematch := 20)

grind_pattern bgEnd_good => bgEnd p opc status s, Good hx s

theorem execIdentifyMemoryDevice_good {hx : Hold} (p : Nat) (s : State) {u₁ : State} (hk : Good hx s) :
    execIdentifyMemoryDevice p s = .next u₁ → Good hx u₁ := by
  unfold execIdentifyMemoryDevice
  grind (gen := 24) (splits := 14) (ematch := 20) [→ mbox_good]

theorem execGetEventRecords_good {hx : Hold} (p : Nat) (log : Nat) (s : State) {u₁ : State} (hk : Good hx s) :
    execGetEventRecords p log s = .next u₁ → Good hx u₁ := by
  unfold execGetEventRecords
  grind (gen := 24) (splits := 14) (ematch := 20) [→ mbox_good, Option.map_eq_some_iff]

theorem releaseHandle_good {hx : Hold} (h : Nat) (s : State) (hk : Good hx s) :
    Good hx (releaseHandle h s) := by
  unfold releaseHandle
  grind (gen := 24) (splits := 14) (ematch := 20) [qRelease_ok]

grind_pattern releaseHandle_good => releaseHandle h s, Good hx s

theorem execClearEventRecords_good {hx : Hold} (p : Nat) (handles : List Nat) (s : State) {u₁ : State} (hk : Good hx s) :
    execClearEventRecords p handles s = .next u₁ → Good hx u₁ := by
  unfold execClearEventRecords
  grind (gen := 24) (splits := 14) (ematch := 20) [→ mbox_good]

theorem execGetPoisonList_good {hx : Hold} (p : Nat) (s : State) {u₁ : State} (hk : Good hx s) :
    execGetPoisonList p s = .next u₁ → Good hx u₁ := by
  unfold execGetPoisonList
  grind (gen := 24) (splits := 14) (ematch := 20) [→ mbox_good]

theorem ownWrite_good {hx : Hold} (da : Nat) (sk : Nat) (data : Line) (poison : Bool) (s : State) (hk : Good hx s) :
    Good hx (ownWrite da sk data poison s) := by
  unfold ownWrite
  grind (gen := 24) (splits := 14) (ematch := 20) [Option.map_eq_some_iff]

grind_pattern ownWrite_good => ownWrite da sk data poison s, Good hx s

theorem execInjectPoison_good {hx : Hold} (p : Nat) (da : Nat) (s : State) {u₁ : State} (hk : Good hx s) :
    execInjectPoison p da s = .next u₁ → Good hx u₁ := by
  unfold execInjectPoison
  grind (gen := 24) (splits := 14) (ematch := 20) [→ mbox_good]

theorem execClearPoison_good {hx : Hold} (p : Nat) (da : Nat) (data : Line) (s : State) {u₁ : State} (hk : Good hx s) :
    execClearPoison p da data s = .next u₁ → Good hx u₁ := by
  unfold execClearPoison
  grind (gen := 24) (splits := 14) (ematch := 20) [→ mbox_good]

theorem execGetShutdownState_good {hx : Hold} (p : Nat) (s : State) {u₁ : State} (hk : Good hx s) :
    execGetShutdownState p s = .next u₁ → Good hx u₁ := by
  unfold execGetShutdownState
  grind (gen := 24) (splits := 14) (ematch := 20) [→ mbox_good]

theorem setShutdownState_good {hx : Hold} (p : Nat) (dirty : Bool) (s : State) {u₁ : State} (hk : Good hx s) :
    setShutdownState p dirty s = .next u₁ → Good hx u₁ := by
  unfold setShutdownState
  grind (gen := 24) (splits := 14) (ematch := 20) [→ mbox_good]

theorem setTimestamp_good {hx : Hold} (p : Nat) (ns : Nat) (s : State) {u₁ : State} (hk : Good hx s) :
    setTimestamp p ns s = .next u₁ → Good hx u₁ := by
  unfold setTimestamp
  grind (gen := 24) (splits := 14) (ematch := 20) [→ mbox_good]

theorem getTimestamp_good {hx : Hold} (p : Nat) (s : State) {u₁ : State} (hk : Good hx s) :
    getTimestamp p s = .next u₁ → Good hx u₁ := by
  unfold getTimestamp
  grind (gen := 24) (splits := 14) (ematch := 20) [Option.map_eq_some_iff, → mbox_good]

theorem execGetFwInfo_good {hx : Hold} (p : Nat) (s : State) {u₁ : State} (hk : Good hx s) :
    execGetFwInfo p s = .next u₁ → Good hx u₁ := by
  unfold execGetFwInfo
  grind (gen := 24) (splits := 14) (ematch := 20) [→ mbox_good]

theorem onFlash_good {hx : Hold} (f : Flash → Flash) (s : State) (hk : Good hx s) :
    Good hx (onFlash f s) := by
  unfold onFlash
  grind (gen := 24) (splits := 14) (ematch := 20)

grind_pattern onFlash_good => onFlash f s, Good hx s

theorem flashAbort_good {hx : Hold} (s : State) (hk : Good hx s) :
    Good hx (flashAbort s) := by
  unfold flashAbort
  grind (gen := 24) (splits := 14) (ematch := 20)

grind_pattern flashAbort_good => flashAbort s, Good hx s

theorem execTransferFw_good {hx : Hold} (p : Nat) (typ : Nat) (last : Bool) (img : Image) (s : State) {u₁ : State} (hk :
    Good hx s) :
    execTransferFw p typ last img s = .next u₁ → Good hx u₁ := by
  unfold execTransferFw
  grind (gen := 24) (splits := 14) (ematch := 20) [→ mbox_good]

theorem execActivateFw_good {hx : Hold} (p : Nat) (typ : Nat) (online : Bool) (s : State) {u₁ : State} (hk : Good hx s) :
    execActivateFw p typ online s = .next u₁ → Good hx u₁ := by
  unfold execActivateFw
  grind (gen := 24) (splits := 14) (ematch := 20) [→ mbox_good]

theorem rangeCmd_good {hx : Hold} (p : Nat) (opc : Nat) (stage : Nat) (da : Nat) (len : Nat) (tr : Option Trailer) (s :
    State) {u₁ : State} (hk : Good hx s) :
    rangeCmd p opc stage da len tr s = .next u₁ → Good hx u₁ := by
  unfold rangeCmd
  grind (gen := 24) (splits := 14) (ematch := 20) [→ mbox_good]

theorem execZalloc_good {hx : Hold} (p : Nat) (da : Nat) (len : Nat) (tr : Option Trailer) (s : State) {u₁ : State} (hk :
    Good hx s) :
    execZalloc p da len tr s = .next u₁ → Good hx u₁ := by
  unfold execZalloc
  grind (gen := 24) (splits := 14) (ematch := 20) [→ rangeCmd_good]

theorem execPrefetch_good {hx : Hold} (p : Nat) (da : Nat) (len : Nat) (tr : Option Trailer) (s : State) {u₁ : State} (hk
    : Good hx s) :
    execPrefetch p da len tr s = .next u₁ → Good hx u₁ := by
  unfold execPrefetch
  grind (gen := 24) (splits := 14) (ematch := 20) [→ rangeCmd_good]

theorem execPin_good {hx : Hold} (p : Nat) (da : Nat) (len : Nat) (tr : Option Trailer) (s : State) {u₁ : State} (hk :
    Good hx s) :
    execPin p da len tr s = .next u₁ → Good hx u₁ := by
  unfold execPin
  grind (gen := 24) (splits := 14) (ematch := 20) [→ rangeCmd_good]

theorem execUnpin_good {hx : Hold} (p : Nat) (da : Nat) (len : Nat) (tr : Option Trailer) (s : State) {u₁ : State} (hk :
    Good hx s) :
    execUnpin p da len tr s = .next u₁ → Good hx u₁ := by
  unfold execUnpin
  grind (gen := 24) (splits := 14) (ematch := 20) [→ rangeCmd_good]

theorem execFlush_good {hx : Hold} (p : Nat) (da : Nat) (len : Nat) (tr : Option Trailer) (s : State) {u₁ : State} (hk :
    Good hx s) :
    execFlush p da len tr s = .next u₁ → Good hx u₁ := by
  unfold execFlush
  grind (gen := 24) (splits := 14) (ematch := 20) [→ rangeCmd_good]

theorem execInval_good {hx : Hold} (p : Nat) (da : Nat) (len : Nat) (tr : Option Trailer) (s : State) {u₁ : State} (hk :
    Good hx s) :
    execInval p da len tr s = .next u₁ → Good hx u₁ := by
  unfold execInval
  grind (gen := 24) (splits := 14) (ematch := 20) [→ rangeCmd_good]

theorem execZallocSectorOp_good {hx : Hold} (p : Nat) (s : State) {u₁ : State} (hk : Good hx s) :
    execZallocSectorOp p s = .next u₁ → Good hx u₁ := by
  unfold execZallocSectorOp
  grind (gen := 24) (splits := 14) (ematch := 20) [→ opSector_good]

theorem issueFence_good {hx : Hold} (f : Fence) (s : State) (hk : Good hx s) :
    Good hx (issueFence f s) := by
  unfold issueFence
  grind (gen := 24) (splits := 14) (ematch := 20)

grind_pattern issueFence_good => issueFence f s, Good hx s

theorem mboxFence_good {hx : Hold} (p : Nat) (opc : Nat) (payload : Nat) (dfence : Bool) (s : State) {u₁ : State} (hk :
    Good hx s) :
    mboxFence p opc payload dfence s = .next u₁ → Good hx u₁ := by
  unfold mboxFence
  grind (gen := 24) (splits := 14) (ematch := 20) [→ mbox_good]

theorem execDfence_good {hx : Hold} (p : Nat) (payload : Nat) (s : State) {u₁ : State} (hk : Good hx s) :
    execDfence p payload s = .next u₁ → Good hx u₁ := by
  unfold execDfence
  grind (gen := 24) (splits := 14) (ematch := 20) [→ mboxFence_good]

theorem execOfence_good {hx : Hold} (p : Nat) (payload : Nat) (s : State) {u₁ : State} (hk : Good hx s) :
    execOfence p payload s = .next u₁ → Good hx u₁ := by
  unfold execOfence
  grind (gen := 24) (splits := 14) (ematch := 20) [→ mboxFence_good]

theorem doorbell_good {hx : Hold} (p : Nat) (seq : Nat) (irq : Bool) (dfence : Bool) (s : State) {u₁ : State} (hk : Good
    hx s) :
    doorbell p seq irq dfence s = .next u₁ → Good hx u₁ := by
  unfold doorbell
  grind (gen := 24) (splits := 14) (ematch := 20)

theorem execDoorbellDfence_good {hx : Hold} (p : Nat) (seq : Nat) (irq : Bool) (s : State) {u₁ : State} (hk : Good hx s) :
    execDoorbellDfence p seq irq s = .next u₁ → Good hx u₁ := by
  unfold execDoorbellDfence
  grind (gen := 24) (splits := 14) (ematch := 20) [→ doorbell_good]

theorem execDoorbellOfence_good {hx : Hold} (p : Nat) (seq : Nat) (irq : Bool) (s : State) {u₁ : State} (hk : Good hx s) :
    execDoorbellOfence p seq irq s = .next u₁ → Good hx u₁ := by
  unfold execDoorbellOfence
  grind (gen := 24) (splits := 14) (ematch := 20) [→ doorbell_good]

theorem execGpfPhase1_good {hx : Hold} (p : Nat) (s : State) {u₁ : State} (hk : Good hx s) :
    execGpfPhase1 p s = .next u₁ → Good hx u₁ := by
  unfold execGpfPhase1
  grind (gen := 24) (splits := 14) (ematch := 20) [Option.map_eq_some_iff, Out.allowed]

theorem execGpfPhase2_good {hx : Hold} (p : Nat) (s : State) {u₁ : State} (hk : Good hx s) :
    execGpfPhase2 p s = .next u₁ → Good hx u₁ := by
  unfold execGpfPhase2
  grind (gen := 24) (splits := 14) (ematch := 20)

theorem mailReq_good {hx : Hold} (p : Nat) (opc : Nat) (da : Nat) (e : Nat) (k : Kind) (data : Line) (s : State) (hk :
    Good hx s) :
    Good hx (mailReq p opc da e k data s) := by
  unfold mailReq
  grind (gen := 24) (splits := 14) (ematch := 20) [→ mbox_good]

grind_pattern mailReq_good => mailReq p opc da e k data s, Good hx s

theorem execAtomic_good {hx : Hold} (p : Nat) (da : Nat) (a : Atom) (tr : Option Trailer) (s : State) {u₁ : State} (hk :
    Good hx s) :
    execAtomic p da a tr s = .next u₁ → Good hx u₁ := by
  unfold execAtomic
  grind (gen := 24) (splits := 14) (ematch := 20) [→ mbox_good]

theorem execAppend_good {hx : Hold} (p : Nat) (da : Nat) (len : Nat) (data : Line) (tr : Option Trailer) (s : State) {u₁ :
    State} (hk : Good hx s) :
    execAppend p da len data tr s = .next u₁ → Good hx u₁ := by
  unfold execAppend
  grind (gen := 24) (splits := 14) (ematch := 20) [→ mbox_good]

/-! ### Machine/Copying.lean -/

theorem fillWay_good {hx : Hold} (set : Nat) (w : Nat) (rd : Rd) (s : State) (hk : Good hx s) :
    Good hx (fillWay set w rd s) := by
  unfold fillWay
  grind (gen := 24) (splits := 14) (ematch := 20) [→ readSlices_good]

grind_pattern fillWay_good => fillWay set w rd s, Good hx s

theorem execTscFillDone_good {hx : Hold} (set : Nat) (rds : List Rd) (s : State) {u₁ : State} (hk : Good hx s) :
    execTscFillDone set rds s = .next u₁ → Good hx u₁ := by
  unfold execTscFillDone
  grind (gen := 24) (splits := 14) (ematch := 20) [Option.map_eq_some_iff]

theorem execTscFillBudgetReset_good {hx : Hold} (s : State) {u₁ : State} (hk : Good hx s) :
    execTscFillBudgetReset s = .next u₁ → Good hx u₁ := by
  unfold execTscFillBudgetReset
  grind (gen := 24) (splits := 14) (ematch := 20)

theorem stall_good {hx : Hold} (id : Nat) (at_ : Txn → Option Nat) (told : Txn → Bool) (mark : Txn → Txn) (e : Ev) (s :
    State) (hk : Good hx s) :
    Good hx (stall id at_ told mark e s) := by
  unfold stall
  grind (gen := 24) (splits := 14) (ematch := 20)

grind_pattern stall_good => stall id at_ told mark e s, Good hx s

theorem execVictimStallTimeout_good {hx : Hold} (id : Nat) (s : State) {u₁ : State} (hk : Good hx s) :
    execVictimStallTimeout id s = .next u₁ → Good hx u₁ := by
  unfold execVictimStallTimeout
  grind (gen := 24) (splits := 14) (ematch := 20)

theorem execSfStallTimeout_good {hx : Hold} (id : Nat) (s : State) {u₁ : State} (hk : Good hx s) :
    execSfStallTimeout id s = .next u₁ → Good hx u₁ := by
  unfold execSfStallTimeout
  grind (gen := 24) (splits := 14) (ematch := 20)

theorem clearRegions_good {hx : Hold} (gone : Nat → Bool) (s : State) (hk : Good hx s) :
    Good hx (clearRegions gone s) := by
  unfold clearRegions
  grind (gen := 24) (splits := 14) (ematch := 20)

grind_pattern clearRegions_good => clearRegions gone s, Good hx s

theorem schedCopy_good {hx : Hold} (k : Nat) (r : Rd) (s : State) (hk : Good hx s) :
    Good hx (schedCopy k r s) := by
  unfold schedCopy
  grind (gen := 24) (splits := 14) (ematch := 20) [cchOk, → readBurst_good]

grind_pattern schedCopy_good => schedCopy k r s, Good hx s

theorem slowCopy_good {hx : Hold} (s : State) (hk : Good hx s) :
    Good hx (slowCopy s) := by
  unfold slowCopy
  grind (gen := 24) (splits := 14) (ematch := 20)

grind_pattern slowCopy_good => slowCopy s, Good hx s

theorem execWbSchedulerCopy_good {hx : Hold} (r : Rd) (s : State) {u₁ : State} (hk : Good hx s) :
    execWbSchedulerCopy r s = .next u₁ → Good hx u₁ := by
  unfold execWbSchedulerCopy
  grind (gen := 24) (splits := 14) (ematch := 20)

theorem execWbStageStallTimeout_good {hx : Hold} (sk : Nat) (s : State) {u₁ : State} (hk : Good hx s) :
    execWbStageStallTimeout sk s = .next u₁ → Good hx u₁ := by
  unfold execWbStageStallTimeout
  grind (gen := 24) (splits := 14) (ematch := 20) [Option.map_eq_some_iff]

theorem execJournalPackTimeout_good {hx : Hold} (s : State) {u₁ : State} (hk : Good hx s) :
    execJournalPackTimeout s = .next u₁ → Good hx u₁ := by
  unfold execJournalPackTimeout
  grind (gen := 24) (splits := 14) (ematch := 20)

theorem execNtAgeWriteout_good {hx : Hold} (sk : Nat) (s : State) {u₁ : State} (hk : Good hx s) :
    execNtAgeWriteout sk s = .next u₁ → Good hx u₁ := by
  unfold execNtAgeWriteout
  grind (gen := 24) (splits := 14) (ematch := 20)

theorem execNtHoldWriteout_good {hx : Hold} (sk : Nat) (s : State) {u₁ : State} (hk : Good hx s) :
    execNtHoldWriteout sk s = .next u₁ → Good hx u₁ := by
  unfold execNtHoldWriteout
  grind (gen := 24) (splits := 14) (ematch := 20)

theorem grantB_good {hx : Hold} (s : State) {u₁ : State} (hk : Good hx s) :
    grantB s = some u₁ → Good hx u₁ := by
  unfold grantB
  grind (gen := 24) (splits := 14) (ematch := 20) [Option.map_eq_some_iff]

theorem grantA_good {hx : Hold} (s : State) {u₁ : State} (hk : Good hx s) :
    grantA s = some u₁ → Good hx u₁ := by
  unfold grantA
  grind (gen := 24) (splits := 14) (ematch := 20) [→ returnRwd_good, Option.map_eq_some_iff]

theorem execReservationGrant_good {hx : Hold} (s : State) {u₁ : State} (hk : Good hx s) :
    execReservationGrant s = .next u₁ → Good hx u₁ := by
  unfold execReservationGrant
  grind (gen := 24) (splits := 14) (ematch := 20) [→ grantA_good, → grantB_good]

theorem walkVisit_good {hx : Hold} (x : Nat) (s : State) (hk : Good hx s) :
    Good hx (walkVisit x s) := by
  unfold walkVisit
  grind (gen := 24) (splits := 14) (ematch := 20)

grind_pattern walkVisit_good => walkVisit x s, Good hx s

theorem execSfSuspectWalk_good {hx : Hold} (s : State) {u₁ : State} (hk : Good hx s) :
    execSfSuspectWalk s = .next u₁ → Good hx u₁ := by
  unfold execSfSuspectWalk
  grind (gen := 24) (splits := 14) (ematch := 20)

/-! ### Machine/Sintering.lean -/

theorem onSinter_good {hx : Hold} (p : Nat) (f : Sinter → Sinter) (s : State) (hk : Good hx s) :
    Good hx (onSinter p f s) := by
  unfold onSinter
  grind (gen := 24) (splits := 14) (ematch := 20) [Option.map_eq_some_iff]

grind_pattern onSinter_good => onSinter p f s, Good hx s

theorem unlock_good {hx : Hold} (p : Nat) (s : State) (hk : Good hx s) :
    Good hx (unlock p s) := by
  unfold unlock
  grind (gen := 24) (splits := 14) (ematch := 20)

grind_pattern unlock_good => unlock p s, Good hx s

theorem startSinter_good {hx : Hold} (p : Nat) (rotate : Bool) (s : State) {u₁ : State} (hk : Good hx s) :
    startSinter p rotate s = some u₁ → Good hx u₁ := by
  intro h
  unfold startSinter at h
  obtain ⟨s', h', rfl⟩ := Option.map_eq_some_iff.mp h
  refine onJrnl_good _ _ ?_
  suffices H : ∀ (l : List (Nat × Nat)) (acc : Option State), (∀ u, acc = some u → Good hx u) →
      ∀ u, l.foldl (fun acc r => acc.bind fun s => (submit r.1 r.2 (.sinterRd p) true s).map (·.2)) acc = some u →
        Good hx u from H _ _ (by intro u hu; cases hu; exact hk) _ h'
  intro l
  induction l with
  | nil => intro acc ha u hu; exact ha u hu
  | cons r l ih =>
    intro acc ha u hu
    refine ih _ ?_ u hu
    intro v hv
    obtain ⟨w, hw, hx⟩ := Option.bind_eq_some_iff.mp hv
    obtain ⟨⟨c, s''⟩, hc, rfl⟩ := Option.map_eq_some_iff.mp hx
    exact submit_good _ _ _ _ _ (ha _ hw) hc

theorem appendRecs_good {hx : Hold} (rs : List JRec) (olds : List (Option (Nat × Nat × Nat))) (s : State) {u₁ : State} (hk
    : Good hx s) :
    appendRecs rs olds s = some u₁ → Good hx u₁ := by
  intro h
  unfold appendRecs at h
  obtain ⟨⟨n, s'⟩, h', rfl⟩ := Option.map_eq_some_iff.mp h
  refine foldBind_good (x := hx) (fun (p : Nat × State) (r : List JRec) =>
    (packPage none r ((olds.drop p.1).take r.length) p.2).map fun s => (p.1 + r.length, s)) _ ?_ (some (0, s)) ?_ _ h'
  · intro p r q hq hp
    obtain ⟨s'', hc, rfl⟩ := Option.map_eq_some_iff.mp hq
    exact packPage_good _ _ _ _ hp hc
  · intro q hq; cases hq; exact hk

theorem writeHome_good {hx : Hold} (x : Sinter) (s : State) (hk : Good hx s) :
    Good hx (writeHome x s) := by
  unfold writeHome
  grind (gen := 24) (splits := 14) (ematch := 20) [→ submit_good]

grind_pattern writeHome_good => writeHome x s, Good hx s

theorem closeRotate_good {hx : Hold} (p : Nat) (s : State) (hk : Good hx s) :
    Good hx (closeRotate p s) := by
  unfold closeRotate
  split
  · exact hk
  · split
    · exact hk
    · exact getD_good (fun u h => packPage_good _ _ _ _ hk h) hk

grind_pattern closeRotate_good => closeRotate p s, Good hx s

theorem sinterNext_good {hx : Hold} (x : Sinter) (s : State) (hk : Good hx s) :
    Good hx (sinterNext x s) := by
  unfold sinterNext
  grind (gen := 24) (splits := 14) (ematch := 20) [→ appendRecs_good, Option.map_eq_some_iff]

grind_pattern sinterNext_good => sinterNext x s, Good hx s

theorem sinterPump_good {hx : Hold} (s : State) (hk : Good hx s) :
    Good hx (sinterPump s) := by
  unfold sinterPump
  grind (gen := 24) (splits := 14) (ematch := 20)

grind_pattern sinterPump_good => sinterPump s, Good hx s

theorem badHome_good {hx : Hold} (x : Sinter) (ns : Nat) (lba : Nat) (s : State) (hk : Good hx s) :
    Good hx (badHome x ns lba s) := by
  unfold badHome
  grind (gen := 24) (splits := 14) (ematch := 20)

grind_pattern badHome_good => badHome x ns lba s, Good hx s

theorem sinterRead_good {hx : Hold} (p : Nat) (ns : Nat) (lba : Nat) (ok : Bool) (s : State) (hk : Good hx s) :
    Good hx (sinterRead p ns lba ok s) := by
  unfold sinterRead
  grind (gen := 24) (splits := 14) (ematch := 20)

grind_pattern sinterRead_good => sinterRead p ns lba ok s, Good hx s

theorem setLoc_good {hx : Hold} (so : Nat) (l : Nat) (x : Option Loc) (s : State) (hk : Good hx s) :
    Good hx (setLoc so l x s) := by
  unfold setLoc
  grind (gen := 24) (splits := 14) (ematch := 20)

grind_pattern setLoc_good => setLoc so l x s, Good hx s

theorem settleLoc_good {hx : Hold} (y : Nat × Nat × Loc) (s : State) (hk : Good hx s) :
    Good hx (settleLoc y s) := by
  unfold settleLoc
  grind (gen := 24) (splits := 14) (ematch := 20)

grind_pattern settleLoc_good => settleLoc y s, Good hx s

theorem putHome_good {hx : Hold} (x : Sinter) (s : State) (hk : Good hx s) :
    Good hx (putHome x s) := by
  unfold putHome
  dsimp only
  generalize List.flatMap _ _ = image
  exact onMedia_good _ _ id (fun h => tblWf_foldPut _ Prod.fst Prod.snd h) hk

grind_pattern putHome_good => putHome x s, Good hx s

theorem endSinter_good {hx : Hold} (x : Sinter) (s : State) (hk : Good hx s) :
    Good hx (endSinter x s) := by
  unfold endSinter
  grind (gen := 24) (splits := 14) (ematch := 20)

grind_pattern endSinter_good => endSinter x s, Good hx s

theorem homeWritten_good {hx : Hold} (p : Nat) (s : State) (hk : Good hx s) :
    Good hx (homeWritten p s) := by
  unfold homeWritten
  grind (gen := 24) (splits := 14) (ematch := 20)

grind_pattern homeWritten_good => homeWritten p s, Good hx s

theorem homeFailed_good {hx : Hold} (p : Nat) (s : State) (hk : Good hx s) :
    Good hx (homeFailed p s) := by
  unfold homeFailed
  grind (gen := 24) (splits := 14) (ematch := 20) [Option.map_eq_some_iff]

grind_pattern homeFailed_good => homeFailed p s, Good hx s

theorem rotateDone_good {hx : Hold} (r : JRec) (s : State) (hk : Good hx s) :
    Good hx (rotateDone r s) := by
  unfold rotateDone
  grind (gen := 24) (splits := 14) (ematch := 20)

grind_pattern rotateDone_good => rotateDone r s, Good hx s

theorem paceSinter_good {hx : Hold} (s : State) (hk : Good hx s) :
    Good hx (paceSinter s) := by
  unfold paceSinter
  grind (gen := 24) (splits := 14) (ematch := 20)

grind_pattern paceSinter_good => paceSinter s, Good hx s

theorem execSinterPage_good {hx : Hold} (ns : Nat) (s : State) {u₁ : State} (hk : Good hx s) :
    execSinterPage ns s = .next u₁ → Good hx u₁ := by
  unfold execSinterPage
  grind (gen := 24) (splits := 14) (ematch := 20) [→ startSinter_good]

theorem carrySlot_good {hx : Hold} (ns : Nat) (live : List (Nat × Nat × JRec)) (s : State) {u₁ : State} (hk : Good hx s) :
    carrySlot ns live s = some u₁ → Good hx u₁ := by
  unfold carrySlot
  grind (gen := 24) (splits := 14) (ematch := 20) [→ appendRecs_good, Option.map_eq_some_iff]

theorem execJournalHeadAdvance_good {hx : Hold} (ns : Nat) (s : State) {u₁ : State} (hk : Good hx s) :
    execJournalHeadAdvance ns s = .next u₁ → Good hx u₁ := by
  unfold execJournalHeadAdvance
  grind (gen := 24) (splits := 14) (ematch := 20) [Out.allowed, tblFilter, tblWf_filter, → carrySlot_good]

theorem packCopy_good {hx : Hold} (ns : Nat) (rs : List JRec) (s : State) {q₁ : Nat} {u₁ : State} (hk : Good hx s) :
    packCopy ns rs s = some (q₁, u₁) → Good hx u₁ := by
  have fold : ∀ (rs : List JRec) (o : Option State), (∀ t, o = some t → Good hx t) → ∀ t,
      rs.foldl (fun acc r => acc.bind fun s => packOn ns [r] [] s) o = some t → Good hx t := by
    intro rs
    induction rs with
    | nil => exact fun o ho t h => ho t h
    | cons r rs ih =>
      refine fun o ho t h => ih _ (fun u hu => ?_) t h
      obtain ⟨v, hv, hu⟩ := Option.bind_eq_some_iff.mp hu
      exact packOn_good _ _ _ _ (ho v hv) hu
  intro h
  obtain ⟨t, ht, he⟩ := Option.map_eq_some_iff.mp h
  cases he
  exact fold rs _ (fun v hv => by cases hv; exact hk) _ ht

theorem startCkpt_good {hx : Hold} (s : State) {u₁ : State} (hk : Good hx s) :
    startCkpt s = some u₁ → Good hx u₁ := by
  unfold startCkpt
  grind (gen := 24) (splits := 14) (ematch := 20) [→ packOn_good, Option.map_eq_some_iff, Option.bind_eq_some_iff, →
      packCopy_good]

theorem execCheckpointTimer_good {hx : Hold} (s : State) {u₁ : State} (hk : Good hx s) :
    execCheckpointTimer s = .next u₁ → Good hx u₁ := by
  unfold execCheckpointTimer
  grind (gen := 24) (splits := 14) (ematch := 20) [→ startCkpt_good]

theorem ckptPump_good {hx : Hold} (s : State) (hk : Good hx s) :
    Good hx (ckptPump s) := by
  unfold ckptPump
  grind (gen := 24) (splits := 14) (ematch := 20) [→ submit_good]

grind_pattern ckptPump_good => ckptPump s, Good hx s

theorem ckptCopy_good {hx : Hold} (series : Nat) (s : State) (hk : Good hx s) :
    Good hx (ckptCopy series s) := by
  unfold ckptCopy
  grind (gen := 24) (splits := 14) (ematch := 20)

grind_pattern ckptCopy_good => ckptCopy series s, Good hx s

theorem rotateEnd_good {hx : Hold} (c : Ckpt) (s : State) (hk : Good hx s) :
    Good hx (rotateEnd c s) := by
  unfold rotateEnd
  grind (gen := 24) (splits := 14) (ematch := 20) [→ writeArea_good]

grind_pattern rotateEnd_good => rotateEnd c s, Good hx s

theorem anchorDone_good {hx : Hold} (series : Nat) (ns : Nat) (s : State) (hk : Good hx s) :
    Good hx (anchorDone series ns s) := by
  unfold anchorDone
  grind (gen := 24) (splits := 14) (ematch := 20)

grind_pattern anchorDone_good => anchorDone series ns s, Good hx s

theorem execRotatePageStep_good {hx : Hold} (s : State) {u₁ : State} (hk : Good hx s) :
    execRotatePageStep s = .next u₁ → Good hx u₁ := by
  unfold execRotatePageStep
  grind (gen := 24) (splits := 14) (ematch := 20) [→ startSinter_good]

theorem execIndexBucketRebuild_good {hx : Hold} (b : Nat) (s : State) {u₁ : State} (hk : Good hx s) :
    execIndexBucketRebuild b s = .next u₁ → Good hx u₁ := by
  unfold execIndexBucketRebuild
  grind (gen := 24) (splits := 14) (ematch := 20)

end Sys2Proof.Machine
end

