-- ==== Sys2Proof/Laws/GoodFabric.lean ====
section
/-! SUPPORT. What `Good` says is kept by every operation of Machine/: Fabric, Drain, MediaIo, Reserve, Channels, Retain. -/

set_option Elab.async false

namespace Sys2Proof.Machine

open Sys2Proof

/-! ### Machine/Fabric.lean -/

theorem transit_good {hx : Hold} (p : Nat) (lane : Nat) (m : FMsg) (s : State) (hk : Good hx s) :
    Good hx (transit p lane m s) := by
  unfold transit
  grind (gen := 24) (splits := 14) (ematch := 20)

grind_pattern transit_good => transit p lane m s, Good hx s

theorem receive_good {hx : Hold} (p : Nat) (lane : Nat) (seq : Nat) (m : FMsg) (free : Bool) (f : FMsg → State → State) (s
    : State) {u₁ : State} (hf : ∀ y0 z, Good hx z → Good hx (f y0 z)) (hk : Good hx s) :
    receive p lane seq m free f s = .next u₁ → Good hx u₁ := by
  unfold receive
  grind (gen := 24) (splits := 14) (ematch := 20) [→ rxAccept_good]

theorem stale_good {hx : Hold} (m : FMsg) (s : State) (hk : Good hx s) :
    Good hx (stale m s) := by
  unfold stale
  grind (gen := 24) (splits := 14) (ematch := 20)

grind_pattern stale_good => stale m s, Good hx s

theorem fxFail_good {hx : Hold} (dev : Nat) (cause : Nat) (tid : Nat) (s : State) (hk : Good hx s) :
    Good hx (fxFail dev cause tid s) := by
  unfold fxFail
  grind (gen := 24) (splits := 14) (ematch := 20)

grind_pattern fxFail_good => fxFail dev cause tid s, Good hx s

theorem onRec_good {hx : Hold} (tid : Nat) (f : HRec → HRec) (s : State) (hk : Good hx s) :
    Good hx (onRec tid f s) := by
  unfold onRec
  grind (gen := 24) (splits := 14) (ematch := 20) [Option.map_eq_some_iff]

grind_pattern onRec_good => onRec tid f s, Good hx s

theorem duplicate_good {hx : Hold} (r : HRec) (m : FMsg) (s : State) (hk : Good hx s) :
    Good hx (duplicate r m s) := by
  unfold duplicate
  grind (gen := 24) (splits := 14) (ematch := 20)

grind_pattern duplicate_good => duplicate r m s, Good hx s

theorem refuse_good {hx : Hold} (m : FMsg) (cause : Nat) (s : State) (hk : Good hx s) :
    Good hx (refuse m cause s) := by
  unfold refuse
  grind (gen := 24) (splits := 14) (ematch := 20)

grind_pattern refuse_good => refuse m cause s, Good hx s

theorem newRec_good {hx : Hold} (m : FMsg) (id : Nat) (s : State) (hk : Good hx s) :
    Good hx (newRec m id s) := by
  unfold newRec
  grind (gen := 24) (splits := 14) (ematch := 20)

grind_pattern newRec_good => newRec m id s, Good hx s

theorem homeReq_good {hx : Hold} (p : Nat) (lane : Nat) (m : FMsg) (ctr : Nat) (any : Bool) (rec : Bool) (t : Txn) (s :
    State) (hk : Good hx s) :
    Good hx (homeReq p lane m ctr any rec t s) := by
  unfold homeReq
  grind (gen := 24) (splits := 14) (ematch := 20) [→ admit_good]

grind_pattern homeReq_good => homeReq p lane m ctr any rec t s, Good hx s

theorem execRdS_good {hx : Hold} (p : Nat) (lane : Nat) (seq : Nat) (m : FMsg) (s : State) {u₁ : State} (hk : Good hx s) :
    execRdS p lane seq m s = .next u₁ → Good hx u₁ := by
  unfold execRdS
  grind (gen := 24) (splits := 14) (ematch := 20) [→ receive_good]

theorem execRdO_good {hx : Hold} (p : Nat) (lane : Nat) (seq : Nat) (m : FMsg) (s : State) {u₁ : State} (hk : Good hx s) :
    execRdO p lane seq m s = .next u₁ → Good hx u₁ := by
  unfold execRdO
  grind (gen := 24) (splits := 14) (ematch := 20) [→ receive_good]

theorem execRdOna_good {hx : Hold} (p : Nat) (lane : Nat) (seq : Nat) (m : FMsg) (s : State) {u₁ : State} (hk : Good hx s) :
    execRdOna p lane seq m s = .next u₁ → Good hx u₁ := by
  unfold execRdOna
  grind (gen := 24) (splits := 14) (ematch := 20) [→ receive_good]

theorem execRdNa_good {hx : Hold} (p : Nat) (lane : Nat) (seq : Nat) (m : FMsg) (s : State) {u₁ : State} (hk : Good hx s) :
    execRdNa p lane seq m s = .next u₁ → Good hx u₁ := by
  unfold execRdNa
  grind (gen := 24) (splits := 14) (ematch := 20) [→ receive_good]

theorem execWrNa_good {hx : Hold} (p : Nat) (lane : Nat) (seq : Nat) (m : FMsg) (s : State) {u₁ : State} (hk : Good hx s) :
    execWrNa p lane seq m s = .next u₁ → Good hx u₁ := by
  unfold execWrNa
  grind (gen := 24) (splits := 14) (ematch := 20) [→ receive_good]

theorem execAtom_good {hx : Hold} (p : Nat) (lane : Nat) (seq : Nat) (m : FMsg) (s : State) {u₁ : State} (hk : Good hx s) :
    execAtom p lane seq m s = .next u₁ → Good hx u₁ := by
  unfold execAtom
  grind (gen := 24) (splits := 14) (ematch := 20) [→ receive_good]

theorem plainReq_good {hx : Hold} (m : FMsg) (f : FMsg → State → State) (s : State) (hf : ∀ y0 z, Good hx z → Good hx (f
    y0 z)) (hk : Good hx s) :
    Good hx (plainReq m f s) := by
  unfold plainReq
  grind (gen := 24) (splits := 14) (ematch := 20)

grind_pattern plainReq_good => plainReq m f s, Good hx s

theorem execEvcE_good {hx : Hold} (p : Nat) (lane : Nat) (seq : Nat) (m : FMsg) (s : State) {u₁ : State} (hk : Good hx s) :
    execEvcE p lane seq m s = .next u₁ → Good hx u₁ := by
  unfold execEvcE
  grind (gen := 24) (splits := 14) (ematch := 20) [→ receive_good]

theorem execWb_good {hx : Hold} (p : Nat) (lane : Nat) (seq : Nat) (m : FMsg) (s : State) {u₁ : State} (hk : Good hx s) :
    execWb p lane seq m s = .next u₁ → Good hx u₁ := by
  unfold execWb
  grind (gen := 24) (splits := 14) (ematch := 20) [→ receive_good]

theorem execFhb_good {hx : Hold} (p : Nat) (lane : Nat) (seq : Nat) (m : FMsg) (s : State) {u₁ : State} (hk : Good hx s) :
    execFhb p lane seq m s = .next u₁ → Good hx u₁ := by
  unfold execFhb
  grind (gen := 24) (splits := 14) (ematch := 20) [→ receive_good]

theorem poisonSector_good {hx : Hold} (sk : Nat) (s : State) (hk : Good hx s) :
    Good hx (poisonSector sk s) := by
  unfold poisonSector
  grind (gen := 24) (splits := 14) (ematch := 20) [Option.map_eq_some_iff]

grind_pattern poisonSector_good => poisonSector sk s, Good hx s

theorem endAside_good {hx : Hold} (f : FMsg) (apply : Bool) (s : State) (hk : Good hx s) :
    Good hx (endAside f apply s) := by
  unfold endAside
  grind (gen := 24) (splits := 14) (ematch := 20) [→ placeReturn_good, → admit_good]

grind_pattern endAside_good => endAside f apply s, Good hx s

theorem endMark_good {hx : Hold} (d : Nat) (lost : Bool) (x : HbMark) (s : State) (hk : Good hx s) :
    Good hx (endMark d lost x s) := by
  unfold endMark
  grind (gen := 24) (splits := 14) (ematch := 20)

grind_pattern endMark_good => endMark d lost x s, Good hx s

theorem handedBack_good {hx : Hold} (s : State) (hk : Good hx s) :
    Good hx (handedBack s) := by
  unfold handedBack
  grind (gen := 24) (splits := 14) (ematch := 20)

grind_pattern handedBack_good => handedBack s, Good hx s

theorem execFhbDone_good {hx : Hold} (p : Nat) (lane : Nat) (seq : Nat) (m : FMsg) (s : State) {u₁ : State} (hk : Good hx s) :
    execFhbDone p lane seq m s = .next u₁ → Good hx u₁ := by
  unfold execFhbDone
  grind (gen := 24) (splits := 14) (ematch := 20) [→ receive_good]

theorem holderSnoop_good {hx : Hold} (p : Nat) (lane : Nat) (m : FMsg) (k : Kind) (s : State) (hk : Good hx s) :
    Good hx (holderSnoop p lane m k s) := by
  unfold holderSnoop
  grind (gen := 24) (splits := 14) (ematch := 20) [→ admit_good]

grind_pattern holderSnoop_good => holderSnoop p lane m k s, Good hx s

theorem execSnpS_good {hx : Hold} (p : Nat) (lane : Nat) (seq : Nat) (m : FMsg) (s : State) {u₁ : State} (hk : Good hx s) :
    execSnpS p lane seq m s = .next u₁ → Good hx u₁ := by
  unfold execSnpS
  grind (gen := 24) (splits := 14) (ematch := 20) [→ receive_good]

theorem execSnpInv_good {hx : Hold} (p : Nat) (lane : Nat) (seq : Nat) (m : FMsg) (s : State) {u₁ : State} (hk : Good hx s) :
    execSnpInv p lane seq m s = .next u₁ → Good hx u₁ := by
  unfold execSnpInv
  grind (gen := 24) (splits := 14) (ematch := 20) [→ receive_good]

theorem execSnpCur_good {hx : Hold} (p : Nat) (lane : Nat) (seq : Nat) (m : FMsg) (s : State) {u₁ : State} (hk : Good hx s) :
    execSnpCur p lane seq m s = .next u₁ → Good hx u₁ := by
  unfold execSnpCur
  grind (gen := 24) (splits := 14) (ematch := 20) [→ receive_good]

theorem execSnpRefwd_good {hx : Hold} (p : Nat) (lane : Nat) (seq : Nat) (m : FMsg) (s : State) {u₁ : State} (hk : Good hx
    s) :
    execSnpRefwd p lane seq m s = .next u₁ → Good hx u₁ := by
  unfold execSnpRefwd
  grind (gen := 24) (splits := 14) (ematch := 20) [→ receive_good]

theorem dropSnp_good {hx : Hold} (x : SnpOut) (s : State) (hk : Good hx s) :
    Good hx (dropSnp x s) := by
  unfold dropSnp
  grind (gen := 24) (splits := 14) (ematch := 20)

grind_pattern dropSnp_good => dropSnp x s, Good hx s

theorem onDirOf_good {hx : Hold} (sk : Nat) (f : Nat → State → State) (s : State) (hf : ∀ y0 z, Good hx z → Good hx (f y0
    z)) (hk : Good hx s) :
    Good hx (onDirOf sk f s) := by
  unfold onDirOf
  grind (gen := 24) (splits := 14) (ematch := 20)

grind_pattern onDirOf_good => onDirOf sk f s, Good hx s

theorem ownerShares_good {hx : Hold} (k : Nat) (s : State) (hk : Good hx s) :
    Good hx (ownerShares k s) := by
  unfold ownerShares
  grind (gen := 24) (splits := 14) (ematch := 20)

grind_pattern ownerShares_good => ownerShares k s, Good hx s

theorem endRecall_good {hx : Hold} (x : SnpOut) (s : State) (hk : Good hx s) :
    Good hx (endRecall x s) := by
  unfold endRecall
  grind (gen := 24) (splits := 14) (ematch := 20)

grind_pattern endRecall_good => endRecall x s, Good hx s

theorem clearOverflow_good {hx : Hold} (x : SnpOut) (s : State) (hk : Good hx s) :
    Good hx (clearOverflow x s) := by
  unfold clearOverflow
  grind (gen := 24) (splits := 14) (ematch := 20)

grind_pattern clearOverflow_good => clearOverflow x s, Good hx s

theorem answered_good {hx : Hold} (x : SnpOut) (s : State) (hk : Good hx s) :
    Good hx (answered x s) := by
  unfold answered
  grind (gen := 24) (splits := 14) (ematch := 20)

grind_pattern answered_good => answered x s, Good hx s

theorem homeRsp_good {hx : Hold} (p : Nat) (lane : Nat) (seq : Nat) (m : FMsg) (f : SnpOut → FMsg → State → State) (s :
    State) {u₁ : State} (hf : ∀ y0 y1 z, Good hx z → Good hx (f y0 y1 z)) (hk : Good hx s) :
    homeRsp p lane seq m f s = .next u₁ → Good hx u₁ := by
  unfold homeRsp
  grind (gen := 24) (splits := 14) (ematch := 20) [→ receive_good]

theorem execRspI_good {hx : Hold} (p : Nat) (lane : Nat) (seq : Nat) (m : FMsg) (s : State) {u₁ : State} (hk : Good hx s) :
    execRspI p lane seq m s = .next u₁ → Good hx u₁ := by
  unfold execRspI
  grind (gen := 24) (splits := 14) (ematch := 20) [→ homeRsp_good]

theorem execRspS_good {hx : Hold} (p : Nat) (lane : Nat) (seq : Nat) (m : FMsg) (s : State) {u₁ : State} (hk : Good hx s) :
    execRspS p lane seq m s = .next u₁ → Good hx u₁ := by
  unfold execRspS
  grind (gen := 24) (splits := 14) (ematch := 20) [→ homeRsp_good]

theorem holdGone_good {hx : Hold} (r : HRec) (s : State) (hk : Good hx s) :
    Good hx (holdGone r s) := by
  unfold holdGone
  grind (gen := 24) (splits := 14) (ematch := 20)

grind_pattern holdGone_good => holdGone r s, Good hx s

theorem execRspMiss_good {hx : Hold} (p : Nat) (lane : Nat) (seq : Nat) (m : FMsg) (s : State) {u₁ : State} (hk : Good hx s) :
    execRspMiss p lane seq m s = .next u₁ → Good hx u₁ := by
  unfold execRspMiss
  grind (gen := 24) (splits := 14) (ematch := 20) [→ receive_good, Option.map_eq_some_iff]

theorem supplied_good {hx : Hold} (x : SnpOut) (s : State) (hk : Good hx s) :
    Good hx (supplied x s) := by
  unfold supplied
  grind (gen := 24) (splits := 14) (ematch := 20) [Option.map_eq_some_iff]

grind_pattern supplied_good => supplied x s, Good hx s

theorem execRspFwd_good {hx : Hold} (p : Nat) (lane : Nat) (seq : Nat) (m : FMsg) (s : State) {u₁ : State} (hk : Good hx s) :
    execRspFwd p lane seq m s = .next u₁ → Good hx u₁ := by
  unfold execRspFwd
  grind (gen := 24) (splits := 14) (ematch := 20) [→ homeRsp_good]

theorem execSnpdata_good {hx : Hold} (p : Nat) (lane : Nat) (seq : Nat) (m : FMsg) (s : State) {u₁ : State} (hk : Good hx s) :
    execSnpdata p lane seq m s = .next u₁ → Good hx u₁ := by
  unfold execSnpdata
  grind (gen := 24) (splits := 14) (ematch := 20) [→ admit_good, → placeReturn_good, → receive_good, Option.map_eq_some_iff]

theorem execRspPend_good {hx : Hold} (p : Nat) (lane : Nat) (seq : Nat) (m : FMsg) (s : State) {u₁ : State} (hk : Good hx s) :
    execRspPend p lane seq m s = .next u₁ → Good hx u₁ := by
  unfold execRspPend
  grind (gen := 24) (splits := 14) (ematch := 20) [→ receive_good, Option.map_eq_some_iff]

theorem recordGrant_good {hx : Hold} (r : HRec) (s : State) (hk : Good hx s) :
    Good hx (recordGrant r s) := by
  unfold recordGrant
  grind (gen := 24) (splits := 14) (ematch := 20) [Option.map_eq_some_iff]

grind_pattern recordGrant_good => recordGrant r s, Good hx s

theorem endRec_good {hx : Hold} (r : HRec) (s : State) (hk : Good hx s) :
    Good hx (endRec r s) := by
  unfold endRec
  grind (gen := 24) (splits := 14) (ematch := 20)

grind_pattern endRec_good => endRec r s, Good hx s

theorem execAck_good {hx : Hold} (p : Nat) (lane : Nat) (seq : Nat) (m : FMsg) (s : State) {u₁ : State} (hk : Good hx s) :
    execAck p lane seq m s = .next u₁ → Good hx u₁ := by
  unfold execAck
  grind (gen := 24) (splits := 14) (ematch := 20) [→ receive_good]

theorem dropReq_good {hx : Hold} (tid : Nat) (s : State) (hk : Good hx s) :
    Good hx (dropReq tid s) := by
  unfold dropReq
  grind (gen := 24) (splits := 14) (ematch := 20)

grind_pattern dropReq_good => dropReq tid s, Good hx s

theorem ackTo_good {hx : Hold} (m : FMsg) (s : State) (hk : Good hx s) :
    Good hx (ackTo m s) := by
  unfold ackTo
  grind (gen := 24) (splits := 14) (ematch := 20)

grind_pattern ackTo_good => ackTo m s, Good hx s

theorem requesterRsp_good {hx : Hold} (p : Nat) (lane : Nat) (seq : Nat) (m : FMsg) (f : ReqOut → Txn → FMsg → State →
    State) (s : State) {u₁ : State} (hf : ∀ y0 y1 y2 z, Good hx z → Good hx (f y0 y1 y2 z)) (hk : Good hx s) :
    requesterRsp p lane seq m f s = .next u₁ → Good hx u₁ := by
  unfold requesterRsp
  grind (gen := 24) (splits := 14) (ematch := 20) [→ receive_good]

theorem installRemote_good {hx : Hold} (t : Txn) (m : FMsg) (k : Nat) (s : State) (hk : Good hx s) :
    Good hx (installRemote t m k s) := by
  unfold installRemote
  grind (gen := 24) (splits := 14) (ematch := 20)

grind_pattern installRemote_good => installRemote t m k s, Good hx s

theorem lostWay_good {hx : Hold} (t : Txn) (s : State) (hk : Good hx s) :
    Good hx (lostWay t s) := by
  unfold lostWay
  grind (gen := 24) (splits := 14) (ematch := 20)

grind_pattern lostWay_good => lostWay t s, Good hx s

theorem execData_good {hx : Hold} (p : Nat) (lane : Nat) (seq : Nat) (m : FMsg) (s : State) {u₁ : State} (hk : Good hx s) :
    execData p lane seq m s = .next u₁ → Good hx u₁ := by
  unfold execData
  grind (gen := 24) (splits := 14) (ematch := 20) [→ requesterRsp_good]

theorem execGnt_good {hx : Hold} (p : Nat) (lane : Nat) (seq : Nat) (m : FMsg) (s : State) {u₁ : State} (hk : Good hx s) :
    execGnt p lane seq m s = .next u₁ → Good hx u₁ := by
  unfold execGnt
  grind (gen := 24) (splits := 14) (ematch := 20) [→ requesterRsp_good]

theorem cleanKept_good {hx : Hold} (w : WbOut) (s : State) (hk : Good hx s) :
    Good hx (cleanKept w s) := by
  unfold cleanKept
  grind (gen := 24) (splits := 14) (ematch := 20)

grind_pattern cleanKept_good => cleanKept w s, Good hx s

theorem endWb_good {hx : Hold} (w : WbOut) (m : FMsg) (s : State) (hk : Good hx s) :
    Good hx (endWb w m s) := by
  unfold endWb
  grind (gen := 24) (splits := 14) (ematch := 20) [Option.map_eq_some_iff]

grind_pattern endWb_good => endWb w m s, Good hx s

theorem endWrNa_good {hx : Hold} (t : Txn) (s : State) (hk : Good hx s) :
    Good hx (endWrNa t s) := by
  unfold endWrNa
  grind (gen := 24) (splits := 14) (ematch := 20) [Option.map_eq_some_iff]

grind_pattern endWrNa_good => endWrNa t s, Good hx s

theorem execCmp_good {hx : Hold} (p : Nat) (lane : Nat) (seq : Nat) (m : FMsg) (s : State) {u₁ : State} (hk : Good hx s) :
    execCmp p lane seq m s = .next u₁ → Good hx u₁ := by
  unfold execCmp
  grind (gen := 24) (splits := 14) (ematch := 20) [→ receive_good]

theorem execRls_good {hx : Hold} (p : Nat) (lane : Nat) (seq : Nat) (m : FMsg) (s : State) {u₁ : State} (hk : Good hx s) :
    execRls p lane seq m s = .next u₁ → Good hx u₁ := by
  unfold execRls
  grind (gen := 24) (splits := 14) (ematch := 20) [→ receive_good]

theorem failReq_good {hx : Hold} (t : Txn) (cause : Nat) (s : State) (hk : Good hx s) :
    Good hx (failReq t cause s) := by
  unfold failReq
  grind (gen := 24) (splits := 14) (ematch := 20)

grind_pattern failReq_good => failReq t cause s, Good hx s

theorem execErr_good {hx : Hold} (p : Nat) (lane : Nat) (seq : Nat) (m : FMsg) (s : State) {u₁ : State} (hk : Good hx s) :
    execErr p lane seq m s = .next u₁ → Good hx u₁ := by
  unfold execErr
  grind (gen := 24) (splits := 14) (ematch := 20) [→ requesterRsp_good]

theorem execAtomRes_good {hx : Hold} (p : Nat) (lane : Nat) (seq : Nat) (m : FMsg) (s : State) {u₁ : State} (hk : Good hx s) :
    execAtomRes p lane seq m s = .next u₁ → Good hx u₁ := by
  unfold execAtomRes
  grind (gen := 24) (splits := 14) (ematch := 20) [→ requesterRsp_good]

theorem execTransitMessage_good {hx : Hold} (p : Nat) (lane : Nat) (seq : Nat) (m : FMsg) (s : State) {u₁ : State} (hk :
    Good hx s) :
    execTransitMessage p lane seq m s = .next u₁ → Good hx u₁ := by
  unfold execTransitMessage
  grind (gen := 24) (splits := 14) (ematch := 20) [→ receive_good]

theorem reqTimeout_good {hx : Hold} (r : ReqOut) (s : State) (hk : Good hx s) :
    Good hx (reqTimeout r s) := by
  unfold reqTimeout
  grind (gen := 24) (splits := 14) (ematch := 20) [→ sendVia_good, Option.map_eq_some_iff]

grind_pattern reqTimeout_good => reqTimeout r s, Good hx s

theorem resendWb_good {hx : Hold} (w : WbOut) (s : State) (hk : Good hx s) :
    Good hx (resendWb w s) := by
  unfold resendWb
  grind (gen := 24) (splits := 14) (ematch := 20) [→ sendVia_good, Option.map_eq_some_iff]

grind_pattern resendWb_good => resendWb w s, Good hx s

theorem wbTimeout_good {hx : Hold} (w : WbOut) (s : State) (hk : Good hx s) :
    Good hx (wbTimeout w s) := by
  unfold wbTimeout
  grind (gen := 24) (splits := 14) (ematch := 20) [→ sendVia_good, Option.map_eq_some_iff]

grind_pattern wbTimeout_good => wbTimeout w s, Good hx s

theorem execFxTimeout_good {hx : Hold} (tid : Nat) (s : State) {u₁ : State} (hk : Good hx s) :
    execFxTimeout tid s = .next u₁ → Good hx u₁ := by
  unfold execFxTimeout
  grind (gen := 24) (splits := 14) (ematch := 20)

theorem respTimeout_good {hx : Hold} (r : HRec) (a : FMsg) (s : State) (hk : Good hx s) :
    Good hx (respTimeout r a s) := by
  unfold respTimeout
  grind (gen := 24) (splits := 14) (ematch := 20)

grind_pattern respTimeout_good => respTimeout r a s, Good hx s

theorem execHomeResponseTimeout_good {hx : Hold} (tid : Nat) (s : State) {u₁ : State} (hk : Good hx s) :
    execHomeResponseTimeout tid s = .next u₁ → Good hx u₁ := by
  unfold execHomeResponseTimeout
  grind (gen := 24) (splits := 14) (ematch := 20)

theorem snpTimeout_good {hx : Hold} (x : SnpOut) (s : State) (hk : Good hx s) :
    Good hx (snpTimeout x s) := by
  unfold snpTimeout
  grind (gen := 24) (splits := 14) (ematch := 20) [Option.map_eq_some_iff]

grind_pattern snpTimeout_good => snpTimeout x s, Good hx s

theorem execHomeSnoopTimeout_good {hx : Hold} (sk : Nat) (dev : Nat) (s : State) {u₁ : State} (hk : Good hx s) :
    execHomeSnoopTimeout sk dev s = .next u₁ → Good hx u₁ := by
  unfold execHomeSnoopTimeout
  grind (gen := 24) (splits := 14) (ematch := 20) [Option.map_eq_some_iff]

theorem tellPend_good {hx : Hold} (t : Txn) (s : State) (hk : Good hx s) :
    Good hx (tellPend t s) := by
  unfold tellPend
  grind (gen := 24) (splits := 14) (ematch := 20)

grind_pattern tellPend_good => tellPend t s, Good hx s

theorem execRspPendInterval_good {hx : Hold} (id : Nat) (s : State) {u₁ : State} (hk : Good hx s) :
    execRspPendInterval id s = .next u₁ → Good hx u₁ := by
  unfold execRspPendInterval
  grind (gen := 24) (splits := 14) (ematch := 20) [Option.map_eq_some_iff]

theorem execDirStallTimeout_good {hx : Hold} (id : Nat) (s : State) {u₁ : State} (hk : Good hx s) :
    execDirStallTimeout id s = .next u₁ → Good hx u₁ := by
  unfold execDirStallTimeout
  grind (gen := 24) (splits := 14) (ematch := 20)

theorem backPump_good {hx : Hold} (s : State) (hk : Good hx s) :
    Good hx (backPump s) := by
  unfold backPump
  grind (gen := 24) (splits := 14) (ematch := 20)

grind_pattern backPump_good => backPump s, Good hx s

theorem handBack_good {hx : Hold} (d : Nat) (s : State) (hk : Good hx s) :
    Good hx (handBack d s) := by
  unfold handBack
  grind (gen := 24) (splits := 14) (ematch := 20) [→ admit_good, Option.map_eq_some_iff]

grind_pattern handBack_good => handBack d s, Good hx s

theorem markPeer_good {hx : Hold} (d : Nat) (s : State) (hk : Good hx s) :
    Good hx (markPeer d s) := by
  unfold markPeer
  grind (gen := 24) (splits := 14) (ematch := 20) [Option.map_eq_some_iff]

grind_pattern markPeer_good => markPeer d s, Good hx s

theorem learnIncarn_good {hx : Hold} (d : Nat) (inc : Nat) (s : State) (hk : Good hx s) :
    Good hx (learnIncarn d inc s) := by
  unfold learnIncarn
  grind (gen := 24) (splits := 14) (ematch := 20)

grind_pattern learnIncarn_good => learnIncarn d inc s, Good hx s

theorem execPeerIncarnationChange_good {hx : Hold} (dev : Nat) (inc : Nat) (s : State) {u₁ : State} (hk : Good hx s) :
    execPeerIncarnationChange dev inc s = .next u₁ → Good hx u₁ := by
  unfold execPeerIncarnationChange
  grind (gen := 24) (splits := 14) (ematch := 20)

theorem execFhbWaitTimeout_good {hx : Hold} (s : State) {u₁ : State} (hk : Good hx s) :
    execFhbWaitTimeout s = .next u₁ → Good hx u₁ := by
  unfold execFhbWaitTimeout
  grind (gen := 24) (splits := 14) (ematch := 20)

theorem fhbForce_good {hx : Hold} (s : State) (hk : Good hx s) :
    Good hx (fhbForce s) := by
  unfold fhbForce
  grind (gen := 24) (splits := 14) (ematch := 20)

grind_pattern fhbForce_good => fhbForce s, Good hx s

/-! ### Machine/Drain.lean -/

theorem packSpring_good {hx : Hold} (src : Nat) (genEnd : Bool) (geyser : Bool) (es : List SprEnt) (s : State) {u₁ :
    State} (hk : Good hx s) :
    packSpring src genEnd geyser es s = some u₁ → Good hx u₁ := by
  unfold packSpring
  grind (gen := 24) (splits := 14) (ematch := 20) [→ packPage_good, Option.map_eq_some_iff]

theorem onCore_good {x : Hold} (c : Nat) (f : Core → Core) (s : State)
    (hf : ∀ k, tblCanon 0 k.ram = true → tblCanon 0 (f k).ram = true) (hc : (f (s.plc.cores.getD c (Core.reset 0))).shape = (s.plc.cores.getD c (Core.reset 0)).shape) (hk : Good x s) :
    Good x (onCore c f s) :=
  onPlc_good _ _ (ramsOk_set c hf) (coresOk_set c hc) hk

grind_pattern onCore_good => onCore c f s, Good x s

/-- A core 0 to 7 that is given four contexts of 32 registers. -/
theorem onCore_put_good {x : Hold} (c : Nat) (hi : c < 8) (f : Core → Core) (s : State)
    (hf : ∀ k, tblCanon 0 k.ram = true → tblCanon 0 (f k).ram = true) (hc : ∀ k, (f k).shape = [32, 32, 32, 32])
    (hk : Good x s) : Good x (onCore c f s) :=
  onPlc_good _ _ (ramsOk_set c hf) (coresOk_put c hi hc) hk

theorem coreCount_le (s : State) : coreCount s ≤ 8 := by
  unfold coreCount
  split <;> decide

theorem packRing_good {hx : Hold} (c : Nat) (s : State) {u₁ : State} (hk : Good hx s) :
    packRing c s = some u₁ → Good hx u₁ := by
  unfold packRing
  grind (gen := 24) (splits := 14) (ematch := 20) [→ packSpring_good, Option.map_eq_some_iff]

theorem flushRings_good {hx : Hold} (s : State) (hk : Good hx s) :
    Good hx (flushRings s) := by
  have H : Good hx (upTo 8 (fun c s => upTo 17 (fun _ s => (packRing c s).getD s) s) s) :=
    upTo_good _ _ _ (fun c x hc => upTo_good _ _ _ (fun _ y hy => getD_good (fun u h => packRing_good _ _ hy h) hy) hc) hk
  unfold flushRings
  dsimp only
  split
  · split
    · exact onPlc_good _ _ id id (packSpring_good _ _ _ _ _ H ‹_›)
    · exact H
  · exact H

grind_pattern flushRings_good => flushRings s, Good hx s

theorem springDone_good {hx : Hold} (r : JRec) (s : State) (hk : Good hx s) :
    Good hx (springDone r s) := by
  unfold springDone
  grind (gen := 24) (splits := 14) (ematch := 20)

grind_pattern springDone_good => springDone r s, Good hx s

theorem tellSquash_good {hx : Hold} (ws : List CtxWait) (s : State) (hk : Good hx s) :
    Good hx (tellSquash ws s) := by
  unfold tellSquash
  grind (gen := 24) (splits := 14) (ematch := 20)

grind_pattern tellSquash_good => tellSquash ws s, Good hx s

theorem stopPlc_good {hx : Hold} (s : State) (hk : Good hx s) :
    Good hx (stopPlc s) := by
  unfold stopPlc
  have ht := tellSquash_good ((s.plc.cores.take 8).flatMap fun c => c.ctxs.map (·.wait)) s hk
  generalize tellSquash ((s.plc.cores.take 8).flatMap fun c => c.ctxs.map (·.wait)) s = s at ht
  refine onPlc_good _ _ (fun h => ?_) (fun h => ?_) ht
  · simp only [ramsOk, List.all_append, List.all_map, Bool.and_eq_true] at h ⊢
    have h' : ((s.plc.cores.take 8 ++ s.plc.cores.drop 8).all fun c => tblCanon 0 c.ram) = true := by
      rw [List.take_append_drop]; exact h
    rw [List.all_append, Bool.and_eq_true] at h'
    exact h'
  · refine Eq.trans (congrArg (· == _) ?_) h
    refine Eq.trans ?_ (congrArg (List.map fun c : Core => c.ctxs.map fun x : Ctx => x.g.length)
      (List.take_append_drop 8 s.plc.cores))
    simp only [List.map_append, List.map_map]
    refine congrArg (· ++ (s.plc.cores.drop 8).map fun c : Core => c.ctxs.map fun x : Ctx => x.g.length) (List.map_congr_left fun c _ => ?_)
    simp only [Function.comp, List.map_map]
    refine List.map_congr_left fun x _ => ?_
    simp only [Function.comp]
    split <;> rfl

grind_pattern stopPlc_good => stopPlc s, Good hx s

theorem holdBanks_good {hx : Hold} (s : State) (hk : Good hx s) :
    Good hx (holdBanks s) := by
  unfold holdBanks
  grind (gen := 24) (splits := 14) (ematch := 20) [Option.map_eq_some_iff]

grind_pattern holdBanks_good => holdBanks s, Good hx s

theorem dropTransfer_good {hx : Hold} (s : State) (hk : Good hx s) :
    Good hx (dropTransfer s) := by
  unfold dropTransfer
  grind (gen := 24) (splits := 14) (ematch := 20)

grind_pattern dropTransfer_good => dropTransfer s, Good hx s

theorem stopWork_good {hx : Hold} (s : State) (hk : Good hx s) :
    Good hx (stopWork s) := by
  unfold stopWork
  grind (gen := 24) (splits := 14) (ematch := 20) [Option.map_eq_some_iff, cchOk]

grind_pattern stopWork_good => stopWork s, Good hx s

theorem beginFence_good {hx : Hold} (trigger : Nat) (banks : Bool) (s : State) (hk : Good hx s) :
    Good hx (beginFence trigger banks s) := by
  unfold beginFence
  grind (gen := 24) (splits := 14) (ematch := 20)

grind_pattern beginFence_good => beginFence trigger banks s, Good hx s

theorem ackPlaced_good {hx : Hold} (t : Txn) (s : State) (hk : Good hx s) :
    Good hx (ackPlaced t s) := by
  unfold ackPlaced
  grind (gen := 24) (splits := 14) (ematch := 20)

grind_pattern ackPlaced_good => ackPlaced t s, Good hx s

theorem placeWay_good {hx : Hold} (t : Txn) (s : State) {u₁ : State} (hk : Good hx s) :
    placeWay t s = some u₁ → Good hx u₁ := by
  unfold placeWay
  grind (gen := 24) (splits := 14) (ematch := 20) [Option.bind_eq_some_iff]

theorem placeNt_good {hx : Hold} (t : Txn) (s : State) {u₁ : State} (hk : Good hx s) :
    placeNt t s = some u₁ → Good hx u₁ := by
  unfold placeNt
  grind (gen := 24) (splits := 14) (ematch := 20)

theorem placeBuf_good {hx : Hold} (t : Txn) (s : State) {u₁ : State} (hk : Good hx s) :
    placeBuf t s = some u₁ → Good hx u₁ := by
  unfold placeBuf
  grind (gen := 24) (splits := 14) (ematch := 20) [Option.map_eq_some_iff]

theorem placeOne_good {hx : Hold} (t : Txn) (s : State) (hk : Good hx s) :
    Good hx (placeOne t s) := by
  unfold placeOne
  split
  · grind (gen := 24) (splits := 14) (ematch := 20) [→ placeBuf_good, → placeNt_good, → placeReturn_good, → placeWay_good]
  · grind (gen := 24) (splits := 14) (ematch := 20) [→ placeBuf_good, → placeNt_good, → placeReturn_good, → placeWay_good]
  · exact getD_good (fun u h => placeNt_good _ _ hk h) hk
  · refine getD_good (fun u h => ?_) hk
    cases h1 : placeWay t s with
    | some v => exact placeWay_good _ _ hk (by rw [h1] at h ⊢; exact h)
    | none =>
      cases h2 : placeNt t s with
      | some v => exact placeNt_good _ _ hk (by rw [h1, h2] at h; rw [h2]; exact h)
      | none => exact placeBuf_good _ _ hk (by rw [h1, h2] at h; exact h)

grind_pattern placeOne_good => placeOne t s, Good hx s

theorem placeAll_good {hx : Hold} (s : State) (hk : Good hx s) :
    Good hx (placeAll s) := by
  unfold placeAll
  grind (gen := 24) (splits := 14) (ematch := 20)

grind_pattern placeAll_good => placeAll s, Good hx s

theorem finishAlu_good {hx : Hold} (s : State) (hk : Good hx s) :
    Good hx (finishAlu s) := by
  unfold finishAlu
  grind (gen := 24) (splits := 14) (ematch := 20)

grind_pattern finishAlu_good => finishAlu s, Good hx s

theorem abandon_good {hx : Hold} (s : State) (hk : Good hx s) :
    Good hx (abandon s) := by
  unfold abandon
  grind (gen := 24) (splits := 14) (ematch := 20) [Option.map_eq_some_iff]

grind_pattern abandon_good => abandon s, Good hx s

theorem drained_good {hx : Hold} (r : JRec) (d : DSrc) (s : State) (hk : Good hx s) :
    Good hx (drained r d s) := by
  unfold drained
  grind (gen := 24) (splits := 14) (ematch := 20) [Option.map_eq_some_iff]

grind_pattern drained_good => drained r d s, Good hx s

theorem packItems_good {hx : Hold} (is : List (JRec × DSrc)) (s : State) (hk : Good hx s) :
    Good hx (packItems is s) := by
  unfold packItems
  refine foldlt_good _ _ (0, true, s) (fun x p hp => ?_) hk
  dsimp only
  split
  · split
    · exact eachIn_good _ _ _ (fun i y hy => drained_good _ _ _ hy) (packPage_good _ _ _ _ hp ‹_›)
    · exact hp
  · exact hp

grind_pattern packItems_good => packItems is s, Good hx s

theorem snapDone_good {hx : Hold} (r : JRec) (s : State) (hk : Good hx s) :
    Good hx (snapDone r s) := by
  unfold snapDone
  grind (gen := 24) (splits := 14) (ematch := 20) [Option.map_eq_some_iff]

grind_pattern snapDone_good => snapDone r s, Good hx s

theorem packClose_good {hx : Hold} (s : State) {u₁ : State} (hk : Good hx s) :
    packClose s = some u₁ → Good hx u₁ := by
  unfold packClose
  grind (gen := 24) (splits := 14) (ematch := 20) [→ packOn_good, Option.bind_eq_some_iff]

theorem setDrain_good {hx : Hold} (n : Nat) (s : State) (hk : Good hx s) :
    Good hx (setDrain n s) := by
  unfold setDrain
  grind (gen := 24) (splits := 14) (ematch := 20)

grind_pattern setDrain_good => setDrain n s, Good hx s

theorem drainStep_good {hx : Hold} (s : State) (hk : Good hx s) :
    Good hx (drainStep s) := by
  unfold drainStep
  split
  · have hd := draw_good s hk (Prod.eta _).symm
    have h2 : ∀ is y, Good hx y → Good hx (packItems is y) := fun is y hy => packItems_good is y hy
    dsimp only
    refine ite_good (setDrain_good _ _ ?_) ?_
    all_goals exact ite_good (h2 _ _ (h2 _ _ (placeAll_good _ hd))) (h2 _ _ (placeAll_good _ hd))
  all_goals grind (gen := 24) (splits := 14) (ematch := 20) [→ appendRecs_good, → draw_good, → packClose_good, →
      packSpring_good, → startCkpt_good]

grind_pattern drainStep_good => drainStep s, Good hx s

theorem drainPump_good {hx : Hold} (s : State) (hk : Good hx s) :
    Good hx (drainPump s) := by
  unfold drainPump
  grind (gen := 24) (splits := 14) (ematch := 20)

grind_pattern drainPump_good => drainPump s, Good hx s

theorem endFence_good {hx : Hold} (s : State) (hk : Good hx s) :
    Good hx (endFence s) := by
  unfold endFence
  grind (gen := 24) (splits := 14) (ematch := 20) [Option.map_eq_some_iff]

grind_pattern endFence_good => endFence s, Good hx s

theorem absorbWr_good {hx : Hold} (w : WireWr) (s : State) (hk : Good hx s) :
    Good hx (absorbWr w s) := by
  unfold absorbWr
  grind (gen := 24) (splits := 14) (ematch := 20)

grind_pattern absorbWr_good => absorbWr w s, Good hx s

theorem after_good {x : Hold} (r : Res) (s : State) (h : ∀ u, r = .next u → Good x u) (hk : Good x s) :
    Good x (after r s) := by
  unfold after
  split
  · exact h _ rfl
  · exact hk

theorem absorbMsg_good {hx : Hold} (w : WireMsg) (s : State) (hk : Good hx s) :
    Good hx (absorbMsg w s) := by
  unfold absorbMsg
  dsimp only
  repeat' with_reducible refine ite_good ?_ ?_
  all_goals first
    | exact hk
    | refine after_good _ _ (fun u h => ?_) hk
  all_goals grind (gen := 24) (splits := 14) (ematch := 20) [→ execAck_good, → execCmp_good, → execData_good, →
      execFhb_good, → execGnt_good, → execRls_good, → execRspFwd_good, → execRspI_good, → execRspMiss_good, →
      execRspS_good, → execSnpCur_good, → execSnpInv_good, → execSnpS_good, → execSnpdata_good, → execTransitMessage_good,
      → execWb_good]

grind_pattern absorbMsg_good => absorbMsg w s, Good hx s

theorem fenceTicks_good {hx : Hold} (s : State) (hk : Good hx s) :
    Good hx (fenceTicks s) := by
  unfold fenceTicks
  grind (gen := 24) (splits := 14) (ematch := 20)

grind_pattern fenceTicks_good => fenceTicks s, Good hx s

theorem cutTick_good {hx : Hold} (s : State) (hk : Good hx s) :
    Good hx (cutTick s) := by
  unfold cutTick
  grind (gen := 24) (splits := 14) (ematch := 20)

grind_pattern cutTick_good => cutTick s, Good hx s

theorem fence_good {hx : Hold} (trigger : Nat) (banks : Bool) (wires : List WireWr) (msgs : List WireMsg) (s : State) (hk
    : Good hx s) :
    Good hx (fence trigger banks wires msgs s) := by
  unfold fence
  grind (gen := 24) (splits := 14) (ematch := 20)

grind_pattern fence_good => fence trigger banks wires msgs s, Good hx s

theorem recDone_good {hx : Hold} (r : JRec) (s : State) (hk : Good hx s) :
    Good hx (recDone r s) := by
  unfold recDone
  grind (gen := 24) (splits := 14) (ematch := 20) [Option.map_eq_some_iff]

grind_pattern recDone_good => recDone r s, Good hx s

theorem finishPage_good {hx : Hold} (pseq : Nat) (s : State) (hk : Good hx s) :
    Good hx (finishPage pseq s) := by
  unfold finishPage
  grind (gen := 24) (splits := 14) (ematch := 20)

grind_pattern finishPage_good => finishPage pseq s, Good hx s

theorem finishDone_good {hx : Hold} (s : State) (hk : Good hx s) :
    Good hx (finishDone s) := by
  unfold finishDone
  grind (gen := 24) (splits := 14) (ematch := 20) [Option.map_eq_some_iff]

grind_pattern finishDone_good => finishDone s, Good hx s

theorem execCleanQueueApply_good {hx : Hold} (s : State) {u₁ : State} (hk : Good hx s) :
    execCleanQueueApply s = .next u₁ → Good hx u₁ := by
  unfold execCleanQueueApply
  grind (gen := 24) (splits := 14) (ematch := 20)

theorem trip_good {hx : Hold} (trigger : Nat) (wires : List WireWr) (msgs : List WireMsg) (s : State) (hk : Good hx s) :
    Good hx (trip trigger wires msgs s) := by
  unfold trip
  grind (gen := 24) (splits := 14) (ematch := 20)

grind_pattern trip_good => trip trigger wires msgs s, Good hx s

theorem powerLapse_good {hx : Hold} (s : State) (hk : Good hx s) :
    Good hx (powerLapse s) := by
  unfold powerLapse
  grind (gen := 24) (splits := 14) (ematch := 20) [Out.allowed]

grind_pattern powerLapse_good => powerLapse s, Good hx s

theorem execPwrfailNAssert_good {hx : Hold} (wires : List WireWr) (msgs : List WireMsg) (s : State) {u₁ : State} (hk :
    Good hx s) :
    execPwrfailNAssert wires msgs s = .next u₁ → Good hx u₁ := by
  unfold execPwrfailNAssert
  grind (gen := 24) (splits := 14) (ematch := 20)

theorem execBusTrip_good {hx : Hold} (wires : List WireWr) (msgs : List WireMsg) (s : State) {u₁ : State} (hk : Good hx s) :
    execBusTrip wires msgs s = .next u₁ → Good hx u₁ := by
  unfold execBusTrip
  grind (gen := 24) (splits := 14) (ematch := 20)

theorem execPowerFailGlitch_good {hx : Hold} (s : State) {u₁ : State} (hk : Good hx s) :
    execPowerFailGlitch s = .next u₁ → Good hx u₁ := by
  unfold execPowerFailGlitch
  grind (gen := 24) (splits := 14) (ematch := 20)

/-! ### Machine/Create.lean -/

theorem admitSet_good {hx : Hold} (s : State) (hk : Good hx s) :
    Good hx (admitSet s) := by
  unfold admitSet
  grind (gen := 24) (splits := 14) (ematch := 20) [Option.map_eq_some_iff]

grind_pattern admitSet_good => admitSet s, Good hx s

theorem makeSend_good {hx : Hold} (m : MSet) (x : Nat × Nat) (s : State) (hk : Good hx s) :
    Good hx (makeSend m x s) := by
  unfold makeSend
  grind (gen := 24) (splits := 14) (ematch := 20)

grind_pattern makeSend_good => makeSend m x s, Good hx s

theorem makePump_good {hx : Hold} (s : State) (hk : Good hx s) :
    Good hx (makePump s) := by
  unfold makePump
  grind (gen := 24) (splits := 14) (ematch := 20)

grind_pattern makePump_good => makePump s, Good hx s

theorem createSet_good {hx : Hold} (host : Option Nat) (s : State) {u₁ : State} (hk : Good hx s) :
    createSet host s = some u₁ → Good hx u₁ := by
  intro h
  unfold createSet at h
  simp only [Option.map_eq_some_iff] at h
  obtain ⟨m, -, rfl⟩ := h
  have h1 : Good hx (draw s).2 := draw_good s hk (Prod.eta _).symm
  have h2 : Good hx (drawKey (draw s).2).2 := drawKey_good _ h1 (Prod.eta _).symm
  exact makePump_good _ (onJrnl_good _ _ (onSec_good _ _ (onMedia_good _ _ (fun _ => rfl) (fun _ => rfl) h2)))

theorem relabel_good {hx : Hold} (m : MSet) (s : State) (hk : Good hx s) :
    Good hx (relabel m s) := by
  refine hk.of rfl rfl id fun h => ?_
  simp only [State.memWf, State.shapeOk, relabel, Bool.and_eq_true, beq_iff_eq, List.length_map, List.length_zipIdx] at h ⊢
  exact h

grind_pattern relabel_good => relabel m s, Good hx s

theorem putPages_good {hx : Hold} (m : MSet) (from_ : Nat) (s : State) (hk : Good hx s) :
    Good hx (putPages m from_ s) := by
  unfold putPages
  exact onMedia_good _ _ (tblWf_foldPut _ _ _) id hk

grind_pattern putPages_good => putPages m from_ s, Good hx s

theorem stepDone_good {hx : Hold} (c : Creation) (s : State) (hk : Good hx s) :
    Good hx (stepDone c s) := by
  unfold stepDone
  grind (gen := 24) (splits := 14) (ematch := 20)

grind_pattern stepDone_good => stepDone c s, Good hx s

theorem makeDone_good {hx : Hold} (ns : Nat) (lba : Nat) (s : State) (hk : Good hx s) :
    Good hx (makeDone ns lba s) := by
  unfold makeDone
  grind (gen := 24) (splits := 14) (ematch := 20)

grind_pattern makeDone_good => makeDone ns lba s, Good hx s

theorem makeFail_good {hx : Hold} (p : Nat) (s : State) (hk : Good hx s) :
    Good hx (makeFail p s) := by
  unfold makeFail
  grind (gen := 24) (splits := 14) (ematch := 20) [Option.map_eq_some_iff]

grind_pattern makeFail_good => makeFail p s, Good hx s

theorem makeEnd_good {hx : Hold} (s : State) (hk : Good hx s) :
    Good hx (makeEnd s) := by
  unfold makeEnd
  grind (gen := 24) (splits := 14) (ematch := 20)

grind_pattern makeEnd_good => makeEnd s, Good hx s

/-! ### Machine/MediaIo.lean -/

theorem mediaOn_good {hx : Hold} (s : State) (hk : Good hx s) :
    Good hx (mediaOn s) := by
  unfold mediaOn
  grind (gen := 24) (splits := 14) (ematch := 20)

grind_pattern mediaOn_good => mediaOn s, Good hx s

theorem onCmd_good {hx : Hold} (cid : Nat) (f : Cmd → Cmd) (s : State) (hk : Good hx s) :
    Good hx (onCmd cid f s) := by
  unfold onCmd
  grind (gen := 24) (splits := 14) (ematch := 20) [Option.map_eq_some_iff]

grind_pattern onCmd_good => onCmd cid f s, Good hx s

theorem reissue_good {hx : Hold} (c : Cmd) (s : State) (hk : Good hx s) :
    Good hx (reissue c s) := by
  unfold reissue
  grind (gen := 24) (splits := 14) (ematch := 20) [Out.allowed, nvmeOp]

grind_pattern reissue_good => reissue c s, Good hx s

theorem dropSpec_good {hx : Hold} (cid : Nat) (s : State) (hk : Good hx s) :
    Good hx (dropSpec cid s) := by
  unfold dropSpec
  grind (gen := 24) (splits := 14) (ematch := 20) [Option.map_eq_some_iff]

grind_pattern dropSpec_good => dropSpec cid s, Good hx s

theorem fillRead_good {hx : Hold} (c : Cmd) (id : Nat) (gen : Nat) (ok : Bool) (s : State) (hk : Good hx s) :
    Good hx (fillRead c id gen ok s) := by
  unfold fillRead
  grind (gen := 24) (splits := 14) (ematch := 20)

grind_pattern fillRead_good => fillRead c id gen ok s, Good hx s

theorem readDone_good {hx : Hold} (c : Cmd) (ok : Bool) (s : State) (hk : Good hx s) :
    Good hx (readDone c ok s) := by
  unfold readDone
  grind (gen := 24) (splits := 14) (ematch := 20)

grind_pattern readDone_good => readDone c ok s, Good hx s

theorem endCmd_good {hx : Hold} (c : Cmd) (read : Bool) (ok : Bool) (s : State) (hk : Good hx s) :
    Good hx (endCmd c read ok s) := by
  unfold endCmd
  grind (gen := 24) (splits := 14) (ematch := 20)

grind_pattern endCmd_good => endCmd c read ok s, Good hx s

theorem execMediaReadCompletion_good {hx : Hold} (cid : Nat) (out : MOut) (s : State) {u₁ : State} (hk : Good hx s) :
    execMediaReadCompletion cid out s = .next u₁ → Good hx u₁ := by
  unfold execMediaReadCompletion
  grind (gen := 24) (splits := 14) (ematch := 20)

theorem pageDone_good {hx : Hold} (c : Cmd) (ok : Bool) (s : State) (hk : Good hx s) :
    Good hx (pageDone c ok s) := by
  unfold pageDone
  grind (gen := 24) (splits := 14) (ematch := 20) [→ submit_good]

grind_pattern pageDone_good => pageDone c ok s, Good hx s

theorem sumAgain_good {hx : Hold} (c : Cmd) (ns : Nat) (g : Nat) (s : State) (hk : Good hx s) :
    Good hx (sumAgain c ns g s) := by
  unfold sumAgain
  grind (gen := 24) (splits := 14) (ematch := 20)

grind_pattern sumAgain_good => sumAgain c ns g s, Good hx s

theorem makeOn_good {hx : Hold} (c : Cmd) (out : MOut) (s : State) (hk : Good hx s) :
    Good hx (makeOn c out s) := by
  unfold makeOn
  grind (gen := 24) (splits := 14) (ematch := 20)

grind_pattern makeOn_good => makeOn c out s, Good hx s

theorem labelDone_good {hx : Hold} (c : Cmd) (s : State) (hk : Good hx s) :
    Good hx (labelDone c s) := by
  unfold labelDone
  grind (gen := 24) (splits := 14) (ematch := 20)

grind_pattern labelDone_good => labelDone c s, Good hx s

theorem execSinterHomeWriteDone_good {hx : Hold} (cid : Nat) (out : MOut) (s : State) {u₁ : State} (hk : Good hx s) :
    execSinterHomeWriteDone cid out s = .next u₁ → Good hx u₁ := by
  unfold execSinterHomeWriteDone
  grind (gen := 24) (splits := 14) (ematch := 20)

theorem cmdTimeout_good {hx : Hold} (c : Cmd) (s : State) (hk : Good hx s) :
    Good hx (cmdTimeout c s) := by
  unfold cmdTimeout
  grind (gen := 24) (splits := 14) (ematch := 20) [Out.allowed]

grind_pattern cmdTimeout_good => cmdTimeout c s, Good hx s

theorem abortTimeout_good {hx : Hold} (c : Cmd) (s : State) (hk : Good hx s) :
    Good hx (abortTimeout c s) := by
  unfold abortTimeout
  grind (gen := 24) (splits := 14) (ematch := 20) [Option.map_eq_some_iff, Out.allowed]

grind_pattern abortTimeout_good => abortTimeout c s, Good hx s

theorem execMedCmdTimeout_good {hx : Hold} (cid : Nat) (s : State) {u₁ : State} (hk : Good hx s) :
    execMedCmdTimeout cid s = .next u₁ → Good hx u₁ := by
  unfold execMedCmdTimeout
  grind (gen := 24) (splits := 14) (ematch := 20) [Out.allowed]

theorem execMedAbortTimeout_good {hx : Hold} (cid : Nat) (s : State) {u₁ : State} (hk : Good hx s) :
    execMedAbortTimeout cid s = .next u₁ → Good hx u₁ := by
  unfold execMedAbortTimeout
  grind (gen := 24) (splits := 14) (ematch := 20) [Option.map_eq_some_iff, Out.allowed]

theorem ctlBack_good {hx : Hold} (p : Nat) (s : State) (hk : Good hx s) :
    Good hx (ctlBack p s) := by
  unfold ctlBack
  grind (gen := 24) (splits := 14) (ematch := 20) [Out.allowed]

grind_pattern ctlBack_good => ctlBack p s, Good hx s

theorem failCmd_good {hx : Hold} (c : Cmd) (s : State) (hk : Good hx s) :
    Good hx (failCmd c s) := by
  unfold failCmd
  grind (gen := 24) (splits := 14) (ematch := 20)

grind_pattern failCmd_good => failCmd c s, Good hx s

theorem portLost_good {hx : Hold} (p : Nat) (s : State) (hk : Good hx s) :
    Good hx (portLost p s) := by
  unfold portLost
  grind (gen := 24) (splits := 14) (ematch := 20) [Option.map_eq_some_iff]

grind_pattern portLost_good => portLost p s, Good hx s

theorem cmdCfg_good {hx : Hold} (s : State) (hk : Good hx s) :
    Good hx (cmdCfg s) := by
  unfold cmdCfg
  grind (gen := 24) (splits := 14) (ematch := 20) [Option.map_eq_some_iff]

grind_pattern cmdCfg_good => cmdCfg s, Good hx s

theorem jrnlCfg_good {hx : Hold} (s : State) (hk : Good hx s) :
    Good hx (jrnlCfg s) := by
  unfold jrnlCfg
  split
  · cases h : startCkpt s with
    | none => exact settle_good _ hk
    | some t => exact settle_good _ (startCkpt_good _ hk h)
  · exact settle_good _ hk

grind_pattern jrnlCfg_good => jrnlCfg s, Good hx s

theorem polled_good {hx : Hold} (p : Nat) (s : State) (hk : Good hx s) :
    Good hx (polled p s) := by
  unfold polled
  grind (gen := 24) (splits := 14) (ematch := 20)

grind_pattern polled_good => polled p s, Good hx s

theorem health_good {hx : Hold} (p : Nat) (warn : Bool) (used : Nat) (s : State) (hk : Good hx s) :
    Good hx (health p warn used s) := by
  unfold health
  grind (gen := 24) (splits := 14) (ematch := 20)

grind_pattern health_good => health p warn used s, Good hx s

theorem execSmartPoll_good {hx : Hold} (p : Nat) (warn : Bool) (used : Nat) (s : State) {u₁ : State} (hk : Good hx s) :
    execSmartPoll p warn used s = .next u₁ → Good hx u₁ := by
  unfold execSmartPoll
  grind (gen := 24) (splits := 14) (ematch := 20)

theorem execNvmeAsyncEvent_good {hx : Hold} (p : Nat) (warn : Bool) (used : Nat) (s : State) {u₁ : State} (hk : Good hx s) :
    execNvmeAsyncEvent p warn used s = .next u₁ → Good hx u₁ := by
  unfold execNvmeAsyncEvent
  grind (gen := 24) (splits := 14) (ematch := 20)

/-! ### Machine/Reserve.lean -/

theorem onBank_good {hx : Hold} (n : Nat) (f : Bank → Bank) (s : State) (hk : Good hx s) :
    Good hx (onBank n f s) := by
  unfold onBank
  grind (gen := 24) (splits := 14) (ematch := 20)

grind_pattern onBank_good => onBank n f s, Good hx s

theorem retarget_good {hx : Hold} (n : Nat) (s : State) (hk : Good hx s) :
    Good hx (retarget n s) := by
  unfold retarget
  grind (gen := 24) (splits := 14) (ematch := 20)

grind_pattern retarget_good => retarget n s, Good hx s

theorem isolate_good {hx : Hold} (n : Nat) (f : BankFault) (s : State) (hk : Good hx s) :
    Good hx (isolate n f s) := by
  unfold isolate
  grind (gen := 24) (splits := 14) (ematch := 20)

grind_pattern isolate_good => isolate n f s, Good hx s

theorem disableBank_good {hx : Hold} (n : Nat) (s : State) (hk : Good hx s) :
    Good hx (disableBank n s) := by
  unfold disableBank
  grind (gen := 24) (splits := 14) (ematch := 20)

grind_pattern disableBank_good => disableBank n s, Good hx s

theorem bankOn_good {hx : Hold} (s : State) (hk : Good hx s) :
    Good hx (bankOn s) := by
  unfold bankOn
  grind (gen := 24) (splits := 14) (ematch := 20)

grind_pattern bankOn_good => bankOn s, Good hx s

theorem execBankPresentDebounce_good {hx : Hold} (n : Nat) (s : State) {u₁ : State} (hk : Good hx s) :
    execBankPresentDebounce n s = .next u₁ → Good hx u₁ := by
  unfold execBankPresentDebounce
  grind (gen := 24) (splits := 14) (ematch := 20)

theorem execBankFaultIsolate_good {hx : Hold} (n : Nat) (f : BankFault) (s : State) {u₁ : State} (hk : Good hx s) :
    execBankFaultIsolate n f s = .next u₁ → Good hx u₁ := by
  unfold execBankFaultIsolate
  grind (gen := 24) (splits := 14) (ematch := 20)

theorem execBankCapMeasure_good {hx : Hold} (n : Nat) (cap : Nat) (s : State) {u₁ : State} (hk : Good hx s) :
    execBankCapMeasure n cap s = .next u₁ → Good hx u₁ := by
  unfold execBankCapMeasure
  grind (gen := 24) (splits := 14) (ematch := 20)

theorem execBankChargeDone_good {hx : Hold} (n : Nat) (s : State) {u₁ : State} (hk : Good hx s) :
    execBankChargeDone n s = .next u₁ → Good hx u₁ := by
  unfold execBankChargeDone
  grind (gen := 24) (splits := 14) (ematch := 20)

theorem execBankRechargeThreshold_good {hx : Hold} (n : Nat) (s : State) {u₁ : State} (hk : Good hx s) :
    execBankRechargeThreshold n s = .next u₁ → Good hx u₁ := by
  unfold execBankRechargeThreshold
  grind (gen := 24) (splits := 14) (ematch := 20)

theorem dischargeBank_good {hx : Hold} (n : Nat) (s : State) (hk : Good hx s) :
    Good hx (dischargeBank n s) := by
  unfold dischargeBank
  grind (gen := 24) (splits := 14) (ematch := 20)

grind_pattern dischargeBank_good => dischargeBank n s, Good hx s

theorem rechargeBank_good {hx : Hold} (n : Nat) (s : State) (hk : Good hx s) :
    Good hx (rechargeBank n s) := by
  unfold rechargeBank
  grind (gen := 24) (splits := 14) (ematch := 20)

grind_pattern rechargeBank_good => rechargeBank n s, Good hx s

theorem tellWaiters_good {hx : Hold} (n : Nat) (s : State) (hk : Good hx s) :
    Good hx (tellWaiters n s) := by
  unfold tellWaiters
  grind (gen := 24) (splits := 14) (ematch := 20) [Option.map_eq_some_iff]

grind_pattern tellWaiters_good => tellWaiters n s, Good hx s

theorem execBankDischargeDone_good {hx : Hold} (n : Nat) (s : State) {u₁ : State} (hk : Good hx s) :
    execBankDischargeDone n s = .next u₁ → Good hx u₁ := by
  unfold execBankDischargeDone
  grind (gen := 24) (splits := 14) (ematch := 20)

theorem execBankDischargeTimeout_good {hx : Hold} (n : Nat) (s : State) {u₁ : State} (hk : Good hx s) :
    execBankDischargeTimeout n s = .next u₁ → Good hx u₁ := by
  unfold execBankDischargeTimeout
  grind (gen := 24) (splits := 14) (ematch := 20)

theorem reserveCtl_good {hx : Hold} (p : Nat) (rsv : Nat) (f : State → State) (s : State) {u₁ : State} (hf : ∀ z, Good hx
    z → Good hx (f z)) (hk : Good hx s) :
    reserveCtl p rsv f s = .next u₁ → Good hx u₁ := by
  unfold reserveCtl
  grind (gen := 24) (splits := 14) (ematch := 20) [→ mbox_good]

theorem execReserveArm_good {hx : Hold} (p : Nat) (rsv : Nat) (s : State) {u₁ : State} (hk : Good hx s) :
    execReserveArm p rsv s = .next u₁ → Good hx u₁ := by
  unfold execReserveArm
  grind (gen := 24) (splits := 14) (ematch := 20) [→ reserveCtl_good]

theorem execReserveDisarm_good {hx : Hold} (p : Nat) (rsv : Nat) (s : State) {u₁ : State} (hk : Good hx s) :
    execReserveDisarm p rsv s = .next u₁ → Good hx u₁ := by
  unfold execReserveDisarm
  grind (gen := 24) (splits := 14) (ematch := 20) [→ reserveCtl_good]

theorem execReserveDischarge_good {hx : Hold} (p : Nat) (banks : Nat) (rsv : Nat) (s : State) {u₁ : State} (hk : Good hx s) :
    execReserveDischarge p banks rsv s = .next u₁ → Good hx u₁ := by
  unfold execReserveDischarge
  grind (gen := 24) (splits := 14) (ematch := 20) [→ reserveCtl_good]

theorem execReserveRecharge_good {hx : Hold} (p : Nat) (banks : Nat) (rsv : Nat) (s : State) {u₁ : State} (hk : Good hx s) :
    execReserveRecharge p banks rsv s = .next u₁ → Good hx u₁ := by
  unfold execReserveRecharge
  grind (gen := 24) (splits := 14) (ematch := 20) [→ reserveCtl_good]

theorem rsvFault_good {hx : Hold} (f : RsvFault) (s : State) (hk : Good hx s) :
    Good hx (rsvFault f s) := by
  unfold rsvFault
  grind (gen := 24) (splits := 14) (ematch := 20)

grind_pattern rsvFault_good => rsvFault f s, Good hx s

theorem execRsvGateFault_good {hx : Hold} (s : State) {u₁ : State} (hk : Good hx s) :
    execRsvGateFault s = .next u₁ → Good hx u₁ := by
  unfold execRsvGateFault
  grind (gen := 24) (splits := 14) (ematch := 20)

theorem execRsvNoBankFault_good {hx : Hold} (s : State) {u₁ : State} (hk : Good hx s) :
    execRsvNoBankFault s = .next u₁ → Good hx u₁ := by
  unfold execRsvNoBankFault
  grind (gen := 24) (splits := 14) (ematch := 20)

theorem execRsvFaultClear_good {hx : Hold} (f : RsvFault) (s : State) {u₁ : State} (hk : Good hx s) :
    execRsvFaultClear f s = .next u₁ → Good hx u₁ := by
  unfold execRsvFaultClear
  grind (gen := 24) (splits := 14) (ematch := 20)

theorem latchBanks_good {hx : Hold} (adc : List Adc) (s : State) (hk : Good hx s) :
    Good hx (latchBanks adc s) := by
  unfold latchBanks
  grind (gen := 24) (splits := 14) (ematch := 20) [Option.map_eq_some_iff]

grind_pattern latchBanks_good => latchBanks adc s, Good hx s

theorem calStart_good {hx : Hold} (s : State) (hk : Good hx s) :
    Good hx (calStart s) := by
  unfold calStart
  grind (gen := 24) (splits := 14) (ematch := 20)

grind_pattern calStart_good => calStart s, Good hx s

theorem calAbort_good {hx : Hold} (s : State) (hk : Good hx s) :
    Good hx (calAbort s) := by
  unfold calAbort
  grind (gen := 24) (splits := 14) (ematch := 20)

grind_pattern calAbort_good => calAbort s, Good hx s

theorem execCalWritebackTimeout_good {hx : Hold} (s : State) {u₁ : State} (hk : Good hx s) :
    execCalWritebackTimeout s = .next u₁ → Good hx u₁ := by
  unfold execCalWritebackTimeout
  grind (gen := 24) (splits := 14) (ematch := 20)

theorem testPages_good {hx : Hold} (s : State) (hk : Good hx s) :
    Good hx (testPages s) := by
  unfold testPages
  grind (gen := 24) (splits := 14) (ematch := 20)

grind_pattern testPages_good => testPages s, Good hx s

theorem execCalDrainDone_good {hx : Hold} (bw : Nat) (pwr : Nat) (s : State) {u₁ : State} (hk : Good hx s) :
    execCalDrainDone bw pwr s = .next u₁ → Good hx u₁ := by
  unfold execCalDrainDone
  grind (gen := 24) (splits := 14) (ematch := 20) [Option.map_eq_some_iff]

/-! ### Machine/Channels.lean -/

theorem scrubParity_good {hx : Hold} (k : Nat) (sl : List (Option Nat)) (s : State) (hk : Good hx s) :
    Good hx (scrubParity k sl s) := by
  unfold scrubParity
  dsimp only
  grind (gen := 24) (splits := 14) (ematch := 20)

grind_pattern scrubParity_good => scrubParity k sl s, Good hx s

theorem scrubWay_good {hx : Hold} (set : Nat) (w : Nat) (rd : Rd) (s : State) (hk : Good hx s) :
    Good hx (scrubWay set w rd s) := by
  unfold scrubWay
  grind (gen := 24) (splits := 14) (ematch := 20) [cchOk, → readSlices_good]

grind_pattern scrubWay_good => scrubWay set w rd s, Good hx s

theorem execScrubSlot_good {hx : Hold} (c : Nat) (rds : List Rd) (s : State) {u₁ : State} (hk : Good hx s) :
    execScrubSlot c rds s = .next u₁ → Good hx u₁ := by
  unfold execScrubSlot
  grind (gen := 24) (splits := 14) (ematch := 20)

theorem execQuarantineRewrite_good {hx : Hold} (k : Nat) (s : State) {u₁ : State} (hk : Good hx s) :
    execQuarantineRewrite k s = .next u₁ → Good hx u₁ := by
  unfold execQuarantineRewrite
  grind (gen := 24) (splits := 14) (ematch := 20)

theorem execRefreshInterval_good {hx : Hold} (c : Nat) (s : State) {u₁ : State} (hk : Good hx s) :
    execRefreshInterval c s = .next u₁ → Good hx u₁ := by
  unfold execRefreshInterval
  grind (gen := 24) (splits := 14) (ematch := 20) [Out.allowed]

theorem execThermalPoll_good {hx : Hold} (c : Nat) (temp : Nat) (s : State) {u₁ : State} (hk : Good hx s) :
    execThermalPoll c temp s = .next u₁ → Good hx u₁ := by
  unfold execThermalPoll
  grind (gen := 24) (splits := 14) (ematch := 20) [cchOk]

theorem chanLost_good {hx : Hold} (c : Nat) (s : State) (hk : Good hx s) :
    Good hx (chanLost c s) := by
  unfold chanLost
  grind (gen := 24) (splits := 14) (ematch := 20) [cchOk]

grind_pattern chanLost_good => chanLost c s, Good hx s

theorem execChannelFailDetect_good {hx : Hold} (c : Nat) (s : State) {u₁ : State} (hk : Good hx s) :
    execChannelFailDetect c s = .next u₁ → Good hx u₁ := by
  unfold execChannelFailDetect
  grind (gen := 24) (splits := 14) (ematch := 20) [cchOk]

theorem execResilverSetCopy_good {hx : Hold} (p : Nat) (dropped : Bool) (s : State) {u₁ : State} (hk : Good hx s) :
    execResilverSetCopy p dropped s = .next u₁ → Good hx u₁ := by
  unfold execResilverSetCopy
  grind (gen := 24) (splits := 14) (ematch := 20) [cchOk]

/-! ### Machine/Retain.lean -/

theorem putHmap_good {hx : Hold} (w : Nat) (e : HmapE) (s : State) (hk : Good hx s) :
    Good hx (putHmap w e s) := by
  unfold putHmap
  grind (gen := 24) (splits := 14) (ematch := 20)

grind_pattern putHmap_good => putHmap w e s, Good hx s

theorem putAssign_good {hx : Hold} (i : Nat) (v : Nat) (s : State) (hk : Good hx s) :
    Good hx (putAssign i v s) := by
  unfold putAssign
  grind (gen := 24) (splits := 14) (ematch := 20) [Io.ok]

grind_pattern putAssign_good => putAssign i v s, Good hx s

theorem putEset_good {hx : Hold} (i : Nat) (v : Nat) (s : State) (hk : Good hx s) :
    Good hx (putEset i v s) := by
  unfold putEset
  grind (gen := 24) (splits := 14) (ematch := 20) [Io.ok]

grind_pattern putEset_good => putEset i v s, Good hx s

theorem nvApply_good {hx : Hold} (a : Nat) (v : Nat) (s : State) (hk : Good hx s) :
    Good hx (nvApply a v s) := by
  unfold nvApply
  grind (gen := 24) (splits := 14) (ematch := 20) [putReg_ok]

grind_pattern nvApply_good => nvApply a v s, Good hx s

theorem replayNvm_good {hx : Hold} (new : List NvHit) (s : State) (hk : Good hx s) :
    Good hx (replayNvm new s) := by
  have io : ∀ t : State, Good hx t →
      Good hx ({ onHpt (fun h => { h with hmap := [] }) t with io := { t.io with assign := [], eset := [] } } : State) :=
    fun t h => h.of rfl rfl id id
  unfold replayNvm
  dsimp only
  have h1 := fun (f : Nvm → Nvm) => io _ (onNv_good f s hk)
  have h2 := fun (f : Nvm → Nvm) (n : Nat) =>
    ite_good (c := n = 0) (h1 f) (raise_good Ev.nvBenign 0 0 _ (rcCount_good Reg.MGT_NV_STS 7 0 n _ (h1 f)))
  split
  · exact raise_good _ _ _ _ (rcFlag_good _ _ _ (ite_good (raise_good _ _ _ _ (rcFlag_good _ _ _ (h2 _ _))) (h2 _ _)))
  · exact eachIn_good _ _ _ (fun e y hy => nvApply_good _ _ _ hy) (rcCount_good _ _ _ _ _ (onNv_good _ _
      (ite_good (raise_good _ _ _ _ (rcFlag_good _ _ _ (h2 _ _))) (h2 _ _))))

grind_pattern replayNvm_good => replayNvm new s, Good hx s

theorem startStore_good {hx : Hold} (recs : List (Nat × Nat × Nat)) (stage : Option Nat) (s : State) (hk : Good hx s) :
    Good hx (startStore recs stage s) := by
  unfold startStore
  grind (gen := 24) (splits := 14) (ematch := 20)

grind_pattern startStore_good => startStore recs stage s, Good hx s

theorem cfgStore_good {hx : Hold} (s : State) (hk : Good hx s) :
    Good hx (cfgStore s) := by
  unfold cfgStore
  grind (gen := 24) (splits := 14) (ematch := 20)

grind_pattern cfgStore_good => cfgStore s, Good hx s

theorem cfgFactory_good {hx : Hold} (m : Master) (s : State) (hk : Good hx s) :
    Good hx (cfgFactory m s) := by
  unfold cfgFactory
  grind (gen := 24) (splits := 14) (ematch := 20)

grind_pattern cfgFactory_good => cfgFactory m s, Good hx s

theorem execFactoryArmExpire_good {hx : Hold} (s : State) {u₁ : State} (hk : Good hx s) :
    execFactoryArmExpire s = .next u₁ → Good hx u₁ := by
  unfold execFactoryArmExpire
  grind (gen := 24) (splits := 14) (ematch := 20)

theorem writeImage_good {hx : Hold} (image : List (Nat × Nat × Nat)) (factory : Bool) (s : State) (hk : Good hx s) :
    Good hx (writeImage image factory s) := by
  unfold writeImage
  grind (gen := 24) (splits := 14) (ematch := 20) [Option.map_eq_some_iff]

grind_pattern writeImage_good => writeImage image factory s, Good hx s

theorem stored_good {hx : Hold} (stage : Option Nat) (s : State) (hk : Good hx s) :
    Good hx (stored stage s) := by
  unfold stored
  grind (gen := 24) (splits := 14) (ematch := 20)

grind_pattern stored_good => stored stage s, Good hx s

theorem layoutStored_good {hx : Hold} (recs : List (Nat × Nat × Nat)) (s : State) (hk : Good hx s) :
    Good hx (layoutStored recs s) := by
  unfold layoutStored
  grind (gen := 24) (splits := 14) (ematch := 20)

grind_pattern layoutStored_good => layoutStored recs s, Good hx s

theorem execNvmWriteCompletion_good {hx : Hold} (s : State) {u₁ : State} (hk : Good hx s) :
    execNvmWriteCompletion s = .next u₁ → Good hx u₁ := by
  unfold execNvmWriteCompletion
  grind (gen := 24) (splits := 14) (ematch := 20) [Option.map_eq_some_iff, cchOk]

theorem execAssignStage_good {hx : Hold} (p : Nat) (items : List (Nat × Nat × Nat)) (rsv : Nat) (tr : Trailer) (s : State)
    {u₁ : State} (hk : Good hx s) :
    execAssignStage p items rsv tr s = .next u₁ → Good hx u₁ := by
  unfold execAssignStage
  grind (gen := 24) (splits := 14) (ematch := 20) [→ mbox_good, → takeTrailer_good]

end Sys2Proof.Machine
end

