-- ==== Sys2Proof/Laws/GoodPolicy.lean ====
section
/-! SUPPORT. What `Good` says is kept by every operation of Machine/: Walni, WalniAlu, WalniFlow, WalniCp, Policy, FabMgmt, Quench, Reset, Boot, Mount. -/

set_option Elab.async false

namespace Sys2Proof.Machine

open Sys2Proof

/-! ### Machine/Walni.lean -/

theorem Ctx.setReg_len (x : Ctx) (n : Nat) (w : Word) : (x.setReg n w).g.length = x.g.length := by
  unfold Ctx.setReg
  split
  · rfl
  · exact setAt_length _ _ _

grind_pattern Ctx.setReg_len => (x.setReg n w).g.length

theorem Ctx.advance0_g (x : Ctx) : x.advance0.g = x.g := by
  unfold Ctx.advance0
  split <;> rfl

theorem Ctx.advance_g (x : Ctx) : x.advance.g = x.g := by
  unfold Ctx.advance
  split
  · rfl
  · split
    · split
      · rfl
      · split
        · exact Ctx.advance0_g _
        · rfl
    · split
      · exact Ctx.advance0_g _
      · rfl

theorem Ctx.goOn_g (x : Ctx) : x.goOn.g = x.g := by
  unfold Ctx.goOn
  split
  · rfl
  · exact Ctx.advance_g _

grind_pattern Ctx.goOn_g => x.goOn.g

theorem Ctx.start_g (x : Ctx) (s : State) : (x.start s).g = x.g := rfl

grind_pattern Ctx.start_g => (x.start s).g

theorem Ctx.except_g (x : Ctx) (base : Word) (cause : Nat) : (x.except base cause).g = x.g := by
  unfold Ctx.except
  split <;> rfl

grind_pattern Ctx.except_g => (x.except base cause).g

theorem onCtx_good {x : Hold} (e : Ex) (f : Ctx → Ctx) (s : State)
    (hf : (f (ctxAt s e)).g.length = (ctxAt s e).g.length) (hk : Good x s) : Good x (onCtx e f s) := by
  refine onCore_good _ _ _ (fun _ h => h) ?_ hk
  exact setAt_map _ _ _ Ctx.reset (fun x : Ctx => x.g.length) fun _ => hf

grind_pattern onCtx_good => onCtx e f s, Good x s

theorem squashSlot_good {hx : Hold} (e : Ex) (s : State) (hk : Good hx s) :
    Good hx (squashSlot e s) := by
  unfold squashSlot
  grind (gen := 24) (splits := 14) (ematch := 20)

grind_pattern squashSlot_good => squashSlot e s, Good hx s

theorem preempt_good {hx : Hold} (e : Ex) (s : State) (hk : Good hx s) :
    Good hx (preempt e s) := by
  unfold preempt
  grind (gen := 24) (splits := 14) (ematch := 20)

grind_pattern preempt_good => preempt e s, Good hx s

theorem logExc_good {hx : Hold} (e : Ex) (cause : Nat) (double : Bool) (s : State) (hk : Good hx s) :
    Good hx (logExc e cause double s) := by
  unfold logExc
  grind (gen := 24) (splits := 14) (ematch := 20)

grind_pattern logExc_good => logExc e cause double s, Good hx s

theorem raiseExc_good {hx : Hold} (e : Ex) (cause : Nat) (s : State) (hk : Good hx s) :
    Good hx (raiseExc e cause s) := by
  unfold raiseExc
  grind (gen := 24) (splits := 14) (ematch := 20)

grind_pattern raiseExc_good => raiseExc e cause s, Good hx s

theorem memCorr_good {hx : Hold} (e : Ex) (s : State) (hk : Good hx s) :
    Good hx (memCorr e s) := by
  unfold memCorr
  grind (gen := 24) (splits := 14) (ematch := 20)

grind_pattern memCorr_good => memCorr e s, Good hx s

theorem memErr_good {hx : Hold} (e : Ex) (s : State) (hk : Good hx s) :
    Good hx (memErr e s) := by
  unfold memErr
  grind (gen := 24) (splits := 14) (ematch := 20)

grind_pattern memErr_good => memErr e s, Good hx s

theorem instrSample_good {hx : Hold} (e : Ex) (skid : Bool) (pc : Word) (word : Word) (s : State) (hk : Good hx s) :
    Good hx (instrSample e skid pc word s) := by
  unfold instrSample
  grind (gen := 24) (splits := 14) (ematch := 20) [sampPush_ok]

grind_pattern instrSample_good => instrSample e skid pc word s, Good hx s

theorem sampleInstr_good {hx : Hold} (e : Ex) (pc : Word) (word : Word) (s : State) (hk : Good hx s) :
    Good hx (sampleInstr e pc word s) := by
  have hs : ∀ b, Good hx { s with io := (sampTake b s.io).2 } := fun b => hk.of rfl rfl (sampTake_ok _ _) id
  unfold sampleInstr
  grind

grind_pattern sampleInstr_good => sampleInstr e pc word s, Good hx s

theorem commit_good {hx : Hold} (e : Ex) (word : Word) (shadows : Bool) (go : Ctx → Ctx) (s : State) (hgo : ∀ x, (go
    x).g.length = x.g.length) (hk : Good hx s) :
    Good hx (commit e word shadows go s) := by
  unfold commit
  grind (gen := 24) (splits := 14) (ematch := 20)

grind_pattern commit_good => commit e word shadows go s, Good hx s

theorem commitNext_good {hx : Hold} (e : Ex) (word : Word) (f : Ctx → Ctx) (s : State) (hf : ∀ x, (f x).g.length =
    x.g.length) (hk : Good hx s) :
    Good hx (commitNext e word f s) := by
  unfold commitNext
  grind (gen := 24) (splits := 14) (ematch := 20)

grind_pattern commitNext_good => commitNext e word f s, Good hx s

theorem runInstr_good {hx : Hold} (e : Ex) (i : Instr0) (act : State → State) (s : State) {u₁ : State} (hact : ∀ z, Good
    hx z → Good hx (act z)) (hk : Good hx s) :
    runInstr e i act s = .next u₁ → Good hx u₁ := by
  unfold runInstr
  grind (gen := 24) (splits := 14) (ematch := 20) [→ act_good]

theorem execInstructionFetchFault_good {hx : Hold} (e : Ex) (s : State) {u₁ : State} (hk : Good hx s) :
    execInstructionFetchFault e s = .next u₁ → Good hx u₁ := by
  unfold execInstructionFetchFault
  grind (gen := 24) (splits := 14) (ematch := 20)

theorem execUndefinedInstruction_good {hx : Hold} (e : Ex) (w : Word) (s : State) {u₁ : State} (hk : Good hx s) :
    execUndefinedInstruction e w s = .next u₁ → Good hx u₁ := by
  unfold execUndefinedInstruction
  grind (gen := 24) (splits := 14) (ematch := 20) [→ runInstr_good]

/-! ### Machine/WalniAlu.lean -/

theorem aluR_good {hx : Hold} (e : Ex) (fn : Nat) (rd : Fin 32) (rs : Fin 32) (rt : Fin 32) (f : Word → Word → Word) (s :
    State) {u₁ : State} (hk : Good hx s) :
    aluR e fn rd rs rt f s = .next u₁ → Good hx u₁ := by
  unfold aluR
  grind (gen := 24) (splits := 14) (ematch := 20) [→ runInstr_good]

theorem aluK_good {hx : Hold} (e : Ex) (fn : Nat) (rd : Fin 32) (rs : Fin 32) (k : Fin 32) (f : Word → Nat → Word) (s :
    State) {u₁ : State} (hk : Good hx s) :
    aluK e fn rd rs k f s = .next u₁ → Good hx u₁ := by
  unfold aluK
  grind (gen := 24) (splits := 14) (ematch := 20) [→ runInstr_good]

theorem aluI_good {hx : Hold} (e : Ex) (op : Nat) (rd : Fin 32) (rs : Fin 32) (imm : BitVec 16) (f : Word → Word) (s :
    State) {u₁ : State} (hk : Good hx s) :
    aluI e op rd rs imm f s = .next u₁ → Good hx u₁ := by
  unfold aluI
  grind (gen := 24) (splits := 14) (ematch := 20) [→ runInstr_good]

theorem execAdd_good {hx : Hold} (e : Ex) (rd : Fin 32) (rs : Fin 32) (rt : Fin 32) (s : State) {u₁ : State} (hk : Good hx
    s) :
    execAdd e rd rs rt s = .next u₁ → Good hx u₁ := by
  unfold execAdd
  grind (gen := 24) (splits := 14) (ematch := 20) [→ aluR_good]

theorem execSub_good {hx : Hold} (e : Ex) (rd : Fin 32) (rs : Fin 32) (rt : Fin 32) (s : State) {u₁ : State} (hk : Good hx
    s) :
    execSub e rd rs rt s = .next u₁ → Good hx u₁ := by
  unfold execSub
  grind (gen := 24) (splits := 14) (ematch := 20) [→ aluR_good]

theorem execAnd_good {hx : Hold} (e : Ex) (rd : Fin 32) (rs : Fin 32) (rt : Fin 32) (s : State) {u₁ : State} (hk : Good hx
    s) :
    execAnd e rd rs rt s = .next u₁ → Good hx u₁ := by
  unfold execAnd
  grind (gen := 24) (splits := 14) (ematch := 20) [→ aluR_good]

theorem execOr_good {hx : Hold} (e : Ex) (rd : Fin 32) (rs : Fin 32) (rt : Fin 32) (s : State) {u₁ : State} (hk : Good hx s) :
    execOr e rd rs rt s = .next u₁ → Good hx u₁ := by
  unfold execOr
  grind (gen := 24) (splits := 14) (ematch := 20) [→ aluR_good]

theorem execXor_good {hx : Hold} (e : Ex) (rd : Fin 32) (rs : Fin 32) (rt : Fin 32) (s : State) {u₁ : State} (hk : Good hx
    s) :
    execXor e rd rs rt s = .next u₁ → Good hx u₁ := by
  unfold execXor
  grind (gen := 24) (splits := 14) (ematch := 20) [→ aluR_good]

theorem execNor_good {hx : Hold} (e : Ex) (rd : Fin 32) (rs : Fin 32) (rt : Fin 32) (s : State) {u₁ : State} (hk : Good hx
    s) :
    execNor e rd rs rt s = .next u₁ → Good hx u₁ := by
  unfold execNor
  grind (gen := 24) (splits := 14) (ematch := 20) [→ aluR_good]

theorem execLts_good {hx : Hold} (e : Ex) (rd : Fin 32) (rs : Fin 32) (rt : Fin 32) (s : State) {u₁ : State} (hk : Good hx
    s) :
    execLts e rd rs rt s = .next u₁ → Good hx u₁ := by
  unfold execLts
  grind (gen := 24) (splits := 14) (ematch := 20) [→ aluR_good]

theorem execLtu_good {hx : Hold} (e : Ex) (rd : Fin 32) (rs : Fin 32) (rt : Fin 32) (s : State) {u₁ : State} (hk : Good hx
    s) :
    execLtu e rd rs rt s = .next u₁ → Good hx u₁ := by
  unfold execLtu
  grind (gen := 24) (splits := 14) (ematch := 20) [→ aluR_good]

theorem execMin_good {hx : Hold} (e : Ex) (rd : Fin 32) (rs : Fin 32) (rt : Fin 32) (s : State) {u₁ : State} (hk : Good hx
    s) :
    execMin e rd rs rt s = .next u₁ → Good hx u₁ := by
  unfold execMin
  grind (gen := 24) (splits := 14) (ematch := 20) [→ aluR_good]

theorem execMax_good {hx : Hold} (e : Ex) (rd : Fin 32) (rs : Fin 32) (rt : Fin 32) (s : State) {u₁ : State} (hk : Good hx
    s) :
    execMax e rd rs rt s = .next u₁ → Good hx u₁ := by
  unfold execMax
  grind (gen := 24) (splits := 14) (ematch := 20) [→ aluR_good]

theorem execMinu_good {hx : Hold} (e : Ex) (rd : Fin 32) (rs : Fin 32) (rt : Fin 32) (s : State) {u₁ : State} (hk : Good
    hx s) :
    execMinu e rd rs rt s = .next u₁ → Good hx u₁ := by
  unfold execMinu
  grind (gen := 24) (splits := 14) (ematch := 20) [→ aluR_good]

theorem execMaxu_good {hx : Hold} (e : Ex) (rd : Fin 32) (rs : Fin 32) (rt : Fin 32) (s : State) {u₁ : State} (hk : Good
    hx s) :
    execMaxu e rd rs rt s = .next u₁ → Good hx u₁ := by
  unfold execMaxu
  grind (gen := 24) (splits := 14) (ematch := 20) [→ aluR_good]

theorem execShl_good {hx : Hold} (e : Ex) (rd : Fin 32) (rs : Fin 32) (rt : Fin 32) (s : State) {u₁ : State} (hk : Good hx
    s) :
    execShl e rd rs rt s = .next u₁ → Good hx u₁ := by
  unfold execShl
  grind (gen := 24) (splits := 14) (ematch := 20) [→ aluR_good]

theorem execShr_good {hx : Hold} (e : Ex) (rd : Fin 32) (rs : Fin 32) (rt : Fin 32) (s : State) {u₁ : State} (hk : Good hx
    s) :
    execShr e rd rs rt s = .next u₁ → Good hx u₁ := by
  unfold execShr
  grind (gen := 24) (splits := 14) (ematch := 20) [→ aluR_good]

theorem execSar_good {hx : Hold} (e : Ex) (rd : Fin 32) (rs : Fin 32) (rt : Fin 32) (s : State) {u₁ : State} (hk : Good hx
    s) :
    execSar e rd rs rt s = .next u₁ → Good hx u₁ := by
  unfold execSar
  grind (gen := 24) (splits := 14) (ematch := 20) [→ aluR_good]

theorem execRor_good {hx : Hold} (e : Ex) (rd : Fin 32) (rs : Fin 32) (rt : Fin 32) (s : State) {u₁ : State} (hk : Good hx
    s) :
    execRor e rd rs rt s = .next u₁ → Good hx u₁ := by
  unfold execRor
  grind (gen := 24) (splits := 14) (ematch := 20) [→ aluR_good]

theorem execShlk_good {hx : Hold} (e : Ex) (rd : Fin 32) (rs : Fin 32) (k : Fin 32) (s : State) {u₁ : State} (hk : Good hx
    s) :
    execShlk e rd rs k s = .next u₁ → Good hx u₁ := by
  unfold execShlk
  grind (gen := 24) (splits := 14) (ematch := 20) [→ aluK_good]

theorem execShrk_good {hx : Hold} (e : Ex) (rd : Fin 32) (rs : Fin 32) (k : Fin 32) (s : State) {u₁ : State} (hk : Good hx
    s) :
    execShrk e rd rs k s = .next u₁ → Good hx u₁ := by
  unfold execShrk
  grind (gen := 24) (splits := 14) (ematch := 20) [→ aluK_good]

theorem execSark_good {hx : Hold} (e : Ex) (rd : Fin 32) (rs : Fin 32) (k : Fin 32) (s : State) {u₁ : State} (hk : Good hx
    s) :
    execSark e rd rs k s = .next u₁ → Good hx u₁ := by
  unfold execSark
  grind (gen := 24) (splits := 14) (ematch := 20) [→ aluK_good]

theorem execMul_good {hx : Hold} (e : Ex) (rd : Fin 32) (rs : Fin 32) (rt : Fin 32) (s : State) {u₁ : State} (hk : Good hx
    s) :
    execMul e rd rs rt s = .next u₁ → Good hx u₁ := by
  unfold execMul
  grind (gen := 24) (splits := 14) (ematch := 20) [→ aluR_good]

theorem execMulhu_good {hx : Hold} (e : Ex) (rd : Fin 32) (rs : Fin 32) (rt : Fin 32) (s : State) {u₁ : State} (hk : Good
    hx s) :
    execMulhu e rd rs rt s = .next u₁ → Good hx u₁ := by
  unfold execMulhu
  grind (gen := 24) (splits := 14) (ematch := 20) [→ aluR_good]

theorem execMulhs_good {hx : Hold} (e : Ex) (rd : Fin 32) (rs : Fin 32) (rt : Fin 32) (s : State) {u₁ : State} (hk : Good
    hx s) :
    execMulhs e rd rs rt s = .next u₁ → Good hx u₁ := by
  unfold execMulhs
  grind (gen := 24) (splits := 14) (ematch := 20) [→ aluR_good]

theorem execClz_good {hx : Hold} (e : Ex) (rd : Fin 32) (rs : Fin 32) (rt : Fin 32) (s : State) {u₁ : State} (hk : Good hx
    s) :
    execClz e rd rs rt s = .next u₁ → Good hx u₁ := by
  unfold execClz
  grind (gen := 24) (splits := 14) (ematch := 20) [→ aluR_good]

theorem execOnes_good {hx : Hold} (e : Ex) (rd : Fin 32) (rs : Fin 32) (rt : Fin 32) (s : State) {u₁ : State} (hk : Good
    hx s) :
    execOnes e rd rs rt s = .next u₁ → Good hx u₁ := by
  unfold execOnes
  grind (gen := 24) (splits := 14) (ematch := 20) [→ aluR_good]

theorem execAddk_good {hx : Hold} (e : Ex) (rd : Fin 32) (rs : Fin 32) (imm : BitVec 16) (s : State) {u₁ : State} (hk :
    Good hx s) :
    execAddk e rd rs imm s = .next u₁ → Good hx u₁ := by
  unfold execAddk
  grind (gen := 24) (splits := 14) (ematch := 20) [→ aluI_good]

theorem execAndk_good {hx : Hold} (e : Ex) (rd : Fin 32) (rs : Fin 32) (imm : BitVec 16) (s : State) {u₁ : State} (hk :
    Good hx s) :
    execAndk e rd rs imm s = .next u₁ → Good hx u₁ := by
  unfold execAndk
  grind (gen := 24) (splits := 14) (ematch := 20) [→ aluI_good]

theorem execOrk_good {hx : Hold} (e : Ex) (rd : Fin 32) (rs : Fin 32) (imm : BitVec 16) (s : State) {u₁ : State} (hk :
    Good hx s) :
    execOrk e rd rs imm s = .next u₁ → Good hx u₁ := by
  unfold execOrk
  grind (gen := 24) (splits := 14) (ematch := 20) [→ aluI_good]

theorem execXork_good {hx : Hold} (e : Ex) (rd : Fin 32) (rs : Fin 32) (imm : BitVec 16) (s : State) {u₁ : State} (hk :
    Good hx s) :
    execXork e rd rs imm s = .next u₁ → Good hx u₁ := by
  unfold execXork
  grind (gen := 24) (splits := 14) (ematch := 20) [→ aluI_good]

theorem execLtsk_good {hx : Hold} (e : Ex) (rd : Fin 32) (rs : Fin 32) (imm : BitVec 16) (s : State) {u₁ : State} (hk :
    Good hx s) :
    execLtsk e rd rs imm s = .next u₁ → Good hx u₁ := by
  unfold execLtsk
  grind (gen := 24) (splits := 14) (ematch := 20) [→ aluI_good]

theorem execLtuk_good {hx : Hold} (e : Ex) (rd : Fin 32) (rs : Fin 32) (imm : BitVec 16) (s : State) {u₁ : State} (hk :
    Good hx s) :
    execLtuk e rd rs imm s = .next u₁ → Good hx u₁ := by
  unfold execLtuk
  grind (gen := 24) (splits := 14) (ematch := 20) [→ aluI_good]

theorem execHik_good {hx : Hold} (e : Ex) (rd : Fin 32) (rs : Fin 32) (imm : BitVec 16) (s : State) {u₁ : State} (hk :
    Good hx s) :
    execHik e rd rs imm s = .next u₁ → Good hx u₁ := by
  unfold execHik
  grind (gen := 24) (splits := 14) (ematch := 20) [→ aluI_good]

/-! ### Machine/WalniFlow.lean -/

theorem trainCtr_good {hx : Hold} (e : Ex) (taken : Bool) (s : State) (hk : Good hx s) :
    Good hx (trainCtr e taken s) := by
  unfold trainCtr
  grind (gen := 24) (splits := 14) (ematch := 20)

grind_pattern trainCtr_good => trainCtr e taken s, Good hx s

theorem trainInd_good {hx : Hold} (e : Ex) (target : Word) (s : State) (hk : Good hx s) :
    Good hx (trainInd e target s) := by
  unfold trainInd
  grind (gen := 24) (splits := 14) (ematch := 20)

grind_pattern trainInd_good => trainInd e target s, Good hx s

theorem tellBranch_good {hx : Hold} (right : Bool) (s : State) (hk : Good hx s) :
    Good hx (tellBranch right s) := by
  unfold tellBranch
  grind (gen := 24) (splits := 14) (ematch := 20)

grind_pattern tellBranch_good => tellBranch right s, Good hx s

theorem flushPred_good {hx : Hold} (k : Nat) (s : State) (hk : Good hx s) :
    Good hx (flushPred k s) := by
  unfold flushPred
  grind (gen := 24) (splits := 14) (ematch := 20)

grind_pattern flushPred_good => flushPred k s, Good hx s

theorem execPredictorTagFlush_good {hx : Hold} (e : Ex) (s : State) {u₁ : State} (hk : Good hx s) :
    execPredictorTagFlush e s = .next u₁ → Good hx u₁ := by
  unfold execPredictorTagFlush
  grind (gen := 24) (splits := 14) (ematch := 20)

theorem Ctx.branched_g (x : Ctx) (rs : Nat) (annul : Bool) (target : Option Word) (gh : Nat) (r chk : List Word) :
    (x.branched rs annul target gh r chk).g = x.g := by
  unfold Ctx.branched
  split <;> rfl

theorem swrCtx_g (x : Ctx) (n : Nat) (w : Word) : (swrCtx x n w).g = x.g := by
  unfold swrCtx
  split <;> rfl

theorem branch_good {hx : Hold} (e : Ex) (op : Nat) (a : Bool) (cond rs : Nat) (off : BitVec 16) (link : Bool) (s : State)
    {u₁ : State} (hk : Good hx s) : branch e op a cond rs off link s = .next u₁ → Good hx u₁ := by
  unfold branch
  refine runInstr_good _ _ _ s (fun z hz => commit_good _ _ _ _ _ (fun x => ?_) ?_) hk
  · dsimp only
    split <;> split <;> grind [Ctx.branched_g]
  · grind

theorem execBr_good {hx : Hold} (e : Ex) (a : Bool) (cond : Fin 16) (rs : Fin 32) (off : BitVec 16) (s : State) {u₁ :
    State} (hk : Good hx s) :
    execBr e a cond rs off s = .next u₁ → Good hx u₁ := by
  unfold execBr
  grind (gen := 24) (splits := 14) (ematch := 20) [→ branch_good]

theorem execBrl_good {hx : Hold} (e : Ex) (a : Bool) (cond : Fin 16) (rs : Fin 32) (off : BitVec 16) (s : State) {u₁ :
    State} (hk : Good hx s) :
    execBrl e a cond rs off s = .next u₁ → Good hx u₁ := by
  unfold execBrl
  grind (gen := 24) (splits := 14) (ematch := 20) [→ branch_good]

theorem jump_good {hx : Hold} (e : Ex) (link : Bool) (rd : Nat) (rs : Nat) (rt : Nat) (s : State) {u₁ : State} (hk : Good
    hx s) :
    jump e link rd rs rt s = .next u₁ → Good hx u₁ := by
  unfold jump
  refine runInstr_good _ _ _ s (fun z hz => commit_good _ _ _ _ _ (fun x => ?_) ?_) hk
  · dsimp only
    split <;> split <;> grind [Ctx.branched_g]
  · grind (gen := 24) (splits := 14) (ematch := 20) [→ runInstr_good]

theorem execJmp_good {hx : Hold} (e : Ex) (rd : Fin 32) (rs : Fin 32) (rt : Fin 32) (s : State) {u₁ : State} (hk : Good hx
    s) :
    execJmp e rd rs rt s = .next u₁ → Good hx u₁ := by
  unfold execJmp
  grind (gen := 24) (splits := 14) (ematch := 20) [→ jump_good]

theorem execJml_good {hx : Hold} (e : Ex) (rd : Fin 32) (rs : Fin 32) (rt : Fin 32) (s : State) {u₁ : State} (hk : Good hx
    s) :
    execJml e rd rs rt s = .next u₁ → Good hx u₁ := by
  unfold execJml
  grind (gen := 24) (splits := 14) (ematch := 20) [→ jump_good]

theorem startLoop_good {hx : Hold} (e : Ex) (w : Word) (level : Nat) (count : Ctx → Word) (off : BitVec 16) (s : State)
    {u₁ : State} (hk : Good hx s) :
    startLoop e w level count off s = .next u₁ → Good hx u₁ := by
  unfold startLoop
  grind (gen := 24) (splits := 14) (ematch := 20) [→ runInstr_good]

theorem execLoop_good {hx : Hold} (e : Ex) (level : Fin 2) (rs : Fin 32) (off : BitVec 16) (s : State) {u₁ : State} (hk :
    Good hx s) :
    execLoop e level rs off s = .next u₁ → Good hx u₁ := by
  unfold execLoop
  grind (gen := 24) (splits := 14) (ematch := 20) [→ startLoop_good]

theorem execLoopi_good {hx : Hold} (e : Ex) (level : Fin 2) (count : Fin 512) (off : BitVec 16) (s : State) {u₁ : State}
    (hk : Good hx s) :
    execLoopi e level count off s = .next u₁ → Good hx u₁ := by
  unfold execLoopi
  grind (gen := 24) (splits := 14) (ematch := 20) [→ startLoop_good]

theorem execMode_good {hx : Hold} (e : Ex) (rs : Fin 32) (s : State) {u₁ : State} (hk : Good hx s) :
    execMode e rs s = .next u₁ → Good hx u₁ := by
  unfold execMode
  grind (gen := 24) (splits := 14) (ematch := 20) [→ runInstr_good]

theorem execXret_good {hx : Hold} (e : Ex) (s : State) {u₁ : State} (hk : Good hx s) :
    execXret e s = .next u₁ → Good hx u₁ := by
  unfold execXret
  grind (gen := 24) (splits := 14) (ematch := 20) [→ runInstr_good]

theorem execTrap_good {hx : Hold} (e : Ex) (s : State) {u₁ : State} (hk : Good hx s) :
    execTrap e s = .next u₁ → Good hx u₁ := by
  unfold execTrap
  grind (gen := 24) (splits := 14) (ematch := 20) [→ runInstr_good]

theorem execDebug_good {hx : Hold} (e : Ex) (s : State) {u₁ : State} (hk : Good hx s) :
    execDebug e s = .next u₁ → Good hx u₁ := by
  unfold execDebug
  grind (gen := 24) (splits := 14) (ematch := 20) [→ runInstr_good]

theorem endFrame_good {hx : Hold} (e : Ex) (w : Word) (s : State) (hk : Good hx s) :
    Good hx (endFrame e w s) := by
  unfold endFrame
  grind (gen := 24) (splits := 14) (ematch := 20)

grind_pattern endFrame_good => endFrame e w s, Good hx s

theorem execFend_good {hx : Hold} (e : Ex) (s : State) {u₁ : State} (hk : Good hx s) :
    execFend e s = .next u₁ → Good hx u₁ := by
  unfold execFend
  grind (gen := 24) (splits := 14) (ematch := 20) [→ runInstr_good]

theorem execPflush_good {hx : Hold} (e : Ex) (s : State) {u₁ : State} (hk : Good hx s) :
    execPflush e s = .next u₁ → Good hx u₁ := by
  unfold execPflush
  grind (gen := 24) (splits := 14) (ematch := 20) [→ runInstr_good]

theorem execSrd_good {hx : Hold} (e : Ex) (rd : Fin 32) (n : Fin 32) (s : State) {u₁ : State} (hk : Good hx s) :
    execSrd e rd n s = .next u₁ → Good hx u₁ := by
  unfold execSrd
  grind (gen := 24) (splits := 14) (ematch := 20) [→ runInstr_good]

theorem execSwr_good {hx : Hold} (e : Ex) (rs : Fin 32) (n : Fin 32) (s : State) {u₁ : State} (hk : Good hx s) :
    execSwr e rs n s = .next u₁ → Good hx u₁ := by
  unfold execSwr
  exact runInstr_good _ _ _ s (fun z hz => commitNext_good _ _ _ z (fun x => by rw [swrCtx_g]) hz) hk

/-! ### Machine/WalniCp.lean -/

theorem pureOp_good {hx : Hold} (e : Ex) (op : Nat) (fn : Nat) (rd : Fin 32) (rs : Fin 32) (rt : Fin 32) (ok : Ctx → Bool)
    (f : Ctx → Word) (s : State) {u₁ : State} (hk : Good hx s) :
    pureOp e op fn rd rs rt ok f s = .next u₁ → Good hx u₁ := by
  unfold pureOp
  grind (gen := 24) (splits := 14) (ematch := 20) [→ runInstr_good]

theorem execScan_good {hx : Hold} (e : Ex) (rd : Fin 32) (rs : Fin 32) (rt : Fin 32) (s : State) {u₁ : State} (hk : Good
    hx s) :
    execScan e rd rs rt s = .next u₁ → Good hx u₁ := by
  unfold execScan
  grind (gen := 24) (splits := 14) (ematch := 20) [→ pureOp_good]

theorem execHeatrd_good {hx : Hold} (e : Ex) (rd : Fin 32) (rs : Fin 32) (rt : Fin 32) (s : State) {u₁ : State} (hk : Good
    hx s) :
    execHeatrd e rd rs rt s = .next u₁ → Good hx u₁ := by
  unfold execHeatrd
  grind (gen := 24) (splits := 14) (ematch := 20) [→ pureOp_good, → runInstr_good]

theorem heatRead_good {hx : Hold} (set : Nat) (w : Nat) (rd : Rd) (s : State) {q₁ : Nat} {u₁ : State} (hk : Good hx s) :
    heatRead set w rd s = (q₁, u₁) → Good hx u₁ := by
  intro h
  unfold heatRead at h
  split at h
  · grind [→ readBurst_good]
  · grind [→ readBurst_good]
  · rename_i _ v heq
    have h1 : Good hx (draw v).2 := draw_good v (readBurst_good _ _ _ _ _ hk heq) (Prod.eta _).symm
    grind

theorem heatReads_good {hx : Hold} (set : Nat) (w : Nat) (rds : List Rd) (s : State) {q₁ : List Nat} {u₁ : State} (hk :
    Good hx s) :
    heatReads set w rds s = (q₁, u₁) → Good hx u₁ := by
  induction rds generalizing s w q₁ u₁ with
  | nil => unfold heatReads; grind
  | cons rd rds ih => unfold heatReads; grind [→ heatRead_good]

theorem execCpResultReturn_good {hx : Hold} (e : Ex) (rds : List Rd) (s : State) {u₁ : State} (hk : Good hx s) :
    execCpResultReturn e rds s = .next u₁ → Good hx u₁ := by
  unfold execCpResultReturn
  grind (gen := 24) (splits := 14) (ematch := 20) [→ heatReads_good]

theorem execHashSet_good {hx : Hold} (e : Ex) (rd : Fin 32) (rs : Fin 32) (rt : Fin 32) (s : State) {u₁ : State} (hk :
    Good hx s) :
    execHashSet e rd rs rt s = .next u₁ → Good hx u₁ := by
  unfold execHashSet
  grind (gen := 24) (splits := 14) (ematch := 20) [→ pureOp_good]

theorem execHashMix_good {hx : Hold} (e : Ex) (rd : Fin 32) (rs : Fin 32) (rt : Fin 32) (s : State) {u₁ : State} (hk :
    Good hx s) :
    execHashMix e rd rs rt s = .next u₁ → Good hx u₁ := by
  unfold execHashMix
  grind (gen := 24) (splits := 14) (ematch := 20) [→ pureOp_good]

theorem sendOp_good {hx : Hold} (e : Ex) (w : Word) (op : CpOp) (s : State) (hk : Good hx s) :
    Good hx (sendOp e w op s) := by
  unfold sendOp
  grind (gen := 24) (splits := 14) (ematch := 20)

grind_pattern sendOp_good => sendOp e w op s, Good hx s

theorem effOp_good {hx : Hold} (e : Ex) (fn : Nat) (rd : Fin 32) (rs : Fin 32) (rt : Fin 32) (ok : Word → Word → Bool) (op
    : Word → Word → CpOp) (s : State) {u₁ : State} (hk : Good hx s) :
    effOp e fn rd rs rt ok op s = .next u₁ → Good hx u₁ := by
  unfold effOp
  grind (gen := 24) (splits := 14) (ematch := 20) [→ runInstr_good]

theorem execEvict_good {hx : Hold} (e : Ex) (rd : Fin 32) (rs : Fin 32) (rt : Fin 32) (s : State) {u₁ : State} (hk : Good
    hx s) :
    execEvict e rd rs rt s = .next u₁ → Good hx u₁ := by
  unfold execEvict
  grind (gen := 24) (splits := 14) (ematch := 20) [→ effOp_good]

theorem execPolicyPrefetch_good {hx : Hold} (e : Ex) (rd : Fin 32) (rs : Fin 32) (rt : Fin 32) (s : State) {u₁ : State}
    (hk : Good hx s) :
    execPolicyPrefetch e rd rs rt s = .next u₁ → Good hx u₁ := by
  unfold execPolicyPrefetch
  grind (gen := 24) (splits := 14) (ematch := 20) [→ effOp_good]

theorem execPolicyPin_good {hx : Hold} (e : Ex) (rd : Fin 32) (rs : Fin 32) (rt : Fin 32) (s : State) {u₁ : State} (hk :
    Good hx s) :
    execPolicyPin e rd rs rt s = .next u₁ → Good hx u₁ := by
  unfold execPolicyPin
  grind (gen := 24) (splits := 14) (ematch := 20) [→ effOp_good]

theorem execPolicyUnpin_good {hx : Hold} (e : Ex) (rd : Fin 32) (rs : Fin 32) (rt : Fin 32) (s : State) {u₁ : State} (hk :
    Good hx s) :
    execPolicyUnpin e rd rs rt s = .next u₁ → Good hx u₁ := by
  unfold execPolicyUnpin
  grind (gen := 24) (splits := 14) (ematch := 20) [→ effOp_good]

theorem execHintWrite_good {hx : Hold} (e : Ex) (rd : Fin 32) (rs : Fin 32) (rt : Fin 32) (s : State) {u₁ : State} (hk :
    Good hx s) :
    execHintWrite e rd rs rt s = .next u₁ → Good hx u₁ := by
  unfold execHintWrite
  grind (gen := 24) (splits := 14) (ematch := 20) [→ effOp_good]

theorem decaySet_good {hx : Hold} (set : Nat) (n : Nat) (s : State) (hk : Good hx s) :
    Good hx (decaySet set n s) := by
  unfold decaySet
  grind (gen := 24) (splits := 14) (ematch := 20)

grind_pattern decaySet_good => decaySet set n s, Good hx s

theorem storeHint_good {hx : Hold} (writer : Nat) (seq : Nat) (set : Nat) (way : Nat) (valid : Bool) (s : State) (hk :
    Good hx s) :
    Good hx (storeHint writer seq set way valid s) := by
  unfold storeHint
  grind (gen := 24) (splits := 14) (ematch := 20)

grind_pattern storeHint_good => storeHint writer seq set way valid s, Good hx s

theorem effectOp_good {hx : Hold} (k : Nat) (o : OutOp) (s : State) (hk : Good hx s) :
    Good hx (effectOp k o s) := by
  unfold effectOp
  grind (gen := 24) (splits := 14) (ematch := 20) [→ admit_good]

grind_pattern effectOp_good => effectOp k o s, Good hx s

theorem deliver_good {hx : Hold} (k : Nat) (o : OutOp) (s : State) (hk : Good hx s) :
    Good hx (deliver k o s) := by
  unfold deliver
  grind (gen := 24) (splits := 14) (ematch := 20)

grind_pattern deliver_good => deliver k o s, Good hx s

theorem wakeCtx_good {hx : Hold} (k : Nat) (s : State) (hk : Good hx s) :
    Good hx (wakeCtx k s) := by
  unfold wakeCtx
  grind (gen := 24) (splits := 14) (ematch := 20)

grind_pattern wakeCtx_good => wakeCtx k s, Good hx s

theorem execCp3Delivery_good {hx : Hold} (k : Nat) (s : State) {u₁ : State} (hk : Good hx s) :
    execCp3Delivery k s = .next u₁ → Good hx u₁ := by
  unfold execCp3Delivery
  grind (gen := 24) (splits := 14) (ematch := 20)

/-! ### Machine/Policy.lean -/

theorem winRead_good {hx : Hold} (e : Ex) (off : Nat) (s : State) {q₁ : Word} {u₁ : State} (hk : Good hx s) :
    winRead e off s = some (q₁, u₁) → Good hx u₁ := by
  unfold winRead
  grind (gen := 24) (splits := 14) (ematch := 20) [Option.map_eq_some_iff]

theorem winWrite_good {hx : Hold} (e : Ex) (off : Nat) (w : Word) (s : State) {u₁ : State} (hk : Good hx s) :
    winWrite e off w s = some u₁ → Good hx u₁ := by
  unfold winWrite
  grind (gen := 24) (splits := 14) (ematch := 20)

theorem execSpringStreamRead_good {hx : Hold} (e : Ex) (s : State) {u₁ : State} (hk : Good hx s) :
    execSpringStreamRead e s = .next u₁ → Good hx u₁ := by
  unfold execSpringStreamRead
  grind (gen := 24) (splits := 14) (ematch := 20) [Option.map_eq_some_iff]

theorem openGen_good {hx : Hold} (s : State) (hk : Good hx s) :
    Good hx (openGen s) := by
  unfold openGen
  grind (gen := 24) (splits := 14) (ematch := 20)

grind_pattern openGen_good => openGen s, Good hx s

theorem closeGen_good {hx : Hold} (s : State) (hk : Good hx s) :
    Good hx (closeGen s) := by
  unfold closeGen
  grind (gen := 24) (splits := 14) (ematch := 20)

grind_pattern closeGen_good => closeGen s, Good hx s

theorem packFull_good {hx : Hold} (k : Nat) (s : State) (hk : Good hx s) :
    Good hx (packFull k s) := by
  unfold packFull
  refine upTo_good _ _ _ (fun _ x hx => ?_) hk
  split
  · exact getD_good (fun u h => packRing_good _ _ hx h) hx
  · exact hx

grind_pattern packFull_good => packFull k s, Good hx s

theorem toRing_good {hx : Hold} (k : Nat) (es : List SprEnt) (s : State) (hk : Good hx s) :
    Good hx (toRing k es s) := by
  unfold toRing
  grind (gen := 24) (splits := 14) (ematch := 20)

grind_pattern toRing_good => toRing k es s, Good hx s

theorem execSpringPackTimeout_good {hx : Hold} (k : Nat) (s : State) {u₁ : State} (hk : Good hx s) :
    execSpringPackTimeout k s = .next u₁ → Good hx u₁ := by
  intro h
  unfold execSpringPackTimeout at h
  split at h
  · rw [← Host.Outcome.next.inj h]; exact hk
  · rw [← Host.Outcome.next.inj h]
    have hu := until__good ((coreAt s k).ringAt + 1000000) s hk
    exact settle_good _ (getD_good (fun u h => packRing_good _ _ hu h) hu)

theorem recordFrame_good {hx : Hold} (e : Ex) (s : State) (hk : Good hx s) :
    Good hx (recordFrame e s) := by
  unfold recordFrame
  grind (gen := 24) (splits := 14) (ematch := 20)

grind_pattern recordFrame_good => recordFrame e s, Good hx s

theorem toSched_good {hx : Hold} (k : Nat) (vs : List Nat) (s : State) (hk : Good hx s) :
    Good hx (toSched k vs s) := by
  unfold toSched
  grind (gen := 24) (splits := 14) (ematch := 20) [Option.map_eq_some_iff]

grind_pattern toSched_good => toSched k vs s, Good hx s

theorem releaseStaged_good {hx : Hold} (s : State) (hk : Good hx s) :
    Good hx (releaseStaged s) := by
  unfold releaseStaged
  grind (gen := 24) (splits := 14) (ematch := 20) [Option.map_eq_some_iff]

grind_pattern releaseStaged_good => releaseStaged s, Good hx s

theorem nextFrame_good {hx : Hold} (e : Ex) (s : State) (hk : Good hx s) :
    Good hx (nextFrame e s) := by
  unfold nextFrame
  grind (gen := 24) (splits := 14) (ematch := 20)

grind_pattern nextFrame_good => nextFrame e s, Good hx s

theorem baseFrame_good {hx : Hold} (e : Ex) (s : State) (hk : Good hx s) :
    Good hx (baseFrame e s) := by
  unfold baseFrame
  grind (gen := 24) (splits := 14) (ematch := 20)

grind_pattern baseFrame_good => baseFrame e s, Good hx s

theorem baseFrames_good {hx : Hold} (s : State) (hk : Good hx s) :
    Good hx (baseFrames s) := by
  unfold baseFrames
  grind (gen := 24) (splits := 14) (ematch := 20) [ramsOk]

grind_pattern baseFrames_good => baseFrames s, Good hx s

theorem execBaselineSpringPass_good {hx : Hold} (s : State) {u₁ : State} (hk : Good hx s) :
    execBaselineSpringPass s = .next u₁ → Good hx u₁ := by
  unfold execBaselineSpringPass
  grind (gen := 24) (splits := 14) (ematch := 20)

theorem scrubHints_good {hx : Hold} (s : State) (hk : Good hx s) :
    Good hx (scrubHints s) := by
  unfold scrubHints
  grind (gen := 24) (splits := 14) (ematch := 20)

grind_pattern scrubHints_good => scrubHints s, Good hx s

theorem countOverruns_good {hx : Hold} (late : List Ex) (s : State) (hk : Good hx s) :
    Good hx (countOverruns late s) := by
  unfold countOverruns
  grind (gen := 24) (splits := 14) (ematch := 20)

grind_pattern countOverruns_good => countOverruns late s, Good hx s

theorem demote_good {hx : Hold} (k : Nat) (s : State) (hk : Good hx s) :
    Good hx (demote k s) := by
  have h : ∀ t : State, Good hx t → ∀ f : Ctx → Ctx, (∀ x, (f x).g = x.g) → Good hx (onCore k (fun c => { c with
      baseline := true, demoted := true, due := false, overruns := 0, ctxs := c.ctxs.map f }) t) := by
    intro t ht f hf
    refine onCore_good _ _ _ (fun _ h => h) ?_ ht
    simp only [Core.shape, List.map_map]
    exact List.map_congr_left fun x _ => by simp only [Function.comp, hf]
  unfold demote
  exact raise_good _ _ _ _ (h _ (tellSquash_good _ _ hk) _ fun _ => rfl)

grind_pattern demote_good => demote k s, Good hx s

theorem demoteDue_good {hx : Hold} (s : State) (hk : Good hx s) :
    Good hx (demoteDue s) := by
  unfold demoteDue
  grind (gen := 24) (splits := 14) (ematch := 20)

grind_pattern demoteDue_good => demoteDue s, Good hx s

theorem policyTick_good {hx : Hold} (s : State) (hk : Good hx s) :
    Good hx (policyTick s) := by
  unfold policyTick
  grind (gen := 24) (splits := 14) (ematch := 20) [ramsOk]

grind_pattern policyTick_good => policyTick s, Good hx s

theorem execPcfDemote_good {hx : Hold} (k : Nat) (s : State) {u₁ : State} (hk : Good hx s) :
    execPcfDemote k s = .next u₁ → Good hx u₁ := by
  unfold execPcfDemote
  grind (gen := 24) (splits := 14) (ematch := 20)

theorem execPrefetchIssue_good {hx : Hold} (s : State) {u₁ : State} (hk : Good hx s) :
    execPrefetchIssue s = .next u₁ → Good hx u₁ := by
  unfold execPrefetchIssue
  grind (gen := 24) (splits := 14) (ematch := 20)

/-! ### Machine/FabMgmt.lean -/

theorem ackFlits_good {hx : Hold} (p : Nat) (ack : Nat) (s : State) (hk : Good hx s) :
    Good hx (ackFlits p ack s) := by
  unfold ackFlits
  grind (gen := 24) (splits := 14) (ematch := 20)

grind_pattern ackFlits_good => ackFlits p ack s, Good hx s

theorem execIdleFlit_good {hx : Hold} (p : Nat) (ack : Nat) (vc : VC) (lane : Nat) (n : Nat) (s : State) {u₁ : State} (hk
    : Good hx s) :
    execIdleFlit p ack vc lane n s = .next u₁ → Good hx u₁ := by
  unfold execIdleFlit
  grind (gen := 24) (splits := 14) (ematch := 20)

theorem degrade_good {hx : Hold} (p : Nat) (s : State) (hk : Good hx s) :
    Good hx (degrade p s) := by
  unfold degrade
  grind (gen := 24) (splits := 14) (ematch := 20)

grind_pattern degrade_good => degrade p s, Good hx s

theorem nakked_good {hx : Hold} (p : Nat) (f : State → State) (s : State) (hf : ∀ z, Good hx z → Good hx (f z)) (hk : Good
    hx s) :
    Good hx (nakked p f s) := by
  unfold nakked
  grind (gen := 24) (splits := 14) (ematch := 20)

grind_pattern nakked_good => nakked p f s, Good hx s

theorem execFlitFailed_good {hx : Hold} (p : Nat) (uncorr : Bool) (again : Bool) (s : State) {u₁ : State} (hk : Good hx s) :
    execFlitFailed p uncorr again s = .next u₁ → Good hx u₁ := by
  unfold execFlitFailed
  grind (gen := 24) (splits := 14) (ematch := 20) [Out.allowed]

theorem resend_good {hx : Hold} (p : Nat) (s : State) (hk : Good hx s) :
    Good hx (resend p s) := by
  unfold resend
  grind (gen := 24) (splits := 14) (ematch := 20) [Out.allowed]

grind_pattern resend_good => resend p s, Good hx s

theorem execNak_good {hx : Hold} (p : Nat) (ack : Nat) (s : State) {u₁ : State} (hk : Good hx s) :
    execNak p ack s = .next u₁ → Good hx u₁ := by
  unfold execNak
  grind (gen := 24) (splits := 14) (ematch := 20)

theorem execReplayEpisodeEnd_good {hx : Hold} (p : Nat) (s : State) {u₁ : State} (hk : Good hx s) :
    execReplayEpisodeEnd p s = .next u₁ → Good hx u₁ := by
  unfold execReplayEpisodeEnd
  grind (gen := 24) (splits := 14) (ematch := 20)

theorem sendGrants_good {hx : Hold} (p : Nat) (s : State) (hk : Good hx s) :
    Good hx (sendGrants p s) := by
  unfold sendGrants
  grind (gen := 24) (splits := 14) (ematch := 20) [Out.allowed]

grind_pattern sendGrants_good => sendGrants p s, Good hx s

theorem endDegrade_good {hx : Hold} (p : Nat) (ack : Nat) (lanes : List Bool) (grants : List Nat) (s : State) (hk : Good
    hx s) :
    Good hx (endDegrade p ack lanes grants s) := by
  unfold endDegrade
  grind (gen := 24) (splits := 14) (ematch := 20)

grind_pattern endDegrade_good => endDegrade p ack lanes grants s, Good hx s

theorem execLaneDegrade_good {hx : Hold} (p : Nat) (ack : Nat) (lanes : List Bool) (grants : List Nat) (s : State) {u₁ :
    State} (hk : Good hx s) :
    execLaneDegrade p ack lanes grants s = .next u₁ → Good hx u₁ := by
  unfold execLaneDegrade
  grind (gen := 24) (splits := 14) (ematch := 20)

theorem execFabLinkDown_good {hx : Hold} (p : Nat) (s : State) {u₁ : State} (hk : Good hx s) :
    execFabLinkDown p s = .next u₁ → Good hx u₁ := by
  unfold execFabLinkDown
  grind (gen := 24) (splits := 14) (ematch := 20)

theorem sendHello_good {hx : Hold} (p : Nat) (s : State) (hk : Good hx s) :
    Good hx (sendHello p s) := by
  unfold sendHello
  grind (gen := 24) (splits := 14) (ematch := 20) [Option.map_eq_some_iff, Out.allowed]

grind_pattern sendHello_good => sendHello p s, Good hx s

theorem execFabLinkUp_good {hx : Hold} (p : Nat) (width : Fin 3) (grants : List Nat) (s : State) {u₁ : State} (hk : Good
    hx s) :
    execFabLinkUp p width grants s = .next u₁ → Good hx u₁ := by
  unfold execFabLinkUp
  grind (gen := 24) (splits := 14) (ematch := 20) [Out.allowed]

theorem linkRetrain_good {hx : Hold} (p : Nat) (s : State) (hk : Good hx s) :
    Good hx (linkRetrain p s) := by
  unfold linkRetrain
  grind (gen := 24) (splits := 14) (ematch := 20)

grind_pattern linkRetrain_good => linkRetrain p s, Good hx s

theorem linkDown_good {hx : Hold} (p : Nat) (s : State) (hk : Good hx s) :
    Good hx (linkDown p s) := by
  unfold linkDown
  grind (gen := 24) (splits := 14) (ematch := 20)

grind_pattern linkDown_good => linkDown p s, Good hx s

theorem execRouteHoldTimeout_good {hx : Hold} (i : Nat) (s : State) {u₁ : State} (hk : Good hx s) :
    execRouteHoldTimeout i s = .next u₁ → Good hx u₁ := by
  unfold execRouteHoldTimeout
  grind (gen := 24) (splits := 14) (ematch := 20)

theorem execFecInterval_good {hx : Hold} (p : Nat) (n : Nat) (s : State) {u₁ : State} (hk : Good hx s) :
    execFecInterval p n s = .next u₁ → Good hx u₁ := by
  unfold execFecInterval
  grind (gen := 24) (splits := 14) (ematch := 20)

theorem setLocked_good {hx : Hold} (b : Bool) (s : State) (hk : Good hx s) :
    Good hx (setLocked b s) := by
  unfold setLocked
  grind (gen := 24) (splits := 14) (ematch := 20)

grind_pattern setLocked_good => setLocked b s, Good hx s

theorem setFm_good {hx : Hold} (n : Option Fm) (s : State) (hk : Good hx s) :
    Good hx (setFm n s) := by
  unfold setFm
  grind (gen := 24) (splits := 14) (ematch := 20) [Option.map_eq_some_iff]

grind_pattern setFm_good => setFm n s, Good hx s

theorem elect_good {hx : Hold} (s : State) (hk : Good hx s) :
    Good hx (elect s) := by
  unfold elect
  grind (gen := 24) (splits := 14) (ematch := 20) [Option.map_eq_some_iff]

grind_pattern elect_good => elect s, Good hx s

theorem chooseParent_good {hx : Hold} (s : State) (hk : Good hx s) :
    Good hx (chooseParent s) := by
  unfold chooseParent
  grind (gen := 24) (splits := 14) (ematch := 20) [Option.map_eq_some_iff]

grind_pattern chooseParent_good => chooseParent s, Good hx s

theorem newIncarn_good {hx : Hold} (d : Nat) (inc : Nat) (s : State) (hk : Good hx s) :
    Good hx (newIncarn d inc s) := by
  unfold newIncarn
  grind (gen := 24) (splits := 14) (ematch := 20)

grind_pattern newIncarn_good => newIncarn d inc s, Good hx s

theorem execHello_good {hx : Hold} (p : Nat) (h : Hello) (s : State) {u₁ : State} (hk : Good hx s) :
    execHello p h s = .next u₁ → Good hx u₁ := by
  unfold execHello
  grind (gen := 24) (splits := 14) (ematch := 20) [Option.map_eq_some_iff, Option.bind_eq_some_iff]

theorem execHelloTimer_good {hx : Hold} (p : Nat) (s : State) {u₁ : State} (hk : Good hx s) :
    execHelloTimer p s = .next u₁ → Good hx u₁ := by
  unfold execHelloTimer
  grind (gen := 24) (splits := 14) (ematch := 20)

theorem execFmCandidateExpire_good {hx : Hold} (p : Nat) (s : State) {u₁ : State} (hk : Good hx s) :
    execFmCandidateExpire p s = .next u₁ → Good hx u₁ := by
  unfold execFmCandidateExpire
  grind (gen := 24) (splits := 14) (ematch := 20) [Option.map_eq_some_iff, Option.bind_eq_some_iff]

theorem flood_good {hx : Hold} (m : List Nat) (avoid : Option Nat) (s : State) (hk : Good hx s) :
    Good hx (flood m avoid s) := by
  unfold flood
  grind (gen := 24) (splits := 14) (ematch := 20) [Out.allowed]

grind_pattern flood_good => flood m avoid s, Good hx s

theorem beacon_good {hx : Hold} (s : State) (hk : Good hx s) :
    Good hx (beacon s) := by
  unfold beacon
  grind (gen := 24) (splits := 14) (ematch := 20)

grind_pattern beacon_good => beacon s, Good hx s

theorem execFmElected_good {hx : Hold} (s : State) {u₁ : State} (hk : Good hx s) :
    execFmElected s = .next u₁ → Good hx u₁ := by
  unfold execFmElected
  grind (gen := 24) (splits := 14) (ematch := 20)

theorem execFmLost_good {hx : Hold} (s : State) {u₁ : State} (hk : Good hx s) :
    execFmLost s = .next u₁ → Good hx u₁ := by
  unfold execFmLost
  grind (gen := 24) (splits := 14) (ematch := 20)

theorem execFmBeaconTimer_good {hx : Hold} (s : State) {u₁ : State} (hk : Good hx s) :
    execFmBeaconTimer s = .next u₁ → Good hx u₁ := by
  unfold execFmBeaconTimer
  grind (gen := 24) (splits := 14) (ematch := 20)

theorem putRoute_good {hx : Hold} (dst : Nat) (e : Nat) (s : State) (hk : Good hx s) :
    Good hx (putRoute dst e s) := by
  unfold putRoute
  grind (gen := 24) (splits := 14) (ematch := 20)

grind_pattern putRoute_good => putRoute dst e s, Good hx s

theorem execFmcResendTimeout_good {hx : Hold} (tag : Nat) (s : State) {u₁ : State} (hk : Good hx s) :
    execFmcResendTimeout tag s = .next u₁ → Good hx u₁ := by
  unfold execFmcResendTimeout
  grind (gen := 24) (splits := 14) (ematch := 20) [Option.map_eq_some_iff, Out.allowed]

theorem applySync_good {hx : Hold} (off : Int) (s : State) (hk : Good hx s) :
    Good hx (applySync off s) := by
  unfold applySync
  grind (gen := 24) (splits := 14) (ematch := 20)

grind_pattern applySync_good => applySync off s, Good hx s

theorem execSync_good {hx : Hold} (p : Nat) (m : SyncMsg) (s : State) {u₁ : State} (hk : Good hx s) :
    execSync p m s = .next u₁ → Good hx u₁ := by
  unfold execSync
  grind (gen := 24) (splits := 14) (ematch := 20) [Out.allowed]

theorem execSyncExchangeTimer_good {hx : Hold} (s : State) {u₁ : State} (hk : Good hx s) :
    execSyncExchangeTimer s = .next u₁ → Good hx u₁ := by
  unfold execSyncExchangeTimer
  grind (gen := 24) (splits := 14) (ematch := 20) [Out.allowed]

theorem execSyncHoldoverExpire_good {hx : Hold} (s : State) {u₁ : State} (hk : Good hx s) :
    execSyncHoldoverExpire s = .next u₁ → Good hx u₁ := by
  unfold execSyncHoldoverExpire
  grind (gen := 24) (splits := 14) (ematch := 20)

/-! ### Machine/Quench.lean -/

theorem zeroise_good {hx : Hold} (s : State) (hk : Good hx s) :
    Good hx (zeroise s) := by
  unfold zeroise
  grind (gen := 24) (splits := 14) (ematch := 20)

grind_pattern zeroise_good => zeroise s, Good hx s

theorem tellLock_good {hx : Hold} (s : State) (hk : Good hx s) :
    Good hx (tellLock s) := by
  unfold tellLock
  grind (gen := 24) (splits := 14) (ematch := 20)

grind_pattern tellLock_good => tellLock s, Good hx s

theorem quench_good {hx : Hold} (s : State) (hk : Good hx s) :
    Good hx (quench s) := by
  unfold quench
  grind (gen := 24) (splits := 14) (ematch := 20)

grind_pattern quench_good => quench s, Good hx s

theorem clearSram_good {hx : Hold} (s : State) (hk : Good hx s) :
    Good hx (clearSram s) := by
  unfold clearSram
  grind (gen := 24) (splits := 14) (ematch := 20)

grind_pattern clearSram_good => clearSram s, Good hx s

/-! ### Machine/Reset.lean -/

theorem coreReset_good {hx : Hold} (k : ResetKind) (s : State) (hk : Good hx s) :
    Good hx (coreReset k s) := by
  unfold coreReset
  refine hk.of rfl rfl (fun h => ?_) (fun h => ?_)
  · simp only [Io.ok, Bool.and_eq_true] at h
    have ho : outOk s.io.out = true := h.2.1
    simp only [Io.ok, Bool.and_eq_true]
    exact ⟨⟨⟨⟨rfl, rfl⟩, rfl⟩, rfl⟩, ho, tblWf_filter _ h.2.2⟩
  · simp only [State.memWf, State.shapeOk, cchOk, Bool.and_eq_true] at h ⊢
    refine ⟨⟨h.1.1, rfl⟩, ⟨⟨⟨⟨rfl, rfl⟩, rfl⟩, ?_⟩, ⟨⟨?_, rfl⟩, h.2.1.2.2⟩⟩, rfl⟩
    · cases k <;> first | exact h.2.1.1.2 | rfl
    · simpa using h.2.1.2.1.1

grind_pattern coreReset_good => coreReset k s, Good hx s

theorem drivePin_good {hx : Hold} (n : String) (level : Bool) (s : State) (hk : Good hx s) :
    Good hx (drivePin n level s) := by
  unfold drivePin
  grind (gen := 24) (splits := 14) (ematch := 20) [Out.allowed]

grind_pattern drivePin_good => drivePin n level s, Good hx s

theorem setMainEn_good {hx : Hold} (on : Bool) (s : State) (hk : Good hx s) :
    Good hx (setMainEn on s) := by
  unfold setMainEn
  grind (gen := 24) (splits := 14) (ematch := 20)

grind_pattern setMainEn_good => setMainEn on s, Good hx s

theorem dropHeld__good {hx : Hold} (s : State) (hk : Good hx s) :
    Good hx (dropHeld_ s) := by
  unfold dropHeld_
  grind (gen := 24) (splits := 14) (ematch := 20)

grind_pattern dropHeld__good => dropHeld_ s, Good hx s

theorem enterOff_good {hx : Hold} (s : State) (hk : Good hx s) :
    Good hx (enterOff s) := by
  unfold enterOff
  grind (gen := 24) (splits := 14) (ematch := 20)

grind_pattern enterOff_good => enterOff s, Good hx s

theorem enterDormant_good {hx : Hold} (s : State) (hk : Good hx s) :
    Good hx (enterDormant s) := by
  unfold enterDormant
  grind (gen := 24) (splits := 14) (ematch := 20)

grind_pattern enterDormant_good => enterDormant s, Good hx s

theorem writeSeal_good {hx : Hold} (s : State) (hk : Good hx s) :
    Good hx (writeSeal s) := by
  unfold writeSeal
  grind (gen := 24) (splits := 14) (ematch := 20)

grind_pattern writeSeal_good => writeSeal s, Good hx s

theorem endGeyser_good {hx : Hold} (done : Bool) (s : State) (hk : Good hx s) :
    Good hx (endGeyser done s) := by
  unfold endGeyser
  grind (gen := 24) (splits := 14) (ematch := 20)

grind_pattern endGeyser_good => endGeyser done s, Good hx s

theorem endDormant_good {hx : Hold} (s : State) (hk : Good hx s) :
    Good hx (endDormant s) := by
  unfold endDormant
  grind (gen := 24) (splits := 14) (ematch := 20)

grind_pattern endDormant_good => endDormant s, Good hx s

/-! ### Machine/Boot.lean -/

theorem onRecord_good {hx : Hold} (f : Flash → Flash) (s : State) (hk : Good hx s) :
    Good hx (onRecord f s) := by
  unfold onRecord
  grind (gen := 24) (splits := 14) (ematch := 20)

grind_pattern onRecord_good => onRecord f s, Good hx s

theorem tryMcf_good {hx : Hold} (f : BootFacts) (i : Nat) (s : State) {q₁ : Bool} {u₁ : State} (hk : Good hx s) :
    tryMcf f i s = (q₁, u₁) → Good hx u₁ := by
  unfold tryMcf
  grind (gen := 24) (splits := 14) (ematch := 20)

theorem tryBoth_good {hx : Hold} (f : BootFacts) (s : State) {q₁ : Option Nat} {u₁ : State} (hk : Good hx s) :
    tryBoth f s = (q₁, u₁) → Good hx u₁ := by
  unfold tryBoth
  grind (gen := 24) (splits := 14) (ematch := 20) [→ tryMcf_good]

theorem fallBack_good {hx : Hold} (s : State) (hk : Good hx s) :
    Good hx (fallBack s) := by
  unfold fallBack
  grind (gen := 24) (splits := 14) (ematch := 20)

grind_pattern fallBack_good => fallBack s, Good hx s

theorem selectMcf_good {hx : Hold} (k : ResetKind) (f : BootFacts) (s : State) {q₁ : Option Nat} {u₁ : State} (hk : Good
    hx s) :
    selectMcf k f s = (q₁, u₁) → Good hx u₁ := by
  unfold selectMcf
  grind (gen := 24) (splits := 14) (ematch := 20) [→ tryBoth_good, → tryMcf_good]

theorem deriveKeys_good {hx : Hold} (s : State) (hk : Good hx s) :
    Good hx (deriveKeys s) := by
  unfold deriveKeys
  grind (gen := 24) (splits := 14) (ematch := 20)

grind_pattern deriveKeys_good => deriveKeys s, Good hx s

theorem romBoot_good {hx : Hold} (k : ResetKind) (f : BootFacts) (s : State) (hk : Good hx s) :
    Good hx (romBoot k f s) := by
  unfold romBoot
  grind (gen := 24) (splits := 14) (ematch := 20) [→ selectMcf_good, Option.bind_eq_some_iff]

grind_pattern romBoot_good => romBoot k f s, Good hx s

theorem ramOf_canon (d : Tbl Byte) : tblCanon 0 (startM.ramOf d) = true := by
  unfold startM.ramOf
  suffices H : ∀ (l : List (Nat × Byte)) (t : Tbl Word), tblCanon 0 t = true → tblCanon 0 (l.foldl (fun t (e : Nat × Byte) =>
      let k := e.1 / 4
      let w := (tblGet 0 t k).toNat
      tblSet 0 t k (BitVec.ofNat 32 (setBits w (8 * (e.1 % 4) + 7) (8 * (e.1 % 4)) e.2.toNat))) t) = true from H d [] rfl
  intro l
  induction l with
  | nil => intro t h; exact h
  | cons e l ih => intro t h; exact ih _ (tblCanon_set _ _ h)

theorem pcfCore_shape (x : Image) (ram : Tbl Word) (c : Nat) (k : Core) :
    (pcfCore x ram c k).shape = [32, 32, 32, 32] := by
  simp only [Core.shape, pcfCore, List.map_map]
  refine List.map_congr_left (g := fun _ => 32) fun i _ => ?_
  simp only [Function.comp]
  split <;> rfl

theorem startM_good {hx : Hold} (s : State) (hk : Good hx s) : Good hx (startM s) := by
  unfold startM
  split
  · exact hk
  · refine onCore_good _ _ _ (fun k _ => ramOf_canon _) ?_ hk
    simp [Core.shape]

grind_pattern startM_good => startM s, Good hx s

theorem dropCut_good {hx : Hold} (s : State) (hk : Good hx s) :
    Good hx (dropCut s) := by
  unfold dropCut
  grind (gen := 24) (splits := 14) (ematch := 20)

grind_pattern dropCut_good => dropCut s, Good hx s

theorem sysRecords_good {hx : Hold} (f : BootFacts) (s : State) (hk : Good hx s) :
    Good hx (sysRecords f s) := by
  unfold sysRecords
  grind (gen := 24) (splits := 14) (ematch := 20) [cchOk]

grind_pattern sysRecords_good => sysRecords f s, Good hx s

theorem loadSettings_good {hx : Hold} (k : ResetKind) (f : BootFacts) (s : State) (hk : Good hx s) :
    Good hx (loadSettings k f s) := by
  unfold loadSettings
  grind (gen := 24) (splits := 14) (ematch := 20)

grind_pattern loadSettings_good => loadSettings k f s, Good hx s

theorem loadCores_good {hx : Hold} (p : Option Image) (s : State) (hk : Good hx s) :
    Good hx (loadCores p s) := by
  unfold loadCores
  refine upTo_lt_good _ _ _ (fun c hc y hy => onCore_put_good _ (Nat.lt_of_lt_of_le hc (coreCount_le s)) _ _ (fun k h => ?_)
    (fun k => ?_) hy) hk
  · cases p with
    | none => exact h
    | some x => exact ramOf_canon _
  · cases p with
    | none => rfl
    | some x => exact pcfCore_shape _ _ _ _

grind_pattern loadCores_good => loadCores p s, Good hx s

theorem loadPolicy_good {hx : Hold} (s : State) (hk : Good hx s) :
    Good hx (loadPolicy s) := by
  unfold loadPolicy
  grind (gen := 24) (splits := 14) (ematch := 20) [Option.map_eq_some_iff]

grind_pattern loadPolicy_good => loadPolicy s, Good hx s

/-! ### Machine/Mount.lean -/

theorem recordClass_good {hx : Hold} (c : Class) (s : State) (hk : Good hx s) :
    Good hx (recordClass c s) := by
  unfold recordClass
  grind (gen := 24) (splits := 14) (ematch := 20)

grind_pattern recordClass_good => recordClass c s, Good hx s

theorem setIncomplete_good {hx : Hold} (s : State) (hk : Good hx s) :
    Good hx (setIncomplete s) := by
  unfold setIncomplete
  grind (gen := 24) (splits := 14) (ematch := 20)

grind_pattern setIncomplete_good => setIncomplete s, Good hx s

theorem unrecoverable_good {hx : Hold} (s : State) (hk : Good hx s) :
    Good hx (unrecoverable s) := by
  unfold unrecoverable
  grind (gen := 24) (splits := 14) (ematch := 20)

grind_pattern unrecoverable_good => unrecoverable s, Good hx s

theorem resumeEnclaves_good {hx : Hold} (s : State) (hk : Good hx s) :
    Good hx (resumeEnclaves s) := by
  unfold resumeEnclaves
  grind (gen := 24) (splits := 14) (ematch := 20) [Option.map_eq_some_iff]

grind_pattern resumeEnclaves_good => resumeEnclaves s, Good hx s

theorem replay_good {hx : Hold} (c : Ckpt) (s : State) (hk : Good hx s) :
    Good hx (replay c s) := by
  unfold replay
  grind (gen := 24) (splits := 14) (ematch := 20) [Option.map_eq_some_iff]

grind_pattern replay_good => replay c s, Good hx s

theorem warmStreams_good {hx : Hold} (s : State) (hk : Good hx s) :
    Good hx (warmStreams s) := by
  unfold warmStreams
  grind (gen := 24) (splits := 14) (ematch := 20)

grind_pattern warmStreams_good => warmStreams s, Good hx s

theorem awaitHandback_good {hx : Hold} (s : State) (hk : Good hx s) :
    Good hx (awaitHandback s) := by
  unfold awaitHandback
  grind (gen := 24) (splits := 14) (ematch := 20) [Option.map_eq_some_iff]

grind_pattern awaitHandback_good => awaitHandback s, Good hx s

theorem openHandback_good {hx : Hold} (s : State) (hk : Good hx s) :
    Good hx (openHandback s) := by
  unfold openHandback
  grind (gen := 24) (splits := 14) (ematch := 20)

grind_pattern openHandback_good => openHandback s, Good hx s

theorem sendForeign_good {hx : Hold} (x : Foreign) (s : State) (hk : Good hx s) :
    Good hx (sendForeign x s) := by
  unfold sendForeign
  grind (gen := 24) (splits := 14) (ematch := 20) [→ sendVia_good, Option.map_eq_some_iff]

grind_pattern sendForeign_good => sendForeign x s, Good hx s

theorem greetPump_good {hx : Hold} (s : State) (hk : Good hx s) :
    Good hx (greetPump s) := by
  unfold greetPump
  grind (gen := 24) (splits := 14) (ematch := 20)

grind_pattern greetPump_good => greetPump s, Good hx s

theorem greet_good {hx : Hold} (dirtyLost : Bool) (s : State) (hk : Good hx s) :
    Good hx (greet dirtyLost s) := by
  unfold greet
  grind (gen := 24) (splits := 14) (ematch := 20)

grind_pattern greet_good => greet dirtyLost s, Good hx s

end Sys2Proof.Machine
end

