-- ==== Sys2Proof/Laws/GoodBoot.lean ====
section
/-! SUPPORT. What `Good` says is kept by every operation of Machine/: Startup, Power, Rewarm, BlockReset, Rng, Sec, RegRead, Ownership, RegHooks, RegWrite, WalniMem, Sideband, Fmc. -/

set_option Elab.async false

namespace Sys2Proof.Machine

open Sys2Proof

/-! ### Machine/Startup.lean -/

theorem trainFull_good {hx : Hold} (f : BootFacts) (s : State) (hk : Good hx s) :
    Good hx (trainFull f s) := by
  unfold trainFull
  refine onCch_good _ _ (fun h => ?_) (eachIn_good _ _ _ (fun a y hy => raise_good _ _ _ _ hy) (raise_good _ _ _ _ hk))
  simp [cchOk, upChans]

grind_pattern trainFull_good => trainFull f s, Good hx s

theorem trainRestore_good {hx : Hold} (warm : Bool) (r : TrainRec) (f : BootFacts) (s : State)
    (hr : s.cch.record = some r) (hk : Good hx s) : Good hx (trainRestore warm r f s) := by
  unfold trainRestore
  refine onCch_good _ _ (fun h => ?_) hk
  simp only [cchOk, hr, Bool.and_eq_true, Option.all_some, beq_iff_eq] at h
  simp [cchOk, h.2]

grind_pattern trainRestore_good => trainRestore warm r f s, Good hx s

theorem tellFailed_good {hx : Hold} (s : State) (hk : Good hx s) :
    Good hx (tellFailed s) := by
  unfold tellFailed
  grind (gen := 24) (splits := 14) (ematch := 20) [cchOk]

grind_pattern tellFailed_good => tellFailed s, Good hx s

theorem bringDram_good {hx : Hold} (warm : Bool) (f : BootFacts) (s : State) (hk : Good hx s) :
    Good hx (bringDram warm f s) := by
  unfold bringDram
  grind (gen := 24) (splits := 14) (ematch := 20) [cchOk]

grind_pattern bringDram_good => bringDram warm f s, Good hx s

theorem setGeometry_good {hx : Hold} (f : BootFacts) (s : State) (hk : Good hx s) :
    Good hx (setGeometry f s) := by
  unfold setGeometry
  grind (gen := 24) (splits := 14) (ematch := 20) [cchOk]

grind_pattern setGeometry_good => setGeometry f s, Good hx s

theorem emptyCache_good {hx : Hold} (s : State) (hk : Good hx s) :
    Good hx (emptyCache s) := by
  unfold emptyCache
  grind (gen := 24) (splits := 14) (ematch := 20)

grind_pattern emptyCache_good => emptyCache s, Good hx s

theorem dropRemote_good {hx : Hold} (s : State) (hk : Good hx s) :
    Good hx (dropRemote s) := by
  unfold dropRemote
  grind (gen := 24) (splits := 14) (ematch := 20)

grind_pattern dropRemote_good => dropRemote s, Good hx s

theorem decideClass_good {hx : Hold} (f : BootFacts) (s : State) (hk : Good hx s) :
    Good hx (decideClass f s) := by
  unfold decideClass
  grind (gen := 24) (splits := 14) (ematch := 20)

grind_pattern decideClass_good => decideClass f s, Good hx s

theorem takeId_good {hx : Hold} (k : ResetKind) (s : State) (hk : Good hx s) :
    Good hx (takeId k s) := by
  unfold takeId
  grind (gen := 24) (splits := 14) (ematch := 20)

grind_pattern takeId_good => takeId k s, Good hx s

theorem openFabric_good {hx : Hold} (k : ResetKind) (s : State) (hk : Good hx s) :
    Good hx (openFabric k s) := by
  unfold openFabric
  exact elect_good _ (onFab_good _ _ (fun _ => by simp) (takeId_good k s hk))

grind_pattern openFabric_good => openFabric k s, Good hx s

theorem keyStep_good {hx : Hold} (s : State) (hk : Good hx s) :
    Good hx (keyStep s) := by
  unfold keyStep
  grind (gen := 24) (splits := 14) (ematch := 20) [→ drawKey_good]

grind_pattern keyStep_good => keyStep s, Good hx s

theorem mounted_good {hx : Hold} (dirtyLost : Bool) (s : State) (hk : Good hx s) :
    Good hx (mounted dirtyLost s) := by
  unfold mounted
  grind (gen := 24) (splits := 14) (ematch := 20)

grind_pattern mounted_good => mounted dirtyLost s, Good hx s

theorem mountSet_good {hx : Hold} (s : State) (hk : Good hx s) :
    Good hx (mountSet s) := by
  unfold mountSet
  grind (gen := 24) (splits := 14) (ematch := 20)

grind_pattern mountSet_good => mountSet s, Good hx s

theorem mountMade_good {hx : Hold} (s : State) (hk : Good hx s) :
    Good hx (mountMade s) := by
  unfold mountMade
  grind (gen := 24) (splits := 14) (ematch := 20)

grind_pattern mountMade_good => mountMade s, Good hx s

theorem mediaStep_good {hx : Hold} (s : State) (hk : Good hx s) :
    Good hx (mediaStep s) := by
  unfold mediaStep
  grind (gen := 24) (splits := 14) (ematch := 20) [→ createSet_good]

grind_pattern mediaStep_good => mediaStep s, Good hx s

theorem dropTable_good {hx : Hold} (s : State) (hk : Good hx s) :
    Good hx (dropTable s) := by
  unfold dropTable
  refine onPlc_good _ _ (fun h => ?_) (fun h => ?_) (onRsv_good _ _ rfl hk)
  · simp only [ramsOk, List.all_map] at h ⊢
    exact h
  · simp only [coresOk, List.map_map] at h ⊢
    exact h

grind_pattern dropTable_good => dropTable s, Good hx s

theorem endRewarm_good {hx : Hold} (s : State) (hk : Good hx s) :
    Good hx (endRewarm s) := by
  unfold endRewarm
  grind (gen := 24) (splits := 14) (ematch := 20)

grind_pattern endRewarm_good => endRewarm s, Good hx s

theorem serveHdm_good {hx : Hold} (s : State) (hk : Good hx s) :
    Good hx (serveHdm s) := by
  unfold serveHdm
  grind (gen := 24) (splits := 14) (ematch := 20)

grind_pattern serveHdm_good => serveHdm s, Good hx s

theorem leaveLock_good {hx : Hold} (s : State) (hk : Good hx s) :
    Good hx (leaveLock s) := by
  unfold leaveLock
  grind (gen := 24) (splits := 14) (ematch := 20) [Option.map_eq_some_iff]

grind_pattern leaveLock_good => leaveLock s, Good hx s

theorem escrowOk_good {hx : Hold} (s : State) (hk : Good hx s) :
    Good hx (escrowOk s) := by
  unfold escrowOk
  grind (gen := 24) (splits := 14) (ematch := 20)

grind_pattern escrowOk_good => escrowOk s, Good hx s

theorem unlockStep_good {hx : Hold} (s : State) (hk : Good hx s) :
    Good hx (unlockStep s) := by
  unfold unlockStep
  grind (gen := 24) (splits := 14) (ematch := 20)

grind_pattern unlockStep_good => unlockStep s, Good hx s

theorem bootPump_good {hx : Hold} (s : State) (hk : Good hx s) :
    Good hx (bootPump s) := by
  unfold bootPump
  grind (gen := 24) (splits := 14) (ematch := 20)

grind_pattern bootPump_good => bootPump s, Good hx s

theorem commitTrial_good {hx : Hold} (s : State) (hk : Good hx s) :
    Good hx (commitTrial s) := by
  unfold commitTrial
  grind (gen := 24) (splits := 14) (ematch := 20)

grind_pattern commitTrial_good => commitTrial s, Good hx s

theorem enableLinks_good {hx : Hold} (s : State) (hk : Good hx s) :
    Good hx (enableLinks s) := by
  unfold enableLinks
  grind (gen := 24) (splits := 14) (ematch := 20)

grind_pattern enableLinks_good => enableLinks s, Good hx s

theorem execHostLinkEnable_good {hx : Hold} (s : State) {u₁ : State} (hk : Good hx s) :
    execHostLinkEnable s = .next u₁ → Good hx u₁ := by
  unfold execHostLinkEnable
  grind (gen := 24) (splits := 14) (ematch := 20)

theorem execPfHeldTimeout_good {hx : Hold} (s : State) {u₁ : State} (hk : Good hx s) :
    execPfHeldTimeout s = .next u₁ → Good hx u₁ := by
  unfold execPfHeldTimeout
  grind (gen := 24) (splits := 14) (ematch := 20)

theorem tellOwed_good {hx : Hold} (s : State) (hk : Good hx s) :
    Good hx (tellOwed s) := by
  unfold tellOwed
  grind (gen := 24) (splits := 14) (ematch := 20)

grind_pattern tellOwed_good => tellOwed s, Good hx s

theorem startMedia_good {hx : Hold} (s : State) (hk : Good hx s) :
    Good hx (startMedia s) := by
  unfold startMedia
  grind (gen := 24) (splits := 14) (ematch := 20)

grind_pattern startMedia_good => startMedia s, Good hx s

theorem startUp_good {hx : Hold} (k : ResetKind) (cause : ResetCause) (f : BootFacts) (s : State) (hk : Good hx s) :
    Good hx (startUp k cause f s) := by
  unfold startUp
  grind (gen := 24) (splits := 14) (ematch := 20)

grind_pattern startUp_good => startUp k cause f s, Good hx s

theorem execRailsGoodRise_good {hx : Hold} (f : BootFacts) (s : State) {u₁ : State} (hk : Good hx s) :
    execRailsGoodRise f s = .next u₁ → Good hx u₁ := by
  unfold execRailsGoodRise
  grind (gen := 24) (splits := 14) (ematch := 20)

theorem execJournalPageCompletion_good {hx : Hold} (cid : Nat) (out : MOut) (s : State) {u₁ : State} (hk : Good hx s) :
    execJournalPageCompletion cid out s = .next u₁ → Good hx u₁ := by
  unfold execJournalPageCompletion
  grind (gen := 24) (splits := 14) (ematch := 20)

theorem execLabelAreaWriteCompletion_good {hx : Hold} (cid : Nat) (out : MOut) (s : State) {u₁ : State} (hk : Good hx s) :
    execLabelAreaWriteCompletion cid out s = .next u₁ → Good hx u₁ := by
  unfold execLabelAreaWriteCompletion
  grind (gen := 24) (splits := 14) (ematch := 20)

theorem execMediaPortLost_good {hx : Hold} (p : Nat) (s : State) {u₁ : State} (hk : Good hx s) :
    execMediaPortLost p s = .next u₁ → Good hx u₁ := by
  unfold execMediaPortLost
  grind (gen := 24) (splits := 14) (ematch := 20)

theorem execMedCtrlReadyTimeout_good {hx : Hold} (p : Nat) (s : State) {u₁ : State} (hk : Good hx s) :
    execMedCtrlReadyTimeout p s = .next u₁ → Good hx u₁ := by
  unfold execMedCtrlReadyTimeout
  grind (gen := 24) (splits := 14) (ematch := 20)

theorem portReady_good {hx : Hold} (p : Nat) (nss : List FoundNs) (s : State) (hk : Good hx s) :
    Good hx (portReady p nss s) := by
  unfold portReady
  grind (gen := 24) (splits := 14) (ematch := 20) [Option.map_eq_some_iff, Out.allowed]

grind_pattern portReady_good => portReady p nss s, Good hx s

theorem execMedCtrlReady_good {hx : Hold} (p : Nat) (nss : List FoundNs) (last : Bool) (s : State) {u₁ : State} (hk : Good
    hx s) :
    execMedCtrlReady p nss last s = .next u₁ → Good hx u₁ := by
  unfold execMedCtrlReady
  grind (gen := 24) (splits := 14) (ematch := 20)

/-! ### Machine/Power.lean -/

theorem sealDrain_good {hx : Hold} (s : State) (hk : Good hx s) :
    Good hx (sealDrain s) := by
  unfold sealDrain
  grind (gen := 24) (splits := 14) (ematch := 20)

grind_pattern sealDrain_good => sealDrain s, Good hx s

theorem endDrain_good {hx : Hold} (f : BootFacts) (s : State) (hk : Good hx s) :
    Good hx (endDrain f s) := by
  unfold endDrain
  grind (gen := 24) (splits := 14) (ematch := 20)

grind_pattern endDrain_good => endDrain f s, Good hx s

theorem execGeyserDrainComplete_good {hx : Hold} (f : BootFacts) (s : State) {u₁ : State} (hk : Good hx s) :
    execGeyserDrainComplete f s = .next u₁ → Good hx u₁ := by
  unfold execGeyserDrainComplete
  grind (gen := 24) (splits := 14) (ematch := 20)

theorem execBankVminReached_good {hx : Hold} (s : State) {u₁ : State} (hk : Good hx s) :
    execBankVminReached s = .next u₁ → Good hx u₁ := by
  unfold execBankVminReached
  grind (gen := 24) (splits := 14) (ematch := 20)

theorem execMainPowerReturn_good {hx : Hold} (s : State) {u₁ : State} (hk : Good hx s) :
    execMainPowerReturn s = .next u₁ → Good hx u₁ := by
  unfold execMainPowerReturn
  grind (gen := 24) (splits := 14) (ematch := 20)

theorem railsLost_good {hx : Hold} (s : State) (hk : Good hx s) :
    Good hx (railsLost s) := by
  unfold railsLost
  grind (gen := 24) (splits := 14) (ematch := 20)

grind_pattern railsLost_good => railsLost s, Good hx s

theorem execRailsGoodFall_good {hx : Hold} (wires : List WireWr) (msgs : List WireMsg) (s : State) {u₁ : State} (hk : Good
    hx s) :
    execRailsGoodFall wires msgs s = .next u₁ → Good hx u₁ := by
  unfold execRailsGoodFall
  grind (gen := 24) (splits := 14) (ematch := 20)

theorem execDramRailsLeaveRegulation_good {hx : Hold} (s : State) {u₁ : State} (hk : Good hx s) :
    execDramRailsLeaveRegulation s = .next u₁ → Good hx u₁ := by
  unfold execDramRailsLeaveRegulation
  grind (gen := 24) (splits := 14) (ematch := 20)

theorem execBankBleedDone_good {hx : Hold} (n : Nat) (s : State) {u₁ : State} (hk : Good hx s) :
    execBankBleedDone n s = .next u₁ → Good hx u₁ := by
  unfold execBankBleedDone
  grind (gen := 24) (splits := 14) (ematch := 20)

theorem execVauxPowerUp_good {hx : Hold} (s : State) {u₁ : State} (hk : Good hx s) :
    execVauxPowerUp s = .next u₁ → Good hx u₁ := by
  unfold execVauxPowerUp
  grind (gen := 24) (splits := 14) (ematch := 20)

theorem execVauxFall_good {hx : Hold} (s : State) {u₁ : State} (hk : Good hx s) :
    execVauxFall s = .next u₁ → Good hx u₁ := by
  unfold execVauxFall
  grind (gen := 24) (splits := 14) (ematch := 20)

theorem resetDrain_good {hx : Hold} (c : ResetCause) (s : State) (hk : Good hx s) :
    Good hx (resetDrain c s) := by
  unfold resetDrain
  grind (gen := 24) (splits := 14) (ematch := 20)

grind_pattern resetDrain_good => resetDrain c s, Good hx s

theorem execResetNAssert_good {hx : Hold} (f : BootFacts) (s : State) {u₁ : State} (hk : Good hx s) :
    execResetNAssert f s = .next u₁ → Good hx u₁ := by
  unfold execResetNAssert
  grind (gen := 24) (splits := 14) (ematch := 20)

theorem startRelease_good {hx : Hold} (s : State) (hk : Good hx s) :
    Good hx (startRelease s) := by
  unfold startRelease
  grind (gen := 24) (splits := 14) (ematch := 20) [→ admit_good, Option.map_eq_some_iff]

grind_pattern startRelease_good => startRelease s, Good hx s

theorem releasePump_good {hx : Hold} (s : State) (hk : Good hx s) :
    Good hx (releasePump s) := by
  unfold releasePump
  grind (gen := 24) (splits := 14) (ematch := 20)

grind_pattern releasePump_good => releasePump s, Good hx s

theorem warmReset_good {hx : Hold} (noRelease : Bool) (s : State) (hk : Good hx s) :
    Good hx (warmReset noRelease s) := by
  unfold warmReset
  grind (gen := 24) (splits := 14) (ematch := 20)

grind_pattern warmReset_good => warmReset noRelease s, Good hx s

theorem execReleasePhaseTimeout_good {hx : Hold} (s : State) {u₁ : State} (hk : Good hx s) :
    execReleasePhaseTimeout s = .next u₁ → Good hx u₁ := by
  unfold execReleasePhaseTimeout
  grind (gen := 24) (splits := 14) (ematch := 20)

theorem execBootWatchdogExpire_good {hx : Hold} (f : BootFacts) (s : State) {u₁ : State} (hk : Good hx s) :
    execBootWatchdogExpire f s = .next u₁ → Good hx u₁ := by
  unfold execBootWatchdogExpire
  grind (gen := 24) (splits := 14) (ematch := 20)

theorem execRomRecoveryReset_good {hx : Hold} (f : BootFacts) (s : State) {u₁ : State} (hk : Good hx s) :
    execRomRecoveryReset f s = .next u₁ → Good hx u₁ := by
  unfold execRomRecoveryReset
  grind (gen := 24) (splits := 14) (ematch := 20)

theorem tampered_good {hx : Hold} (wires : List WireWr) (msgs : List WireMsg) (s : State) (hk : Good hx s) :
    Good hx (tampered wires msgs s) := by
  unfold tampered
  grind (gen := 24) (splits := 14) (ematch := 20)

grind_pattern tampered_good => tampered wires msgs s, Good hx s

theorem execTamperTrigger_good {hx : Hold} (t : Tamper) (wires : List WireWr) (msgs : List WireMsg) (s : State) {u₁ :
    State} (hk : Good hx s) :
    execTamperTrigger t wires msgs s = .next u₁ → Good hx u₁ := by
  unfold execTamperTrigger
  grind (gen := 24) (splits := 14) (ematch := 20)

theorem drainOver_good {hx : Hold} (t : Nat) (s : State) (hk : Good hx s) :
    Good hx (drainOver t s) := by
  unfold drainOver
  grind (gen := 24) (splits := 14) (ematch := 20)

grind_pattern drainOver_good => drainOver t s, Good hx s

theorem execQuenchSramCleared_good {hx : Hold} (s : State) {u₁ : State} (hk : Good hx s) :
    execQuenchSramCleared s = .next u₁ → Good hx u₁ := by
  unfold execQuenchSramCleared
  grind (gen := 24) (splits := 14) (ematch := 20)

/-! ### Machine/Rewarm.lean -/

theorem execRestartSweepSet_good {hx : Hold} (c : Nat) (s : State) {u₁ : State} (hk : Good hx s) :
    execRestartSweepSet c s = .next u₁ → Good hx u₁ := by
  unfold execRestartSweepSet
  grind (gen := 24) (splits := 14) (ematch := 20)

theorem takeStream_good {hx : Hold} (self : Bool) (s : State) {q₁ : SchedEnt} {u₁ : State} (hk : Good hx s) :
    takeStream self s = some (q₁, u₁) → Good hx u₁ := by
  unfold takeStream
  grind (gen := 24) (splits := 14) (ematch := 20) [Option.map_eq_some_iff]

theorem takeSched_good {hx : Hold} (s : State) {q₁ : SchedEnt} {u₁ : State} (hk : Good hx s) :
    takeSched s = some (q₁, u₁) → Good hx u₁ := by
  unfold takeSched
  grind (gen := 24) (splits := 14) (ematch := 20)

theorem nextEntry_good {hx : Hold} (s : State) {q₁ : SchedEnt} {u₁ : State} (hk : Good hx s) :
    nextEntry s = some (q₁, u₁) → Good hx u₁ := by
  unfold nextEntry
  grind (gen := 24) (splits := 14) (ematch := 20) [→ takeSched_good, → takeStream_good]

theorem rewarmPump_good {hx : Hold} (s : State) (hk : Good hx s) :
    Good hx (rewarmPump s) := by
  unfold rewarmPump
  grind (gen := 24) (splits := 14) (ematch := 20)

grind_pattern rewarmPump_good => rewarmPump s, Good hx s

theorem paceRewarm_good {hx : Hold} (bytes : Nat) (s : State) (hk : Good hx s) :
    Good hx (paceRewarm bytes s) := by
  unfold paceRewarm
  grind (gen := 24) (splits := 14) (ematch := 20)

grind_pattern paceRewarm_good => paceRewarm bytes s, Good hx s

theorem execRewarmRead_good {hx : Hold} (s : State) {u₁ : State} (hk : Good hx s) :
    execRewarmRead s = .next u₁ → Good hx u₁ := by
  unfold execRewarmRead
  grind (gen := 24) (splits := 14) (ematch := 20) [→ admit_good, → nextEntry_good, Option.map_eq_some_iff]

theorem tickAll_good {hx : Hold} (t : Nat) (adc : List Adc) (s : State) (hk : Good hx s) :
    Good hx (tickAll t adc s) := by
  unfold tickAll
  grind (gen := 24) (splits := 14) (ematch := 20) [flush_ok, snapshot_ok]

grind_pattern tickAll_good => tickAll t adc s, Good hx s

theorem afterTick_good {hx : Hold} (s : State) (hk : Good hx s) :
    Good hx (afterTick s) := by
  unfold afterTick
  grind (gen := 24) (splits := 14) (ematch := 20)

grind_pattern afterTick_good => afterTick s, Good hx s

theorem idle_good {hx : Hold} (s : State) (hk : Good hx s) :
    Good hx (idle s) := by
  unfold idle
  grind (gen := 24) (splits := 14) (ematch := 20)

grind_pattern idle_good => idle s, Good hx s

theorem undoShed_good {hx : Hold} (s : State) (hk : Good hx s) :
    Good hx (undoShed s) := by
  unfold undoShed
  grind (gen := 24) (splits := 14) (ematch := 20)

grind_pattern undoShed_good => undoShed s, Good hx s

theorem execEpochTick_good {hx : Hold} (adc : List Adc) (s : State) {u₁ : State} (hk : Good hx s) :
    execEpochTick adc s = .next u₁ → Good hx u₁ := by
  unfold execEpochTick
  grind (gen := 24) (splits := 14) (ematch := 20)

/-! ### Machine/BlockReset.lean -/

theorem resetRegs_good {hx : Hold} (b : Nat) (s : State) (hk : Good hx s) :
    Good hx (resetRegs b s) := by
  unfold resetRegs
  refine onIo_good _ _ (fun h => ?_) hk
  simp only [Io.ok, Bool.and_eq_true] at h ⊢
  exact ⟨h.1, h.2.1, tblWf_filter _ h.2.2⟩

grind_pattern resetRegs_good => resetRegs b s, Good hx s

theorem resetPlc_good {hx : Hold} (s : State) (hk : Good hx s) :
    Good hx (resetPlc s) := by
  unfold resetPlc
  refine onPlc_good _ _ id id (upTo_lt_good _ _ _ (fun c hc y hy => onCore_put_good _ (Nat.lt_of_lt_of_le hc (coreCount_le _)) _ _
    (fun k h => ?_) (fun k => ?_) hy) (resetRegs_good _ _ (stopPlc_good _ hk)))
  · dsimp only
    split
    · split
      · exact h
      · exact ramOf_canon _
    · exact h
  · dsimp only
    split
    · split
      · rfl
      · exact pcfCore_shape _ _ _ _
    · rfl

grind_pattern resetPlc_good => resetPlc s, Good hx s

theorem resetEvt_good {hx : Hold} (s : State) (hk : Good hx s) :
    Good hx (resetEvt s) := by
  unfold resetEvt
  refine onIo_good _ _ (fun h => ?_) (resetRegs_good _ _ hk)
  simp only [Io.ok, Bool.and_eq_true] at h ⊢
  exact ⟨⟨⟨⟨rfl, rfl⟩, rfl⟩, rfl⟩, h.2⟩

grind_pattern resetEvt_good => resetEvt s, Good hx s

theorem resetFab_good {hx : Hold} (s : State) (hk : Good hx s) :
    Good hx (resetFab s) := by
  unfold resetFab
  grind (gen := 24) (splits := 14) (ematch := 20)

grind_pattern resetFab_good => resetFab s, Good hx s

theorem blockReset_good {hx : Hold} (b : Nat) (s : State) {u₁ : State} (hk : Good hx s) :
    blockReset b s = some u₁ → Good hx u₁ := by
  unfold blockReset
  grind (gen := 24) (splits := 14) (ematch := 20)

theorem resetRefused_good {hx : Hold} (s : State) (hk : Good hx s) :
    Good hx (resetRefused s) := by
  unfold resetRefused
  grind (gen := 24) (splits := 14) (ematch := 20)

grind_pattern resetRefused_good => resetRefused s, Good hx s

theorem resetCmd_good {hx : Hold} (w : Nat) (s : State) (hk : Good hx s) :
    Good hx (resetCmd w s) := by
  unfold resetCmd
  split
  · exact resetRefused_good _ hk
  · split
    · exact hk
    · split
      · split
        · exact warmReset_good _ _ hk
        · exact hk
      · exact getD_good (fun u h => blockReset_good _ _ hk h) (resetRefused_good _ hk)

grind_pattern resetCmd_good => resetCmd w s, Good hx s

/-! ### Machine/Rng.lean -/

theorem execRngReady_good {hx : Hold} (s : State) {u₁ : State} (hk : Good hx s) :
    execRngReady s = .next u₁ → Good hx u₁ := by
  unfold execRngReady
  grind (gen := 24) (splits := 14) (ematch := 20)

theorem execRngHealthFail_good {hx : Hold} (s : State) {u₁ : State} (hk : Good hx s) :
    execRngHealthFail s = .next u₁ → Good hx u₁ := by
  unfold execRngHealthFail
  grind (gen := 24) (splits := 14) (ematch := 20)

theorem execDrbgReseed_good {hx : Hold} (s : State) {u₁ : State} (hk : Good hx s) :
    execDrbgReseed s = .next u₁ → Good hx u₁ := by
  unfold execDrbgReseed
  grind (gen := 24) (splits := 14) (ematch := 20)

theorem readLatched_good {hx : Hold} (m : Master) (lo : Nat) (a : Word) (b : Word) (s : State) (hk : Good hx s) :
    Good hx (readLatched m lo a b s) := by
  unfold readLatched
  grind (gen := 24) (splits := 14) (ematch := 20) [Out.allowed, Io.ok]

grind_pattern readLatched_good => readLatched m lo a b s, Good hx s

theorem rngRead_good {hx : Hold} (m : Master) (active : Bool) (s : State) (hk : Good hx s) :
    Good hx (rngRead m active s) := by
  unfold rngRead
  grind (gen := 24) (splits := 14) (ematch := 20)

grind_pattern rngRead_good => rngRead m active s, Good hx s

theorem execRngDataRead_good {hx : Hold} (m : Master) (active : Bool) (s : State) {u₁ : State} (hk : Good hx s) :
    execRngDataRead m active s = .next u₁ → Good hx u₁ := by
  unfold execRngDataRead
  grind (gen := 24) (splits := 14) (ematch := 20)

theorem doe_good {hx : Hold} (p : Nat) (kind : String) (payload : List Nat) (s : State) (hk : Good hx s) :
    Good hx (doe p kind payload s) := by
  unfold doe
  grind (gen := 24) (splits := 14) (ematch := 20) [Out.allowed]

grind_pattern doe_good => doe p kind payload s, Good hx s

theorem spdmPlain_good {hx : Hold} (p : Nat) (kind : String) (payload : List Nat) (s : State) {u₁ : State} (hk : Good hx s) :
    spdmPlain p kind payload s = .next u₁ → Good hx u₁ := by
  unfold spdmPlain
  grind (gen := 24) (splits := 14) (ematch := 20)

theorem spdm_good {hx : Hold} (p : Nat) (f : State → State) (s : State) {u₁ : State} (hf : ∀ z, Good hx z → Good hx (f z))
    (hk : Good hx s) :
    spdm p f s = .next u₁ → Good hx u₁ := by
  unfold spdm
  grind (gen := 24) (splits := 14) (ematch := 20)

theorem inSession_good {hx : Hold} (p : Nat) (id : Nat) (f : Session → State → State) (s : State) (hf : ∀ y0 z, Good hx z
    → Good hx (f y0 z)) (hk : Good hx s) :
    Good hx (inSession p id f s) := by
  unfold inSession
  grind (gen := 24) (splits := 14) (ematch := 20)

grind_pattern inSession_good => inSession p id f s, Good hx s

theorem onSession_good {hx : Hold} (id : Nat) (f : Session → Session) (s : State) (hk : Good hx s) :
    Good hx (onSession id f s) := by
  unfold onSession
  grind (gen := 24) (splits := 14) (ematch := 20) [Option.map_eq_some_iff]

grind_pattern onSession_good => onSession id f s, Good hx s

theorem execGetVersion_good {hx : Hold} (p : Nat) (s : State) {u₁ : State} (hk : Good hx s) :
    execGetVersion p s = .next u₁ → Good hx u₁ := by
  unfold execGetVersion
  grind (gen := 24) (splits := 14) (ematch := 20) [→ spdmPlain_good]

theorem execGetCapabilities_good {hx : Hold} (p : Nat) (s : State) {u₁ : State} (hk : Good hx s) :
    execGetCapabilities p s = .next u₁ → Good hx u₁ := by
  unfold execGetCapabilities
  grind (gen := 24) (splits := 14) (ematch := 20) [→ spdmPlain_good]

theorem execNegotiateAlgorithms_good {hx : Hold} (p : Nat) (s : State) {u₁ : State} (hk : Good hx s) :
    execNegotiateAlgorithms p s = .next u₁ → Good hx u₁ := by
  unfold execNegotiateAlgorithms
  grind (gen := 24) (splits := 14) (ematch := 20) [→ spdmPlain_good]

theorem execGetDigests_good {hx : Hold} (p : Nat) (s : State) {u₁ : State} (hk : Good hx s) :
    execGetDigests p s = .next u₁ → Good hx u₁ := by
  unfold execGetDigests
  grind (gen := 24) (splits := 14) (ematch := 20) [→ spdm_good]

theorem execGetCertificate_good {hx : Hold} (p : Nat) (slot : Nat) (s : State) {u₁ : State} (hk : Good hx s) :
    execGetCertificate p slot s = .next u₁ → Good hx u₁ := by
  unfold execGetCertificate
  grind (gen := 24) (splits := 14) (ematch := 20) [→ spdm_good]

theorem execChallenge_good {hx : Hold} (p : Nat) (slot : Nat) (nonce : Nat) (s : State) {u₁ : State} (hk : Good hx s) :
    execChallenge p slot nonce s = .next u₁ → Good hx u₁ := by
  unfold execChallenge
  grind (gen := 24) (splits := 14) (ematch := 20) [→ spdm_good]

theorem execGetMeasurements_good {hx : Hold} (p : Nat) (idx : Nat) (s : State) {u₁ : State} (hk : Good hx s) :
    execGetMeasurements p idx s = .next u₁ → Good hx u₁ := by
  unfold execGetMeasurements
  grind (gen := 24) (splits := 14) (ematch := 20) [→ spdm_good]

theorem execKeyExchange_good {hx : Hold} (p : Nat) (s : State) {u₁ : State} (hk : Good hx s) :
    execKeyExchange p s = .next u₁ → Good hx u₁ := by
  unfold execKeyExchange
  grind (gen := 24) (splits := 14) (ematch := 20) [→ drawKey_good, → spdm_good]

theorem execFinish_good {hx : Hold} (p : Nat) (id : Nat) (ok : Bool) (s : State) {u₁ : State} (hk : Good hx s) :
    execFinish p id ok s = .next u₁ → Good hx u₁ := by
  unfold execFinish
  grind (gen := 24) (splits := 14) (ematch := 20) [→ spdm_good]

theorem execHeartbeat_good {hx : Hold} (p : Nat) (id : Nat) (s : State) {u₁ : State} (hk : Good hx s) :
    execHeartbeat p id s = .next u₁ → Good hx u₁ := by
  unfold execHeartbeat
  grind (gen := 24) (splits := 14) (ematch := 20) [→ spdm_good]

theorem execKeyUpdate_good {hx : Hold} (p : Nat) (id : Nat) (s : State) {u₁ : State} (hk : Good hx s) :
    execKeyUpdate p id s = .next u₁ → Good hx u₁ := by
  unfold execKeyUpdate
  grind (gen := 24) (splits := 14) (ematch := 20) [→ spdm_good]

theorem execEndSession_good {hx : Hold} (p : Nat) (id : Nat) (s : State) {u₁ : State} (hk : Good hx s) :
    execEndSession p id s = .next u₁ → Good hx u₁ := by
  unfold execEndSession
  grind (gen := 24) (splits := 14) (ematch := 20) [→ spdm_good]

theorem execIdeKm_good {hx : Hold} (p : Nat) (mem : Bool) (skid : Bool) (session : Option Nat) (s : State) {u₁ : State}
    (hk : Good hx s) :
    execIdeKm p mem skid session s = .next u₁ → Good hx u₁ := by
  refine spdm_good _ _ _ (fun z hz => ?_) hk
  dsimp only
  split
  · exact doe_good _ _ _ _ hz
  · exact doe_good _ _ _ _ (onSec_good _ _ (drawKey_good z hz (Prod.eta _).symm))

/-! ### Machine/Sec.lean -/

theorem keyCmd_good {hx : Hold} (p : Nat) (opc : Nat) (tr : Trailer) (f : State → State) (s : State) (hf : ∀ z, Good hx z
    → Good hx (f z)) (hk : Good hx s) :
    Good hx (keyCmd p opc tr f s) := by
  unfold keyCmd
  grind (gen := 24) (splits := 14) (ematch := 20) [→ takeTrailer_good]

grind_pattern keyCmd_good => keyCmd p opc tr f s, Good hx s

theorem awaitArea_good {hx : Hold} (p : Nat) (opc : Nat) (k : Nat) (s : State) (hk : Good hx s) :
    Good hx (awaitArea p opc k s) := by
  unfold awaitArea
  grind (gen := 24) (splits := 14) (ematch := 20)

grind_pattern awaitArea_good => awaitArea p opc k s, Good hx s

theorem escrowMismatch_good {hx : Hold} (p : Nat) (s : State) (hk : Good hx s) :
    Good hx (escrowMismatch p s) := by
  unfold escrowMismatch
  grind (gen := 24) (splits := 14) (ematch := 20)

grind_pattern escrowMismatch_good => escrowMismatch p s, Good hx s

theorem leaveNow_good {hx : Hold} (s : State) (hk : Good hx s) :
    Good hx (leaveNow s) := by
  unfold leaveNow
  grind (gen := 24) (splits := 14) (ematch := 20)

grind_pattern leaveNow_good => leaveNow s, Good hx s

theorem unlockWith_good {hx : Hold} (p : Nat) (key : Nat) (s : State) (hk : Good hx s) :
    Good hx (unlockWith p key s) := by
  unfold unlockWith
  grind (gen := 24) (splits := 14) (ematch := 20) [→ drawKey_good, → writeArea_good]

grind_pattern unlockWith_good => unlockWith p key s, Good hx s

theorem execKeyEscrowUnlock_good {hx : Hold} (p : Nat) (key : Nat) (asserted : List Tamper) (tr : Trailer) (s : State) {u₁
    : State} (hk : Good hx s) :
    execKeyEscrowUnlock p key asserted tr s = .next u₁ → Good hx u₁ := by
  unfold execKeyEscrowUnlock
  grind (gen := 24) (splits := 14) (ematch := 20) [→ mbox_good, → takeTrailer_good]

theorem execKeyEscrowChange_good {hx : Hold} (p : Nat) (key : Nat) (newKey : Nat) (tr : Trailer) (s : State) {u₁ : State}
    (hk : Good hx s) :
    execKeyEscrowChange p key newKey tr s = .next u₁ → Good hx u₁ := by
  unfold execKeyEscrowChange
  grind (gen := 24) (splits := 14) (ematch := 20) [→ mbox_good, → writeArea_good]

theorem execEscrowWaitExpire_good {hx : Hold} (s : State) {u₁ : State} (hk : Good hx s) :
    execEscrowWaitExpire s = .next u₁ → Good hx u₁ := by
  unfold execEscrowWaitExpire
  grind (gen := 24) (splits := 14) (ematch := 20)

theorem enclaveKey_good {hx : Hold} (id : Nat) (s : State) (hk : Good hx s) :
    Good hx (enclaveKey id s) := by
  unfold enclaveKey
  grind (gen := 24) (splits := 14) (ematch := 20) [→ drawKey_good]

grind_pattern enclaveKey_good => enclaveKey id s, Good hx s

theorem enclaveOp_good {hx : Hold} (p : Nat) (opc : Nat) (id : Nat) (own : Nat) (segs : List (Nat × Nat)) (binds : List
    Nat) (s : State) (hk : Good hx s) :
    Good hx (enclaveOp p opc id own segs binds s) := by
  unfold enclaveOp
  grind (gen := 24) (splits := 14) (ematch := 20) [→ writeArea_good]

grind_pattern enclaveOp_good => enclaveOp p opc id own segs binds s, Good hx s

theorem execEnclaveCreate_good {hx : Hold} (p : Nat) (id : Nat) (ranges : List (Nat × Nat)) (binds : List (Nat × Nat))
    (rsv : Nat) (tr : Trailer) (s : State) {u₁ : State} (hk : Good hx s) :
    execEnclaveCreate p id ranges binds rsv tr s = .next u₁ → Good hx u₁ := by
  unfold execEnclaveCreate
  grind (gen := 24) (splits := 14) (ematch := 20) [→ mbox_good, Option.map_eq_some_iff]

theorem execEnclaveDestroy_good {hx : Hold} (p : Nat) (id : Nat) (rsv : Nat) (tr : Trailer) (s : State) {u₁ : State} (hk :
    Good hx s) :
    execEnclaveDestroy p id rsv tr s = .next u₁ → Good hx u₁ := by
  unfold execEnclaveDestroy
  grind (gen := 24) (splits := 14) (ematch := 20) [→ mbox_good, → takeTrailer_good, Option.map_eq_some_iff,
      Option.bind_eq_some_iff]

theorem execKeyRotate_good {hx : Hold} (p : Nat) (k : Nat) (tr : Trailer) (s : State) {u₁ : State} (hk : Good hx s) :
    execKeyRotate p k tr s = .next u₁ → Good hx u₁ := by
  unfold execKeyRotate
  grind (gen := 24) (splits := 14) (ematch := 20) [→ drawKey_good, → mbox_good, → writeArea_good]

theorem moveStaged_good {hx : Hold} (s : State) (hk : Good hx s) :
    Good hx (moveStaged s) := by
  unfold moveStaged
  grind (gen := 24) (splits := 14) (ematch := 20) [→ packRecs_good, Option.map_eq_some_iff]

grind_pattern moveStaged_good => moveStaged s, Good hx s

theorem execMediaFormat_good {hx : Hold} (p : Nat) (s : State) {u₁ : State} (hk : Good hx s) :
    execMediaFormat p s = .next u₁ → Good hx u₁ := by
  unfold execMediaFormat
  grind (gen := 24) (splits := 14) (ematch := 20) [→ createSet_good, → mbox_good]

/-! ### Machine/RegRead.lean -/

theorem rcClear_good {hx : Hold} (off : Nat) (s : State) (hk : Good hx s) :
    Good hx (rcClear off s) := by
  unfold rcClear
  grind (gen := 24) (splits := 14) (ematch := 20) [putReg_ok]

grind_pattern rcClear_good => rcClear off s, Good hx s

theorem readEffect_good {hx : Hold} (m : Master) (off : Nat) (s : State) (hk : Good hx s) :
    Good hx (readEffect m off s) := by
  unfold readEffect
  grind (gen := 24) (splits := 14) (ematch := 20) [qRead_ok, sampRead_ok, Io.ok]

grind_pattern readEffect_good => readEffect m off s, Good hx s

theorem readWord_good {hx : Hold} (m : Master) (mirror : Bool) (off : Nat) (s : State) (hk : Good hx s) :
    Good hx (readWord m mirror off s) := by
  unfold readWord
  grind (gen := 24) (splits := 14) (ematch := 20) [Out.allowed]

grind_pattern readWord_good => readWord m mirror off s, Good hx s

theorem readAt_good {hx : Hold} (m : Master) (a : Nat) (size : Nat) (s : State) (hk : Good hx s) :
    Good hx (readAt m a size s) := by
  unfold readAt
  grind (gen := 24) (splits := 14) (ematch := 20) [Out.allowed]

grind_pattern readAt_good => readAt m a size s, Good hx s

theorem regRead_good {hx : Hold} (m : Master) (a : Nat) (size : Nat) (s : State) {u₁ : State} (hk : Good hx s) :
    regRead m a size s = .next u₁ → Good hx u₁ := by
  unfold regRead
  grind (gen := 24) (splits := 14) (ematch := 20)

theorem execRcFieldClearRead_good {hx : Hold} (m : Master) (a : Nat) (size : Nat) (s : State) {u₁ : State} (hk : Good hx s) :
    execRcFieldClearRead m a size s = .next u₁ → Good hx u₁ := by
  unfold execRcFieldClearRead
  grind (gen := 24) (splits := 14) (ematch := 20) [→ regRead_good]

theorem execHighWordLatchRead_good {hx : Hold} (m : Master) (off : Nat) (s : State) {u₁ : State} (hk : Good hx s) :
    execHighWordLatchRead m off s = .next u₁ → Good hx u₁ := by
  unfold execHighWordLatchRead
  grind (gen := 24) (splits := 14) (ematch := 20) [→ regRead_good]

theorem execQueueHeadRead_good {hx : Hold} (m : Master) (s : State) {u₁ : State} (hk : Good hx s) :
    execQueueHeadRead m s = .next u₁ → Good hx u₁ := by
  unfold execQueueHeadRead
  grind (gen := 24) (splits := 14) (ematch := 20) [→ regRead_good]

theorem execSampleRecordRead_good {hx : Hold} (m : Master) (s : State) {u₁ : State} (hk : Good hx s) :
    execSampleRecordRead m s = .next u₁ → Good hx u₁ := by
  unfold execSampleRecordRead
  grind (gen := 24) (splits := 14) (ematch := 20) [→ regRead_good]

theorem execMsixModerationExpire_good {hx : Hold} (p : Nat) (v : Nat) (s : State) {u₁ : State} (hk : Good hx s) :
    execMsixModerationExpire p v s = .next u₁ → Good hx u₁ := by
  unfold execMsixModerationExpire
  grind (gen := 24) (splits := 14) (ematch := 20) [flush_ok, modExpire_ok]

/-! ### Machine/Ownership.lean -/

theorem ownRefuse_good {hx : Hold} (s : State) (hk : Good hx s) :
    Good hx (ownRefuse s) := by
  unfold ownRefuse
  grind (gen := 24) (splits := 14) (ematch := 20)

grind_pattern ownRefuse_good => ownRefuse s, Good hx s

theorem ownClaim_good {hx : Hold} (m : Master) (w : Nat) (s : State) (hk : Good hx s) :
    Good hx (ownClaim m w s) := by
  unfold ownClaim
  grind (gen := 24) (splits := 14) (ematch := 20)

grind_pattern ownClaim_good => ownClaim m w s, Good hx s

theorem ownHb_good {hx : Hold} (m : Master) (s : State) (hk : Good hx s) :
    Good hx (ownHb m s) := by
  unfold ownHb
  grind (gen := 24) (splits := 14) (ematch := 20)

grind_pattern ownHb_good => ownHb m s, Good hx s

theorem ownYield_good {hx : Hold} (m : Master) (w : Nat) (s : State) (hk : Good hx s) :
    Good hx (ownYield m w s) := by
  unfold ownYield
  grind (gen := 24) (splits := 14) (ematch := 20)

grind_pattern ownYield_good => ownYield m w s, Good hx s

theorem execOwnerLapse_good {hx : Hold} (s : State) {u₁ : State} (hk : Good hx s) :
    execOwnerLapse s = .next u₁ → Good hx u₁ := by
  unfold execOwnerLapse
  grind (gen := 24) (splits := 14) (ematch := 20)

theorem execHandoverTimeout_good {hx : Hold} (s : State) {u₁ : State} (hk : Good hx s) :
    execHandoverTimeout s = .next u₁ → Good hx u₁ := by
  unfold execHandoverTimeout
  grind (gen := 24) (splits := 14) (ematch := 20)

/-! ### Machine/RegHooks.lean -/

theorem epochWrite_good {hx : Hold} (old : Nat) (new : Nat) (s : State) (hk : Good hx s) :
    Good hx (epochWrite old new s) := by
  unfold epochWrite
  grind (gen := 24) (splits := 14) (ematch := 20)

grind_pattern epochWrite_good => epochWrite old new s, Good hx s

theorem cfgCmd_good {hx : Hold} (m : Master) (w : Nat) (s : State) (hk : Good hx s) :
    Good hx (cfgCmd m w s) := by
  unfold cfgCmd
  grind (gen := 24) (splits := 14) (ematch := 20)

grind_pattern cfgCmd_good => cfgCmd m w s, Good hx s

theorem hookMgt_good {hx : Hold} (m : Master) (off : Nat) (w : Nat) (s : State) (hk : Good hx s) :
    Good hx (hookMgt m off w s) := by
  unfold hookMgt
  grind (gen := 24) (splits := 14) (ematch := 20)

grind_pattern hookMgt_good => hookMgt m off w s, Good hx s

theorem keyRevoke_good {hx : Hold} (w : Nat) (s : State) (hk : Good hx s) :
    Good hx (keyRevoke w s) := by
  unfold keyRevoke
  grind (gen := 24) (splits := 14) (ematch := 20)

grind_pattern keyRevoke_good => keyRevoke w s, Good hx s

theorem queueCmd_good {hx : Hold} (w : Nat) (s : State) (hk : Good hx s) :
    Good hx (queueCmd w s) := by
  unfold queueCmd
  grind (gen := 24) (splits := 14) (ematch := 20) [qMark_ok, qReleaseRead_ok, qRelease_ok, qRewind_ok]

grind_pattern queueCmd_good => queueCmd w s, Good hx s

theorem sampRestart_good {hx : Hold} (s : State) (hk : Good hx s) :
    Good hx (sampRestart s) := by
  unfold sampRestart
  grind (gen := 24) (splits := 14) (ematch := 20) [Io.ok]

grind_pattern sampRestart_good => sampRestart s, Good hx s

theorem sampThresh_good {hx : Hold} (new : Nat) (s : State) (hk : Good hx s) :
    Good hx (sampThresh new s) := by
  unfold sampThresh
  grind (gen := 24) (splits := 14) (ematch := 20) [flush_ok, signalPorts_ok]

grind_pattern sampThresh_good => sampThresh new s, Good hx s

theorem modCfg_good {hx : Hold} (s : State) (hk : Good hx s) :
    Good hx (modCfg s) := by
  unfold modCfg
  grind (gen := 24) (splits := 14) (ematch := 20) [Option.map_eq_some_iff, flush_ok, modExpire_ok]

grind_pattern modCfg_good => modCfg s, Good hx s

theorem hookEvt_good {hx : Hold} (off : Nat) (new : Nat) (w : Nat) (s : State) (hk : Good hx s) :
    Good hx (hookEvt off new w s) := by
  unfold hookEvt
  grind (gen := 24) (splits := 14) (ematch := 20)

grind_pattern hookEvt_good => hookEvt off new w s, Good hx s

theorem predFlush_good {hx : Hold} (w : Nat) (s : State) (hk : Good hx s) :
    Good hx (predFlush w s) := by
  unfold predFlush
  grind (gen := 24) (splits := 14) (ematch := 20)

grind_pattern predFlush_good => predFlush w s, Good hx s

theorem ntCfg_good {hx : Hold} (old : Nat) (new : Nat) (s : State) (hk : Good hx s) :
    Good hx (ntCfg old new s) := by
  unfold ntCfg
  grind (gen := 24) (splits := 14) (ematch := 20) [Option.map_eq_some_iff]

grind_pattern ntCfg_good => ntCfg old new s, Good hx s

theorem fhbCfg_good {hx : Hold} (new : Nat) (s : State) (hk : Good hx s) :
    Good hx (fhbCfg new s) := by
  unfold fhbCfg
  exact ite_good (after_good _ _ (fun u h => execFhbWaitTimeout_good _ hk h) hk) hk

grind_pattern fhbCfg_good => fhbCfg new s, Good hx s

theorem fxCfg_good {hx : Hold} (s : State) (hk : Good hx s) :
    Good hx (fxCfg s) := by
  unfold fxCfg
  grind (gen := 24) (splits := 14) (ematch := 20)

grind_pattern fxCfg_good => fxCfg s, Good hx s

theorem biCfg_good {hx : Hold} (new : Nat) (s : State) (hk : Good hx s) :
    Good hx (biCfg new s) := by
  unfold biCfg
  grind (gen := 24) (splits := 14) (ematch := 20) [Option.map_eq_some_iff]

grind_pattern biCfg_good => biCfg new s, Good hx s

theorem hookCoh_good {hx : Hold} (off : Nat) (new : Nat) (w : Nat) (s : State) (hk : Good hx s) :
    Good hx (hookCoh off new w s) := by
  unfold hookCoh
  grind (gen := 24) (splits := 14) (ematch := 20)

grind_pattern hookCoh_good => hookCoh off new w s, Good hx s

theorem portEn_good {hx : Hold} (old : Nat) (new : Nat) (s : State) (hk : Good hx s) :
    Good hx (portEn old new s) := by
  unfold portEn
  grind (gen := 24) (splits := 14) (ematch := 20)

grind_pattern portEn_good => portEn old new s, Good hx s

theorem rewarmCfg_good {hx : Hold} (old : Nat) (new : Nat) (s : State) (hk : Good hx s) :
    Good hx (rewarmCfg old new s) := by
  unfold rewarmCfg
  grind (gen := 24) (splits := 14) (ematch := 20)

grind_pattern rewarmCfg_good => rewarmCfg old new s, Good hx s

theorem capWrite_good {hx : Hold} (s : State) (hk : Good hx s) :
    Good hx (capWrite s) := by
  unfold capWrite
  grind (gen := 24) (splits := 14) (ematch := 20)

grind_pattern capWrite_good => capWrite s, Good hx s

theorem calCmd_good {hx : Hold} (w : Nat) (s : State) (hk : Good hx s) :
    Good hx (calCmd w s) := by
  unfold calCmd
  grind (gen := 24) (splits := 14) (ematch := 20)

grind_pattern calCmd_good => calCmd w s, Good hx s

theorem hookLdg_good {hx : Hold} (off : Nat) (w : Nat) (s : State) (hk : Good hx s) :
    Good hx (hookLdg off w s) := by
  unfold hookLdg
  grind (gen := 24) (splits := 14) (ematch := 20)

grind_pattern hookLdg_good => hookLdg off w s, Good hx s

theorem svcCmd_good {hx : Hold} (w : Nat) (s : State) (hk : Good hx s) :
    Good hx (svcCmd w s) := by
  unfold svcCmd
  grind (gen := 24) (splits := 14) (ematch := 20)

grind_pattern svcCmd_good => svcCmd w s, Good hx s

theorem bankCfg_good {hx : Hold} (n : Nat) (old : Nat) (new : Nat) (s : State) (hk : Good hx s) :
    Good hx (bankCfg n old new s) := by
  unfold bankCfg
  grind (gen := 24) (splits := 14) (ematch := 20)

grind_pattern bankCfg_good => bankCfg n old new s, Good hx s

theorem pfCfg_good {hx : Hold} (old : Nat) (new : Nat) (s : State) (hk : Good hx s) :
    Good hx (pfCfg old new s) := by
  unfold pfCfg
  grind (gen := 24) (splits := 14) (ematch := 20)

grind_pattern pfCfg_good => pfCfg old new s, Good hx s

theorem hookRsv_good {hx : Hold} (off : Nat) (old : Nat) (new : Nat) (w : Nat) (s : State) (hk : Good hx s) :
    Good hx (hookRsv off old new w s) := by
  unfold hookRsv
  grind (gen := 24) (splits := 14) (ematch := 20)

grind_pattern hookRsv_good => hookRsv off old new w s, Good hx s

theorem linkCfg_good {hx : Hold} (old : Nat) (new : Nat) (s : State) (hk : Good hx s) :
    Good hx (linkCfg old new s) := by
  unfold linkCfg
  grind (gen := 24) (splits := 14) (ematch := 20)

grind_pattern linkCfg_good => linkCfg old new s, Good hx s

theorem linkCmd_good {hx : Hold} (w : Nat) (s : State) (hk : Good hx s) :
    Good hx (linkCmd w s) := by
  unfold linkCmd
  grind (gen := 24) (splits := 14) (ematch := 20)

grind_pattern linkCmd_good => linkCmd w s, Good hx s

theorem replayCfg_good {hx : Hold} (s : State) (hk : Good hx s) :
    Good hx (replayCfg s) := by
  unfold replayCfg
  grind (gen := 24) (splits := 14) (ematch := 20)

grind_pattern replayCfg_good => replayCfg s, Good hx s

theorem holdCfg_good {hx : Hold} (new : Nat) (s : State) (hk : Good hx s) :
    Good hx (holdCfg new s) := by
  unfold holdCfg
  grind (gen := 24) (splits := 14) (ematch := 20)

grind_pattern holdCfg_good => holdCfg new s, Good hx s

theorem hookFab_good {hx : Hold} (off : Nat) (old : Nat) (new : Nat) (w : Nat) (s : State) (hk : Good hx s) :
    Good hx (hookFab off old new w s) := by
  unfold hookFab
  grind (gen := 24) (splits := 14) (ematch := 20)

grind_pattern hookFab_good => hookFab off old new w s, Good hx s

theorem onWrite_good {hx : Hold} (m : Master) (off : Nat) (old : Nat) (new : Nat) (w : Nat) (s : State) (hk : Good hx s) :
    Good hx (onWrite m off old new w s) := by
  unfold onWrite
  grind (gen := 24) (splits := 14) (ematch := 20) [cchOk]

grind_pattern onWrite_good => onWrite m off old new w s, Good hx s

theorem hmapWrite_good {hx : Hold} (win : Nat) (w : Nat) (s : State) {q₁ : Bool} {u₁ : State} (hk : Good hx s) :
    hmapWrite win w s = (q₁, u₁) → Good hx u₁ := by
  unfold hmapWrite
  grind (gen := 24) (splits := 14) (ematch := 20)

theorem execHmapInvalidationDone_good {hx : Hold} (s : State) {u₁ : State} (hk : Good hx s) :
    execHmapInvalidationDone s = .next u₁ → Good hx u₁ := by
  unfold execHmapInvalidationDone
  grind (gen := 24) (splits := 14) (ematch := 20)

theorem domWrite_good {hx : Hold} (d : Nat) (w : Nat) (s : State) (hk : Good hx s) :
    Good hx (domWrite d w s) := by
  unfold domWrite
  grind (gen := 24) (splits := 14) (ematch := 20)

grind_pattern domWrite_good => domWrite d w s, Good hx s

theorem hopWrite_good {hx : Hold} (row : Nat) (group : Nat) (w : Nat) (s : State) (hk : Good hx s) :
    Good hx (hopWrite row group w s) := by
  unfold hopWrite
  grind (gen := 24) (splits := 14) (ematch := 20)

grind_pattern hopWrite_good => hopWrite row group w s, Good hx s

theorem dataWrite_good {hx : Hold} (off : Nat) (w : Nat) (s : State) {q₁ : Bool} {u₁ : State} (hk : Good hx s) :
    dataWrite off w s = some (q₁, u₁) → Good hx u₁ := by
  unfold dataWrite
  grind (gen := 24) (splits := 14) (ematch := 20) [→ hmapWrite_good, putReg_ok]

/-! ### Machine/RegWrite.lean -/

theorem rsvWr_good {hx : Hold} (who : Writer) (a : Nat) (bit : Nat) (s : State) (hk : Good hx s) :
    Good hx (rsvWr who a bit s) := by
  unfold rsvWr
  grind (gen := 24) (splits := 14) (ematch := 20)

grind_pattern rsvWr_good => rsvWr who a bit s, Good hx s

theorem nonOwnerWr_good {hx : Hold} (m : Master) (s : State) (hk : Good hx s) :
    Good hx (nonOwnerWr m s) := by
  unfold nonOwnerWr
  grind (gen := 24) (splits := 14) (ematch := 20)

grind_pattern nonOwnerWr_good => nonOwnerWr m s, Good hx s

theorem keepRsv_good {hx : Hold} (off w : Nat) (s : State) (hk : Good hx s) :
    Good hx (keepRsv off w s) := by
  unfold keepRsv
  grind (gen := 24) (splits := 14) (ematch := 20) [putReg_ok, flush_ok, snapshot_ok]

grind_pattern keepRsv_good => keepRsv off w s, Good hx s

theorem tellRsv_good {hx : Hold} (who : Writer) (off old w : Nat) (s : State) (hk : Good hx s) :
    Good hx (tellRsv who off old w s) := by
  unfold tellRsv
  grind (gen := 24) (splits := 14) (ematch := 20) [putReg_ok, flush_ok, snapshot_ok]

grind_pattern tellRsv_good => tellRsv who off old w s, Good hx s

theorem storeWord_good {hx : Hold} (m : Master) (off : Nat) (old : Nat) (w : Nat) (s : State) {q₁ : Bool} {u₁ : State} (hk
    : Good hx s) :
    storeWord m off old w s = (q₁, u₁) → Good hx u₁ := by
  unfold storeWord
  grind (gen := 24) (splits := 14) (ematch := 20) [→ dataWrite_good, putReg_ok]

theorem writeWord_good {hx : Hold} (who : Writer) (off : Nat) (w : Nat) (s : State) {q₁ : Bool} {u₁ : State} (hk : Good hx
    s) :
    writeWord who off w s = (q₁, u₁) → Good hx u₁ := by
  unfold writeWord
  grind (gen := 24) (splits := 14) (ematch := 20) [→ storeWord_good, flush_ok, setPgSts_ok]

theorem freeWrite_good {hx : Hold} (m : Master) (off : Nat) (w : Nat) (s : State) (hk : Good hx s) :
    Good hx (freeWrite m off w s) := by
  unfold freeWrite
  grind (gen := 24) (splits := 14) (ematch := 20)

grind_pattern freeWrite_good => freeWrite m off w s, Good hx s

theorem writeWords_good {hx : Hold} (who : Writer) (ws : List (Nat × Nat)) (s : State) {q₁ : Bool} {u₁ : State} (hk : Good
    hx s) :
    writeWords who ws s = (q₁, u₁) → Good hx u₁ := by
  unfold writeWords
  grind (gen := 24) (splits := 14) (ematch := 20) [→ writeWord_good]

theorem arbWrite_good {hx : Hold} (m : Master) (ws : List (Nat × Nat)) (s : State) {q₁ : Bool} {u₁ : State} (hk : Good hx s) :
    arbWrite m ws s = (q₁, u₁) → Good hx u₁ := by
  unfold arbWrite
  grind (gen := 24) (splits := 14) (ematch := 20) [→ writeWords_good]

theorem regWrite_good {hx : Hold} (m : Master) (a : Nat) (size : Nat) (w : Nat) (s : State) {q₁ : Bool} {u₁ : State} (hk :
    Good hx s) :
    regWrite m a size w s = (q₁, u₁) → Good hx u₁ := by
  unfold regWrite
  grind (gen := 24) (splits := 14) (ematch := 20) [→ arbWrite_good]

theorem deviceWrite_good {hx : Hold} (off : Nat) (w : Nat) (s : State) (hk : Good hx s) :
    Good hx (deviceWrite off w s) := by
  unfold deviceWrite
  grind (gen := 24) (splits := 14) (ematch := 20) [→ writeWord_good]

grind_pattern deviceWrite_good => deviceWrite off w s, Good hx s

theorem regCmd_good {hx : Hold} (m : Master) (a : Nat) (size : Nat) (w : Nat) (s : State) {u₁ : State} (hk : Good hx s) :
    regCmd m a size w s = .next u₁ → Good hx u₁ := by
  unfold regCmd
  grind (gen := 24) (splits := 14) (ematch := 20) [→ regWrite_good]

theorem regPut_good {hx : Hold} (m : Master) (off : Nat) (w : Word) (s : State) {u₁ : State} (hk : Good hx s) :
    regPut m off w s = .next u₁ → Good hx u₁ := by
  unfold regPut
  grind (gen := 24) (splits := 14) (ematch := 20) [→ regCmd_good]

theorem execRegisterWrite_good {hx : Hold} (m : Master) (a : Nat) (size : Nat) (w : Nat) (s : State) {u₁ : State} (hk :
    Good hx s) :
    execRegisterWrite m a size w s = .next u₁ → Good hx u₁ := by
  unfold execRegisterWrite
  grind (gen := 24) (splits := 14) (ematch := 20) [→ regCmd_good]

theorem execEpochPeriodWrite_good {hx : Hold} (m : Master) (w : Word) (s : State) {u₁ : State} (hk : Good hx s) :
    execEpochPeriodWrite m w s = .next u₁ → Good hx u₁ := by
  unfold execEpochPeriodWrite
  grind (gen := 24) (splits := 14) (ematch := 20) [→ regPut_good]

theorem execPhaseLockWrite_good {hx : Hold} (m : Master) (w : Word) (s : State) {u₁ : State} (hk : Good hx s) :
    execPhaseLockWrite m w s = .next u₁ → Good hx u₁ := by
  unfold execPhaseLockWrite
  grind (gen := 24) (splits := 14) (ematch := 20) [→ regPut_good]

theorem execHmapDataWrite_good {hx : Hold} (m : Master) (w : Word) (s : State) {u₁ : State} (hk : Good hx s) :
    execHmapDataWrite m w s = .next u₁ → Good hx u₁ := by
  unfold execHmapDataWrite
  grind (gen := 24) (splits := 14) (ematch := 20) [→ regPut_good]

theorem execPredFlushMiss_good {hx : Hold} (m : Master) (s : State) {u₁ : State} (hk : Good hx s) :
    execPredFlushMiss m s = .next u₁ → Good hx u₁ := by
  unfold execPredFlushMiss
  grind (gen := 24) (splits := 14) (ematch := 20) [→ regPut_good]

theorem execPredFlushWay_good {hx : Hold} (m : Master) (s : State) {u₁ : State} (hk : Good hx s) :
    execPredFlushWay m s = .next u₁ → Good hx u₁ := by
  unfold execPredFlushWay
  grind (gen := 24) (splits := 14) (ematch := 20) [→ regPut_good]

theorem execFhbForce_good {hx : Hold} (m : Master) (s : State) {u₁ : State} (hk : Good hx s) :
    execFhbForce m s = .next u₁ → Good hx u₁ := by
  unfold execFhbForce
  grind (gen := 24) (splits := 14) (ematch := 20) [→ regPut_good]

theorem execLdgCapWrite_good {hx : Hold} (m : Master) (w : Word) (s : State) {u₁ : State} (hk : Good hx s) :
    execLdgCapWrite m w s = .next u₁ → Good hx u₁ := by
  unfold execLdgCapWrite
  grind (gen := 24) (splits := 14) (ematch := 20) [→ regPut_good]

theorem execLdgArmWrite_good {hx : Hold} (m : Master) (w : Word) (s : State) {u₁ : State} (hk : Good hx s) :
    execLdgArmWrite m w s = .next u₁ → Good hx u₁ := by
  unfold execLdgArmWrite
  grind (gen := 24) (splits := 14) (ematch := 20) [→ regPut_good]

theorem execCalStart_good {hx : Hold} (m : Master) (s : State) {u₁ : State} (hk : Good hx s) :
    execCalStart m s = .next u₁ → Good hx u₁ := by
  unfold execCalStart
  grind (gen := 24) (splits := 14) (ematch := 20) [→ regPut_good]

theorem execCalAbort_good {hx : Hold} (m : Master) (s : State) {u₁ : State} (hk : Good hx s) :
    execCalAbort m s = .next u₁ → Good hx u₁ := by
  unfold execCalAbort
  grind (gen := 24) (splits := 14) (ematch := 20) [→ regPut_good]

theorem execSvcDischarge_good {hx : Hold} (m : Master) (banks : Fin 16) (s : State) {u₁ : State} (hk : Good hx s) :
    execSvcDischarge m banks s = .next u₁ → Good hx u₁ := by
  unfold execSvcDischarge
  grind (gen := 24) (splits := 14) (ematch := 20) [→ regPut_good]

theorem execSvcRecharge_good {hx : Hold} (m : Master) (banks : Fin 16) (s : State) {u₁ : State} (hk : Good hx s) :
    execSvcRecharge m banks s = .next u₁ → Good hx u₁ := by
  unfold execSvcRecharge
  grind (gen := 24) (splits := 14) (ematch := 20) [→ regPut_good]

theorem execTrainCmdFull_good {hx : Hold} (m : Master) (s : State) {u₁ : State} (hk : Good hx s) :
    execTrainCmdFull m s = .next u₁ → Good hx u₁ := by
  unfold execTrainCmdFull
  grind (gen := 24) (splits := 14) (ematch := 20) [→ regPut_good]

theorem execLinkRetrain_good {hx : Hold} (m : Master) (ports : Fin 16) (s : State) {u₁ : State} (hk : Good hx s) :
    execLinkRetrain m ports s = .next u₁ → Good hx u₁ := by
  unfold execLinkRetrain
  grind (gen := 24) (splits := 14) (ematch := 20) [→ regPut_good]

theorem execLinkTakeDown_good {hx : Hold} (m : Master) (ports : Fin 16) (s : State) {u₁ : State} (hk : Good hx s) :
    execLinkTakeDown m ports s = .next u₁ → Good hx u₁ := by
  unfold execLinkTakeDown
  grind (gen := 24) (splits := 14) (ematch := 20) [→ regPut_good]

theorem execFwKeyRevoke_good {hx : Hold} (keys : Fin 16) (s : State) {u₁ : State} (hk : Good hx s) :
    execFwKeyRevoke keys s = .next u₁ → Good hx u₁ := by
  unfold execFwKeyRevoke
  grind (gen := 24) (splits := 14) (ematch := 20)

theorem execDebugLock_good {hx : Hold} (m : Master) (s : State) {u₁ : State} (hk : Good hx s) :
    execDebugLock m s = .next u₁ → Good hx u₁ := by
  unfold execDebugLock
  grind (gen := 24) (splits := 14) (ematch := 20) [→ regPut_good]

theorem execAssignLockSet_good {hx : Hold} (m : Master) (s : State) {u₁ : State} (hk : Good hx s) :
    execAssignLockSet m s = .next u₁ → Good hx u₁ := by
  unfold execAssignLockSet
  grind (gen := 24) (splits := 14) (ematch := 20) [→ regPut_good]

theorem execOwnClaim_good {hx : Hold} (m : Master) (w : Word) (s : State) {u₁ : State} (hk : Good hx s) :
    execOwnClaim m w s = .next u₁ → Good hx u₁ := by
  unfold execOwnClaim
  grind (gen := 24) (splits := 14) (ematch := 20) [→ regPut_good]

theorem execOwnHb_good {hx : Hold} (m : Master) (w : Word) (s : State) {u₁ : State} (hk : Good hx s) :
    execOwnHb m w s = .next u₁ → Good hx u₁ := by
  unfold execOwnHb
  grind (gen := 24) (splits := 14) (ematch := 20) [→ regPut_good]

theorem execOwnYield_good {hx : Hold} (m : Master) (w : Word) (s : State) {u₁ : State} (hk : Good hx s) :
    execOwnYield m w s = .next u₁ → Good hx u₁ := by
  unfold execOwnYield
  grind (gen := 24) (splits := 14) (ematch := 20) [→ regPut_good]

theorem execCfgStore_good {hx : Hold} (m : Master) (s : State) {u₁ : State} (hk : Good hx s) :
    execCfgStore m s = .next u₁ → Good hx u₁ := by
  unfold execCfgStore
  grind (gen := 24) (splits := 14) (ematch := 20) [→ regPut_good]

theorem execCfgFactory_good {hx : Hold} (m : Master) (s : State) {u₁ : State} (hk : Good hx s) :
    execCfgFactory m s = .next u₁ → Good hx u₁ := by
  unfold execCfgFactory
  grind (gen := 24) (splits := 14) (ematch := 20) [→ regPut_good]

theorem execPgLockSet_good {hx : Hold} (m : Master) (off : Nat) (s : State) {u₁ : State} (hk : Good hx s) :
    execPgLockSet m off s = .next u₁ → Good hx u₁ := by
  unfold execPgLockSet
  grind (gen := 24) (splits := 14) (ematch := 20) [→ regPut_good]

theorem execWarmReset_good {hx : Hold} (m : Master) (noRelease : Bool) (s : State) {u₁ : State} (hk : Good hx s) :
    execWarmReset m noRelease s = .next u₁ → Good hx u₁ := by
  unfold execWarmReset
  grind (gen := 24) (splits := 14) (ematch := 20) [→ regPut_good]

theorem execBlockReset_good {hx : Hold} (m : Master) (b : Fin 16) (s : State) {u₁ : State} (hk : Good hx s) :
    execBlockReset m b s = .next u₁ → Good hx u₁ := by
  unfold execBlockReset
  grind (gen := 24) (splits := 14) (ematch := 20) [→ regPut_good]

theorem execMark_good {hx : Hold} (m : Master) (s : State) {u₁ : State} (hk : Good hx s) :
    execMark m s = .next u₁ → Good hx u₁ := by
  unfold execMark
  grind (gen := 24) (splits := 14) (ematch := 20) [→ regPut_good]

theorem execRewind_good {hx : Hold} (m : Master) (s : State) {u₁ : State} (hk : Good hx s) :
    execRewind m s = .next u₁ → Good hx u₁ := by
  unfold execRewind
  grind (gen := 24) (splits := 14) (ematch := 20) [→ regPut_good]

theorem execRelease_good {hx : Hold} (m : Master) (s : State) {u₁ : State} (hk : Good hx s) :
    execRelease m s = .next u₁ → Good hx u₁ := by
  unfold execRelease
  grind (gen := 24) (splits := 14) (ematch := 20) [→ regPut_good]

theorem execReleaseAllRead_good {hx : Hold} (m : Master) (s : State) {u₁ : State} (hk : Good hx s) :
    execReleaseAllRead m s = .next u₁ → Good hx u₁ := by
  unfold execReleaseAllRead
  grind (gen := 24) (splits := 14) (ematch := 20) [→ regPut_good]

/-! ### Machine/WalniMem.lean -/

theorem putRam_good {hx : Hold} (k : Nat) (a : Nat) (w : Word) (s : State) (hk : Good hx s) :
    Good hx (putRam k a w s) := by
  exact onCore_good _ _ _ (fun _ h => tblCanon_set _ _ h) rfl hk

grind_pattern putRam_good => putRam k a w s, Good hx s

theorem withEcc_good {hx : Hold} (e : Ex) (c : Ecc) (f : State → State) (s : State) (hf : ∀ z, Good hx z → Good hx (f z))
    (hk : Good hx s) :
    Good hx (withEcc e c f s) := by
  unfold withEcc
  grind (gen := 24) (splits := 14) (ematch := 20)

grind_pattern withEcc_good => withEcc e c f s, Good hx s

theorem load_good {hx : Hold} (e : Ex) (op : Nat) (size : Nat) (rd : Fin 32) (rs : Fin 32) (imm : BitVec 16) (c : Ecc)
    (ext : Nat → Word) (s : State) {u₁ : State} (hk : Good hx s) :
    load e op size rd rs imm c ext s = .next u₁ → Good hx u₁ := by
  unfold load
  grind (gen := 24) (splits := 14) (ematch := 20) [→ runInstr_good, → winRead_good]

theorem store_good {hx : Hold} (e : Ex) (op : Nat) (size : Nat) (rd : Fin 32) (rs : Fin 32) (imm : BitVec 16) (s : State)
    {u₁ : State} (hk : Good hx s) :
    store e op size rd rs imm s = .next u₁ → Good hx u₁ := by
  unfold store
  grind (gen := 24) (splits := 14) (ematch := 20) [→ runInstr_good, → winWrite_good]

theorem execLdw_good {hx : Hold} (e : Ex) (rd : Fin 32) (rs : Fin 32) (imm : BitVec 16) (c : Ecc) (s : State) {u₁ : State}
    (hk : Good hx s) :
    execLdw e rd rs imm c s = .next u₁ → Good hx u₁ := by
  unfold execLdw
  grind (gen := 24) (splits := 14) (ematch := 20) [→ load_good]

theorem execLdh_good {hx : Hold} (e : Ex) (rd : Fin 32) (rs : Fin 32) (imm : BitVec 16) (c : Ecc) (s : State) {u₁ : State}
    (hk : Good hx s) :
    execLdh e rd rs imm c s = .next u₁ → Good hx u₁ := by
  unfold execLdh
  grind (gen := 24) (splits := 14) (ematch := 20) [→ load_good]

theorem execLdhu_good {hx : Hold} (e : Ex) (rd : Fin 32) (rs : Fin 32) (imm : BitVec 16) (c : Ecc) (s : State) {u₁ :
    State} (hk : Good hx s) :
    execLdhu e rd rs imm c s = .next u₁ → Good hx u₁ := by
  unfold execLdhu
  grind (gen := 24) (splits := 14) (ematch := 20) [→ load_good]

theorem execLdb_good {hx : Hold} (e : Ex) (rd : Fin 32) (rs : Fin 32) (imm : BitVec 16) (c : Ecc) (s : State) {u₁ : State}
    (hk : Good hx s) :
    execLdb e rd rs imm c s = .next u₁ → Good hx u₁ := by
  unfold execLdb
  grind (gen := 24) (splits := 14) (ematch := 20) [→ load_good]

theorem execLdbu_good {hx : Hold} (e : Ex) (rd : Fin 32) (rs : Fin 32) (imm : BitVec 16) (c : Ecc) (s : State) {u₁ :
    State} (hk : Good hx s) :
    execLdbu e rd rs imm c s = .next u₁ → Good hx u₁ := by
  unfold execLdbu
  grind (gen := 24) (splits := 14) (ematch := 20) [→ load_good]

theorem execStw_good {hx : Hold} (e : Ex) (rd : Fin 32) (rs : Fin 32) (imm : BitVec 16) (s : State) {u₁ : State} (hk :
    Good hx s) :
    execStw e rd rs imm s = .next u₁ → Good hx u₁ := by
  unfold execStw
  grind (gen := 24) (splits := 14) (ematch := 20) [→ store_good]

theorem execSth_good {hx : Hold} (e : Ex) (rd : Fin 32) (rs : Fin 32) (imm : BitVec 16) (s : State) {u₁ : State} (hk :
    Good hx s) :
    execSth e rd rs imm s = .next u₁ → Good hx u₁ := by
  unfold execSth
  grind (gen := 24) (splits := 14) (ematch := 20) [→ store_good]

theorem execStb_good {hx : Hold} (e : Ex) (rd : Fin 32) (rs : Fin 32) (imm : BitVec 16) (s : State) {u₁ : State} (hk :
    Good hx s) :
    execStb e rd rs imm s = .next u₁ → Good hx u₁ := by
  unfold execStb
  grind (gen := 24) (splits := 14) (ematch := 20) [→ store_good]

theorem execCasw_good {hx : Hold} (e : Ex) (rd : Fin 32) (rs : Fin 32) (rt : Fin 32) (c : Ecc) (s : State) {u₁ : State}
    (hk : Good hx s) :
    execCasw e rd rs rt c s = .next u₁ → Good hx u₁ := by
  unfold execCasw
  grind (gen := 24) (splits := 14) (ematch := 20) [→ runInstr_good]

/-! ### Machine/Sideband.lean -/

theorem onI3c_good {hx : Hold} (f : I3c → I3c) (s : State) (hk : Good hx s) :
    Good hx (onI3c f s) := by
  unfold onI3c
  grind (gen := 24) (splits := 14) (ematch := 20)

grind_pattern onI3c_good => onI3c f s, Good hx s

theorem clearStatus_good {hx : Hold} (s : State) (hk : Good hx s) :
    Good hx (clearStatus s) := by
  unfold clearStatus
  grind (gen := 24) (splits := 14) (ematch := 20)

grind_pattern clearStatus_good => clearStatus s, Good hx s

theorem sbBad_good {hx : Hold} (b : I3cBad) (s : State) (hk : Good hx s) :
    Good hx (sbBad b s) := by
  unfold sbBad
  grind (gen := 24) (splits := 14) (ematch := 20)

grind_pattern sbBad_good => sbBad b s, Good hx s

theorem execI3cWrite_good {hx : Hold} (off : Nat) (w : Word) (bad : Option I3cBad) (s : State) {u₁ : State} (hk : Good hx s) :
    execI3cWrite off w bad s = .next u₁ → Good hx u₁ := by
  unfold execI3cWrite
  grind (gen := 24) (splits := 14) (ematch := 20) [→ regWrite_good]

theorem execI3cRead_good {hx : Hold} (off : Nat) (bad : Option I3cBad) (s : State) {u₁ : State} (hk : Good hx s) :
    execI3cRead off bad s = .next u₁ → Good hx u₁ := by
  unfold execI3cRead
  grind (gen := 24) (splits := 14) (ematch := 20) [Out.allowed]

theorem execI3cStatus_good {hx : Hold} (bad : Option I3cBad) (s : State) {u₁ : State} (hk : Good hx s) :
    execI3cStatus bad s = .next u₁ → Good hx u₁ := by
  unfold execI3cStatus
  grind (gen := 24) (splits := 14) (ematch := 20) [Out.allowed]

theorem setDaddr_good {hx : Hold} (a : Nat) (s : State) (hk : Good hx s) :
    Good hx (setDaddr a s) := by
  unfold setDaddr
  grind (gen := 24) (splits := 14) (ematch := 20)

grind_pattern setDaddr_good => setDaddr a s, Good hx s

theorem execEntdaa_good {hx : Hold} (a : Fin 128) (s : State) {u₁ : State} (hk : Good hx s) :
    execEntdaa a s = .next u₁ → Good hx u₁ := by
  unfold execEntdaa
  grind (gen := 24) (splits := 14) (ematch := 20)

theorem execSetdasa_good {hx : Hold} (stat : Fin 128) (a : Fin 128) (s : State) {u₁ : State} (hk : Good hx s) :
    execSetdasa stat a s = .next u₁ → Good hx u₁ := by
  unfold execSetdasa
  grind (gen := 24) (splits := 14) (ematch := 20)

theorem execSetnewda_good {hx : Hold} (old : Fin 128) (a : Fin 128) (s : State) {u₁ : State} (hk : Good hx s) :
    execSetnewda old a s = .next u₁ → Good hx u₁ := by
  unfold execSetnewda
  grind (gen := 24) (splits := 14) (ematch := 20)

theorem execRstdaa_good {hx : Hold} (s : State) {u₁ : State} (hk : Good hx s) :
    execRstdaa s = .next u₁ → Good hx u₁ := by
  unfold execRstdaa
  grind (gen := 24) (splits := 14) (ematch := 20)

theorem execEnec_good {hx : Hold} (events : Nat) (s : State) {u₁ : State} (hk : Good hx s) :
    execEnec events s = .next u₁ → Good hx u₁ := by
  unfold execEnec
  grind (gen := 24) (splits := 14) (ematch := 20)

theorem execDisec_good {hx : Hold} (events : Nat) (s : State) {u₁ : State} (hk : Good hx s) :
    execDisec events s = .next u₁ → Good hx u₁ := by
  unfold execDisec
  grind (gen := 24) (splits := 14) (ematch := 20)

theorem getCcc_good {hx : Hold} (code : Nat) (len : Nat) (s : State) {u₁ : State} (hk : Good hx s) :
    getCcc code len s = .next u₁ → Good hx u₁ := by
  unfold getCcc
  grind (gen := 24) (splits := 14) (ematch := 20) [Option.map_eq_some_iff, Out.allowed]

theorem execGetpid_good {hx : Hold} (s : State) {u₁ : State} (hk : Good hx s) :
    execGetpid s = .next u₁ → Good hx u₁ := by
  unfold execGetpid
  grind (gen := 24) (splits := 14) (ematch := 20) [→ getCcc_good]

theorem execGetbcr_good {hx : Hold} (s : State) {u₁ : State} (hk : Good hx s) :
    execGetbcr s = .next u₁ → Good hx u₁ := by
  unfold execGetbcr
  grind (gen := 24) (splits := 14) (ematch := 20) [→ getCcc_good]

theorem execGetdcr_good {hx : Hold} (s : State) {u₁ : State} (hk : Good hx s) :
    execGetdcr s = .next u₁ → Good hx u₁ := by
  unfold execGetdcr
  grind (gen := 24) (splits := 14) (ematch := 20) [→ getCcc_good]

theorem execGetmxds_good {hx : Hold} (s : State) {u₁ : State} (hk : Good hx s) :
    execGetmxds s = .next u₁ → Good hx u₁ := by
  unfold execGetmxds
  grind (gen := 24) (splits := 14) (ematch := 20) [→ getCcc_good]

theorem execGetstatus_good {hx : Hold} (s : State) {u₁ : State} (hk : Good hx s) :
    execGetstatus s = .next u₁ → Good hx u₁ := by
  unfold execGetstatus
  grind (gen := 24) (splits := 14) (ematch := 20) [→ draw_good, Out.allowed]

theorem execRstact_good {hx : Hold} (act : Nat) (s : State) {u₁ : State} (hk : Good hx s) :
    execRstact act s = .next u₁ → Good hx u₁ := by
  unfold execRstact
  grind (gen := 24) (splits := 14) (ematch := 20) [→ act_good]

theorem execIbiSend_good {hx : Hold} (s : State) {u₁ : State} (hk : Good hx s) :
    execIbiSend s = .next u₁ → Good hx u₁ := by
  unfold execIbiSend
  grind (gen := 24) (splits := 14) (ematch := 20) [Out.allowed, Io.ok]

/-! ### Machine/Fmc.lean -/

theorem tellNeighbours_good {hx : Hold} (p : Nat) (s : State) (hk : Good hx s) :
    Good hx (tellNeighbours p s) := by
  unfold tellNeighbours
  grind (gen := 24) (splits := 14) (ematch := 20) [Out.allowed]

grind_pattern tellNeighbours_good => tellNeighbours p s, Good hx s

theorem heardBeacon_good {hx : Hold} (p : Nat) (id : Nat) (pri : Nat) (serial : Nat) (hops : Nat) (s : State) (hk : Good
    hx s) :
    Good hx (heardBeacon p id pri serial hops s) := by
  unfold heardBeacon
  grind (gen := 24) (splits := 14) (ematch := 20)

grind_pattern heardBeacon_good => heardBeacon p id pri serial hops s, Good hx s

theorem assignId_good {hx : Hold} (id : Nat) (s : State) (hk : Good hx s) :
    Good hx (assignId id s) := by
  unfold assignId
  grind (gen := 24) (splits := 14) (ematch := 20)

grind_pattern assignId_good => assignId id s, Good hx s

theorem fmWrite_good {hx : Hold} (src : Nat) (f : State → State) (s : State) (hf : ∀ z, Good hx z → Good hx (f z)) (hk :
    Good hx s) :
    Good hx (fmWrite src f s) := by
  unfold fmWrite
  grind (gen := 24) (splits := 14) (ematch := 20)

grind_pattern fmWrite_good => fmWrite src f s, Good hx s

theorem fmRegWrite_good {hx : Hold} (src : Nat) (off : Nat) (w : Nat) (s : State) (hk : Good hx s) :
    Good hx (fmRegWrite src off w s) := by
  unfold fmRegWrite
  grind (gen := 24) (splits := 14) (ematch := 20) [→ regWrite_good]

grind_pattern fmRegWrite_good => fmRegWrite src off w s, Good hx s

theorem putTopo_good {hx : Hold} (serial : Nat) (f : List (Nat × Nat × Nat) → List (Nat × Nat × Nat)) (s : State) (hk :
    Good hx s) :
    Good hx (putTopo serial f s) := by
  unfold putTopo
  grind (gen := 24) (splits := 14) (ematch := 20) [Option.map_eq_some_iff]

grind_pattern putTopo_good => putTopo serial f s, Good hx s

theorem applyFmc_good {hx : Hold} (p : Nat) (src : Nat) (m : Fmc) (s : State) (hk : Good hx s) :
    Good hx (applyFmc p src m s) := by
  unfold applyFmc
  grind (gen := 24) (splits := 14) (ematch := 20) [→ hmapWrite_good, → regWrite_good]

grind_pattern applyFmc_good => applyFmc p src m s, Good hx s

theorem ownLoad_good {hx : Hold} (f : State → State) (s : State) (hf : ∀ z, Good hx z → Good hx (f z)) (hk : Good hx s) :
    Good hx (ownLoad f s) := by
  unfold ownLoad
  grind (gen := 24) (splits := 14) (ematch := 20)

grind_pattern ownLoad_good => ownLoad f s, Good hx s

theorem applyOwn_good {hx : Hold} (m : Fmc) (s : State) (hk : Good hx s) :
    Good hx (applyOwn m s) := by
  unfold applyOwn
  grind (gen := 24) (splits := 14) (ematch := 20) [→ hmapWrite_good, → regWrite_good]

grind_pattern applyOwn_good => applyOwn m s, Good hx s

theorem execFmRouteRecompute_good {hx : Hold} (out : List (Nat × Fmc)) (s : State) {u₁ : State} (hk : Good hx s) :
    execFmRouteRecompute out s = .next u₁ → Good hx u₁ := by
  unfold execFmRouteRecompute
  grind (gen := 24) (splits := 14) (ematch := 20) [Out.allowed]

theorem execFmcMessage_good {hx : Hold} (p : Nat) (src : Nat) (tag : Nat) (full : Bool) (m : Fmc) (s : State) {u₁ : State}
    (hk : Good hx s) :
    execFmcMessage p src tag full m s = .next u₁ → Good hx u₁ := by
  unfold execFmcMessage
  grind (gen := 24) (splits := 14) (ematch := 20) [Out.allowed]

end Sys2Proof.Machine
end

