-- ==== Sys2Proof/Laws/GoodExec.lean ====
section
/-! SUPPORT. Every command keeps what `Good` says: the part, the queue behind it, and `State.ok`. -/

set_option Elab.async false

namespace Sys2Proof.Machine

open Sys2Proof

/-- What a command can do to the part, the queue and `State.ok`: nothing. -/
theorem exec_good {hx : Hold} (i : Instr) (s : State) {u₁ : State} (hk : Good hx s) :
    exec i s = .next u₁ → Good hx u₁ := by
  cases i
  case epochTick adc => exact execEpochTick_good adc s hk
  case shedStepEscalate => exact execShedStepEscalate_good s hk
  case pcfDemote k => exact execPcfDemote_good k s hk
  case epochPeriodWrite m w => exact execEpochPeriodWrite_good m w s hk
  case phaseLockWrite m w => exact execPhaseLockWrite_good m w s hk
  case registerWrite m a size w => exact execRegisterWrite_good m a size w s hk
  case hmapDataWrite m w => exact execHmapDataWrite_good m w s hk
  case hmapInvalidationDone => exact execHmapInvalidationDone_good s hk
  case hdmDecoderCommit p i d => exact execHdmDecoderCommit_good p i d s hk
  case hdmDecoderUncommit p i => exact execHdmDecoderUncommit_good p i s hk
  case hostLinkUp p width full bisnp => exact execHostLinkUp_good p width full bisnp s hk
  case hpLinkDown p perst => exact execHpLinkDown_good p perst s hk
  case memRd p tag hpa mv dat u => exact execMemRd_good p tag hpa mv dat u s hk
  case memInv p tag hpa mv nt u => exact execMemInv_good p tag hpa mv nt u s hk
  case memClnEvct p tag hpa => exact execMemClnEvct_good p tag hpa s hk
  case memSpecRd p hpa => exact execMemSpecRd_good p hpa s hk
  case memWr p tag hpa mv data poison u => exact execMemWr_good p tag hpa mv data poison u s hk
  case memWrPtl p tag hpa mv data mask poison => exact execMemWrPtl_good p tag hpa mv data mask poison s hk
  case birsp p hpa kind => exact execBirsp_good p hpa kind s hk
  case biconflict p tag hpa => exact execBiconflict_good p tag hpa s hk
  case bisnpTimeout p hpa => exact execBisnpTimeout_good p hpa s hk
  case atomicOp p tag da a => exact execAtomicOp_good p tag da a s hk
  case atmAluDone id => exact execAtmAluDone_good id s hk
  case bar4NonAtomic p tag da => exact execBar4NonAtomic_good p tag da s hk
  case ideIntegrityFail p mem => exact execIdeIntegrityFail_good p mem s hk
  case identifyMemoryDevice p => exact execIdentifyMemoryDevice_good p s hk
  case getEventRecords p log => exact execGetEventRecords_good p log s hk
  case clearEventRecords p handles => exact execClearEventRecords_good p handles s hk
  case getPoisonList p => exact execGetPoisonList_good p s hk
  case injectPoison p da => exact execInjectPoison_good p da s hk
  case clearPoison p da data => exact execClearPoison_good p da data s hk
  case getShutdownState p => exact execGetShutdownState_good p s hk
  case getFwInfo p => exact execGetFwInfo_good p s hk
  case transferFw p typ last img => exact execTransferFw_good p typ last img s hk
  case activateFw p typ online => exact execActivateFw_good p typ online s hk
  case zalloc p da len tr => exact execZalloc_good p da len tr s hk
  case zallocSectorOp p => exact execZallocSectorOp_good p s hk
  case prefetch p da len tr => exact execPrefetch_good p da len tr s hk
  case pin p da len tr => exact execPin_good p da len tr s hk
  case unpin p da len tr => exact execUnpin_good p da len tr s hk
  case flush p da len tr => exact execFlush_good p da len tr s hk
  case inval p da len tr => exact execInval_good p da len tr s hk
  case dfence p payload => exact execDfence_good p payload s hk
  case ofence p payload => exact execOfence_good p payload s hk
  case doorbellDfence p seq irq => exact execDoorbellDfence_good p seq irq s hk
  case doorbellOfence p seq irq => exact execDoorbellOfence_good p seq irq s hk
  case gpfPhase1 p => exact execGpfPhase1_good p s hk
  case gpfPhase2 p => exact execGpfPhase2_good p s hk
  case atomic p da a tr => exact execAtomic_good p da a tr s hk
  case append p da len data tr => exact execAppend_good p da len data tr s hk
  case keyEscrowUnlock p key asserted tr => exact execKeyEscrowUnlock_good p key asserted tr s hk
  case keyEscrowChange p key newKey tr => exact execKeyEscrowChange_good p key newKey tr s hk
  case enclaveCreate p id ranges binds rsv tr => exact execEnclaveCreate_good p id ranges binds rsv tr s hk
  case enclaveDestroy p id rsv tr => exact execEnclaveDestroy_good p id rsv tr s hk
  case keyRotate p k tr => exact execKeyRotate_good p k tr s hk
  case rotatePageStep => exact execRotatePageStep_good s hk
  case assignStage p items rsv tr => exact execAssignStage_good p items rsv tr s hk
  case mediaFormat p => exact execMediaFormat_good p s hk
  case reserveArm p rsv => exact execReserveArm_good p rsv s hk
  case reserveDisarm p rsv => exact execReserveDisarm_good p rsv s hk
  case reserveDischarge p banks rsv => exact execReserveDischarge_good p banks rsv s hk
  case reserveRecharge p banks rsv => exact execReserveRecharge_good p banks rsv s hk
  case trkEntryGrant => exact execTrkEntryGrant_good s hk
  case dramReadReturn id gen rds => exact execDramReadReturn_good id gen rds s hk
  case tscFillDone set ids => exact execTscFillDone_good set ids s hk
  case tscFillBudgetReset => exact execTscFillBudgetReset_good s hk
  case victimStallTimeout id => exact execVictimStallTimeout_good id s hk
  case predFlushMiss m => exact execPredFlushMiss_good m s hk
  case predFlushWay m => exact execPredFlushWay_good m s hk
  case mediaReadCompletion cid out => exact execMediaReadCompletion_good cid out s hk
  case wbSchedulerCopy r => exact execWbSchedulerCopy_good r s hk
  case journalPackTimeout => exact execJournalPackTimeout_good s hk
  case journalPageCompletion cid out => exact execJournalPageCompletion_good cid out s hk
  case cleanQueueApply => exact execCleanQueueApply_good s hk
  case wbStageStallTimeout sk => exact execWbStageStallTimeout_good sk s hk
  case ntAgeWriteout sk => exact execNtAgeWriteout_good sk s hk
  case ntHoldWriteout sk => exact execNtHoldWriteout_good sk s hk
  case reservationGrant => exact execReservationGrant_good s hk
  case sfStallTimeout id => exact execSfStallTimeout_good id s hk
  case sfSuspectWalk => exact execSfSuspectWalk_good s hk
  case rdS p lane seq m => exact execRdS_good p lane seq m s hk
  case rdO p lane seq m => exact execRdO_good p lane seq m s hk
  case rdOna p lane seq m => exact execRdOna_good p lane seq m s hk
  case rdNa p lane seq m => exact execRdNa_good p lane seq m s hk
  case wrNa p lane seq m => exact execWrNa_good p lane seq m s hk
  case atom p lane seq m => exact execAtom_good p lane seq m s hk
  case evcE p lane seq m => exact execEvcE_good p lane seq m s hk
  case fhbDone p lane seq m => exact execFhbDone_good p lane seq m s hk
  case snpS p lane seq m => exact execSnpS_good p lane seq m s hk
  case snpInv p lane seq m => exact execSnpInv_good p lane seq m s hk
  case snpCur p lane seq m => exact execSnpCur_good p lane seq m s hk
  case snpRefwd p lane seq m => exact execSnpRefwd_good p lane seq m s hk
  case rspI p lane seq m => exact execRspI_good p lane seq m s hk
  case rspS p lane seq m => exact execRspS_good p lane seq m s hk
  case rspMiss p lane seq m => exact execRspMiss_good p lane seq m s hk
  case rspFwd p lane seq m => exact execRspFwd_good p lane seq m s hk
  case rspPend p lane seq m => exact execRspPend_good p lane seq m s hk
  case gnt p lane seq m => exact execGnt_good p lane seq m s hk
  case cmp p lane seq m => exact execCmp_good p lane seq m s hk
  case ack p lane seq m => exact execAck_good p lane seq m s hk
  case rls p lane seq m => exact execRls_good p lane seq m s hk
  case err p lane seq m => exact execErr_good p lane seq m s hk
  case atomRes p lane seq m => exact execAtomRes_good p lane seq m s hk
  case data p lane seq m => exact execData_good p lane seq m s hk
  case snpdata p lane seq m => exact execSnpdata_good p lane seq m s hk
  case wb p lane seq m => exact execWb_good p lane seq m s hk
  case fhb p lane seq m => exact execFhb_good p lane seq m s hk
  case fxTimeout tid => exact execFxTimeout_good tid s hk
  case homeResponseTimeout tid => exact execHomeResponseTimeout_good tid s hk
  case homeSnoopTimeout sk dev => exact execHomeSnoopTimeout_good sk dev s hk
  case rspPendInterval id => exact execRspPendInterval_good id s hk
  case dirStallTimeout id => exact execDirStallTimeout_good id s hk
  case peerIncarnationChange dev inc => exact execPeerIncarnationChange_good dev inc s hk
  case fhbWaitTimeout => exact execFhbWaitTimeout_good s hk
  case fhbForce m => exact execFhbForce_good m s hk
  case ldgCapWrite m w => exact execLdgCapWrite_good m w s hk
  case ldgArmWrite m w => exact execLdgArmWrite_good m w s hk
  case calStart m => exact execCalStart_good m s hk
  case calAbort m => exact execCalAbort_good m s hk
  case calWritebackTimeout => exact execCalWritebackTimeout_good s hk
  case calDrainDone bw pwr => exact execCalDrainDone_good bw pwr s hk
  case medCmdTimeout cid => exact execMedCmdTimeout_good cid s hk
  case medAbortTimeout cid => exact execMedAbortTimeout_good cid s hk
  case medCtrlReady p nss last => exact execMedCtrlReady_good p nss last s hk
  case medCtrlReadyTimeout p => exact execMedCtrlReadyTimeout_good p s hk
  case mediaPortLost p => exact execMediaPortLost_good p s hk
  case smartPoll p warn used => exact execSmartPoll_good p warn used s hk
  case nvmeAsyncEvent p warn used => exact execNvmeAsyncEvent_good p warn used s hk
  case sinterPage ns => exact execSinterPage_good ns s hk
  case sinterHomeWriteDone cid out => exact execSinterHomeWriteDone_good cid out s hk
  case journalHeadAdvance ns => exact execJournalHeadAdvance_good ns s hk
  case checkpointTimer => exact execCheckpointTimer_good s hk
  case indexBucketRebuild b => exact execIndexBucketRebuild_good b s hk
  case pwrfailNAssert wires msgs => exact execPwrfailNAssert_good wires msgs s hk
  case busTrip wires msgs => exact execBusTrip_good wires msgs s hk
  case railsGoodFall wires msgs => exact execRailsGoodFall_good wires msgs s hk
  case geyserDrainComplete f => exact execGeyserDrainComplete_good f s hk
  case bankVminReached => exact execBankVminReached_good s hk
  case mainPowerReturn => exact execMainPowerReturn_good s hk
  case railsGoodRise f => exact execRailsGoodRise_good f s hk
  case hostLinkEnable => exact execHostLinkEnable_good s hk
  case pfHeldTimeout => exact execPfHeldTimeout_good s hk
  case restartSweepSet c => exact execRestartSweepSet_good c s hk
  case rewarmRead => exact execRewarmRead_good s hk
  case bankPresentDebounce n => exact execBankPresentDebounce_good n s hk
  case bankFaultIsolate n f => exact execBankFaultIsolate_good n f s hk
  case bankCapMeasure n cap => exact execBankCapMeasure_good n cap s hk
  case bankChargeDone n => exact execBankChargeDone_good n s hk
  case bankRechargeThreshold n => exact execBankRechargeThreshold_good n s hk
  case svcDischarge m banks => exact execSvcDischarge_good m banks s hk
  case svcRecharge m banks => exact execSvcRecharge_good m banks s hk
  case bankDischargeDone n => exact execBankDischargeDone_good n s hk
  case bankDischargeTimeout n => exact execBankDischargeTimeout_good n s hk
  case rsvGateFault => exact execRsvGateFault_good s hk
  case rsvNoBankFault => exact execRsvNoBankFault_good s hk
  case rsvFaultClear f => exact execRsvFaultClear_good f s hk
  case scrubSlot c rds => exact execScrubSlot_good c rds s hk
  case quarantineRewrite k => exact execQuarantineRewrite_good k s hk
  case refreshInterval c => exact execRefreshInterval_good c s hk
  case thermalPoll c temp => exact execThermalPoll_good c temp s hk
  case channelFailDetect c => exact execChannelFailDetect_good c s hk
  case resilverSetCopy p dropped => exact execResilverSetCopy_good p dropped s hk
  case trainCmdFull m => exact execTrainCmdFull_good m s hk
  case add e rd rs rt => exact execAdd_good e rd rs rt s hk
  case sub e rd rs rt => exact execSub_good e rd rs rt s hk
  case and e rd rs rt => exact execAnd_good e rd rs rt s hk
  case or e rd rs rt => exact execOr_good e rd rs rt s hk
  case xor e rd rs rt => exact execXor_good e rd rs rt s hk
  case nor e rd rs rt => exact execNor_good e rd rs rt s hk
  case lts e rd rs rt => exact execLts_good e rd rs rt s hk
  case ltu e rd rs rt => exact execLtu_good e rd rs rt s hk
  case min e rd rs rt => exact execMin_good e rd rs rt s hk
  case max e rd rs rt => exact execMax_good e rd rs rt s hk
  case minu e rd rs rt => exact execMinu_good e rd rs rt s hk
  case maxu e rd rs rt => exact execMaxu_good e rd rs rt s hk
  case shl e rd rs rt => exact execShl_good e rd rs rt s hk
  case shr e rd rs rt => exact execShr_good e rd rs rt s hk
  case sar e rd rs rt => exact execSar_good e rd rs rt s hk
  case ror e rd rs rt => exact execRor_good e rd rs rt s hk
  case shlk e rd rs k => exact execShlk_good e rd rs k s hk
  case shrk e rd rs k => exact execShrk_good e rd rs k s hk
  case sark e rd rs k => exact execSark_good e rd rs k s hk
  case mul e rd rs rt => exact execMul_good e rd rs rt s hk
  case mulhu e rd rs rt => exact execMulhu_good e rd rs rt s hk
  case mulhs e rd rs rt => exact execMulhs_good e rd rs rt s hk
  case clz e rd rs rt => exact execClz_good e rd rs rt s hk
  case ones e rd rs rt => exact execOnes_good e rd rs rt s hk
  case addk e rd rs imm => exact execAddk_good e rd rs imm s hk
  case andk e rd rs imm => exact execAndk_good e rd rs imm s hk
  case ork e rd rs imm => exact execOrk_good e rd rs imm s hk
  case xork e rd rs imm => exact execXork_good e rd rs imm s hk
  case ltsk e rd rs imm => exact execLtsk_good e rd rs imm s hk
  case ltuk e rd rs imm => exact execLtuk_good e rd rs imm s hk
  case hik e rd rs imm => exact execHik_good e rd rs imm s hk
  case ldw e rd rs imm c => exact execLdw_good e rd rs imm c s hk
  case ldh e rd rs imm c => exact execLdh_good e rd rs imm c s hk
  case ldhu e rd rs imm c => exact execLdhu_good e rd rs imm c s hk
  case ldb e rd rs imm c => exact execLdb_good e rd rs imm c s hk
  case ldbu e rd rs imm c => exact execLdbu_good e rd rs imm c s hk
  case stw e rd rs imm => exact execStw_good e rd rs imm s hk
  case sth e rd rs imm => exact execSth_good e rd rs imm s hk
  case stb e rd rs imm => exact execStb_good e rd rs imm s hk
  case casw e rd rs rt c => exact execCasw_good e rd rs rt c s hk
  case br e a cond rs off => exact execBr_good e a cond rs off s hk
  case brl e a cond rs off => exact execBrl_good e a cond rs off s hk
  case jmp e rd rs rt => exact execJmp_good e rd rs rt s hk
  case jml e rd rs rt => exact execJml_good e rd rs rt s hk
  case loop e level rs off => exact execLoop_good e level rs off s hk
  case loopi e level count off => exact execLoopi_good e level count off s hk
  case mode e rs => exact execMode_good e rs s hk
  case xret e => exact execXret_good e s hk
  case trap e => exact execTrap_good e s hk
  case debug e => exact execDebug_good e s hk
  case fend e => exact execFend_good e s hk
  case pflush e => exact execPflush_good e s hk
  case srd e rd n => exact execSrd_good e rd n s hk
  case swr e rs n => exact execSwr_good e rs n s hk
  case predictorTagFlush e => exact execPredictorTagFlush_good e s hk
  case scan e rd rs rt => exact execScan_good e rd rs rt s hk
  case heatrd e rd rs rt => exact execHeatrd_good e rd rs rt s hk
  case cpResultReturn e ids => exact execCpResultReturn_good e ids s hk
  case hashSet e rd rs rt => exact execHashSet_good e rd rs rt s hk
  case hashMix e rd rs rt => exact execHashMix_good e rd rs rt s hk
  case evict e rd rs rt => exact execEvict_good e rd rs rt s hk
  case policyPrefetch e rd rs rt => exact execPolicyPrefetch_good e rd rs rt s hk
  case policyPin e rd rs rt => exact execPolicyPin_good e rd rs rt s hk
  case policyUnpin e rd rs rt => exact execPolicyUnpin_good e rd rs rt s hk
  case hintWrite e rd rs rt => exact execHintWrite_good e rd rs rt s hk
  case cp3Delivery k => exact execCp3Delivery_good k s hk
  case springStreamRead e => exact execSpringStreamRead_good e s hk
  case springPackTimeout k => exact execSpringPackTimeout_good k s hk
  case baselineSpringPass => exact execBaselineSpringPass_good s hk
  case prefetchIssue => exact execPrefetchIssue_good s hk
  case idleFlit p ack vc lane n => exact execIdleFlit_good p ack vc lane n s hk
  case flitFailed p uncorr again => exact execFlitFailed_good p uncorr again s hk
  case nak p ack => exact execNak_good p ack s hk
  case hello p h => exact execHello_good p h s hk
  case helloTimer p => exact execHelloTimer_good p s hk
  case sync p m => exact execSync_good p m s hk
  case syncExchangeTimer => exact execSyncExchangeTimer_good s hk
  case syncHoldoverExpire => exact execSyncHoldoverExpire_good s hk
  case transitMessage p lane seq m => exact execTransitMessage_good p lane seq m s hk
  case replayEpisodeEnd p => exact execReplayEpisodeEnd_good p s hk
  case laneDegrade p ack lanes grants => exact execLaneDegrade_good p ack lanes grants s hk
  case fabLinkDown p => exact execFabLinkDown_good p s hk
  case fabLinkUp p width grants => exact execFabLinkUp_good p width grants s hk
  case routeHoldTimeout i => exact execRouteHoldTimeout_good i s hk
  case fecInterval p n => exact execFecInterval_good p n s hk
  case linkRetrain m ports => exact execLinkRetrain_good m ports s hk
  case linkTakeDown m ports => exact execLinkTakeDown_good m ports s hk
  case fmCandidateExpire p => exact execFmCandidateExpire_good p s hk
  case fmElected => exact execFmElected_good s hk
  case fmLost => exact execFmLost_good s hk
  case fmBeaconTimer => exact execFmBeaconTimer_good s hk
  case fmRouteRecompute out => exact execFmRouteRecompute_good out s hk
  case fmcMessage p src tag full m => exact execFmcMessage_good p src tag full m s hk
  case fmcResendTimeout tag => exact execFmcResendTimeout_good tag s hk
  case tamperTrigger t wires msgs => exact execTamperTrigger_good t wires msgs s hk
  case quenchSramCleared => exact execQuenchSramCleared_good s hk
  case rngReady => exact execRngReady_good s hk
  case rngHealthFail => exact execRngHealthFail_good s hk
  case drbgReseed => exact execDrbgReseed_good s hk
  case rngDataRead m active => exact execRngDataRead_good m active s hk
  case getVersion p => exact execGetVersion_good p s hk
  case getCapabilities p => exact execGetCapabilities_good p s hk
  case negotiateAlgorithms p => exact execNegotiateAlgorithms_good p s hk
  case getDigests p => exact execGetDigests_good p s hk
  case getCertificate p slot => exact execGetCertificate_good p slot s hk
  case challenge p slot nonce => exact execChallenge_good p slot nonce s hk
  case getMeasurements p idx => exact execGetMeasurements_good p idx s hk
  case keyExchange p => exact execKeyExchange_good p s hk
  case finish p id ok => exact execFinish_good p id ok s hk
  case heartbeat p id => exact execHeartbeat_good p id s hk
  case keyUpdate p id => exact execKeyUpdate_good p id s hk
  case endSession p id => exact execEndSession_good p id s hk
  case fwKeyRevoke keys => exact execFwKeyRevoke_good keys s hk
  case debugLock m => exact execDebugLock_good m s hk
  case assignLockSet m => exact execAssignLockSet_good m s hk
  case ownClaim m w => exact execOwnClaim_good m w s hk
  case ownHb m w => exact execOwnHb_good m w s hk
  case ownYield m w => exact execOwnYield_good m w s hk
  case ownerLapse => exact execOwnerLapse_good s hk
  case handoverTimeout => exact execHandoverTimeout_good s hk
  case cfgStore m => exact execCfgStore_good m s hk
  case cfgFactory m => exact execCfgFactory_good m s hk
  case factoryArmExpire => exact execFactoryArmExpire_good s hk
  case pgLockSet m off => exact execPgLockSet_good m off s hk
  case i3cWrite off w bad => exact execI3cWrite_good off w bad s hk
  case i3cRead off bad => exact execI3cRead_good off bad s hk
  case i3cStatus bad => exact execI3cStatus_good bad s hk
  case entdaa a => exact execEntdaa_good a s hk
  case setdasa stat a => exact execSetdasa_good stat a s hk
  case setnewda old a => exact execSetnewda_good old a s hk
  case rstdaa => exact execRstdaa_good s hk
  case enec events => exact execEnec_good events s hk
  case disec events => exact execDisec_good events s hk
  case getpid => exact execGetpid_good s hk
  case getbcr => exact execGetbcr_good s hk
  case getdcr => exact execGetdcr_good s hk
  case getstatus => exact execGetstatus_good s hk
  case getmxds => exact execGetmxds_good s hk
  case rstact act => exact execRstact_good act s hk
  case ibiSend => exact execIbiSend_good s hk
  case resetNAssert f => exact execResetNAssert_good f s hk
  case warmReset m noRelease => exact execWarmReset_good m noRelease s hk
  case releasePhaseTimeout => exact execReleasePhaseTimeout_good s hk
  case blockReset m b => exact execBlockReset_good m b s hk
  case vauxPowerUp => exact execVauxPowerUp_good s hk
  case vauxFall => exact execVauxFall_good s hk
  case bootWatchdogExpire f => exact execBootWatchdogExpire_good f s hk
  case romRecoveryReset f => exact execRomRecoveryReset_good f s hk
  case escrowWaitExpire => exact execEscrowWaitExpire_good s hk
  case mark m => exact execMark_good m s hk
  case rewind m => exact execRewind_good m s hk
  case release m => exact execRelease_good m s hk
  case releaseAllRead m => exact execReleaseAllRead_good m s hk
  case queueHeadRead m => exact execQueueHeadRead_good m s hk
  case sampleRecordRead m => exact execSampleRecordRead_good m s hk
  case msixModerationExpire p v => exact execMsixModerationExpire_good p v s hk
  case highWordLatchRead m off => exact execHighWordLatchRead_good m off s hk
  case rcFieldClearRead m a size => exact execRcFieldClearRead_good m a size s hk
  case labelAreaWriteCompletion cid out => exact execLabelAreaWriteCompletion_good cid out s hk
  case dramWriteCompletion r => exact execDramWriteCompletion_good r s hk
  case correctableLinkError p => exact execCorrectableLinkError_good p s hk
  case ideKm p mem skid session => exact execIdeKm_good p mem skid session s hk
  case powerFailGlitch => exact execPowerFailGlitch_good s hk
  case dramRailsLeaveRegulation => exact execDramRailsLeaveRegulation_good s hk
  case bankBleedDone n => exact execBankBleedDone_good n s hk
  case nvmWriteCompletion => exact execNvmWriteCompletion_good s hk
  case undefinedInstruction e w => exact execUndefinedInstruction_good e w s hk
  case instructionFetchFault e => exact execInstructionFetchFault_good e s hk
  case hostBisnpCredit p n => exact execHostBisnpCredit_good p n s hk
  case priorityPromotion => exact execPriorityPromotion_good s hk

end Sys2Proof.Machine
end

