-- ==== Sys2Proof/Laws/State.lean ====
section
/-! SUPPORT. One lemma for each field of the state under each of the operations that change one part of it: what the operation
changes, and that it changes nothing else. All hold by definition. -/

namespace Sys2Proof.Machine

open Sys2Proof

/-! ### onIo -/

@[simp] theorem onIo_part (f : Io → Io) (s : State) : (onIo f s).part = s.part := rfl
@[simp] theorem onIo_tb (f : Io → Io) (s : State) : (onIo f s).tb = s.tb := rfl
@[simp] theorem onIo_epochCnt (f : Io → Io) (s : State) : (onIo f s).epochCnt = s.epochCnt := rfl
@[simp] theorem onIo_tickLast (f : Io → Io) (s : State) : (onIo f s).tickLast = s.tickLast := rfl
@[simp] theorem onIo_epochEnd (f : Io → Io) (s : State) : (onIo f s).epochEnd = s.epochEnd := rfl
@[simp] theorem onIo_epochAt (f : Io → Io) (s : State) : (onIo f s).epochAt = s.epochAt := rfl
@[simp] theorem onIo_io (f : Io → Io) (s : State) : (onIo f s).io = f s.io := rfl
@[simp] theorem onIo_mgt (f : Io → Io) (s : State) : (onIo f s).mgt = s.mgt := rfl
@[simp] theorem onIo_sec (f : Io → Io) (s : State) : (onIo f s).sec = s.sec := rfl
@[simp] theorem onIo_hpt (f : Io → Io) (s : State) : (onIo f s).hpt = s.hpt := rfl
@[simp] theorem onIo_cache (f : Io → Io) (s : State) : (onIo f s).cache = s.cache := rfl
@[simp] theorem onIo_ldg (f : Io → Io) (s : State) : (onIo f s).ldg = s.ldg := rfl
@[simp] theorem onIo_med (f : Io → Io) (s : State) : (onIo f s).med = s.med := rfl
@[simp] theorem onIo_rsv (f : Io → Io) (s : State) : (onIo f s).rsv = s.rsv := rfl
@[simp] theorem onIo_cch (f : Io → Io) (s : State) : (onIo f s).cch = s.cch := rfl
@[simp] theorem onIo_plc (f : Io → Io) (s : State) : (onIo f s).plc = s.plc := rfl
@[simp] theorem onIo_fab (f : Io → Io) (s : State) : (onIo f s).fab = s.fab := rfl
@[simp] theorem onIo_freeCtr (f : Io → Io) (s : State) : (onIo f s).freeCtr = s.freeCtr := rfl
@[simp] theorem onIo_pending (f : Io → Io) (s : State) : (onIo f s).pending = s.pending := rfl

/-! ### onCache -/

@[simp] theorem onCache_part (f : Cache → Cache) (s : State) : (onCache f s).part = s.part := rfl
@[simp] theorem onCache_tb (f : Cache → Cache) (s : State) : (onCache f s).tb = s.tb := rfl
@[simp] theorem onCache_epochCnt (f : Cache → Cache) (s : State) : (onCache f s).epochCnt = s.epochCnt := rfl
@[simp] theorem onCache_tickLast (f : Cache → Cache) (s : State) : (onCache f s).tickLast = s.tickLast := rfl
@[simp] theorem onCache_epochEnd (f : Cache → Cache) (s : State) : (onCache f s).epochEnd = s.epochEnd := rfl
@[simp] theorem onCache_epochAt (f : Cache → Cache) (s : State) : (onCache f s).epochAt = s.epochAt := rfl
@[simp] theorem onCache_io (f : Cache → Cache) (s : State) : (onCache f s).io = s.io := rfl
@[simp] theorem onCache_mgt (f : Cache → Cache) (s : State) : (onCache f s).mgt = s.mgt := rfl
@[simp] theorem onCache_sec (f : Cache → Cache) (s : State) : (onCache f s).sec = s.sec := rfl
@[simp] theorem onCache_hpt (f : Cache → Cache) (s : State) : (onCache f s).hpt = s.hpt := rfl
@[simp] theorem onCache_cache (f : Cache → Cache) (s : State) : (onCache f s).cache = f s.cache := rfl
@[simp] theorem onCache_ldg (f : Cache → Cache) (s : State) : (onCache f s).ldg = s.ldg := rfl
@[simp] theorem onCache_med (f : Cache → Cache) (s : State) : (onCache f s).med = s.med := rfl
@[simp] theorem onCache_rsv (f : Cache → Cache) (s : State) : (onCache f s).rsv = s.rsv := rfl
@[simp] theorem onCache_cch (f : Cache → Cache) (s : State) : (onCache f s).cch = s.cch := rfl
@[simp] theorem onCache_plc (f : Cache → Cache) (s : State) : (onCache f s).plc = s.plc := rfl
@[simp] theorem onCache_fab (f : Cache → Cache) (s : State) : (onCache f s).fab = s.fab := rfl
@[simp] theorem onCache_freeCtr (f : Cache → Cache) (s : State) : (onCache f s).freeCtr = s.freeCtr := rfl
@[simp] theorem onCache_pending (f : Cache → Cache) (s : State) : (onCache f s).pending = s.pending := rfl

/-! ### onHpt -/

@[simp] theorem onHpt_part (f : Hpt → Hpt) (s : State) : (onHpt f s).part = s.part := rfl
@[simp] theorem onHpt_tb (f : Hpt → Hpt) (s : State) : (onHpt f s).tb = s.tb := rfl
@[simp] theorem onHpt_epochCnt (f : Hpt → Hpt) (s : State) : (onHpt f s).epochCnt = s.epochCnt := rfl
@[simp] theorem onHpt_tickLast (f : Hpt → Hpt) (s : State) : (onHpt f s).tickLast = s.tickLast := rfl
@[simp] theorem onHpt_epochEnd (f : Hpt → Hpt) (s : State) : (onHpt f s).epochEnd = s.epochEnd := rfl
@[simp] theorem onHpt_epochAt (f : Hpt → Hpt) (s : State) : (onHpt f s).epochAt = s.epochAt := rfl
@[simp] theorem onHpt_io (f : Hpt → Hpt) (s : State) : (onHpt f s).io = s.io := rfl
@[simp] theorem onHpt_mgt (f : Hpt → Hpt) (s : State) : (onHpt f s).mgt = s.mgt := rfl
@[simp] theorem onHpt_sec (f : Hpt → Hpt) (s : State) : (onHpt f s).sec = s.sec := rfl
@[simp] theorem onHpt_hpt (f : Hpt → Hpt) (s : State) : (onHpt f s).hpt = f s.hpt := rfl
@[simp] theorem onHpt_cache (f : Hpt → Hpt) (s : State) : (onHpt f s).cache = s.cache := rfl
@[simp] theorem onHpt_ldg (f : Hpt → Hpt) (s : State) : (onHpt f s).ldg = s.ldg := rfl
@[simp] theorem onHpt_med (f : Hpt → Hpt) (s : State) : (onHpt f s).med = s.med := rfl
@[simp] theorem onHpt_rsv (f : Hpt → Hpt) (s : State) : (onHpt f s).rsv = s.rsv := rfl
@[simp] theorem onHpt_cch (f : Hpt → Hpt) (s : State) : (onHpt f s).cch = s.cch := rfl
@[simp] theorem onHpt_plc (f : Hpt → Hpt) (s : State) : (onHpt f s).plc = s.plc := rfl
@[simp] theorem onHpt_fab (f : Hpt → Hpt) (s : State) : (onHpt f s).fab = s.fab := rfl
@[simp] theorem onHpt_freeCtr (f : Hpt → Hpt) (s : State) : (onHpt f s).freeCtr = s.freeCtr := rfl
@[simp] theorem onHpt_pending (f : Hpt → Hpt) (s : State) : (onHpt f s).pending = s.pending := rfl

/-! ### onJrnl -/

@[simp] theorem onJrnl_part (f : Jrnl → Jrnl) (s : State) : (onJrnl f s).part = s.part := rfl
@[simp] theorem onJrnl_tb (f : Jrnl → Jrnl) (s : State) : (onJrnl f s).tb = s.tb := rfl
@[simp] theorem onJrnl_epochCnt (f : Jrnl → Jrnl) (s : State) : (onJrnl f s).epochCnt = s.epochCnt := rfl
@[simp] theorem onJrnl_tickLast (f : Jrnl → Jrnl) (s : State) : (onJrnl f s).tickLast = s.tickLast := rfl
@[simp] theorem onJrnl_epochEnd (f : Jrnl → Jrnl) (s : State) : (onJrnl f s).epochEnd = s.epochEnd := rfl
@[simp] theorem onJrnl_epochAt (f : Jrnl → Jrnl) (s : State) : (onJrnl f s).epochAt = s.epochAt := rfl
@[simp] theorem onJrnl_io (f : Jrnl → Jrnl) (s : State) : (onJrnl f s).io = s.io := rfl
@[simp] theorem onJrnl_mgt (f : Jrnl → Jrnl) (s : State) : (onJrnl f s).mgt = s.mgt := rfl
@[simp] theorem onJrnl_sec (f : Jrnl → Jrnl) (s : State) : (onJrnl f s).sec = s.sec := rfl
@[simp] theorem onJrnl_hpt (f : Jrnl → Jrnl) (s : State) : (onJrnl f s).hpt = s.hpt := rfl
@[simp] theorem onJrnl_cache (f : Jrnl → Jrnl) (s : State) : (onJrnl f s).cache = s.cache := rfl
@[simp] theorem onJrnl_ldg (f : Jrnl → Jrnl) (s : State) : (onJrnl f s).ldg = s.ldg := rfl
@[simp] theorem onJrnl_med_jrnl (f : Jrnl → Jrnl) (s : State) : (onJrnl f s).med.jrnl = f s.med.jrnl := rfl
@[simp] theorem onJrnl_med_ports (f : Jrnl → Jrnl) (s : State) : (onJrnl f s).med.ports = s.med.ports := rfl
@[simp] theorem onJrnl_med_media (f : Jrnl → Jrnl) (s : State) : (onJrnl f s).med.media = s.med.media := rfl
@[simp] theorem onJrnl_rsv (f : Jrnl → Jrnl) (s : State) : (onJrnl f s).rsv = s.rsv := rfl
@[simp] theorem onJrnl_cch (f : Jrnl → Jrnl) (s : State) : (onJrnl f s).cch = s.cch := rfl
@[simp] theorem onJrnl_plc (f : Jrnl → Jrnl) (s : State) : (onJrnl f s).plc = s.plc := rfl
@[simp] theorem onJrnl_fab (f : Jrnl → Jrnl) (s : State) : (onJrnl f s).fab = s.fab := rfl
@[simp] theorem onJrnl_freeCtr (f : Jrnl → Jrnl) (s : State) : (onJrnl f s).freeCtr = s.freeCtr := rfl
@[simp] theorem onJrnl_pending (f : Jrnl → Jrnl) (s : State) : (onJrnl f s).pending = s.pending := rfl

/-! ### onMedia -/

@[simp] theorem onMedia_part (f : Media → Media) (s : State) : (onMedia f s).part = s.part := rfl
@[simp] theorem onMedia_tb (f : Media → Media) (s : State) : (onMedia f s).tb = s.tb := rfl
@[simp] theorem onMedia_epochCnt (f : Media → Media) (s : State) : (onMedia f s).epochCnt = s.epochCnt := rfl
@[simp] theorem onMedia_tickLast (f : Media → Media) (s : State) : (onMedia f s).tickLast = s.tickLast := rfl
@[simp] theorem onMedia_epochEnd (f : Media → Media) (s : State) : (onMedia f s).epochEnd = s.epochEnd := rfl
@[simp] theorem onMedia_epochAt (f : Media → Media) (s : State) : (onMedia f s).epochAt = s.epochAt := rfl
@[simp] theorem onMedia_io (f : Media → Media) (s : State) : (onMedia f s).io = s.io := rfl
@[simp] theorem onMedia_mgt (f : Media → Media) (s : State) : (onMedia f s).mgt = s.mgt := rfl
@[simp] theorem onMedia_sec (f : Media → Media) (s : State) : (onMedia f s).sec = s.sec := rfl
@[simp] theorem onMedia_hpt (f : Media → Media) (s : State) : (onMedia f s).hpt = s.hpt := rfl
@[simp] theorem onMedia_cache (f : Media → Media) (s : State) : (onMedia f s).cache = s.cache := rfl
@[simp] theorem onMedia_ldg (f : Media → Media) (s : State) : (onMedia f s).ldg = s.ldg := rfl
@[simp] theorem onMedia_med_media (f : Media → Media) (s : State) : (onMedia f s).med.media = f s.med.media := rfl
@[simp] theorem onMedia_med_ports (f : Media → Media) (s : State) : (onMedia f s).med.ports = s.med.ports := rfl
@[simp] theorem onMedia_med_jrnl (f : Media → Media) (s : State) : (onMedia f s).med.jrnl = s.med.jrnl := rfl
@[simp] theorem onMedia_rsv (f : Media → Media) (s : State) : (onMedia f s).rsv = s.rsv := rfl
@[simp] theorem onMedia_cch (f : Media → Media) (s : State) : (onMedia f s).cch = s.cch := rfl
@[simp] theorem onMedia_plc (f : Media → Media) (s : State) : (onMedia f s).plc = s.plc := rfl
@[simp] theorem onMedia_fab (f : Media → Media) (s : State) : (onMedia f s).fab = s.fab := rfl
@[simp] theorem onMedia_freeCtr (f : Media → Media) (s : State) : (onMedia f s).freeCtr = s.freeCtr := rfl
@[simp] theorem onMedia_pending (f : Media → Media) (s : State) : (onMedia f s).pending = s.pending := rfl

/-! ### onRsv -/

@[simp] theorem onRsv_part (f : Rsv → Rsv) (s : State) : (onRsv f s).part = s.part := rfl
@[simp] theorem onRsv_tb (f : Rsv → Rsv) (s : State) : (onRsv f s).tb = s.tb := rfl
@[simp] theorem onRsv_epochCnt (f : Rsv → Rsv) (s : State) : (onRsv f s).epochCnt = s.epochCnt := rfl
@[simp] theorem onRsv_tickLast (f : Rsv → Rsv) (s : State) : (onRsv f s).tickLast = s.tickLast := rfl
@[simp] theorem onRsv_epochEnd (f : Rsv → Rsv) (s : State) : (onRsv f s).epochEnd = s.epochEnd := rfl
@[simp] theorem onRsv_epochAt (f : Rsv → Rsv) (s : State) : (onRsv f s).epochAt = s.epochAt := rfl
@[simp] theorem onRsv_io (f : Rsv → Rsv) (s : State) : (onRsv f s).io = s.io := rfl
@[simp] theorem onRsv_mgt (f : Rsv → Rsv) (s : State) : (onRsv f s).mgt = s.mgt := rfl
@[simp] theorem onRsv_sec (f : Rsv → Rsv) (s : State) : (onRsv f s).sec = s.sec := rfl
@[simp] theorem onRsv_hpt (f : Rsv → Rsv) (s : State) : (onRsv f s).hpt = s.hpt := rfl
@[simp] theorem onRsv_cache (f : Rsv → Rsv) (s : State) : (onRsv f s).cache = s.cache := rfl
@[simp] theorem onRsv_ldg (f : Rsv → Rsv) (s : State) : (onRsv f s).ldg = s.ldg := rfl
@[simp] theorem onRsv_med (f : Rsv → Rsv) (s : State) : (onRsv f s).med = s.med := rfl
@[simp] theorem onRsv_rsv (f : Rsv → Rsv) (s : State) : (onRsv f s).rsv = f s.rsv := rfl
@[simp] theorem onRsv_cch (f : Rsv → Rsv) (s : State) : (onRsv f s).cch = s.cch := rfl
@[simp] theorem onRsv_plc (f : Rsv → Rsv) (s : State) : (onRsv f s).plc = s.plc := rfl
@[simp] theorem onRsv_fab (f : Rsv → Rsv) (s : State) : (onRsv f s).fab = s.fab := rfl
@[simp] theorem onRsv_freeCtr (f : Rsv → Rsv) (s : State) : (onRsv f s).freeCtr = s.freeCtr := rfl
@[simp] theorem onRsv_pending (f : Rsv → Rsv) (s : State) : (onRsv f s).pending = s.pending := rfl

/-! ### onCch -/

@[simp] theorem onCch_part (f : Cch → Cch) (s : State) : (onCch f s).part = s.part := rfl
@[simp] theorem onCch_tb (f : Cch → Cch) (s : State) : (onCch f s).tb = s.tb := rfl
@[simp] theorem onCch_epochCnt (f : Cch → Cch) (s : State) : (onCch f s).epochCnt = s.epochCnt := rfl
@[simp] theorem onCch_tickLast (f : Cch → Cch) (s : State) : (onCch f s).tickLast = s.tickLast := rfl
@[simp] theorem onCch_epochEnd (f : Cch → Cch) (s : State) : (onCch f s).epochEnd = s.epochEnd := rfl
@[simp] theorem onCch_epochAt (f : Cch → Cch) (s : State) : (onCch f s).epochAt = s.epochAt := rfl
@[simp] theorem onCch_io (f : Cch → Cch) (s : State) : (onCch f s).io = s.io := rfl
@[simp] theorem onCch_mgt (f : Cch → Cch) (s : State) : (onCch f s).mgt = s.mgt := rfl
@[simp] theorem onCch_sec (f : Cch → Cch) (s : State) : (onCch f s).sec = s.sec := rfl
@[simp] theorem onCch_hpt (f : Cch → Cch) (s : State) : (onCch f s).hpt = s.hpt := rfl
@[simp] theorem onCch_cache (f : Cch → Cch) (s : State) : (onCch f s).cache = s.cache := rfl
@[simp] theorem onCch_ldg (f : Cch → Cch) (s : State) : (onCch f s).ldg = s.ldg := rfl
@[simp] theorem onCch_med (f : Cch → Cch) (s : State) : (onCch f s).med = s.med := rfl
@[simp] theorem onCch_rsv (f : Cch → Cch) (s : State) : (onCch f s).rsv = s.rsv := rfl
@[simp] theorem onCch_cch (f : Cch → Cch) (s : State) : (onCch f s).cch = f s.cch := rfl
@[simp] theorem onCch_plc (f : Cch → Cch) (s : State) : (onCch f s).plc = s.plc := rfl
@[simp] theorem onCch_fab (f : Cch → Cch) (s : State) : (onCch f s).fab = s.fab := rfl
@[simp] theorem onCch_freeCtr (f : Cch → Cch) (s : State) : (onCch f s).freeCtr = s.freeCtr := rfl
@[simp] theorem onCch_pending (f : Cch → Cch) (s : State) : (onCch f s).pending = s.pending := rfl

/-! ### onPlc -/

@[simp] theorem onPlc_part (f : Plc → Plc) (s : State) : (onPlc f s).part = s.part := rfl
@[simp] theorem onPlc_tb (f : Plc → Plc) (s : State) : (onPlc f s).tb = s.tb := rfl
@[simp] theorem onPlc_epochCnt (f : Plc → Plc) (s : State) : (onPlc f s).epochCnt = s.epochCnt := rfl
@[simp] theorem onPlc_tickLast (f : Plc → Plc) (s : State) : (onPlc f s).tickLast = s.tickLast := rfl
@[simp] theorem onPlc_epochEnd (f : Plc → Plc) (s : State) : (onPlc f s).epochEnd = s.epochEnd := rfl
@[simp] theorem onPlc_epochAt (f : Plc → Plc) (s : State) : (onPlc f s).epochAt = s.epochAt := rfl
@[simp] theorem onPlc_io (f : Plc → Plc) (s : State) : (onPlc f s).io = s.io := rfl
@[simp] theorem onPlc_mgt (f : Plc → Plc) (s : State) : (onPlc f s).mgt = s.mgt := rfl
@[simp] theorem onPlc_sec (f : Plc → Plc) (s : State) : (onPlc f s).sec = s.sec := rfl
@[simp] theorem onPlc_hpt (f : Plc → Plc) (s : State) : (onPlc f s).hpt = s.hpt := rfl
@[simp] theorem onPlc_cache (f : Plc → Plc) (s : State) : (onPlc f s).cache = s.cache := rfl
@[simp] theorem onPlc_ldg (f : Plc → Plc) (s : State) : (onPlc f s).ldg = s.ldg := rfl
@[simp] theorem onPlc_med (f : Plc → Plc) (s : State) : (onPlc f s).med = s.med := rfl
@[simp] theorem onPlc_rsv (f : Plc → Plc) (s : State) : (onPlc f s).rsv = s.rsv := rfl
@[simp] theorem onPlc_cch (f : Plc → Plc) (s : State) : (onPlc f s).cch = s.cch := rfl
@[simp] theorem onPlc_plc (f : Plc → Plc) (s : State) : (onPlc f s).plc = f s.plc := rfl
@[simp] theorem onPlc_fab (f : Plc → Plc) (s : State) : (onPlc f s).fab = s.fab := rfl
@[simp] theorem onPlc_freeCtr (f : Plc → Plc) (s : State) : (onPlc f s).freeCtr = s.freeCtr := rfl
@[simp] theorem onPlc_pending (f : Plc → Plc) (s : State) : (onPlc f s).pending = s.pending := rfl

/-! ### onFab -/

@[simp] theorem onFab_part (f : Fab → Fab) (s : State) : (onFab f s).part = s.part := rfl
@[simp] theorem onFab_tb (f : Fab → Fab) (s : State) : (onFab f s).tb = s.tb := rfl
@[simp] theorem onFab_epochCnt (f : Fab → Fab) (s : State) : (onFab f s).epochCnt = s.epochCnt := rfl
@[simp] theorem onFab_tickLast (f : Fab → Fab) (s : State) : (onFab f s).tickLast = s.tickLast := rfl
@[simp] theorem onFab_epochEnd (f : Fab → Fab) (s : State) : (onFab f s).epochEnd = s.epochEnd := rfl
@[simp] theorem onFab_epochAt (f : Fab → Fab) (s : State) : (onFab f s).epochAt = s.epochAt := rfl
@[simp] theorem onFab_io (f : Fab → Fab) (s : State) : (onFab f s).io = s.io := rfl
@[simp] theorem onFab_mgt (f : Fab → Fab) (s : State) : (onFab f s).mgt = s.mgt := rfl
@[simp] theorem onFab_sec (f : Fab → Fab) (s : State) : (onFab f s).sec = s.sec := rfl
@[simp] theorem onFab_hpt (f : Fab → Fab) (s : State) : (onFab f s).hpt = s.hpt := rfl
@[simp] theorem onFab_cache (f : Fab → Fab) (s : State) : (onFab f s).cache = s.cache := rfl
@[simp] theorem onFab_ldg (f : Fab → Fab) (s : State) : (onFab f s).ldg = s.ldg := rfl
@[simp] theorem onFab_med (f : Fab → Fab) (s : State) : (onFab f s).med = s.med := rfl
@[simp] theorem onFab_rsv (f : Fab → Fab) (s : State) : (onFab f s).rsv = s.rsv := rfl
@[simp] theorem onFab_cch (f : Fab → Fab) (s : State) : (onFab f s).cch = s.cch := rfl
@[simp] theorem onFab_plc (f : Fab → Fab) (s : State) : (onFab f s).plc = s.plc := rfl
@[simp] theorem onFab_fab (f : Fab → Fab) (s : State) : (onFab f s).fab = f s.fab := rfl
@[simp] theorem onFab_freeCtr (f : Fab → Fab) (s : State) : (onFab f s).freeCtr = s.freeCtr := rfl
@[simp] theorem onFab_pending (f : Fab → Fab) (s : State) : (onFab f s).pending = s.pending := rfl

/-! ### onLdg -/

@[simp] theorem onLdg_part (f : Ldg → Ldg) (s : State) : (onLdg f s).part = s.part := rfl
@[simp] theorem onLdg_tb (f : Ldg → Ldg) (s : State) : (onLdg f s).tb = s.tb := rfl
@[simp] theorem onLdg_epochCnt (f : Ldg → Ldg) (s : State) : (onLdg f s).epochCnt = s.epochCnt := rfl
@[simp] theorem onLdg_tickLast (f : Ldg → Ldg) (s : State) : (onLdg f s).tickLast = s.tickLast := rfl
@[simp] theorem onLdg_epochEnd (f : Ldg → Ldg) (s : State) : (onLdg f s).epochEnd = s.epochEnd := rfl
@[simp] theorem onLdg_epochAt (f : Ldg → Ldg) (s : State) : (onLdg f s).epochAt = s.epochAt := rfl
@[simp] theorem onLdg_io (f : Ldg → Ldg) (s : State) : (onLdg f s).io = s.io := rfl
@[simp] theorem onLdg_mgt (f : Ldg → Ldg) (s : State) : (onLdg f s).mgt = s.mgt := rfl
@[simp] theorem onLdg_sec (f : Ldg → Ldg) (s : State) : (onLdg f s).sec = s.sec := rfl
@[simp] theorem onLdg_hpt (f : Ldg → Ldg) (s : State) : (onLdg f s).hpt = s.hpt := rfl
@[simp] theorem onLdg_cache (f : Ldg → Ldg) (s : State) : (onLdg f s).cache = s.cache := rfl
@[simp] theorem onLdg_ldg (f : Ldg → Ldg) (s : State) : (onLdg f s).ldg = f s.ldg := rfl
@[simp] theorem onLdg_med (f : Ldg → Ldg) (s : State) : (onLdg f s).med = s.med := rfl
@[simp] theorem onLdg_rsv (f : Ldg → Ldg) (s : State) : (onLdg f s).rsv = s.rsv := rfl
@[simp] theorem onLdg_cch (f : Ldg → Ldg) (s : State) : (onLdg f s).cch = s.cch := rfl
@[simp] theorem onLdg_plc (f : Ldg → Ldg) (s : State) : (onLdg f s).plc = s.plc := rfl
@[simp] theorem onLdg_fab (f : Ldg → Ldg) (s : State) : (onLdg f s).fab = s.fab := rfl
@[simp] theorem onLdg_freeCtr (f : Ldg → Ldg) (s : State) : (onLdg f s).freeCtr = s.freeCtr := rfl
@[simp] theorem onLdg_pending (f : Ldg → Ldg) (s : State) : (onLdg f s).pending = s.pending := rfl

/-! ### onSec -/

@[simp] theorem onSec_part (f : Sec → Sec) (s : State) : (onSec f s).part = s.part := rfl
@[simp] theorem onSec_tb (f : Sec → Sec) (s : State) : (onSec f s).tb = s.tb := rfl
@[simp] theorem onSec_epochCnt (f : Sec → Sec) (s : State) : (onSec f s).epochCnt = s.epochCnt := rfl
@[simp] theorem onSec_tickLast (f : Sec → Sec) (s : State) : (onSec f s).tickLast = s.tickLast := rfl
@[simp] theorem onSec_epochEnd (f : Sec → Sec) (s : State) : (onSec f s).epochEnd = s.epochEnd := rfl
@[simp] theorem onSec_epochAt (f : Sec → Sec) (s : State) : (onSec f s).epochAt = s.epochAt := rfl
@[simp] theorem onSec_io (f : Sec → Sec) (s : State) : (onSec f s).io = s.io := rfl
@[simp] theorem onSec_mgt (f : Sec → Sec) (s : State) : (onSec f s).mgt = s.mgt := rfl
@[simp] theorem onSec_sec (f : Sec → Sec) (s : State) : (onSec f s).sec = f s.sec := rfl
@[simp] theorem onSec_hpt (f : Sec → Sec) (s : State) : (onSec f s).hpt = s.hpt := rfl
@[simp] theorem onSec_cache (f : Sec → Sec) (s : State) : (onSec f s).cache = s.cache := rfl
@[simp] theorem onSec_ldg (f : Sec → Sec) (s : State) : (onSec f s).ldg = s.ldg := rfl
@[simp] theorem onSec_med (f : Sec → Sec) (s : State) : (onSec f s).med = s.med := rfl
@[simp] theorem onSec_rsv (f : Sec → Sec) (s : State) : (onSec f s).rsv = s.rsv := rfl
@[simp] theorem onSec_cch (f : Sec → Sec) (s : State) : (onSec f s).cch = s.cch := rfl
@[simp] theorem onSec_plc (f : Sec → Sec) (s : State) : (onSec f s).plc = s.plc := rfl
@[simp] theorem onSec_fab (f : Sec → Sec) (s : State) : (onSec f s).fab = s.fab := rfl
@[simp] theorem onSec_freeCtr (f : Sec → Sec) (s : State) : (onSec f s).freeCtr = s.freeCtr := rfl
@[simp] theorem onSec_pending (f : Sec → Sec) (s : State) : (onSec f s).pending = s.pending := rfl

/-! ### onBoot -/

@[simp] theorem onBoot_part (f : Boot → Boot) (s : State) : (onBoot f s).part = s.part := rfl
@[simp] theorem onBoot_tb (f : Boot → Boot) (s : State) : (onBoot f s).tb = s.tb := rfl
@[simp] theorem onBoot_epochCnt (f : Boot → Boot) (s : State) : (onBoot f s).epochCnt = s.epochCnt := rfl
@[simp] theorem onBoot_tickLast (f : Boot → Boot) (s : State) : (onBoot f s).tickLast = s.tickLast := rfl
@[simp] theorem onBoot_epochEnd (f : Boot → Boot) (s : State) : (onBoot f s).epochEnd = s.epochEnd := rfl
@[simp] theorem onBoot_epochAt (f : Boot → Boot) (s : State) : (onBoot f s).epochAt = s.epochAt := rfl
@[simp] theorem onBoot_io (f : Boot → Boot) (s : State) : (onBoot f s).io = s.io := rfl
@[simp] theorem onBoot_mgt_boot (f : Boot → Boot) (s : State) : (onBoot f s).mgt.boot = f s.mgt.boot := rfl
@[simp] theorem onBoot_mgt_own (f : Boot → Boot) (s : State) : (onBoot f s).mgt.own = s.mgt.own := rfl
@[simp] theorem onBoot_mgt_nv (f : Boot → Boot) (s : State) : (onBoot f s).mgt.nv = s.mgt.nv := rfl
@[simp] theorem onBoot_mgt_i3c (f : Boot → Boot) (s : State) : (onBoot f s).mgt.i3c = s.mgt.i3c := rfl
@[simp] theorem onBoot_mgt_flash (f : Boot → Boot) (s : State) : (onBoot f s).mgt.flash = s.mgt.flash := rfl
@[simp] theorem onBoot_sec (f : Boot → Boot) (s : State) : (onBoot f s).sec = s.sec := rfl
@[simp] theorem onBoot_hpt (f : Boot → Boot) (s : State) : (onBoot f s).hpt = s.hpt := rfl
@[simp] theorem onBoot_cache (f : Boot → Boot) (s : State) : (onBoot f s).cache = s.cache := rfl
@[simp] theorem onBoot_ldg (f : Boot → Boot) (s : State) : (onBoot f s).ldg = s.ldg := rfl
@[simp] theorem onBoot_med (f : Boot → Boot) (s : State) : (onBoot f s).med = s.med := rfl
@[simp] theorem onBoot_rsv (f : Boot → Boot) (s : State) : (onBoot f s).rsv = s.rsv := rfl
@[simp] theorem onBoot_cch (f : Boot → Boot) (s : State) : (onBoot f s).cch = s.cch := rfl
@[simp] theorem onBoot_plc (f : Boot → Boot) (s : State) : (onBoot f s).plc = s.plc := rfl
@[simp] theorem onBoot_fab (f : Boot → Boot) (s : State) : (onBoot f s).fab = s.fab := rfl
@[simp] theorem onBoot_freeCtr (f : Boot → Boot) (s : State) : (onBoot f s).freeCtr = s.freeCtr := rfl
@[simp] theorem onBoot_pending (f : Boot → Boot) (s : State) : (onBoot f s).pending = s.pending := rfl

/-! ### onNv -/

@[simp] theorem onNv_part (f : Nvm → Nvm) (s : State) : (onNv f s).part = s.part := rfl
@[simp] theorem onNv_tb (f : Nvm → Nvm) (s : State) : (onNv f s).tb = s.tb := rfl
@[simp] theorem onNv_epochCnt (f : Nvm → Nvm) (s : State) : (onNv f s).epochCnt = s.epochCnt := rfl
@[simp] theorem onNv_tickLast (f : Nvm → Nvm) (s : State) : (onNv f s).tickLast = s.tickLast := rfl
@[simp] theorem onNv_epochEnd (f : Nvm → Nvm) (s : State) : (onNv f s).epochEnd = s.epochEnd := rfl
@[simp] theorem onNv_epochAt (f : Nvm → Nvm) (s : State) : (onNv f s).epochAt = s.epochAt := rfl
@[simp] theorem onNv_io (f : Nvm → Nvm) (s : State) : (onNv f s).io = s.io := rfl
@[simp] theorem onNv_mgt_nv (f : Nvm → Nvm) (s : State) : (onNv f s).mgt.nv = f s.mgt.nv := rfl
@[simp] theorem onNv_mgt_own (f : Nvm → Nvm) (s : State) : (onNv f s).mgt.own = s.mgt.own := rfl
@[simp] theorem onNv_mgt_boot (f : Nvm → Nvm) (s : State) : (onNv f s).mgt.boot = s.mgt.boot := rfl
@[simp] theorem onNv_mgt_i3c (f : Nvm → Nvm) (s : State) : (onNv f s).mgt.i3c = s.mgt.i3c := rfl
@[simp] theorem onNv_mgt_flash (f : Nvm → Nvm) (s : State) : (onNv f s).mgt.flash = s.mgt.flash := rfl
@[simp] theorem onNv_sec (f : Nvm → Nvm) (s : State) : (onNv f s).sec = s.sec := rfl
@[simp] theorem onNv_hpt (f : Nvm → Nvm) (s : State) : (onNv f s).hpt = s.hpt := rfl
@[simp] theorem onNv_cache (f : Nvm → Nvm) (s : State) : (onNv f s).cache = s.cache := rfl
@[simp] theorem onNv_ldg (f : Nvm → Nvm) (s : State) : (onNv f s).ldg = s.ldg := rfl
@[simp] theorem onNv_med (f : Nvm → Nvm) (s : State) : (onNv f s).med = s.med := rfl
@[simp] theorem onNv_rsv (f : Nvm → Nvm) (s : State) : (onNv f s).rsv = s.rsv := rfl
@[simp] theorem onNv_cch (f : Nvm → Nvm) (s : State) : (onNv f s).cch = s.cch := rfl
@[simp] theorem onNv_plc (f : Nvm → Nvm) (s : State) : (onNv f s).plc = s.plc := rfl
@[simp] theorem onNv_fab (f : Nvm → Nvm) (s : State) : (onNv f s).fab = s.fab := rfl
@[simp] theorem onNv_freeCtr (f : Nvm → Nvm) (s : State) : (onNv f s).freeCtr = s.freeCtr := rfl
@[simp] theorem onNv_pending (f : Nvm → Nvm) (s : State) : (onNv f s).pending = s.pending := rfl

/-! ### onOwn -/

@[simp] theorem onOwn_part (f : Own → Own) (s : State) : (onOwn f s).part = s.part := rfl
@[simp] theorem onOwn_tb (f : Own → Own) (s : State) : (onOwn f s).tb = s.tb := rfl
@[simp] theorem onOwn_epochCnt (f : Own → Own) (s : State) : (onOwn f s).epochCnt = s.epochCnt := rfl
@[simp] theorem onOwn_tickLast (f : Own → Own) (s : State) : (onOwn f s).tickLast = s.tickLast := rfl
@[simp] theorem onOwn_epochEnd (f : Own → Own) (s : State) : (onOwn f s).epochEnd = s.epochEnd := rfl
@[simp] theorem onOwn_epochAt (f : Own → Own) (s : State) : (onOwn f s).epochAt = s.epochAt := rfl
@[simp] theorem onOwn_io (f : Own → Own) (s : State) : (onOwn f s).io = s.io := rfl
@[simp] theorem onOwn_mgt_own (f : Own → Own) (s : State) : (onOwn f s).mgt.own = f s.mgt.own := rfl
@[simp] theorem onOwn_mgt_nv (f : Own → Own) (s : State) : (onOwn f s).mgt.nv = s.mgt.nv := rfl
@[simp] theorem onOwn_mgt_boot (f : Own → Own) (s : State) : (onOwn f s).mgt.boot = s.mgt.boot := rfl
@[simp] theorem onOwn_mgt_i3c (f : Own → Own) (s : State) : (onOwn f s).mgt.i3c = s.mgt.i3c := rfl
@[simp] theorem onOwn_mgt_flash (f : Own → Own) (s : State) : (onOwn f s).mgt.flash = s.mgt.flash := rfl
@[simp] theorem onOwn_sec (f : Own → Own) (s : State) : (onOwn f s).sec = s.sec := rfl
@[simp] theorem onOwn_hpt (f : Own → Own) (s : State) : (onOwn f s).hpt = s.hpt := rfl
@[simp] theorem onOwn_cache (f : Own → Own) (s : State) : (onOwn f s).cache = s.cache := rfl
@[simp] theorem onOwn_ldg (f : Own → Own) (s : State) : (onOwn f s).ldg = s.ldg := rfl
@[simp] theorem onOwn_med (f : Own → Own) (s : State) : (onOwn f s).med = s.med := rfl
@[simp] theorem onOwn_rsv (f : Own → Own) (s : State) : (onOwn f s).rsv = s.rsv := rfl
@[simp] theorem onOwn_cch (f : Own → Own) (s : State) : (onOwn f s).cch = s.cch := rfl
@[simp] theorem onOwn_plc (f : Own → Own) (s : State) : (onOwn f s).plc = s.plc := rfl
@[simp] theorem onOwn_fab (f : Own → Own) (s : State) : (onOwn f s).fab = s.fab := rfl
@[simp] theorem onOwn_freeCtr (f : Own → Own) (s : State) : (onOwn f s).freeCtr = s.freeCtr := rfl
@[simp] theorem onOwn_pending (f : Own → Own) (s : State) : (onOwn f s).pending = s.pending := rfl

/-! ### hwFld -/

@[simp] theorem hwFld_part (off hi lo v : Nat) (s : State) : (hwFld off hi lo v s).part = s.part := rfl
@[simp] theorem hwFld_tb (off hi lo v : Nat) (s : State) : (hwFld off hi lo v s).tb = s.tb := rfl
@[simp] theorem hwFld_epochCnt (off hi lo v : Nat) (s : State) : (hwFld off hi lo v s).epochCnt = s.epochCnt := rfl
@[simp] theorem hwFld_tickLast (off hi lo v : Nat) (s : State) : (hwFld off hi lo v s).tickLast = s.tickLast := rfl
@[simp] theorem hwFld_epochEnd (off hi lo v : Nat) (s : State) : (hwFld off hi lo v s).epochEnd = s.epochEnd := rfl
@[simp] theorem hwFld_epochAt (off hi lo v : Nat) (s : State) : (hwFld off hi lo v s).epochAt = s.epochAt := rfl
@[simp] theorem hwFld_io (off hi lo v : Nat) (s : State) : (hwFld off hi lo v s).io = putFld s.io off hi lo v := rfl
@[simp] theorem hwFld_mgt (off hi lo v : Nat) (s : State) : (hwFld off hi lo v s).mgt = s.mgt := rfl
@[simp] theorem hwFld_sec (off hi lo v : Nat) (s : State) : (hwFld off hi lo v s).sec = s.sec := rfl
@[simp] theorem hwFld_hpt (off hi lo v : Nat) (s : State) : (hwFld off hi lo v s).hpt = s.hpt := rfl
@[simp] theorem hwFld_cache (off hi lo v : Nat) (s : State) : (hwFld off hi lo v s).cache = s.cache := rfl
@[simp] theorem hwFld_ldg (off hi lo v : Nat) (s : State) : (hwFld off hi lo v s).ldg = s.ldg := rfl
@[simp] theorem hwFld_med (off hi lo v : Nat) (s : State) : (hwFld off hi lo v s).med = s.med := rfl
@[simp] theorem hwFld_rsv (off hi lo v : Nat) (s : State) : (hwFld off hi lo v s).rsv = s.rsv := rfl
@[simp] theorem hwFld_cch (off hi lo v : Nat) (s : State) : (hwFld off hi lo v s).cch = s.cch := rfl
@[simp] theorem hwFld_plc (off hi lo v : Nat) (s : State) : (hwFld off hi lo v s).plc = s.plc := rfl
@[simp] theorem hwFld_fab (off hi lo v : Nat) (s : State) : (hwFld off hi lo v s).fab = s.fab := rfl
@[simp] theorem hwFld_freeCtr (off hi lo v : Nat) (s : State) : (hwFld off hi lo v s).freeCtr = s.freeCtr := rfl
@[simp] theorem hwFld_pending (off hi lo v : Nat) (s : State) : (hwFld off hi lo v s).pending = s.pending := rfl

/-! ### raise -/

@[simp] theorem raise_part (e : Ev) (d u : Nat) (s : State) : (raise e d u s).part = s.part := rfl
@[simp] theorem raise_tb (e : Ev) (d u : Nat) (s : State) : (raise e d u s).tb = s.tb := rfl
@[simp] theorem raise_epochCnt (e : Ev) (d u : Nat) (s : State) : (raise e d u s).epochCnt = s.epochCnt := rfl
@[simp] theorem raise_tickLast (e : Ev) (d u : Nat) (s : State) : (raise e d u s).tickLast = s.tickLast := rfl
@[simp] theorem raise_epochEnd (e : Ev) (d u : Nat) (s : State) : (raise e d u s).epochEnd = s.epochEnd := rfl
@[simp] theorem raise_epochAt (e : Ev) (d u : Nat) (s : State) : (raise e d u s).epochAt = s.epochAt := rfl
@[simp] theorem raise_io (e : Ev) (d u : Nat) (s : State) : (raise e d u s).io = raiseIo (env s) e d u 0 s.io := rfl
@[simp] theorem raise_mgt (e : Ev) (d u : Nat) (s : State) : (raise e d u s).mgt = s.mgt := rfl
@[simp] theorem raise_sec (e : Ev) (d u : Nat) (s : State) : (raise e d u s).sec = s.sec := rfl
@[simp] theorem raise_hpt (e : Ev) (d u : Nat) (s : State) : (raise e d u s).hpt = s.hpt := rfl
@[simp] theorem raise_cache (e : Ev) (d u : Nat) (s : State) : (raise e d u s).cache = s.cache := rfl
@[simp] theorem raise_ldg (e : Ev) (d u : Nat) (s : State) : (raise e d u s).ldg = s.ldg := rfl
@[simp] theorem raise_med (e : Ev) (d u : Nat) (s : State) : (raise e d u s).med = s.med := rfl
@[simp] theorem raise_rsv (e : Ev) (d u : Nat) (s : State) : (raise e d u s).rsv = s.rsv := rfl
@[simp] theorem raise_cch (e : Ev) (d u : Nat) (s : State) : (raise e d u s).cch = s.cch := rfl
@[simp] theorem raise_plc (e : Ev) (d u : Nat) (s : State) : (raise e d u s).plc = s.plc := rfl
@[simp] theorem raise_fab (e : Ev) (d u : Nat) (s : State) : (raise e d u s).fab = s.fab := rfl
@[simp] theorem raise_freeCtr (e : Ev) (d u : Nat) (s : State) : (raise e d u s).freeCtr = s.freeCtr := rfl
@[simp] theorem raise_pending (e : Ev) (d u : Nat) (s : State) : (raise e d u s).pending = s.pending := rfl

/-! ### raiseE -/

@[simp] theorem raiseE_part (e : Ev) (d u c : Nat) (s : State) : (raiseE e d u c s).part = s.part := rfl
@[simp] theorem raiseE_tb (e : Ev) (d u c : Nat) (s : State) : (raiseE e d u c s).tb = s.tb := rfl
@[simp] theorem raiseE_epochCnt (e : Ev) (d u c : Nat) (s : State) : (raiseE e d u c s).epochCnt = s.epochCnt := rfl
@[simp] theorem raiseE_tickLast (e : Ev) (d u c : Nat) (s : State) : (raiseE e d u c s).tickLast = s.tickLast := rfl
@[simp] theorem raiseE_epochEnd (e : Ev) (d u c : Nat) (s : State) : (raiseE e d u c s).epochEnd = s.epochEnd := rfl
@[simp] theorem raiseE_epochAt (e : Ev) (d u c : Nat) (s : State) : (raiseE e d u c s).epochAt = s.epochAt := rfl
@[simp] theorem raiseE_io (e : Ev) (d u c : Nat) (s : State) : (raiseE e d u c s).io = raiseIo (env s) e d u c s.io := rfl
@[simp] theorem raiseE_mgt (e : Ev) (d u c : Nat) (s : State) : (raiseE e d u c s).mgt = s.mgt := rfl
@[simp] theorem raiseE_sec (e : Ev) (d u c : Nat) (s : State) : (raiseE e d u c s).sec = s.sec := rfl
@[simp] theorem raiseE_hpt (e : Ev) (d u c : Nat) (s : State) : (raiseE e d u c s).hpt = s.hpt := rfl
@[simp] theorem raiseE_cache (e : Ev) (d u c : Nat) (s : State) : (raiseE e d u c s).cache = s.cache := rfl
@[simp] theorem raiseE_ldg (e : Ev) (d u c : Nat) (s : State) : (raiseE e d u c s).ldg = s.ldg := rfl
@[simp] theorem raiseE_med (e : Ev) (d u c : Nat) (s : State) : (raiseE e d u c s).med = s.med := rfl
@[simp] theorem raiseE_rsv (e : Ev) (d u c : Nat) (s : State) : (raiseE e d u c s).rsv = s.rsv := rfl
@[simp] theorem raiseE_cch (e : Ev) (d u c : Nat) (s : State) : (raiseE e d u c s).cch = s.cch := rfl
@[simp] theorem raiseE_plc (e : Ev) (d u c : Nat) (s : State) : (raiseE e d u c s).plc = s.plc := rfl
@[simp] theorem raiseE_fab (e : Ev) (d u c : Nat) (s : State) : (raiseE e d u c s).fab = s.fab := rfl
@[simp] theorem raiseE_freeCtr (e : Ev) (d u c : Nat) (s : State) : (raiseE e d u c s).freeCtr = s.freeCtr := rfl
@[simp] theorem raiseE_pending (e : Ev) (d u c : Nat) (s : State) : (raiseE e d u c s).pending = s.pending := rfl

/-! ### raiseAtMost -/

@[simp] theorem raiseAtMost_part (ns src : Nat) (e : Ev) (d u : Nat) (s : State) : (raiseAtMost ns src e d u s).part = s.part := rfl
@[simp] theorem raiseAtMost_tb (ns src : Nat) (e : Ev) (d u : Nat) (s : State) : (raiseAtMost ns src e d u s).tb = s.tb := rfl
@[simp] theorem raiseAtMost_epochCnt (ns src : Nat) (e : Ev) (d u : Nat) (s : State) : (raiseAtMost ns src e d u s).epochCnt = s.epochCnt := rfl
@[simp] theorem raiseAtMost_tickLast (ns src : Nat) (e : Ev) (d u : Nat) (s : State) : (raiseAtMost ns src e d u s).tickLast = s.tickLast := rfl
@[simp] theorem raiseAtMost_epochEnd (ns src : Nat) (e : Ev) (d u : Nat) (s : State) : (raiseAtMost ns src e d u s).epochEnd = s.epochEnd := rfl
@[simp] theorem raiseAtMost_epochAt (ns src : Nat) (e : Ev) (d u : Nat) (s : State) : (raiseAtMost ns src e d u s).epochAt = s.epochAt := rfl
@[simp] theorem raiseAtMost_io (ns src : Nat) (e : Ev) (d u : Nat) (s : State) : (raiseAtMost ns src e d u s).io = raiseLimited (env s) ns src e d u 0 s.io := rfl
@[simp] theorem raiseAtMost_mgt (ns src : Nat) (e : Ev) (d u : Nat) (s : State) : (raiseAtMost ns src e d u s).mgt = s.mgt := rfl
@[simp] theorem raiseAtMost_sec (ns src : Nat) (e : Ev) (d u : Nat) (s : State) : (raiseAtMost ns src e d u s).sec = s.sec := rfl
@[simp] theorem raiseAtMost_hpt (ns src : Nat) (e : Ev) (d u : Nat) (s : State) : (raiseAtMost ns src e d u s).hpt = s.hpt := rfl
@[simp] theorem raiseAtMost_cache (ns src : Nat) (e : Ev) (d u : Nat) (s : State) : (raiseAtMost ns src e d u s).cache = s.cache := rfl
@[simp] theorem raiseAtMost_ldg (ns src : Nat) (e : Ev) (d u : Nat) (s : State) : (raiseAtMost ns src e d u s).ldg = s.ldg := rfl
@[simp] theorem raiseAtMost_med (ns src : Nat) (e : Ev) (d u : Nat) (s : State) : (raiseAtMost ns src e d u s).med = s.med := rfl
@[simp] theorem raiseAtMost_rsv (ns src : Nat) (e : Ev) (d u : Nat) (s : State) : (raiseAtMost ns src e d u s).rsv = s.rsv := rfl
@[simp] theorem raiseAtMost_cch (ns src : Nat) (e : Ev) (d u : Nat) (s : State) : (raiseAtMost ns src e d u s).cch = s.cch := rfl
@[simp] theorem raiseAtMost_plc (ns src : Nat) (e : Ev) (d u : Nat) (s : State) : (raiseAtMost ns src e d u s).plc = s.plc := rfl
@[simp] theorem raiseAtMost_fab (ns src : Nat) (e : Ev) (d u : Nat) (s : State) : (raiseAtMost ns src e d u s).fab = s.fab := rfl
@[simp] theorem raiseAtMost_freeCtr (ns src : Nat) (e : Ev) (d u : Nat) (s : State) : (raiseAtMost ns src e d u s).freeCtr = s.freeCtr := rfl
@[simp] theorem raiseAtMost_pending (ns src : Nat) (e : Ev) (d u : Nat) (s : State) : (raiseAtMost ns src e d u s).pending = s.pending := rfl

/-! ### tally -/

@[simp] theorem tally_part (i n : Nat) (s : State) : (tally i n s).part = s.part := rfl
@[simp] theorem tally_tb (i n : Nat) (s : State) : (tally i n s).tb = s.tb := rfl
@[simp] theorem tally_epochCnt (i n : Nat) (s : State) : (tally i n s).epochCnt = s.epochCnt := rfl
@[simp] theorem tally_tickLast (i n : Nat) (s : State) : (tally i n s).tickLast = s.tickLast := rfl
@[simp] theorem tally_epochEnd (i n : Nat) (s : State) : (tally i n s).epochEnd = s.epochEnd := rfl
@[simp] theorem tally_epochAt (i n : Nat) (s : State) : (tally i n s).epochAt = s.epochAt := rfl
@[simp] theorem tally_io (i n : Nat) (s : State) : (tally i n s).io = flush (env s) (count i n s.io) := rfl
@[simp] theorem tally_mgt (i n : Nat) (s : State) : (tally i n s).mgt = s.mgt := rfl
@[simp] theorem tally_sec (i n : Nat) (s : State) : (tally i n s).sec = s.sec := rfl
@[simp] theorem tally_hpt (i n : Nat) (s : State) : (tally i n s).hpt = s.hpt := rfl
@[simp] theorem tally_cache (i n : Nat) (s : State) : (tally i n s).cache = s.cache := rfl
@[simp] theorem tally_ldg (i n : Nat) (s : State) : (tally i n s).ldg = s.ldg := rfl
@[simp] theorem tally_med (i n : Nat) (s : State) : (tally i n s).med = s.med := rfl
@[simp] theorem tally_rsv (i n : Nat) (s : State) : (tally i n s).rsv = s.rsv := rfl
@[simp] theorem tally_cch (i n : Nat) (s : State) : (tally i n s).cch = s.cch := rfl
@[simp] theorem tally_plc (i n : Nat) (s : State) : (tally i n s).plc = s.plc := rfl
@[simp] theorem tally_fab (i n : Nat) (s : State) : (tally i n s).fab = s.fab := rfl
@[simp] theorem tally_freeCtr (i n : Nat) (s : State) : (tally i n s).freeCtr = s.freeCtr := rfl
@[simp] theorem tally_pending (i n : Nat) (s : State) : (tally i n s).pending = s.pending := rfl

/-! ### rcCount -/

@[simp] theorem rcCount_part (off hi lo n : Nat) (s : State) : (rcCount off hi lo n s).part = s.part := rfl
@[simp] theorem rcCount_tb (off hi lo n : Nat) (s : State) : (rcCount off hi lo n s).tb = s.tb := rfl
@[simp] theorem rcCount_epochCnt (off hi lo n : Nat) (s : State) : (rcCount off hi lo n s).epochCnt = s.epochCnt := rfl
@[simp] theorem rcCount_tickLast (off hi lo n : Nat) (s : State) : (rcCount off hi lo n s).tickLast = s.tickLast := rfl
@[simp] theorem rcCount_epochEnd (off hi lo n : Nat) (s : State) : (rcCount off hi lo n s).epochEnd = s.epochEnd := rfl
@[simp] theorem rcCount_epochAt (off hi lo n : Nat) (s : State) : (rcCount off hi lo n s).epochAt = s.epochAt := rfl
@[simp] theorem rcCount_io (off hi lo n : Nat) (s : State) : (rcCount off hi lo n s).io = flush (env s) (rcAdd off hi lo n s.io) := rfl
@[simp] theorem rcCount_mgt (off hi lo n : Nat) (s : State) : (rcCount off hi lo n s).mgt = s.mgt := rfl
@[simp] theorem rcCount_sec (off hi lo n : Nat) (s : State) : (rcCount off hi lo n s).sec = s.sec := rfl
@[simp] theorem rcCount_hpt (off hi lo n : Nat) (s : State) : (rcCount off hi lo n s).hpt = s.hpt := rfl
@[simp] theorem rcCount_cache (off hi lo n : Nat) (s : State) : (rcCount off hi lo n s).cache = s.cache := rfl
@[simp] theorem rcCount_ldg (off hi lo n : Nat) (s : State) : (rcCount off hi lo n s).ldg = s.ldg := rfl
@[simp] theorem rcCount_med (off hi lo n : Nat) (s : State) : (rcCount off hi lo n s).med = s.med := rfl
@[simp] theorem rcCount_rsv (off hi lo n : Nat) (s : State) : (rcCount off hi lo n s).rsv = s.rsv := rfl
@[simp] theorem rcCount_cch (off hi lo n : Nat) (s : State) : (rcCount off hi lo n s).cch = s.cch := rfl
@[simp] theorem rcCount_plc (off hi lo n : Nat) (s : State) : (rcCount off hi lo n s).plc = s.plc := rfl
@[simp] theorem rcCount_fab (off hi lo n : Nat) (s : State) : (rcCount off hi lo n s).fab = s.fab := rfl
@[simp] theorem rcCount_freeCtr (off hi lo n : Nat) (s : State) : (rcCount off hi lo n s).freeCtr = s.freeCtr := rfl
@[simp] theorem rcCount_pending (off hi lo n : Nat) (s : State) : (rcCount off hi lo n s).pending = s.pending := rfl

/-! ### rcFlag -/

@[simp] theorem rcFlag_part (off bit : Nat) (s : State) : (rcFlag off bit s).part = s.part := rfl
@[simp] theorem rcFlag_tb (off bit : Nat) (s : State) : (rcFlag off bit s).tb = s.tb := rfl
@[simp] theorem rcFlag_epochCnt (off bit : Nat) (s : State) : (rcFlag off bit s).epochCnt = s.epochCnt := rfl
@[simp] theorem rcFlag_tickLast (off bit : Nat) (s : State) : (rcFlag off bit s).tickLast = s.tickLast := rfl
@[simp] theorem rcFlag_epochEnd (off bit : Nat) (s : State) : (rcFlag off bit s).epochEnd = s.epochEnd := rfl
@[simp] theorem rcFlag_epochAt (off bit : Nat) (s : State) : (rcFlag off bit s).epochAt = s.epochAt := rfl
@[simp] theorem rcFlag_io (off bit : Nat) (s : State) : (rcFlag off bit s).io = flush (env s) (rcAdd off bit bit 1 s.io) := rfl
@[simp] theorem rcFlag_mgt (off bit : Nat) (s : State) : (rcFlag off bit s).mgt = s.mgt := rfl
@[simp] theorem rcFlag_sec (off bit : Nat) (s : State) : (rcFlag off bit s).sec = s.sec := rfl
@[simp] theorem rcFlag_hpt (off bit : Nat) (s : State) : (rcFlag off bit s).hpt = s.hpt := rfl
@[simp] theorem rcFlag_cache (off bit : Nat) (s : State) : (rcFlag off bit s).cache = s.cache := rfl
@[simp] theorem rcFlag_ldg (off bit : Nat) (s : State) : (rcFlag off bit s).ldg = s.ldg := rfl
@[simp] theorem rcFlag_med (off bit : Nat) (s : State) : (rcFlag off bit s).med = s.med := rfl
@[simp] theorem rcFlag_rsv (off bit : Nat) (s : State) : (rcFlag off bit s).rsv = s.rsv := rfl
@[simp] theorem rcFlag_cch (off bit : Nat) (s : State) : (rcFlag off bit s).cch = s.cch := rfl
@[simp] theorem rcFlag_plc (off bit : Nat) (s : State) : (rcFlag off bit s).plc = s.plc := rfl
@[simp] theorem rcFlag_fab (off bit : Nat) (s : State) : (rcFlag off bit s).fab = s.fab := rfl
@[simp] theorem rcFlag_freeCtr (off bit : Nat) (s : State) : (rcFlag off bit s).freeCtr = s.freeCtr := rfl
@[simp] theorem rcFlag_pending (off bit : Nat) (s : State) : (rcFlag off bit s).pending = s.pending := rfl

/-! ### peak -/

@[simp] theorem peak_part (off hi lo v : Nat) (s : State) : (peak off hi lo v s).part = s.part := rfl
@[simp] theorem peak_tb (off hi lo v : Nat) (s : State) : (peak off hi lo v s).tb = s.tb := rfl
@[simp] theorem peak_epochCnt (off hi lo v : Nat) (s : State) : (peak off hi lo v s).epochCnt = s.epochCnt := rfl
@[simp] theorem peak_tickLast (off hi lo v : Nat) (s : State) : (peak off hi lo v s).tickLast = s.tickLast := rfl
@[simp] theorem peak_epochEnd (off hi lo v : Nat) (s : State) : (peak off hi lo v s).epochEnd = s.epochEnd := rfl
@[simp] theorem peak_epochAt (off hi lo v : Nat) (s : State) : (peak off hi lo v s).epochAt = s.epochAt := rfl
@[simp] theorem peak_io (off hi lo v : Nat) (s : State) : (peak off hi lo v s).io = peakMax off hi lo v s.io := rfl
@[simp] theorem peak_mgt (off hi lo v : Nat) (s : State) : (peak off hi lo v s).mgt = s.mgt := rfl
@[simp] theorem peak_sec (off hi lo v : Nat) (s : State) : (peak off hi lo v s).sec = s.sec := rfl
@[simp] theorem peak_hpt (off hi lo v : Nat) (s : State) : (peak off hi lo v s).hpt = s.hpt := rfl
@[simp] theorem peak_cache (off hi lo v : Nat) (s : State) : (peak off hi lo v s).cache = s.cache := rfl
@[simp] theorem peak_ldg (off hi lo v : Nat) (s : State) : (peak off hi lo v s).ldg = s.ldg := rfl
@[simp] theorem peak_med (off hi lo v : Nat) (s : State) : (peak off hi lo v s).med = s.med := rfl
@[simp] theorem peak_rsv (off hi lo v : Nat) (s : State) : (peak off hi lo v s).rsv = s.rsv := rfl
@[simp] theorem peak_cch (off hi lo v : Nat) (s : State) : (peak off hi lo v s).cch = s.cch := rfl
@[simp] theorem peak_plc (off hi lo v : Nat) (s : State) : (peak off hi lo v s).plc = s.plc := rfl
@[simp] theorem peak_fab (off hi lo v : Nat) (s : State) : (peak off hi lo v s).fab = s.fab := rfl
@[simp] theorem peak_freeCtr (off hi lo v : Nat) (s : State) : (peak off hi lo v s).freeCtr = s.freeCtr := rfl
@[simp] theorem peak_pending (off hi lo v : Nat) (s : State) : (peak off hi lo v s).pending = s.pending := rfl

/-! ### emit -/

@[simp] theorem emit_part (o : Out) (s : State) : (emit o s).part = s.part := rfl
@[simp] theorem emit_tb (o : Out) (s : State) : (emit o s).tb = s.tb := rfl
@[simp] theorem emit_epochCnt (o : Out) (s : State) : (emit o s).epochCnt = s.epochCnt := rfl
@[simp] theorem emit_tickLast (o : Out) (s : State) : (emit o s).tickLast = s.tickLast := rfl
@[simp] theorem emit_epochEnd (o : Out) (s : State) : (emit o s).epochEnd = s.epochEnd := rfl
@[simp] theorem emit_epochAt (o : Out) (s : State) : (emit o s).epochAt = s.epochAt := rfl
@[simp] theorem emit_io (o : Out) (s : State) : (emit o s).io = { s.io with out := o :: s.io.out } := rfl
@[simp] theorem emit_mgt (o : Out) (s : State) : (emit o s).mgt = s.mgt := rfl
@[simp] theorem emit_sec (o : Out) (s : State) : (emit o s).sec = s.sec := rfl
@[simp] theorem emit_hpt (o : Out) (s : State) : (emit o s).hpt = s.hpt := rfl
@[simp] theorem emit_cache (o : Out) (s : State) : (emit o s).cache = s.cache := rfl
@[simp] theorem emit_ldg (o : Out) (s : State) : (emit o s).ldg = s.ldg := rfl
@[simp] theorem emit_med (o : Out) (s : State) : (emit o s).med = s.med := rfl
@[simp] theorem emit_rsv (o : Out) (s : State) : (emit o s).rsv = s.rsv := rfl
@[simp] theorem emit_cch (o : Out) (s : State) : (emit o s).cch = s.cch := rfl
@[simp] theorem emit_plc (o : Out) (s : State) : (emit o s).plc = s.plc := rfl
@[simp] theorem emit_fab (o : Out) (s : State) : (emit o s).fab = s.fab := rfl
@[simp] theorem emit_freeCtr (o : Out) (s : State) : (emit o s).freeCtr = s.freeCtr := rfl
@[simp] theorem emit_pending (o : Out) (s : State) : (emit o s).pending = s.pending := rfl

/-! ### until_ -/

@[simp] theorem until__part (t : Nat) (s : State) : (until_ t s).part = s.part := rfl
@[simp] theorem until__tb (t : Nat) (s : State) : (until_ t s).tb = max s.tb t := rfl
@[simp] theorem until__epochCnt (t : Nat) (s : State) : (until_ t s).epochCnt = s.epochCnt := rfl
@[simp] theorem until__tickLast (t : Nat) (s : State) : (until_ t s).tickLast = s.tickLast := rfl
@[simp] theorem until__epochEnd (t : Nat) (s : State) : (until_ t s).epochEnd = s.epochEnd := rfl
@[simp] theorem until__epochAt (t : Nat) (s : State) : (until_ t s).epochAt = s.epochAt := rfl
@[simp] theorem until__io (t : Nat) (s : State) : (until_ t s).io = s.io := rfl
@[simp] theorem until__mgt (t : Nat) (s : State) : (until_ t s).mgt = s.mgt := rfl
@[simp] theorem until__sec (t : Nat) (s : State) : (until_ t s).sec = s.sec := rfl
@[simp] theorem until__hpt (t : Nat) (s : State) : (until_ t s).hpt = s.hpt := rfl
@[simp] theorem until__cache (t : Nat) (s : State) : (until_ t s).cache = s.cache := rfl
@[simp] theorem until__ldg (t : Nat) (s : State) : (until_ t s).ldg = s.ldg := rfl
@[simp] theorem until__med (t : Nat) (s : State) : (until_ t s).med = s.med := rfl
@[simp] theorem until__rsv (t : Nat) (s : State) : (until_ t s).rsv = s.rsv := rfl
@[simp] theorem until__cch (t : Nat) (s : State) : (until_ t s).cch = s.cch := rfl
@[simp] theorem until__plc (t : Nat) (s : State) : (until_ t s).plc = s.plc := rfl
@[simp] theorem until__fab (t : Nat) (s : State) : (until_ t s).fab = s.fab := rfl
@[simp] theorem until__freeCtr (t : Nat) (s : State) : (until_ t s).freeCtr = s.freeCtr := rfl
@[simp] theorem until__pending (t : Nat) (s : State) : (until_ t s).pending = s.pending := rfl

end Sys2Proof.Machine
end

