-- ==== Sys2Proof/Laws/Telemetry.lean ====
section
/-! SUPPORT. Counting, raising events and sampling change telemetry alone (`Quiet`). -/

namespace Sys2Proof.Machine

open Sys2Proof

/-- `Quiet`, where the stored registers are in their canonical form, which they keep. -/
def Tele (x y : Io) : Prop := tblWf x.regs = true → tblWf y.regs = true ∧ Quiet x y

theorem Tele.refl (x : Io) : Tele x x := fun h => ⟨h, by simp [Quiet]⟩

theorem Tele.trans {x y z : Io} (h : Tele x y) (k : Tele y z) : Tele x z := by
  intro hw
  obtain ⟨hy, h1, h2, h3, h4, h5, h6⟩ := h hw
  obtain ⟨hz, k1, k2, k3, k4, k5, k6⟩ := k hy
  exact ⟨hz, fun o ho => (k1 o ho).trans (h1 o ho), k2.trans h2, k3.trans h3, k4.trans h4, k5.trans h5, k6.trans h6⟩

/-- What `Tele` is for. -/
theorem Tele.quiet {x y : Io} (h : Tele x y) (hx : x.ok = true) : Quiet x y := by
  simp only [Io.ok, Bool.and_eq_true] at hx
  exact (h hx.2.2).2

/-- Fields of EVT that no register is. -/
theorem Tele.of_regs {x y : Io} (h : y.regs = x.regs) (h2 : y.assign = x.assign) (h3 : y.eset = x.eset)
    (h4 : y.hiLatch = x.hiLatch) (h5 : y.qLatch = x.qLatch) (h6 : y.sampLatch = x.sampLatch) : Tele x y :=
  fun hw => ⟨h ▸ hw, fun o _ => by simp only [regOf, h], h2, h3, h4, h5, h6⟩

/-- `of_regs` before another. -/
theorem Tele.pre {x y z : Io} (k : Tele y z) (h : y.regs = x.regs) (h2 : y.assign = x.assign) (h3 : y.eset = x.eset)
    (h4 : y.hiLatch = x.hiLatch) (h5 : y.qLatch = x.qLatch) (h6 : y.sampLatch = x.sampLatch) : Tele x z :=
  (Tele.of_regs h h2 h3 h4 h5 h6).trans k

theorem tele_fold {α : Type} (f : Io → α → Io) (l : List α) (x : Io) (h : ∀ y a, Tele y (f y a)) :
    Tele x (l.foldl f x) := by
  induction l generalizing x with
  | nil => exact .refl x
  | cons a l ih => exact (h x a).trans (ih _)

theorem putReg_tele (x : Io) (off : Nat) (w : Word) (h : blockOf off = Blk.evt) : Tele x (putReg x off w) := by
  refine fun hw => ⟨tblWf_set _ _ hw, fun o ho => ?_, rfl, rfl, rfl, rfl, rfl⟩
  have hne : o ≠ off := fun he => ho (he ▸ h)
  simp only [regOf, putReg]
  unfold tblGet
  rw [tblFind_set_other hw hne]

theorem putFld_tele (x : Io) (off hi lo v : Nat) (h : blockOf off = Blk.evt) : Tele x (putFld x off hi lo v) :=
  putReg_tele _ _ _ h

theorem page_block {off n : Nat} (hn : n < 4096) (h : blockOf off = Blk.evt) : blockOf (pageOf off + n) = Blk.evt := by
  simp only [blockOf, pageOf, Blk.evt] at h ⊢
  omega

theorem setPgSts_tele (x : Io) (off bit : Nat) (h : blockOf off = Blk.evt) : Tele x (setPgSts x (pageOf off) bit) := by
  have hq := putFld_tele x (pageOf off + 8) bit bit 1 (page_block (by decide) h)
  unfold setPgSts
  split
  · exact .refl x
  · dsimp only
    split
    · exact hq.trans (.of_regs rfl rfl rfl rfl rfl rfl)
    · exact hq

theorem rcAdd_tele (off hi lo n : Nat) (x : Io) (h : blockOf off = Blk.evt) : Tele x (rcAdd off hi lo n x) := by
  unfold rcAdd
  split
  · exact .refl x
  · dsimp only
    have hq := putFld_tele x off hi lo (min (2 ^ (hi + 1 - lo) - 1) (fldOf x off hi lo + n)) h
    split
    · exact hq.trans (setPgSts_tele _ _ _ h)
    · exact hq

theorem sampCount_tele (i n : Nat) (x : Io) : Tele x (sampCount i n x) := by
  unfold sampCount
  split
  · dsimp only
    split <;> exact .of_regs rfl rfl rfl rfl rfl rfl
  · exact .refl x

theorem count_tele (i n : Nat) (x : Io) : Tele x (count i n x) := by
  unfold count
  split
  · dsimp only
    refine (sampCount_tele i n x).trans ?_
    split
    · exact .of_regs rfl rfl rfl rfl rfl rfl
    · have hi : i < 768 := by
        simp_all [ctrLive]
      refine Tele.trans (y := { sampCount i n x with
        counters := tblSet 0 (sampCount i n x).counters i ((tblGet 0 (sampCount i n x).counters i + n) % 2 ^ 48)
        due := (sampCount i n x).due ++ [.wrap i] }) (.of_regs rfl rfl rfl rfl rfl rfl) (rcAdd_tele _ _ _ _ _ ?_)
      simp only [blockOf, Blk.evt, Reg.EVT_OVF]
      omega
  · exact .refl x

theorem sendVec_tele (v : IoEnv) (p n : Nat) (w : Vec) (x : Io) : Tele x (sendVec v p n w x) := by
  unfold sendVec
  exact (count_tele _ _ _).pre rfl rfl rfl rfl rfl rfl

theorem signal_tele (v : IoEnv) (p n e : Nat) (x : Io) : Tele x (signal v p n e x) := by
  unfold signal
  split
  · exact .refl x
  · dsimp only
    split
    · exact .of_regs rfl rfl rfl rfl rfl rfl
    · split
      · exact sendVec_tele _ _ _ _ _
      · split
        · exact sendVec_tele _ _ _ _ _
        · exact .of_regs rfl rfl rfl rfl rfl rfl

theorem signalPorts_tele (v : IoEnv) (ports n e : Nat) (x : Io) : Tele x (signalPorts v ports n e x) := by
  refine tele_fold _ _ _ fun y p => ?_
  split
  · exact signal_tele _ _ _ _ _
  · exact .refl _

theorem route_tele (v : IoEnv) (code : Nat) (sev : Sev) (encl : Nat) (x : Io) : Tele x (route v code sev encl x) := by
  unfold route
  extract_lets m io
  have h : Tele x io := by
    show Tele x (if _ then _ else _)
    split
    · exact signalPorts_tele _ _ _ _ _
    · exact .refl x
  split
  · exact h.trans (.of_regs rfl rfl rfl rfl rfl rfl)
  · exact h

theorem qStore_tele (v : IoEnv) (e : Ev) (d u n : Nat) (x : Io) : Tele x (qStore v e d u n x) := by
  unfold qStore
  exact (route_tele _ _ _ _ _).pre rfl rfl rfl rfl rfl rfl

theorem qDisplace_tele (q : QEntry) (x : Io) : Tele x (qDisplace q x) := by
  unfold qDisplace
  dsimp only
  have h : Tele x (count Ctr.EVT_DISPLACED 1 (rcAdd Reg.EVT_DROP 31 24 1 { x with q := qDrop x.q q.seq })) :=
    ((rcAdd_tele _ _ _ _ _ rfl).trans (count_tele _ _ _)).pre rfl rfl rfl rfl rfl rfl
  split
  · exact h.trans (.of_regs rfl rfl rfl rfl rfl rfl)
  · exact h

theorem qCoalesce_tele (v : IoEnv) (q : QEntry) (m : Bool) (e : Ev) (n : Nat) (x : Io) : Tele x (qCoalesce v q m e n x) := by
  unfold qCoalesce
  exact ((count_tele _ _ _).trans (route_tele _ _ _ _ _)).pre rfl rfl rfl rfl rfl rfl

theorem qLose_tele (e : Ev) (x : Io) : Tele x (qLose e x) := by
  unfold qLose
  dsimp only
  have h := count_tele Ctr.EVT_DROP 1 x
  have ha := h.trans (rcAdd_tele Reg.EVT_DROP 7 0 1 _ rfl)
  have hb := h.trans (rcAdd_tele Reg.EVT_DROP 15 8 1 _ rfl)
  have hc := h.trans (rcAdd_tele Reg.EVT_DROP 23 16 1 _ rfl)
  split
  · exact fun hw => ⟨(ha hw).1, (ha hw).2⟩
  · exact fun hw => ⟨(hb hw).1, (hb hw).2⟩
  · exact fun hw => ⟨(hc hw).1, (hc hw).2⟩
  · exact h

theorem arriveNonCrit_tele (v : IoEnv) (e : Ev) (d u n : Nat) (x : Io) : Tele x (arriveNonCrit v e d u n x) := by
  unfold arriveNonCrit
  split
  · exact qStore_tele _ _ _ _ _ _
  · split
    · exact (qDisplace_tele _ _).trans (qStore_tele _ _ _ _ _ _)
    · exact qLose_tele _ _

theorem arriveCrit_tele (v : IoEnv) (e : Ev) (d u n : Nat) (x : Io) : Tele x (arriveCrit v e d u n x) := by
  unfold arriveCrit
  split
  · exact qStore_tele _ _ _ _ _ _
  · split
    · exact (qDisplace_tele _ _).trans (qStore_tele _ _ _ _ _ _)
    · split
      · exact qCoalesce_tele _ _ _ _ _ _
      · split
        · exact qCoalesce_tele _ _ _ _ _ _
        · split
          · exact (qDisplace_tele _ _).trans (qStore_tele _ _ _ _ _ _)
          · split
            · exact ((rcAdd_tele Reg.EVT_CRIT_LATCH 31 16 1 _ rfl).trans
                (putFld_tele _ Reg.EVT_CRIT_LATCH 15 0 e.code rfl)).trans (qCoalesce_tele _ _ _ _ _ _)
            · exact .refl x

theorem arrive_tele (v : IoEnv) (e : Ev) (d u n : Nat) (x : Io) : Tele x (arrive v e d u n x) := by
  unfold arrive
  split
  · exact (count_tele _ _ _).trans (arriveCrit_tele _ _ _ _ _ _)
  all_goals exact (count_tele _ _ _).trans (arriveNonCrit_tele _ _ _ _ _ _)

theorem lossTry_tele (v : IoEnv) (x : Io) : Tele x (lossTry v x) := by
  unfold lossTry
  split
  · exact ((count_tele _ _ _).trans (qStore_tele _ _ _ _ _ _)).pre rfl rfl rfl rfl rfl rfl
  · exact .refl x

theorem dueRound_tele (v : IoEnv) (x : Io) : Tele x (dueRound v x) := by
  unfold dueRound
  refine Tele.trans (y := { x with due := [] }) (.of_regs rfl rfl rfl rfl rfl rfl) (tele_fold _ _ _ fun y d => ?_)
  split
  · exact arrive_tele _ _ _ _ _ _
  · dsimp only
    split
    · exact signalPorts_tele _ _ _ _ _
    · exact (signalPorts_tele _ _ _ _ _).trans ((arrive_tele _ _ _ _ _ _).pre rfl rfl rfl rfl rfl rfl)

theorem flush_tele (v : IoEnv) (x : Io) : Tele x (flush v x) :=
  (((dueRound_tele v x).trans (dueRound_tele _ _)).trans (dueRound_tele _ _)).trans (lossTry_tele _ _)

theorem raiseIo_tele (v : IoEnv) (e : Ev) (d u n : Nat) (x : Io) : Tele x (raiseIo v e d u n x) :=
  (arrive_tele _ _ _ _ _ _).trans (flush_tele _ _)

theorem sampPush_tele (v : IoEnv) (r : BitVec 256) (x : Io) : Tele x (sampPush v r x) := by
  unfold sampPush
  dsimp only
  split
  · have h : Tele x (count Ctr.EVT_SAMPLE_REC 1
        { x with samp := { x.samp with recs := x.samp.recs ++ [r], full := decide (x.samp.recs.length + 1 = 4096) } }) :=
      (count_tele _ _ _).pre rfl rfl rfl rfl rfl rfl
    split
    · split
      · exact (h.trans (signalPorts_tele _ _ _ _ _)).trans (raiseIo_tele _ _ _ _ _ _)
      · exact h.trans (raiseIo_tele _ _ _ _ _ _)
    · split
      · exact (h.trans (signalPorts_tele _ _ _ _ _)).trans (flush_tele _ _)
      · exact h.trans (flush_tele _ _)
  · exact ((rcAdd_tele Reg.EVT_SAMPLE_STS 31 16 1 x rfl).trans (count_tele _ _ _)).trans (flush_tele _ _)

theorem sampTake_tele (b : Bool) (x : Io) : Tele x (sampTake b x).2 := by
  unfold sampTake
  split
  · dsimp only
    split
    · split <;> exact .of_regs rfl rfl rfl rfl rfl rfl
    · exact .refl x
  · split
    · exact .of_regs rfl rfl rfl rfl rfl rfl
    · exact .refl x
  · exact .refl x

/-! ### Of the state -/

theorem tally_tele (i n : Nat) (s : State) : Tele s.io (tally i n s).io := (count_tele _ _ _).trans (flush_tele _ _)

theorem raise_tele (e : Ev) (d u : Nat) (s : State) : Tele s.io (raise e d u s).io := raiseIo_tele _ _ _ _ _ _

end Sys2Proof.Machine
end

