-- ==== Sys2Proof/Laws/Walni.lean ====
section
/-! SUPPORT. The contexts of the Walni cores: where they stand, what a change of one leaves, how an instruction commits. -/

namespace Sys2Proof.Machine

open Sys2Proof

/-! ### Positions -/

theorem getD_setAt {α : Type} (l : List α) (i j : Nat) (f : α → α) (d : α) :
    (setAt l i f).getD j d = if i = j ∧ j < l.length then f (l.getD j d) else l.getD j d := by
  induction l generalizing i j with
  | nil => cases i <;> simp [setAt]
  | cons a l ih =>
    cases i with
    | zero => cases j <;> simp [setAt]
    | succ i =>
      cases j with
      | zero => simp [setAt]
      | succ j => simpa [setAt] using ih i j

theorem setAt_setAt {α : Type} (l : List α) (i : Nat) (f g : α → α) : setAt (setAt l i f) i g = setAt l i (fun a => g (f a)) := by
  induction l generalizing i with
  | nil => cases i <;> rfl
  | cons a l ih =>
    cases i with
    | zero => rfl
    | succ i => simp only [setAt, ih]

theorem setAt_congr {α : Type} (l : List α) (i : Nat) (f g : α → α) (d : α) (h : f (l.getD i d) = g (l.getD i d)) :
    setAt l i f = setAt l i g := by
  induction l generalizing i with
  | nil => cases i <;> rfl
  | cons a l ih =>
    cases i with
    | zero => simp only [setAt]; rw [show f a = g a from h]
    | succ i => simp only [setAt]; rw [ih i h]

theorem setAt_id {α : Type} (l : List α) (i : Nat) : setAt l i id = l := by
  induction l generalizing i with
  | nil => cases i <;> rfl
  | cons a l ih =>
    cases i with
    | zero => rfl
    | succ i => simp only [setAt, ih]

/-! ### Cores and contexts -/

theorem coreAt_onCore (s : State) (k j : Nat) (f : Core → Core) (h : k < s.plc.cores.length) :
    coreAt (onCore k f s) j = if k = j then f (coreAt s j) else coreAt s j := by
  simp only [coreAt, onCore, onPlc, getD_setAt]
  grind

theorem ctxAt_onCtx (s : State) (e d : Ex) (f : Ctx → Ctx) (h : e.core < s.plc.cores.length)
    (hc : e.ctx < (coreAt s e.core).ctxs.length) :
    ctxAt (onCtx e f s) d = if e.core = d.core ∧ e.ctx = d.ctx then f (ctxAt s d) else ctxAt s d := by
  simp only [ctxAt, onCtx, coreAt_onCore _ _ _ _ h]
  split
  · rename_i he
    simp only [getD_setAt]
    grind
  · grind

theorem onCtx_onCtx (s : State) (e : Ex) (f g : Ctx → Ctx) : onCtx e g (onCtx e f s) = onCtx e (fun x => g (f x)) s := by
  simp only [onCtx, onCore, onPlc, setAt_setAt]

theorem onCtx_plc (s : State) (e : Ex) (f : Ctx → Ctx) (io : Io) :
    (onCtx e f { s with io := io }).plc = (onCtx e f s).plc := rfl

/-- A change of a context that depends on it as it is. -/
theorem onCtx_const (s : State) (e : Ex) (f : Ctx → Ctx) : onCtx e f s = onCtx e (fun _ => f (ctxAt s e)) s := by
  simp only [onCtx, onCore, onPlc]
  congr 2
  refine setAt_congr _ _ _ _ (Core.reset 0) ?_
  congr 1
  exact setAt_congr _ _ _ _ Ctx.reset rfl

/-- In a state that is `ok`, a context that the part has stands in its lists and has its 32 registers. -/
theorem ctx_stands {s : State} {e : Ex} (h : s.ok = true) (hx : ctxExists s e = true) :
    e.core < s.plc.cores.length ∧ e.ctx < (coreAt s e.core).ctxs.length ∧ (ctxAt s e).g.length = 32 := by
  simp only [State.ok, State.shapeOk, Bool.and_eq_true] at h
  have hc := h.2.2.2
  simp only [coresOk, beq_iff_eq] at hc
  have hn : s.plc.cores.length = 9 := by simpa using congrArg List.length hc
  have hk : ∀ k : Nat, k < 9 → (coreAt s k).ctxs.map (·.g.length) = (List.replicate 8 [32, 32, 32, 32] ++ [[32]]).getD k [] := by
    intro k hk
    rw [← hc, coreAt]
    simp only [List.getD_eq_getElem?_getD, List.getElem?_map]
    rw [List.getElem?_eq_getElem (by omega)]
    rfl
  have hcore : (e.core < 8 ∧ e.ctx < 4) ∨ (e.core = 8 ∧ e.ctx = 0) := by
    have hcc : coreCount s ≤ 8 := by
      unfold coreCount
      split <;> decide
    simp only [ctxExists, Ex.isM, Bool.or_eq_true, Bool.and_eq_true, decide_eq_true_eq, beq_iff_eq] at hx
    omega
  have hg : ∀ l : List Nat, (coreAt s e.core).ctxs.map (·.g.length) = l → ∀ i, i < l.length → e.ctx = i → l.getD i 0 = 32 →
      e.ctx < (coreAt s e.core).ctxs.length ∧ (ctxAt s e).g.length = 32 := by
    intro l hl i hi hei hv
    have hlen : (coreAt s e.core).ctxs.length = l.length := by rw [← hl]; simp
    subst hei
    refine ⟨by omega, ?_⟩
    rw [← hv, ← hl, ctxAt]
    simp only [List.getD_eq_getElem?_getD, List.getElem?_map]
    rw [List.getElem?_eq_getElem (by omega)]
    rfl
  rcases hcore with ⟨h1, h2⟩ | ⟨h1, h2⟩
  · refine ⟨by omega, hg [32, 32, 32, 32] ((hk _ (by omega)).trans ?_) e.ctx h2 rfl ?_⟩
    · exact (by decide : ∀ k < 8, (List.replicate 8 [32, 32, 32, 32] ++ [[32]]).getD k [] = [32, 32, 32, 32]) _ h1
    · exact (by decide : ∀ k < 4, [32, 32, 32, 32].getD k 0 = 32) _ h2
  · refine ⟨by omega, hg [32] ((hk _ (by omega)).trans ?_) 0 (by decide) h2 rfl⟩
    rw [h1]
    rfl

/-! ### Telemetry of an instruction -/

/-- What `memCorr` does to the cores: nothing. -/
theorem memCorr_eq (e : Ex) (s : State) : memCorr e s = { s with io := (memCorr e s).io } := by
  simp only [memCorr, raise, rcCount, onIo]

theorem sampleInstr_eq (e : Ex) (pc w : Word) (s : State) :
    ∃ io, Tele s.io io ∧ sampleInstr e pc w s = { s with io := io } := by
  unfold sampleInstr
  split
  · exact ⟨s.io, .refl _, rfl⟩
  · have h1 := sampTake_tele true s.io
    dsimp only
    split
    · exact ⟨_, h1.trans (sampPush_tele _ _ _), rfl⟩
    · exact ⟨_, h1, rfl⟩

theorem tally_eq (i n : Nat) (s : State) : tally i n s = { s with io := (tally i n s).io } := by
  simp only [tally, onIo]

theorem raise_eq (e : Ev) (d u : Nat) (s : State) : raise e d u s = { s with io := (raise e d u s).io } := by
  simp only [raise, onIo]

/-- How an instruction commits where no preemption is held over it. -/
theorem commit_eq (e : Ex) (w : Word) (sh : Bool) (go : Ctx → Ctx) (s : State)
    (hp : sh = false → (ctxAt (onCtx e (fun x => { go { x with wait := .none } with shadow := sh }) s) e).heldPre = false) :
    ∃ io, Tele s.io io ∧ commit e w sh go s =
      { s with io := io, plc := (onCtx e (fun x => { go { x with wait := .none } with shadow := sh }) s).plc } := by
  have ht := (tally_tele Ctr.PLC_CYCLE_BUSY 1 s).trans (tally_tele Ctr.PLC_COMMIT 1 (tally Ctr.PLC_CYCLE_BUSY 1 s))
  obtain ⟨io, hio, heq⟩ := sampleInstr_eq e (ctxAt s e).pc w (tally Ctr.PLC_COMMIT 1 (tally Ctr.PLC_CYCLE_BUSY 1 s))
  refine ⟨io, ht.trans hio, ?_⟩
  have h2 : { tally Ctr.PLC_COMMIT 1 (tally Ctr.PLC_CYCLE_BUSY 1 s) with io := io } = { s with io := io } := by
    simp only [tally, onIo]
  unfold commit
  dsimp only
  rw [heq, h2]
  generalize hf : (fun x : Ctx => ({ go { x with wait := .none } with shadow := sh } : Ctx)) = f at hp ⊢
  have h3 : onCtx e f { s with io := io } = { s with io := io, plc := (onCtx e f s).plc } := rfl
  have h4 : ctxAt { s with io := io, plc := (onCtx e f s).plc } e = ctxAt (onCtx e f s) e := rfl
  simp only [h3, h4]
  cases sh with
  | true => simp
  | false => simp [hp rfl]

end Sys2Proof.Machine
end

