-- ==== Sys2Proof/Laws/WalniWord.lean ====
section
/-! SUPPORT. The fields of an encoded Walni word read back, for each format of R440. -/

namespace Sys2Proof.Machine

open Sys2Proof

/-! ### Format R -/

theorem encR_toNat (op fn : Nat) (rd rs rt : Fin 32) (ho : op < 64) (hf : fn < 2048) :
    (encR op rd rs rt fn).toNat = 2 ^ 26 * op + 2 ^ 21 * rd + 2 ^ 16 * rs + 2 ^ 11 * rt + fn := by
  have := rd.2; have := rs.2; have := rt.2
  unfold encR
  rw [BitVec.toNat_ofNat]
  omega

theorem encR_opcode (op fn : Nat) (rd rs rt : Fin 32) (ho : op < 64) (hf : fn < 2048) :
    bitsOf (encR op rd rs rt fn).toNat 31 26 = op := by
  rw [encR_toNat op fn rd rs rt ho hf]; simp only [bitsOf]; omega

theorem encR_function (op fn : Nat) (rd rs rt : Fin 32) (ho : op < 64) (hf : fn < 2048) :
    bitsOf (encR op rd rs rt fn).toNat 10 0 = fn := by
  rw [encR_toNat op fn rd rs rt ho hf]; simp only [bitsOf]; omega

theorem encR_rd (op fn : Nat) (rd rs rt : Fin 32) (ho : op < 64) (hf : fn < 2048) :
    regField (encR op rd rs rt fn) 21 = rd := by
  apply Fin.ext; simp only [regField, encR_toNat op fn rd rs rt ho hf, bitsOf]; omega

theorem encR_rs (op fn : Nat) (rd rs rt : Fin 32) (ho : op < 64) (hf : fn < 2048) :
    regField (encR op rd rs rt fn) 16 = rs := by
  apply Fin.ext; simp only [regField, encR_toNat op fn rd rs rt ho hf, bitsOf]; omega

theorem encR_rt (op fn : Nat) (rd rs rt : Fin 32) (ho : op < 64) (hf : fn < 2048) :
    regField (encR op rd rs rt fn) 11 = rt := by
  apply Fin.ext; simp only [regField, encR_toNat op fn rd rs rt ho hf, bitsOf]; omega

/-! ### Format I -/

theorem encI_toNat (op : Nat) (rd rs : Fin 32) (imm : BitVec 16) (ho : op < 64) :
    (encI op rd rs imm).toNat = 2 ^ 26 * op + 2 ^ 21 * rd + 2 ^ 16 * rs + imm.toNat := by
  have := rd.2; have := rs.2; have := imm.isLt
  unfold encI
  rw [BitVec.toNat_ofNat]
  omega

theorem encI_opcode (op : Nat) (rd rs : Fin 32) (imm : BitVec 16) (ho : op < 64) :
    bitsOf (encI op rd rs imm).toNat 31 26 = op := by
  have := imm.isLt
  rw [encI_toNat op rd rs imm ho]; simp only [bitsOf]; omega

theorem encI_rd (op : Nat) (rd rs : Fin 32) (imm : BitVec 16) (ho : op < 64) : regField (encI op rd rs imm) 21 = rd := by
  have := imm.isLt
  apply Fin.ext; simp only [regField, encI_toNat op rd rs imm ho, bitsOf]; omega

theorem encI_rs (op : Nat) (rd rs : Fin 32) (imm : BitVec 16) (ho : op < 64) : regField (encI op rd rs imm) 16 = rs := by
  have := imm.isLt
  apply Fin.ext; simp only [regField, encI_toNat op rd rs imm ho, bitsOf]; omega

theorem encI_imm (op : Nat) (rd rs : Fin 32) (imm : BitVec 16) (ho : op < 64) : immField (encI op rd rs imm) = imm := by
  have := imm.isLt
  apply BitVec.eq_of_toNat_eq
  simp only [immField, encI_toNat op rd rs imm ho, bitsOf, BitVec.toNat_ofNat]; omega

/-! ### Formats B, L and LI -/

theorem encB_toNat (op : Nat) (a : Bool) (cond : Fin 16) (rs : Fin 32) (off : BitVec 16) (ho : op < 64) :
    (encB op a cond rs off).toNat = 2 ^ 26 * op + (if a then 2 ^ 25 else 0) + 2 ^ 21 * cond + 2 ^ 16 * rs + off.toNat := by
  have := cond.2; have := rs.2; have := off.isLt
  unfold encB
  rw [BitVec.toNat_ofNat]
  split <;> omega

theorem encL_toNat (op : Nat) (level : Fin 2) (count : Nat) (off : BitVec 16) (ho : op < 64) (hc : count < 512) :
    (encL op level count off).toNat = 2 ^ 26 * op + 2 ^ 25 * level + 2 ^ 16 * count + off.toNat := by
  have := level.2; have := off.isLt
  unfold encL
  rw [BitVec.toNat_ofNat]
  omega

end Sys2Proof.Machine
end

