-- ==== Sys2Proof/Machine/Sha.lean ====
section
/-! DEFINITION. SHA-384 (FIPS 180-4) and HMAC over it, which R542 and R558 name. Bytes are numbers below 256. -/

namespace Sys2Proof.Machine

/-- The first n primes after those listed, by trial division; `k` bounds the search. -/
def primesTo (k n : Nat) (ps : List Nat) (c : Nat) : List Nat :=
  match k with
  | 0 => ps
  | k + 1 =>
    if n ≤ ps.length then ps
    else primesTo k n (if ps.any fun p => c % p == 0 then ps else ps ++ [c]) (c + 1)

/-- The greatest r below 2^k whose power e is at most n. -/
def rootOf (e n k r : Nat) : Nat :=
  match k with
  | 0 => r
  | k + 1 => rootOf e n k (if (r + 2 ^ k) ^ e ≤ n then r + 2 ^ k else r)

/-- The first 64 bits of the fraction of a square or cube root. -/
def fracRoot (e p : Nat) : Nat := rootOf e (p * 2 ^ (64 * e)) 70 0 % 2 ^ 64

/-- The round constants, from the cube roots of the first 80 primes, and the start values, from the square roots of the 9th to 16th. -/
def shaRounds : List Nat := (primesTo 420 80 [] 2).map (fracRoot 3)
def shaStart : List Nat := ((primesTo 60 16 [] 2).drop 8).map (fracRoot 2)

def rotR (n v : Nat) : Nat := v / 2 ^ n + v % 2 ^ n * 2 ^ (64 - n)

/-- n more words of the message schedule, the latest first. -/
def shaWords (n : Nat) (ws : List Nat) : List Nat :=
  match n with
  | 0 => ws
  | n + 1 =>
    let x := ws.getD 14 0
    let y := ws.getD 1 0
    let a := rotR 1 x ^^^ rotR 8 x ^^^ x / 2 ^ 7
    let b := rotR 19 y ^^^ rotR 61 y ^^^ y / 2 ^ 6
    shaWords n ((ws.getD 15 0 + a + ws.getD 6 0 + b) % 2 ^ 64 :: ws)

/-- One round: the eight words, with the round's constant and message word. -/
def shaRound (v : List Nat) (kw : Nat × Nat) : List Nat :=
  let g := fun (i : Nat) => v.getD i 0
  let s1 := rotR 14 (g 4) ^^^ rotR 18 (g 4) ^^^ rotR 41 (g 4)
  let ch := (g 4 &&& g 5) ^^^ ((2 ^ 64 - 1 - g 4) &&& g 6)
  let t := g 7 + s1 + ch + kw.1 + kw.2
  let s0 := rotR 28 (g 0) ^^^ rotR 34 (g 0) ^^^ rotR 39 (g 0)
  let maj := (g 0 &&& g 1) ^^^ (g 0 &&& g 2) ^^^ (g 1 &&& g 2)
  [(t + s0 + maj) % 2 ^ 64, g 0, g 1, g 2, (g 3 + t) % 2 ^ 64, g 4, g 5, g 6]

/-- One block of 128 bytes. -/
def shaBlock (ks : List Nat) (h : List Nat) (b : List Nat) : List Nat :=
  let ws := (shaWords 64 ((blocksOf 8 16 b).map fun x => numOf x.reverse).reverse).reverse
  List.zipWith (fun x y => (x + y) % 2 ^ 64) h ((ks.zip ws).foldl shaRound h)

/-- SHA-384 of some bytes. -/
def sha384 (m : List Nat) : List Nat :=
  let pad := m ++ 0x80 :: List.replicate ((239 - m.length % 128) % 128) 0 ++ (bytesN 16 (8 * m.length)).reverse
  let h := (blocksOf 128 (pad.length / 128) pad).foldl (shaBlock shaRounds) shaStart
  (h.take 6).flatMap fun w => (bytesN 8 w).reverse

/-- HMAC-SHA-384 under a key of at most 128 bytes. -/
def hmac384 (key m : List Nat) : List Nat :=
  let k := key ++ List.replicate (128 - key.length) 0
  sha384 (k.map (· ^^^ 0x5C) ++ sha384 (k.map (· ^^^ 0x36) ++ m))

end Sys2Proof.Machine
end

