-- ==== Sys2Proof/Machine/Formats.lean ====
section
/-! DEFINITION. The words and pages that the part stores and sends: side-band slices, snoop-filter and directory entries,
journal pages and records, index and spring entries, link control, message headers, route entries, NVM and boot records.
The state holds their content; these functions give the bits. -/

namespace Sys2Proof.Machine

open Sys2Proof

/-! ### Filters and the TSC -/

/-- The code of a host state (R205). -/
def HSt.code : HSt → Nat
  | .i => 0 | .s => 1 | .a => 2

/-- A snoop-filter entry (R204); STATE stands at index 4 × line + port. -/
def sfWord (e : SfE) : Nat :=
  let n := packF ([(1, 1), (2, e.way), (12, e.stag), bit1 e.nru, bit1 e.bsusp, (1, 0)] ++ e.st.map fun h => (2, h.code))
  n + 2 ^ 62 * (evenParity n 16 0).toNat + 2 ^ 63 * (evenParity n 49 18).toNat

/-- A directory entry (R246) of the home `self`: an empty pointer holds the home's own ID (R247). -/
def dirWord (self : Nat) (e : DirE) : Nat :=
  let p := fun i => (12, ((e.ptr.getD i none).getD self))
  let n := packF [(1, 1), (2, e.way), (14, e.dtag), (2, if e.excl then 2 else 1), bit1 e.b, (6, e.dom), p 0, p 1, p 2]
  n + 2 ^ 62 * (evenParity n 25 0).toNat + 2 ^ 63 * (evenParity n 61 26).toNat

/-- What a TSC entry holds of way k (R125): the fields of R120 without the reserved bits, its heat, and its heat-changed bit. -/
def tscFields (w : Way) (heat : Nat) (chg : Bool) : List (Nat × Nat) :=
  [(16, w.tag), bit1 w.remote, (12, w.home), (2, w.rstate), (10, w.encl), (4, w.keygen), bit1 w.pin, (8, heat), bit1 chg] ++
    w.lines.flatMap fun l => [(3, l.ls.code), (4, l.stamp)]

/-- A TSC entry of 64 B (R125): its tag, the four ways, whether it is usable and was used last, in eight words of 63 bits, each with the
bit of even parity above. What an entry holds of a way but the heat is what the way itself holds, so the state keeps it once. -/
def tscWords (s : State) (set : Nat) (e : Tsc) : List Nat :=
  let ways := (List.range 4).flatMap fun w => tscFields (wayAt s (4 * set + w)) (e.heat.getD w 0) (e.chg.getD w false)
  let n := packF ([(15, set / 2 ^ 17), bit1 e.usable, bit1 e.mru] ++ ways)
  (List.range 8).map fun i =>
    let v := n / 2 ^ (63 * i) % 2 ^ 63
    v + 2 ^ 63 * (evenParity v 62 0).toNat

/-! ### Media encryption and the wrapped-key area (R26, R333, R337, R540, R542, R543) -/

/-- The draw of media key k at a generation. -/
def keyDraw (s : State) (k gen : Nat) : Nat :=
  let x := tblGet ⟨0, 0, none⟩ s.sec.media k
  match x.old with
  | some (g, t) => if g = gen ∧ x.gen ≠ gen then t else x.tok
  | none => x.tok

/-- A line of a record as media holds it: a data unit of 64 B, whose tweak is the HO of the line. -/
def recordLine (s : State) (encl gen ho : Nat) (d : Line) : List Nat :=
  xtsEnc (keyBytes 64 (keyDraw s encl gen)) ho (bytesN 64 d.toNat)

/-- A home page as media holds it: a data unit of 4 KiB, whose tweak is the HO of the page. -/
def homePage (s : State) (k p : Nat) : List Nat :=
  xtsEnc (keyBytes 64 (keyDraw s k (pageGen s k p))) (4096 * p)
    ((List.range 64).flatMap fun i => bytesN 64 (homeLine s (16 * p + i / 4) (i % 4)).toNat)

/-- A page of the area: 4,092 bytes filled with zeros, and their CRC-32C. -/
def areaPage (bs : List Nat) : List Byte :=
  let b := (bs ++ List.replicate (4092 - bs.length) 0).map (BitVec.ofNat 8)
  b ++ bytesLe 4 (crc32c b).toNat

/-- A key entry of 160 B: index, VALID, GEN, the key wrapped under the root key and under the escrow key. -/
def keyEntry (root escrow : List Nat) (k gen : Nat) (key : Option (List Nat)) : List Nat :=
  match key with
  | none => bytesN 2 k ++ List.replicate 158 0
  | some d => bytesN 2 k ++ [1, gen % 16] ++ List.replicate 12 0 ++ keyWrap root 8 d ++ keyWrap escrow 8 d

/-- A range entry of 16 B (R548). -/
def rangeEntry (r : Option Range) : List Nat :=
  match r with
  | none => List.replicate 16 0
  | some r =>
    let st := match r.st with | .active => 1 | .creating => 2 | .destroying => 3
    bytesN 16 (packF [(36, r.base), (36, r.last), (10, r.encl), (2, st), (44, 0)])

/-- The first 16 B of HMAC-SHA-384 under the escrow key over the string and MSET. -/
def escrowCheck (escrow : List Nat) (mset : Nat) : List Nat :=
  (hmac384 escrow ("FJ4800 escrow".toList.map Char.toNat ++ bytesN 4 mset)).take 16

/-- The pages of a copy of the wrapped-key area of a media set, under a root key and an escrow key. -/
def areaPages (root escrow : List Nat) (mset : Nat) (a : Area) : List (List Byte) :=
  let entry := fun (k : Nat) => keyEntry root escrow k ((tblFind a.keys k).map (·.gen) |>.getD 0)
    ((tblFind a.keys k).map fun x => keyBytes 64 x.tok)
  let old := (a.keys.findSome? fun e => e.2.old.map fun o => keyEntry root escrow e.1 o.1 (some (keyBytes 64 o.2))).getD []
  let head := bytesN 4 0x574B4152 ++ bytesN 4 0 ++ bytesN 8 a.seq ++ bytesN 4 mset ++ bytesN 12 0 ++ escrowCheck escrow mset ++ bytesN 16 0 ++ old
  let keys := (List.range 41).map fun i => ((List.range 25).filter fun j => 25 * i + j < 1024).flatMap fun j => entry (25 * i + j)
  let ranges := (List.range 17).map fun i =>
    ((List.range 255).filter fun j => 255 * i + j < 4096).flatMap fun j => rangeEntry (tblFind a.ranges (255 * i + j))
  ([head] ++ keys ++ ranges ++ List.replicate 4 []).map areaPage

/-- A record as media holds it (R324, R333): its header, then the ciphertext of its Dirty lines, or its body. -/
def recordPayload (s : State) (r : JRec) : List Nat :=
  (r.secs.zipIdx.flatMap fun x => x.1.zipIdx.flatMap fun y => match y.1 with
    | some c => if c.ls = .dirty then recordLine s r.encl r.keygen (256 * (r.so + x.2) + 64 * y.2) c.data else []
    | none => []) ++ r.body.flatMap (bytesN 8)

/-! ### The journal -/

/-- TYPE of a record (R324). -/
def RTy.code : RTy → Nat
  | .data => 1 | .zero => 2 | .poison => 3 | .foreign => 4 | .spring => 5 | .ckpt => 6 | .close => 7 | .dirsnap => 8
  | .rotate => 9 | .test => 10

/-- A record header (R324): `key` is SO, or SEG, SEGS and SERIES. -/
structure RecHdr where
  typ : Nat
  held : Bool
  carry : Bool
  lsc : Nat
  keygen : Nat
  encl : Nat
  home : Nat
  len : Nat
  key : Nat
  run : Nat
  deriving DecidableEq, Repr

/-- XOR of some bytes. -/
def xorBytes (bs : List Byte) : Byte := bs.foldl (· ^^^ ·) 0

/-- Word 0 of a record header. -/
def RecHdr.word0 (h : RecHdr) : Nat :=
  packF [(4, h.typ), bit1 h.held, bit1 h.carry, (2, 0), (12, h.lsc), (4, h.keygen), (10, h.encl), (12, h.home), (2, 0),
         (12, h.len), (4, 0)]

/-- Bits [55:0] of word 1. -/
def RecHdr.low1 (h : RecHdr) : Nat := packF [(40, h.key), (12, h.run), (4, 0)]

/-- HCHK: XOR of header bytes 0 to 14, XORed with 0xA5. -/
def RecHdr.hchk (h : RecHdr) : Byte := xorBytes (bytesLe 8 h.word0 ++ bytesLe 7 h.low1) ^^^ 0xA5

/-- Word 1 of a record header. -/
def RecHdr.word1 (h : RecHdr) : Nat := h.low1 + 2 ^ 56 * h.hchk.toNat

/-- LSC of the lines a record carries of a sector. -/
def lscOf (ls : List (Option CLine)) : Nat := packF (ls.map fun l => (3, (l.map (·.ls.code)).getD 0))

/-- The header of a sector record. -/
def JRec.hdr (r : JRec) : RecHdr :=
  let ls := r.secs.getD 0 []
  { typ := r.ty.code, held := r.held, carry := r.carry, lsc := lscOf ls, keygen := r.keygen, encl := r.encl,
    home := r.home, len := 64 * (ls.filter fun l => (l.map (·.ls)) == some .dirty).length + 8 * r.body.length, key := r.so, run := r.run }

/-- A record's bytes. -/
def JRec.bytes (s : State) (r : JRec) : List Byte :=
  bytesLe 8 r.hdr.word0 ++ bytesLe 8 r.hdr.word1 ++ (recordPayload s r).map (BitVec.ofNat 8)

/-- A page header (R323), bytes 0 to 63. -/
structure PageHdr where
  summary : Bool
  rcount : Nat
  pseq : Nat
  tb : Nat
  mset : Nat
  ns : Nat
  drain : Bool
  test : Bool
  pos : Nat
  lba : Nat
  slotPseq : Nat
  ckptPseq : Nat
  summap : Nat
  deriving DecidableEq, Repr

/-- Bytes 0 to 63 of a journal page. -/
def PageHdr.bytes (h : PageHdr) : List Byte :=
  bytesLe 64 (packF [(32, 0x4A4E4C50), (8, 1), (8, h.summary.toNat), (16, h.rcount), (64, h.pseq), (64, h.tb),
    (32, h.mset), (5, h.ns), (3, 0), bit1 h.drain, bit1 h.test, (6, 0), (16, h.pos), (64, h.lba), (64, h.slotPseq),
    (64, h.ckptPseq), (64, h.summap)])

/-- A whole page: header, body filled with zeros, CRC-32C over bytes 0 to 4,091. -/
def pageBytes (h : PageHdr) (body : List Byte) : List Byte :=
  let bs := h.bytes ++ (body ++ List.replicate (4028 - body.length) 0)
  bs ++ bytesLe 4 (crc32c bs).toNat

/-- A summary entry (R325). -/
def sumEntry (key page rec_ typ lmask : Nat) : Nat := packF [(40, key), (6, page), (8, rec_), (4, typ), (4, lmask), (2, 0)]

/-- A locator (R328). -/
def Loc.bits (l : Loc) : Nat := packF [(5, l.ns), (27, l.page), (8, l.rec_), (3, l.ls.code), bit1 l.persist, (4, 0)]

/-- An index entry of 32 B (R328). -/
def JEntry.bits (so : Nat) (e : JEntry) : Nat :=
  packF ([(40, so), (1, 1), (7, 0), (16, 0)] ++ e.locs.map fun l => (48, (l.map Loc.bits).getD 0))

/-- A spring entry (R487) and the segment header of a SPRING record (R488). -/
def SprEnt.bits (e : SprEnt) : Nat := packF [(40, e.so), (8, e.heat), bit1 e.remove, bit1 e.pin, (14, 0)]
def springHead (gen count : Nat) (genEnd geyser : Bool) (src tb : Nat) : Nat :=
  packF [(32, gen), (16, count), bit1 genEnd, bit1 geyser, (6, 0), (8, src), (64, tb)]

/-- A schedule entry (R493): page, mask, heat. -/
def schedBits (e : Nat × Nat × Nat) : Nat := packF [(36, e.1), (16, e.2.1), (8, e.2.2), (4, 0)]

/-! ### The fabric -/

/-- Link control (R506). -/
structure Lctl where
  typ : Nat
  vc : Nat
  lane : Nat
  seq : Nat
  ack : Nat
  cvc : Nat
  clane : Nat
  ccnt : Nat
  deriving DecidableEq, Repr

/-- The LCTL word. -/
def Lctl.bits (l : Lctl) : Nat :=
  packF [(4, l.typ), (2, l.vc), (1, l.lane), (1, 0), (12, l.seq), (12, l.ack), (2, l.cvc), (1, l.clane), (7, l.ccnt), (22, 0)]

/-- A flit (R505): LCTL, payload filled with zeros, CRC-32C over bytes 0 to 123. -/
def flitBytes (l : Lctl) (payload : List Byte) : List Byte :=
  let bs := bytesLe 8 l.bits ++ (payload ++ List.replicate (116 - payload.length) 0)
  bs ++ bytesLe 4 (crc32c bs).toNat

/-- The five header words of a message (R507), given its VC and its flits. -/
def msgWords (vc : VC) (flits : Nat) (m : FMsg) : List Nat :=
  [packF [(6, m.opc), (2, vc.code), (2, flits - 1), (4, m.gen), (2, m.st), (18, m.dst), (18, m.src), (4, m.cause), bit1 m.tl,
          (5, m.hops), (2, 0)],
   packF [(40, m.tid), (8, m.flags), (10, m.encl), (6, 0)],
   packF ((52, m.sk) :: m.lst.map fun l => (3, l.code)),
   packF [(64, m.time)],
   packF [(18, m.aux), (46, 0)]]

/-- Operation codes of an ATOM, in the order of R100; R508 gives the byte no code of its own. -/
def AOp.code : AOp → Nat
  | .add => 0 | .and => 1 | .or => 2 | .xor => 3 | .smin => 4 | .smax => 5 | .umin => 6 | .umax => 7 | .swap => 8 | .cas => 9

/-- The bytes that follow a message's header (R508). -/
def msgBody (m : FMsg) : List Nat :=
  let lines := (List.range 4).flatMap fun j => bytesN 64 ((m.blk.getD j none).getD 0).toNat
  if m.opc = Op.atom then
    match m.atom with
    | some a => [a.op.code, a.width, (64 * (m.aux % 4) + a.off) % 256, 0] ++ List.replicate 4 0 ++ bytesN 16 a.opnd ++ bytesN 16 a.cmp
    | none => [0, 0, 64 * (m.aux % 4), m.alen] ++ List.replicate 4 0 ++ bytesN 64 ((m.blk.getD 0 none).getD 0).toNat
  else if m.opc = Op.atomRes then bytesN 16 ((m.blk.getD 0 none).getD 0).toNat
  else if m.opc = Op.wrNA then ((List.range 4).flatMap fun j => bytesN 8 (m.bmask.getD j 0).toNat) ++ lines
  else if 0x30 ≤ m.opc then lines
  else []

/-- The payload areas of a message's flits (R505, R507): header and body in order, the rest 0. -/
def msgPayload (vc : VC) (flits : Nat) (m : FMsg) : List Nat :=
  let bs := (msgWords vc flits m).flatMap (bytesN 8) ++ msgBody m
  bs ++ List.replicate (116 * flits - bs.length) 0

/-- The first 26 bytes of a HELLO payload (R519) from the neighbour that `h` describes, with its FAB_PRI. -/
def helloBits (h : Peer) (pri : Nat) : Nat :=
  let c := h.cand.getD ⟨0, 0, 0, 0, 0⟩
  packF [(64, h.serial), (12, h.id), bit1 h.idValid, (2, h.port), (1, 0), (16, h.incarn), (8, pri), bit1 h.locked,
         (5, h.fmHops), (2, 0), (8, c.pri), (5, c.hops), (3, 0), (64, c.serial), (12, c.id), (4, 0)]

/-- A route-table entry (R527). -/
def routeBits (l0 l1 dl hops : Nat) (valid : Bool) : Nat := packF [(4, l0), (4, l1), (4, dl), (5, hops), bit1 valid, (14, 0)]

/-! ### Boot flash -/

/-- The boot record (R620). -/
def bootRecord (f : Flash) : List Byte :=
  let bs := bytesLe 12 (packF [(32, 0x4A425243), (32, f.seq), (1, f.mcfActive), bit1 f.mcfPending, bit1 f.mcfTrial, (5, 0),
    (1, f.pcfActive), bit1 f.pcfPending, (6, 0), (8, f.tries), (8, 0)])
  bs ++ bytesLe 4 (crc32c bs).toNat

end Sys2Proof.Machine
end

