-- ==== Sys2Proof/WellFormed.lean ====
section
/-! DEFINITION. Which commands can be given: every operand within the width of the field that carries it (the message,
register, pin or bus that the spec names), and ports, banks, cores and contexts that a part of R2 can have. -/

namespace Sys2Proof.Machine

open Sys2Proof

/-- A context: C0 to C3 of core 0 to 7, or the one context of the Walni-M (R433). -/
def Ex.wf (e : Ex) : Bool := decide (e.core < 8 ∧ e.ctx < 4) || decide (e.core = 8 ∧ e.ctx = 0)

/-- An atomic: 1, 2, 4, 8 or 16 bytes, aligned to its width inside a line, operands of that width (R100, R105). -/
def Atom.wf (a : Atom) : Bool :=
  [1, 2, 4, 8, 16].contains a.width && decide (a.off + a.width ≤ 64) && decide (a.off % a.width = 0) &&
    decide (a.opnd < 2 ^ (8 * a.width)) && decide (a.cmp < 2 ^ (8 * a.width))

/-- An HDM decoder (R43, R44): addresses of its fields' widths, a position among its ways. -/
def Hdm.wf (d : Hdm) : Bool := decide (d.hpa < 2 ^ 52) && decide (d.size ≤ 2 ^ 48) && decide (d.da < 2 ^ 48)

/-- The bursts of a way as they return (R407): symbols 0 to 79, each with a byte. -/
def Rd.wf (r : Rd) : Bool :=
  let ok := fun (f : Flips) => f.all fun e => decide (e.1 < 80) && decide (e.2 < 256)
  decide (r.bursts.length ≤ 4) && r.bursts.all fun b => ok b.a && ok b.b

/-- A trailer (R558). -/
def Trailer.wf (t : Trailer) : Bool := decide (t.session < 2 ^ 32) && decide (t.seq < 2 ^ 64) && decide (t.encl < 1024)

/-- A message header (R507): every field within its bits, four line states, at most four lines of data. -/
def FMsg.wf (m : FMsg) : Bool :=
  decide (m.opc < 64) && decide (m.gen < 16) && decide (m.st < 4) && decide (m.dst < 2 ^ 18) && decide (m.src < 2 ^ 18) &&
    decide (m.cause < 16) && decide (m.hops < 32) && decide (m.tid < 2 ^ 40) && decide (m.flags < 256) &&
    decide (m.encl < 1024) && decide (m.sk < 2 ^ 52) && decide (m.time < 2 ^ 64) && decide (m.aux < 2 ^ 18) &&
    decide (m.lst.length = 4) && decide (m.blk.length ≤ 4)

/-- A HELLO payload (R519). -/
def Hello.wf (h : Hello) : Bool :=
  decide (h.serial < 2 ^ 64) && decide (h.id < 4096) && decide (h.port < 4) && decide (h.incarn < 2 ^ 16) &&
    decide (h.fmHops < 32)

/-- A label (R68): the fields that other rules give a width. -/
def Label.wf (l : Label) : Bool :=
  decide (l.serial < 2 ^ 64) && decide (l.dev < 4096) && decide (l.mset < 2 ^ 32) && decide (l.idx < 64) && decide (l.n < 64) &&
    decide (l.jgib < 1024)

/-- A namespace behind a media port, with its labels (R67, R679). -/
def FoundNs.wf (n : FoundNs) : Bool := decide (n.blocks < 2 ^ 64) && n.a.all Label.wf && n.b.all Label.wf

/-- A changed byte of the NVM (R598, R599): one of 2 banks of 6,656 slots of 32 bytes, in two copies. -/
def NvHit.wf (h : NvHit) : Bool := decide (h.bank < 2) && decide (h.slot < 6656) && decide (h.byte < 32)

/-- What a start-up meets (R62, R402, R601): at most 16 channels, and bytes that a bank has. -/
def BootFacts.wf (f : BootFacts) : Bool :=
  decide (f.rho < 4) && f.chans.all (· < 16) && decide (f.capGib.length = f.chans.length) && f.failed.all (· < 16) && f.nvHits.all NvHit.wf

/-- A write that stands on the wire of a host port (R372). -/
def WireWr.wf (w : WireWr) : Bool := decide (w.port < 4) && decide (w.tag < 2 ^ 16) && decide (w.hpa < 2 ^ 52)

/-- A message that stands on the wire of a fabric port (R371). -/
def WireMsg.wf (w : WireMsg) : Bool := decide (w.port < 4) && decide (w.lane < 2) && decide (w.seq < 4096) && w.msg.wf

end Sys2Proof.Machine

namespace Sys2Proof

open Sys2Proof.Machine

/-- A command that can be given. -/
def Instr.wf (i : Instr) : Bool :=
  match i with
  | .epochTick adc => decide (adc.length = 4)
  | .shedStepEscalate => true
  | .pcfDemote k => decide (k < 8)
  | .epochPeriodWrite _ _ => true
  | .phaseLockWrite _ _ => true
  | .registerWrite _ a size w => decide (a < 2 ^ 23) && [1, 2, 4, 8].contains size && decide (w < 2 ^ (8 * size))
  | .hmapDataWrite _ _ => true
  | .hmapInvalidationDone => true
  | .hdmDecoderCommit p i d => decide (p < 4) && decide (i < 4) && d.wf
  | .hdmDecoderUncommit p i => decide (p < 4) && decide (i < 4)
  | .hostLinkUp p width _ _ => decide (p < 4) && [1, 2, 4, 8, 16].contains width
  | .hpLinkDown p _ => decide (p < 4)
  | .memRd p tag hpa _ _ _ => decide (p < 4) && decide (tag < 2 ^ 16) && decide (hpa < 2 ^ 52)
  | .memInv p tag hpa _ _ _ => decide (p < 4) && decide (tag < 2 ^ 16) && decide (hpa < 2 ^ 52)
  | .memClnEvct p tag hpa => decide (p < 4) && decide (tag < 2 ^ 16) && decide (hpa < 2 ^ 52)
  | .memSpecRd p hpa => decide (p < 4) && decide (hpa < 2 ^ 52)
  | .memWr p tag hpa _ _ _ _ => decide (p < 4) && decide (tag < 2 ^ 16) && decide (hpa < 2 ^ 52)
  | .memWrPtl p tag hpa _ _ _ _ => decide (p < 4) && decide (tag < 2 ^ 16) && decide (hpa < 2 ^ 52)
  | .birsp p hpa kind => decide (p < 4) && decide (hpa < 2 ^ 52) && decide (kind < 3)
  | .biconflict p tag hpa => decide (p < 4) && decide (tag < 2 ^ 16) && decide (hpa < 2 ^ 52)
  | .bisnpTimeout p hpa => decide (p < 4) && decide (hpa < 2 ^ 52)
  | .atomicOp p tag da a => decide (p < 4) && decide (tag < 2 ^ 16) && decide (da < 2 ^ 48) && a.wf
  | .atmAluDone _ => true
  | .bar4NonAtomic p tag da => decide (p < 4) && decide (tag < 2 ^ 16) && decide (da < 2 ^ 48)
  | .ideIntegrityFail p _ => decide (p < 4)
  | .identifyMemoryDevice p => decide (p < 4)
  | .getEventRecords p log => decide (p < 4) && decide (log < 4)
  | .clearEventRecords p _ => decide (p < 4)
  | .getPoisonList p => decide (p < 4)
  | .injectPoison p da => decide (p < 4) && decide (da < 2 ^ 48)
  | .clearPoison p da _ => decide (p < 4) && decide (da < 2 ^ 48)
  | .getShutdownState p => decide (p < 4)
  | .getFwInfo p => decide (p < 4)
  | .transferFw p typ _ _ => decide (p < 4) && decide (typ < 256)
  | .activateFw p typ _ => decide (p < 4) && decide (typ < 256)
  | .zalloc p da len tr => decide (p < 4) && decide (da < 2 ^ 48) && decide (len < 2 ^ 48) && tr.all Trailer.wf
  | .zallocSectorOp p => decide (p < 4)
  | .prefetch p da len tr => decide (p < 4) && decide (da < 2 ^ 48) && decide (len < 2 ^ 48) && tr.all Trailer.wf
  | .pin p da len tr => decide (p < 4) && decide (da < 2 ^ 48) && decide (len < 2 ^ 48) && tr.all Trailer.wf
  | .unpin p da len tr => decide (p < 4) && decide (da < 2 ^ 48) && decide (len < 2 ^ 48) && tr.all Trailer.wf
  | .flush p da len tr => decide (p < 4) && decide (da < 2 ^ 48) && decide (len < 2 ^ 48) && tr.all Trailer.wf
  | .inval p da len tr => decide (p < 4) && decide (da < 2 ^ 48) && decide (len < 2 ^ 48) && tr.all Trailer.wf
  | .dfence p _ => decide (p < 4)
  | .ofence p _ => decide (p < 4)
  | .doorbellDfence p seq _ => decide (p < 4) && decide (seq < 2 ^ 32)
  | .doorbellOfence p seq _ => decide (p < 4) && decide (seq < 2 ^ 32)
  | .gpfPhase1 p => decide (p < 4)
  | .gpfPhase2 p => decide (p < 4)
  | .atomic p da a tr => decide (p < 4) && decide (da < 2 ^ 48) && a.wf && tr.all Trailer.wf
  | .append p da len _ tr => decide (p < 4) && decide (da < 2 ^ 48) && decide (len < 256) && tr.all Trailer.wf
  | .keyEscrowUnlock p _ _ tr => decide (p < 4) && tr.wf
  | .keyEscrowChange p _ _ tr => decide (p < 4) && tr.wf
  | .enclaveCreate p id _ _ _ tr => decide (p < 4) && decide (id < 1024) && tr.wf
  | .enclaveDestroy p id _ tr => decide (p < 4) && decide (id < 1024) && tr.wf
  | .keyRotate p k tr => decide (p < 4) && decide (k < 1024) && tr.wf
  | .rotatePageStep => true
  | .assignStage p _ _ tr => decide (p < 4) && tr.wf
  | .mediaFormat p => decide (p < 4)
  | .reserveArm p rsv => decide (p < 4) && decide (rsv < 2 ^ 32)
  | .reserveDisarm p rsv => decide (p < 4) && decide (rsv < 2 ^ 32)
  | .reserveDischarge p banks rsv => decide (p < 4) && decide (banks < 2 ^ 32) && decide (rsv < 2 ^ 32)
  | .reserveRecharge p banks rsv => decide (p < 4) && decide (banks < 2 ^ 32) && decide (rsv < 2 ^ 32)
  | .trkEntryGrant => true
  | .dramReadReturn _ gen rds => decide (gen < 256) && decide (rds.length ≤ 4) && rds.all Rd.wf
  | .tscFillDone _ ids => decide (ids.length = 4) && ids.all Rd.wf
  | .tscFillBudgetReset => true
  | .victimStallTimeout _ => true
  | .predFlushMiss _ => true
  | .predFlushWay _ => true
  | .mediaReadCompletion _ _ => true
  | .wbSchedulerCopy r => r.wf
  | .journalPackTimeout => true
  | .journalPageCompletion _ _ => true
  | .cleanQueueApply => true
  | .wbStageStallTimeout sk => decide (sk < 2 ^ 52)
  | .ntAgeWriteout sk => decide (sk < 2 ^ 52)
  | .ntHoldWriteout sk => decide (sk < 2 ^ 52)
  | .reservationGrant => true
  | .sfStallTimeout _ => true
  | .sfSuspectWalk => true
  | .rdS p lane seq m => decide (p < 4) && decide (lane < 2) && decide (seq < 4096) && m.wf
  | .rdO p lane seq m => decide (p < 4) && decide (lane < 2) && decide (seq < 4096) && m.wf
  | .rdOna p lane seq m => decide (p < 4) && decide (lane < 2) && decide (seq < 4096) && m.wf
  | .rdNa p lane seq m => decide (p < 4) && decide (lane < 2) && decide (seq < 4096) && m.wf
  | .wrNa p lane seq m => decide (p < 4) && decide (lane < 2) && decide (seq < 4096) && m.wf
  | .atom p lane seq m => decide (p < 4) && decide (lane < 2) && decide (seq < 4096) && m.wf
  | .evcE p lane seq m => decide (p < 4) && decide (lane < 2) && decide (seq < 4096) && m.wf
  | .fhbDone p lane seq m => decide (p < 4) && decide (lane < 2) && decide (seq < 4096) && m.wf
  | .snpS p lane seq m => decide (p < 4) && decide (lane < 2) && decide (seq < 4096) && m.wf
  | .snpInv p lane seq m => decide (p < 4) && decide (lane < 2) && decide (seq < 4096) && m.wf
  | .snpCur p lane seq m => decide (p < 4) && decide (lane < 2) && decide (seq < 4096) && m.wf
  | .snpRefwd p lane seq m => decide (p < 4) && decide (lane < 2) && decide (seq < 4096) && m.wf
  | .rspI p lane seq m => decide (p < 4) && decide (lane < 2) && decide (seq < 4096) && m.wf
  | .rspS p lane seq m => decide (p < 4) && decide (lane < 2) && decide (seq < 4096) && m.wf
  | .rspMiss p lane seq m => decide (p < 4) && decide (lane < 2) && decide (seq < 4096) && m.wf
  | .rspFwd p lane seq m => decide (p < 4) && decide (lane < 2) && decide (seq < 4096) && m.wf
  | .rspPend p lane seq m => decide (p < 4) && decide (lane < 2) && decide (seq < 4096) && m.wf
  | .gnt p lane seq m => decide (p < 4) && decide (lane < 2) && decide (seq < 4096) && m.wf
  | .cmp p lane seq m => decide (p < 4) && decide (lane < 2) && decide (seq < 4096) && m.wf
  | .ack p lane seq m => decide (p < 4) && decide (lane < 2) && decide (seq < 4096) && m.wf
  | .rls p lane seq m => decide (p < 4) && decide (lane < 2) && decide (seq < 4096) && m.wf
  | .err p lane seq m => decide (p < 4) && decide (lane < 2) && decide (seq < 4096) && m.wf
  | .atomRes p lane seq m => decide (p < 4) && decide (lane < 2) && decide (seq < 4096) && m.wf
  | .data p lane seq m => decide (p < 4) && decide (lane < 2) && decide (seq < 4096) && m.wf
  | .snpdata p lane seq m => decide (p < 4) && decide (lane < 2) && decide (seq < 4096) && m.wf
  | .wb p lane seq m => decide (p < 4) && decide (lane < 2) && decide (seq < 4096) && m.wf
  | .fhb p lane seq m => decide (p < 4) && decide (lane < 2) && decide (seq < 4096) && m.wf
  | .fxTimeout tid => decide (tid < 2 ^ 40)
  | .homeResponseTimeout tid => decide (tid < 2 ^ 40)
  | .homeSnoopTimeout sk dev => decide (sk < 2 ^ 52) && decide (dev < 4096)
  | .rspPendInterval _ => true
  | .dirStallTimeout _ => true
  | .peerIncarnationChange dev _ => decide (dev < 4096)
  | .fhbWaitTimeout => true
  | .fhbForce _ => true
  | .ldgCapWrite _ _ => true
  | .ldgArmWrite _ _ => true
  | .calStart _ => true
  | .calAbort _ => true
  | .calWritebackTimeout => true
  | .calDrainDone _ _ => true
  | .medCmdTimeout _ => true
  | .medAbortTimeout _ => true
  | .medCtrlReady p nss _ => decide (p < 8) && nss.all FoundNs.wf
  | .medCtrlReadyTimeout p => decide (p < 8)
  | .mediaPortLost p => decide (p < 8)
  | .smartPoll p _ _ => decide (p < 8)
  | .nvmeAsyncEvent p _ _ => decide (p < 8)
  | .sinterPage ns => decide (ns < 32)
  | .sinterHomeWriteDone _ _ => true
  | .journalHeadAdvance ns => decide (ns < 32)
  | .checkpointTimer => true
  | .indexBucketRebuild _ => true
  | .pwrfailNAssert wires msgs => wires.all WireWr.wf && msgs.all WireMsg.wf
  | .busTrip wires msgs => wires.all WireWr.wf && msgs.all WireMsg.wf
  | .railsGoodFall wires msgs => wires.all WireWr.wf && msgs.all WireMsg.wf
  | .geyserDrainComplete f => f.wf
  | .bankVminReached => true
  | .mainPowerReturn => true
  | .railsGoodRise f => f.wf
  | .hostLinkEnable => true
  | .pfHeldTimeout => true
  | .restartSweepSet c => decide (c < 16)
  | .rewarmRead => true
  | .bankPresentDebounce n => decide (n < 4)
  | .bankFaultIsolate n _ => decide (n < 4)
  | .bankCapMeasure n _ => decide (n < 4)
  | .bankChargeDone n => decide (n < 4)
  | .bankRechargeThreshold n => decide (n < 4)
  | .svcDischarge _ _ => true
  | .svcRecharge _ _ => true
  | .bankDischargeDone n => decide (n < 4)
  | .bankDischargeTimeout n => decide (n < 4)
  | .rsvGateFault => true
  | .rsvNoBankFault => true
  | .rsvFaultClear _ => true
  | .scrubSlot c rds => decide (c < 16) && decide (rds.length = 4) && rds.all Rd.wf
  | .quarantineRewrite _ => true
  | .refreshInterval c => decide (c < 16)
  | .thermalPoll c _ => decide (c < 16)
  | .channelFailDetect c => decide (c < 16)
  | .resilverSetCopy p _ => decide (p < 8)
  | .trainCmdFull _ => true
  | .add e _ _ _ => e.wf
  | .sub e _ _ _ => e.wf
  | .and e _ _ _ => e.wf
  | .or e _ _ _ => e.wf
  | .xor e _ _ _ => e.wf
  | .nor e _ _ _ => e.wf
  | .lts e _ _ _ => e.wf
  | .ltu e _ _ _ => e.wf
  | .min e _ _ _ => e.wf
  | .max e _ _ _ => e.wf
  | .minu e _ _ _ => e.wf
  | .maxu e _ _ _ => e.wf
  | .shl e _ _ _ => e.wf
  | .shr e _ _ _ => e.wf
  | .sar e _ _ _ => e.wf
  | .ror e _ _ _ => e.wf
  | .shlk e _ _ _ => e.wf
  | .shrk e _ _ _ => e.wf
  | .sark e _ _ _ => e.wf
  | .mul e _ _ _ => e.wf
  | .mulhu e _ _ _ => e.wf
  | .mulhs e _ _ _ => e.wf
  | .clz e _ _ _ => e.wf
  | .ones e _ _ _ => e.wf
  | .addk e _ _ _ => e.wf
  | .andk e _ _ _ => e.wf
  | .ork e _ _ _ => e.wf
  | .xork e _ _ _ => e.wf
  | .ltsk e _ _ _ => e.wf
  | .ltuk e _ _ _ => e.wf
  | .hik e _ _ _ => e.wf
  | .ldw e _ _ _ _ => e.wf
  | .ldh e _ _ _ _ => e.wf
  | .ldhu e _ _ _ _ => e.wf
  | .ldb e _ _ _ _ => e.wf
  | .ldbu e _ _ _ _ => e.wf
  | .stw e _ _ _ => e.wf
  | .sth e _ _ _ => e.wf
  | .stb e _ _ _ => e.wf
  | .casw e _ _ _ _ => e.wf
  | .br e _ _ _ _ => e.wf
  | .brl e _ _ _ _ => e.wf
  | .jmp e _ _ _ => e.wf
  | .jml e _ _ _ => e.wf
  | .loop e _ _ _ => e.wf
  | .loopi e _ _ _ => e.wf
  | .mode e _ => e.wf
  | .xret e => e.wf
  | .trap e => e.wf
  | .debug e => e.wf
  | .fend e => e.wf
  | .pflush e => e.wf
  | .srd e _ _ => e.wf
  | .swr e _ _ => e.wf
  | .predictorTagFlush e => e.wf
  | .scan e _ _ _ => e.wf
  | .heatrd e _ _ _ => e.wf
  | .cpResultReturn e ids => e.wf && decide (ids.length = 4) && ids.all Rd.wf
  | .hashSet e _ _ _ => e.wf
  | .hashMix e _ _ _ => e.wf
  | .evict e _ _ _ => e.wf
  | .policyPrefetch e _ _ _ => e.wf
  | .policyPin e _ _ _ => e.wf
  | .policyUnpin e _ _ _ => e.wf
  | .hintWrite e _ _ _ => e.wf
  | .cp3Delivery k => decide (k < 8)
  | .springStreamRead e => e.wf
  | .springPackTimeout k => decide (k < 8)
  | .baselineSpringPass => true
  | .prefetchIssue => true
  | .idleFlit p ack' _ lane _ => decide (p < 4) && decide (ack' < 4096) && decide (lane < 2)
  | .flitFailed p _ _ => decide (p < 4)
  | .nak p ack' => decide (p < 4) && decide (ack' < 4096)
  | .hello p h => decide (p < 4) && h.wf
  | .helloTimer p => decide (p < 4)
  | .sync p _ => decide (p < 4)
  | .syncExchangeTimer => true
  | .syncHoldoverExpire => true
  | .transitMessage p lane seq m => decide (p < 4) && decide (lane < 2) && decide (seq < 4096) && m.wf
  | .replayEpisodeEnd p => decide (p < 4)
  | .laneDegrade p ack' lanes grants =>
      decide (p < 4) && decide (ack' < 4096) && decide (lanes.length = 8) && decide (grants.length = 8)
  | .fabLinkDown p => decide (p < 4)
  | .fabLinkUp p _ grants => decide (p < 4) && decide (grants.length = 8)
  | .routeHoldTimeout _ => true
  | .fecInterval p _ => decide (p < 4)
  | .linkRetrain _ _ => true
  | .linkTakeDown _ _ => true
  | .fmCandidateExpire p => decide (p < 4)
  | .fmElected => true
  | .fmLost => true
  | .fmBeaconTimer => true
  | .fmRouteRecompute _ => true
  | .fmcMessage p src tag _ _ => decide (p < 4) && decide (src < 4096) && decide (tag < 2 ^ 16)
  | .fmcResendTimeout tag => decide (tag < 2 ^ 16)
  | .tamperTrigger _ wires msgs => wires.all WireWr.wf && msgs.all WireMsg.wf
  | .quenchSramCleared => true
  | .rngReady => true
  | .rngHealthFail => true
  | .drbgReseed => true
  | .rngDataRead _ _ => true
  | .getVersion p => decide (p < 4)
  | .getCapabilities p => decide (p < 4)
  | .negotiateAlgorithms p => decide (p < 4)
  | .getDigests p => decide (p < 4)
  | .getCertificate p slot => decide (p < 4) && decide (slot < 256)
  | .challenge p slot _ => decide (p < 4) && decide (slot < 256)
  | .getMeasurements p idx => decide (p < 4) && decide (idx < 256)
  | .keyExchange p => decide (p < 4)
  | .finish p _ _ => decide (p < 4)
  | .heartbeat p _ => decide (p < 4)
  | .keyUpdate p _ => decide (p < 4)
  | .endSession p _ => decide (p < 4)
  | .fwKeyRevoke _ => true
  | .debugLock _ => true
  | .assignLockSet _ => true
  | .ownClaim _ _ => true
  | .ownHb _ _ => true
  | .ownYield _ _ => true
  | .ownerLapse => true
  | .handoverTimeout => true
  | .cfgStore _ => true
  | .cfgFactory _ => true
  | .factoryArmExpire => true
  | .pgLockSet _ off => decide (off < 2 ^ 24)
  | .i3cWrite off _ _ => decide (off < 2 ^ 24)
  | .i3cRead off _ => decide (off < 2 ^ 24)
  | .i3cStatus _ => true
  | .entdaa _ => true
  | .setdasa _ _ => true
  | .setnewda _ _ => true
  | .rstdaa => true
  | .enec events => decide (events < 256)
  | .disec events => decide (events < 256)
  | .getpid => true
  | .getbcr => true
  | .getdcr => true
  | .getstatus => true
  | .getmxds => true
  | .rstact act => decide (act < 256)
  | .ibiSend => true
  | .resetNAssert f => f.wf
  | .warmReset _ _ => true
  | .releasePhaseTimeout => true
  | .blockReset _ _ => true
  | .vauxPowerUp => true
  | .vauxFall => true
  | .bootWatchdogExpire f => f.wf
  | .romRecoveryReset f => f.wf
  | .escrowWaitExpire => true
  | .mark _ => true
  | .rewind _ => true
  | .release _ => true
  | .releaseAllRead _ => true
  | .queueHeadRead _ => true
  | .sampleRecordRead _ => true
  | .msixModerationExpire p v => decide (p < 4) && decide (v < 256)
  | .highWordLatchRead _ off => decide (off < 2 ^ 24)
  | .rcFieldClearRead _ a size => decide (a < 2 ^ 23) && [1, 2, 4, 8].contains size
  | .labelAreaWriteCompletion _ _ => true
  | .dramWriteCompletion r => decide (r.gen < 256)
  | .correctableLinkError p => decide (p < 4)
  | .ideKm p _ _ _ => decide (p < 4)
  | .powerFailGlitch => true
  | .dramRailsLeaveRegulation => true
  | .bankBleedDone n => decide (n < 4)
  | .nvmWriteCompletion => true
  | .undefinedInstruction e _ => e.wf
  | .instructionFetchFault e => e.wf
  | .hostBisnpCredit p _ => decide (p < 4)
  | .priorityPromotion => true

end Sys2Proof
end

