-- ==== Sys2Proof/Tests/Slice0.lean ====
section
/-! SUPPORT. Tests of one step or one word against the spec's tables and worked examples, the smoke test of `Instr.wf`, and for
every statement with hypotheses a state and operands that meet them. -/

namespace Sys2Proof.Tests

open Sys2Proof Sys2Proof.Machine

set_option Elab.async false

/-! ### What can be commanded -/

def msg : FMsg := {
  opc := 1, dst := 0, src := 64, tid := 1, gen := 0, sk := 0, time := 0, tl := false, encl := 0, flags := 0, st := 0, cause := 0,
  aux := 0, hops := 0, lst := [.invalid, .invalid, .invalid, .invalid], blk := [none, none, none, none], bmask := [], atom := none,
  alen := 0 }
def word4 : Atom := ⟨.add, 4, 0, 1, 0⟩
def trailer : Trailer := ⟨1, 1, 0, true⟩
def c0 : Ex := ⟨0, 0, false⟩
def dec : Hdm := ⟨0, 2 ^ 30, 1, 256, 0, 0, false, false⟩
def hail : Hello := ⟨7, 3, true, 0, 1, false, 0, none⟩
def wire : WireWr := ⟨0, 1, 0, .i, 0, 0, false, false⟩
def wireMsg : WireMsg := ⟨0, 0, 0, msg⟩
def facts : BootFacts := {
  errA := false, errB := false, dimms := [1], rho := 0, chans := [0], capGib := [16], dimmsOk := true, rate := 6400, srOk := true,
  testOk := true, failed := [], nvHits := [], trainBad := false, devBad := false, skip := 0, benign := 0, ms := 0 }

/-- A form of each shape that can be given. -/
theorem test_wf_accepts : [Instr.add c0 1 2 3, .scan ⟨8, 0, false⟩ 1 2 0, .atomicOp 0 1 64 word4, .hdmDecoderCommit 0 0 dec,
    .keyRotate 0 0 trailer, .rdS 0 0 0 msg, .hello 0 hail, .pwrfailNAssert [wire] [wireMsg], .hostLinkUp 0 16 true 8,
    .scrubSlot 0 (List.replicate 4 ⟨[⟨[(3, 255)], []⟩]⟩), .registerWrite .sb 0x40 4 0].all Instr.wf = true := by
  decide +kernel

/-- A context that no core has; an atomic of a wrong width, across its line, misaligned, or with operands too wide. -/
theorem test_wf_refuses_contexts_and_atomics : [Instr.add ⟨9, 0, false⟩ 1 2 3, .fend ⟨8, 1, false⟩, .trap ⟨0, 4, false⟩,
    .atomicOp 0 0 0 { word4 with width := 3 }, .atomicOp 0 0 0 { word4 with off := 64 }, .atomicOp 0 0 0 { word4 with off := 2 },
    .atomicOp 0 0 0 { word4 with opnd := 2 ^ 32 }, .atomic 0 0 { word4 with cmp := 2 ^ 32 } none,
    .cpResultReturn c0 [⟨[]⟩], .undefinedInstruction ⟨9, 0, false⟩ 0].all (fun i => !i.wf) = true := by
  decide +kernel

/-- A decoder, a trailer and a HELLO whose fields do not fit. -/
theorem test_wf_refuses_decoders_trailers_hellos : [Instr.hdmDecoderCommit 0 0 { dec with hpa := 2 ^ 52 },
    .hdmDecoderCommit 0 0 { dec with size := 2 ^ 48 + 1 }, .hdmDecoderCommit 0 0 { dec with da := 2 ^ 48 }, .hdmDecoderCommit 0 4 dec,
    .hdmDecoderUncommit 4 0, .hdmDecoderUncommit 0 4, .keyRotate 0 0 { trailer with session := 2 ^ 32 },
    .keyRotate 0 0 { trailer with seq := 2 ^ 64 }, .keyRotate 0 0 { trailer with encl := 1024 }, .keyRotate 0 1024 trailer,
    .enclaveCreate 0 1024 [] [] 0 trailer, .enclaveDestroy 0 1024 0 trailer, .pin 0 0 0 (some { trailer with encl := 1024 }),
    .hello 0 { hail with serial := 2 ^ 64 }, .hello 0 { hail with id := 4096 }, .hello 0 { hail with port := 4 },
    .hello 0 { hail with incarn := 2 ^ 16 }, .hello 0 { hail with fmHops := 32 }].all (fun i => !i.wf) = true := by
  decide +kernel

/-- A message whose header fields do not fit, and its port, lane and SEQ. -/
theorem test_wf_refuses_messages : ([{ msg with opc := 64 }, { msg with gen := 16 }, { msg with st := 4 }, { msg with dst := 2 ^ 18 },
    { msg with src := 2 ^ 18 }, { msg with cause := 16 }, { msg with hops := 32 }, { msg with tid := 2 ^ 40 }, { msg with flags := 256 },
    { msg with encl := 1024 }, { msg with sk := 2 ^ 52 }, { msg with time := 2 ^ 64 }, { msg with aux := 2 ^ 18 }, { msg with lst := [] },
    { msg with blk := List.replicate 5 none }].all fun m => !(Instr.wb 0 0 0 m).wf) = true ∧
    [Instr.rdS 4 0 0 msg, .snpS 0 2 0 msg, .cmp 0 0 4096 msg, .pwrfailNAssert [{ wire with port := 4 }] [],
      .busTrip [{ wire with tag := 2 ^ 16 }] [], .railsGoodFall [{ wire with hpa := 2 ^ 52 }] [],
      .tamperTrigger .mesh [] [{ wireMsg with port := 4 }], .pwrfailNAssert [] [{ wireMsg with lane := 2 }],
      .pwrfailNAssert [] [{ wireMsg with seq := 4096 }], .pwrfailNAssert [] [{ wireMsg with msg := { msg with opc := 64 } }]].all
        (fun i => !i.wf) = true := by
  decide +kernel

/-- Ports, banks, channels, cores, tags, addresses, lengths and payloads that the part or its fields do not have. -/
theorem test_wf_refuses_operands : [Instr.epochTick [], .pcfDemote 8, .cp3Delivery 8, .registerWrite .sb (2 ^ 23) 4 0, .registerWrite .sb 0 3 0,
    .registerWrite .sb 0 4 (2 ^ 32), .hostLinkUp 4 16 true 0, .hostLinkUp 0 3 true 0, .memRd 4 0 0 .i true .none, .memRd 0 (2 ^ 16) 0 .i true .none,
    .memInv 0 0 (2 ^ 52) .a false .none, .birsp 0 0 3, .atomicOp 0 0 (2 ^ 48) word4, .getEventRecords 0 4, .transferFw 0 256 true Image.factoryMcf,
    .zalloc 0 (2 ^ 48) 0 none, .zalloc 0 0 (2 ^ 48) none, .doorbellDfence 0 (2 ^ 32) false, .append 0 0 256 0 none, .reserveArm 0 (2 ^ 32),
    .reserveDischarge 0 (2 ^ 32) 0, .dramReadReturn 0 256 [], .tscFillDone 0 [], .wbStageStallTimeout (2 ^ 52), .fxTimeout (2 ^ 40),
    .homeSnoopTimeout 0 4096, .peerIncarnationChange 4096 0, .medCtrlReady 8 [] false, .sinterPage 32, .restartSweepSet 16, .bankPresentDebounce 4,
    .scrubSlot 16 [], .resilverSetCopy 8 false].all (fun i => !i.wf) = true := by
  decide +kernel

/-- The same of the fabric, the sideband and the register reads. -/
theorem test_wf_refuses_more_operands : [Instr.idleFlit 0 4096 .req 0 0, .idleFlit 0 0 .req 2 0, .nak 4 0, .laneDegrade 0 0 [] (List.replicate 8 0),
    .laneDegrade 0 0 (List.replicate 8 true) [], .fabLinkUp 0 0 [], .fmcMessage 0 4096 0 false (.parent 0), .fmcMessage 0 0 (2 ^ 16) false (.parent 0),
    .fmcResendTimeout (2 ^ 16), .getCertificate 0 256, .challenge 0 256 0, .getMeasurements 0 256, .pgLockSet .sb (2 ^ 24), .i3cWrite (2 ^ 24) 0 none,
    .i3cRead (2 ^ 24) none, .enec 256, .disec 256, .rstact 256, .msixModerationExpire 0 256, .highWordLatchRead .sb (2 ^ 24),
    .rcFieldClearRead .sb (2 ^ 23) 4, .rcFieldClearRead .sb 0 3].all (fun i => !i.wf) = true := by
  decide +kernel

/-! ### Formats and addresses, from the worked examples -/

/-- 09_journal_media.md, worked example: bytes 64 to 79 and 144 to 159 of the page. -/
theorem test_record_headers :
    bytesLe 8 (RecHdr.word0 ⟨1, false, false, 0x0D0, 3, 0, 0, 64, 0x0C1234567A, 0⟩) = [0x01, 0xD0, 0x30, 0, 0, 0, 0x40, 0] ∧
    bytesLe 8 (RecHdr.word1 ⟨1, false, false, 0x0D0, 3, 0, 0, 64, 0x0C1234567A, 0⟩) = [0x7A, 0x56, 0x34, 0x12, 0x0C, 0, 0, 0x02] ∧
    bytesLe 8 (RecHdr.word0 ⟨2, false, false, 0x6DB, 3, 0, 0, 0, 0x4000, 15⟩) = [0x02, 0xDB, 0x36, 0, 0, 0, 0, 0] ∧
    bytesLe 8 (RecHdr.word1 ⟨2, false, false, 0x6DB, 3, 0, 0, 0, 0x4000, 15⟩) = [0, 0x40, 0, 0, 0, 0x0F, 0, 0x05] := by
  decide +kernel

/-- The same example: bytes 0 to 63 of the page. -/
theorem test_page_header :
    (PageHdr.bytes ⟨false, 2, 0x01234568, 25000000000, 0x7C3109E2, 5, false, false, 7, 0x12D07, 0x012344C1, 0x0122F000, 0⟩).take 36 =
      [0x50, 0x4C, 0x4E, 0x4A, 1, 0, 2, 0, 0x68, 0x45, 0x23, 0x01, 0, 0, 0, 0, 0, 0xBA, 0x1D, 0xD2, 5, 0, 0, 0,
       0xE2, 0x09, 0x31, 0x7C, 5, 0, 7, 0, 0x07, 0x2D, 0x01, 0] := by
  decide +kernel

/-- 02_address_maps.md, worked example: set, tag, media location; 11_cache_channels.md: the place of the line in DRAM. -/
theorem test_address_of_a_byte :
    setOf 32 0x0C1234567A 0x02A = 0x1098565C ∧ tagOf 32 0x0C1234567A = 0x0C ∧
    mediaLoc ⟨8, 2097152, 2 ^ 40, 64, 0, [], []⟩ (pageOfSo 0x0C1234567A) = (5, 407136679) ∧
    soOf 32 0x1098565C 0x0C 0x02A = 0x0C1234567A ∧
    dramLoc 2 0x01098565 = (1, 2, 6, 2, 2, 0x2130) := by
  decide +kernel

/-- 10_power_loss.md, worked example: a full bank counts 15.125 J, and 29.04 J give a cap_margin of 6,618 MiB. -/
theorem test_energy_model :
    bankEnergy 15625 16000 6000 880 = 15125000000 ∧
    Figs.capMargin ⟨72000, 2620, 8, 8, 1200, 1000, 0, 15, 0, 0⟩ 29040000000 / 2 ^ 20 = 6618 := by
  decide +kernel

/-- 19_register_index.md, worked example: PG_ID of LDG page 2. 18_events_telemetry.md: TAG_HIT is counter 291. -/
theorem test_register_index : view State.reset 0x342000 = 0xD0810020 ∧ Ctr.TAG_HIT = 291 := by decide +kernel

/-- An operand that is in no range. -/
def bad : Nat := 2 ^ 300

/-- Every command with a check refuses an operand out of its range (1 of 4). -/
theorem test_wf_refuses_a :
    [Instr.epochTick [], .pcfDemote bad, .registerWrite .sb bad bad bad, .hdmDecoderCommit bad bad dec,
      .hdmDecoderUncommit bad bad, .hostLinkUp bad bad false bad, .hpLinkDown bad false, .memRd bad bad bad .i false .none,
      .memInv bad bad bad .i false .none, .memClnEvct bad bad bad, .memSpecRd bad bad, .memWr bad bad bad .i 0 false .none,
      .memWrPtl bad bad bad .i 0 0 false, .birsp bad bad bad, .biconflict bad bad bad, .bisnpTimeout bad bad,
      .atomicOp bad bad bad word4, .bar4NonAtomic bad bad bad, .ideIntegrityFail bad false, .identifyMemoryDevice bad,
      .getEventRecords bad bad, .clearEventRecords bad [], .getPoisonList bad, .injectPoison bad bad, .clearPoison bad bad 0,
      .getShutdownState bad, .getFwInfo bad, .transferFw bad bad false Image.factoryMcf, .activateFw bad bad false,
      .zalloc bad bad bad none, .zallocSectorOp bad, .prefetch bad bad bad none, .pin bad bad bad none,
      .unpin bad bad bad none, .flush bad bad bad none, .inval bad bad bad none, .dfence bad bad, .ofence bad bad,
      .doorbellDfence bad bad false, .doorbellOfence bad bad false, .gpfPhase1 bad, .gpfPhase2 bad,
      .atomic bad bad word4 none, .append bad bad bad 0 none, .keyEscrowUnlock bad bad [] trailer,
      .keyEscrowChange bad bad bad trailer, .enclaveCreate bad bad [] [] bad trailer, .enclaveDestroy bad bad bad trailer,
      .keyRotate bad bad trailer, .assignStage bad [] bad trailer, .mediaFormat bad, .reserveArm bad bad,
      .reserveDisarm bad bad, .reserveDischarge bad bad bad, .reserveRecharge bad bad bad, .dramReadReturn bad bad [],
      .tscFillDone bad []].all
      (fun i => !i.wf) = true := by decide +kernel

/-- Every command with a check refuses an operand out of its range (2 of 4). -/
theorem test_wf_refuses_b :
    [Instr.wbStageStallTimeout bad, .ntAgeWriteout bad, .ntHoldWriteout bad, .rdS bad bad bad msg, .rdO bad bad bad msg,
      .rdOna bad bad bad msg, .rdNa bad bad bad msg, .wrNa bad bad bad msg, .atom bad bad bad msg, .evcE bad bad bad msg,
      .fhbDone bad bad bad msg, .snpS bad bad bad msg, .snpInv bad bad bad msg, .snpCur bad bad bad msg,
      .snpRefwd bad bad bad msg, .rspI bad bad bad msg, .rspS bad bad bad msg, .rspMiss bad bad bad msg,
      .rspFwd bad bad bad msg, .rspPend bad bad bad msg, .gnt bad bad bad msg, .cmp bad bad bad msg, .ack bad bad bad msg,
      .rls bad bad bad msg, .err bad bad bad msg, .atomRes bad bad bad msg, .data bad bad bad msg, .snpdata bad bad bad msg,
      .wb bad bad bad msg, .fhb bad bad bad msg, .fxTimeout bad, .homeResponseTimeout bad, .homeSnoopTimeout bad bad,
      .peerIncarnationChange bad bad, .medCtrlReady bad [] false, .medCtrlReadyTimeout bad, .mediaPortLost bad,
      .smartPoll bad false bad, .nvmeAsyncEvent bad false bad, .sinterPage bad, .journalHeadAdvance bad,
      .pwrfailNAssert [⟨4, 0, 0, .i, 0, 0, false, false⟩] [], .busTrip [⟨4, 0, 0, .i, 0, 0, false, false⟩] [],
      .railsGoodFall [⟨4, 0, 0, .i, 0, 0, false, false⟩] [], .restartSweepSet bad, .bankPresentDebounce bad,
      .bankFaultIsolate bad .none, .bankCapMeasure bad bad, .bankChargeDone bad, .bankRechargeThreshold bad,
      .bankDischargeDone bad, .bankDischargeTimeout bad, .scrubSlot bad [], .refreshInterval bad, .thermalPoll bad bad,
      .channelFailDetect bad, .resilverSetCopy bad false].all
      (fun i => !i.wf) = true := by decide +kernel

/-- Every command with a check refuses an operand out of its range (3 of 4). -/
theorem test_wf_refuses_c :
    [Instr.add ⟨9, 0, false⟩ 0 0 0, .sub ⟨9, 0, false⟩ 0 0 0, .and ⟨9, 0, false⟩ 0 0 0, .or ⟨9, 0, false⟩ 0 0 0,
      .xor ⟨9, 0, false⟩ 0 0 0, .nor ⟨9, 0, false⟩ 0 0 0, .lts ⟨9, 0, false⟩ 0 0 0, .ltu ⟨9, 0, false⟩ 0 0 0,
      .min ⟨9, 0, false⟩ 0 0 0, .max ⟨9, 0, false⟩ 0 0 0, .minu ⟨9, 0, false⟩ 0 0 0, .maxu ⟨9, 0, false⟩ 0 0 0,
      .shl ⟨9, 0, false⟩ 0 0 0, .shr ⟨9, 0, false⟩ 0 0 0, .sar ⟨9, 0, false⟩ 0 0 0, .ror ⟨9, 0, false⟩ 0 0 0,
      .shlk ⟨9, 0, false⟩ 0 0 0, .shrk ⟨9, 0, false⟩ 0 0 0, .sark ⟨9, 0, false⟩ 0 0 0, .mul ⟨9, 0, false⟩ 0 0 0,
      .mulhu ⟨9, 0, false⟩ 0 0 0, .mulhs ⟨9, 0, false⟩ 0 0 0, .clz ⟨9, 0, false⟩ 0 0 0, .ones ⟨9, 0, false⟩ 0 0 0,
      .addk ⟨9, 0, false⟩ 0 0 0, .andk ⟨9, 0, false⟩ 0 0 0, .ork ⟨9, 0, false⟩ 0 0 0, .xork ⟨9, 0, false⟩ 0 0 0,
      .ltsk ⟨9, 0, false⟩ 0 0 0, .ltuk ⟨9, 0, false⟩ 0 0 0, .hik ⟨9, 0, false⟩ 0 0 0, .ldw ⟨9, 0, false⟩ 0 0 0 .ok,
      .ldh ⟨9, 0, false⟩ 0 0 0 .ok, .ldhu ⟨9, 0, false⟩ 0 0 0 .ok, .ldb ⟨9, 0, false⟩ 0 0 0 .ok,
      .ldbu ⟨9, 0, false⟩ 0 0 0 .ok, .stw ⟨9, 0, false⟩ 0 0 0, .sth ⟨9, 0, false⟩ 0 0 0, .stb ⟨9, 0, false⟩ 0 0 0,
      .casw ⟨9, 0, false⟩ 0 0 0 .ok, .br ⟨9, 0, false⟩ false 0 0 0, .brl ⟨9, 0, false⟩ false 0 0 0, .jmp ⟨9, 0, false⟩ 0 0 0,
      .jml ⟨9, 0, false⟩ 0 0 0, .loop ⟨9, 0, false⟩ 0 0 0, .loopi ⟨9, 0, false⟩ 0 0 0, .mode ⟨9, 0, false⟩ 0,
      .xret ⟨9, 0, false⟩, .trap ⟨9, 0, false⟩, .debug ⟨9, 0, false⟩, .fend ⟨9, 0, false⟩, .pflush ⟨9, 0, false⟩,
      .srd ⟨9, 0, false⟩ 0 0, .swr ⟨9, 0, false⟩ 0 0, .predictorTagFlush ⟨9, 0, false⟩, .scan ⟨9, 0, false⟩ 0 0 0,
      .heatrd ⟨9, 0, false⟩ 0 0 0].all
      (fun i => !i.wf) = true := by decide +kernel

/-- Every command with a check refuses an operand out of its range (4 of 4). -/
theorem test_wf_refuses_d :
    [Instr.cpResultReturn ⟨9, 0, false⟩ [], .hashSet ⟨9, 0, false⟩ 0 0 0, .hashMix ⟨9, 0, false⟩ 0 0 0,
      .evict ⟨9, 0, false⟩ 0 0 0, .policyPrefetch ⟨9, 0, false⟩ 0 0 0, .policyPin ⟨9, 0, false⟩ 0 0 0,
      .policyUnpin ⟨9, 0, false⟩ 0 0 0, .hintWrite ⟨9, 0, false⟩ 0 0 0, .cp3Delivery bad, .springStreamRead ⟨9, 0, false⟩,
      .springPackTimeout bad, .idleFlit bad bad .req bad bad, .flitFailed bad false false, .nak bad bad, .hello bad hail,
      .helloTimer bad, .sync bad (.ask 0), .transitMessage bad bad bad msg, .replayEpisodeEnd bad,
      .laneDegrade bad bad [] [], .fabLinkDown bad, .fabLinkUp bad 0 [], .fecInterval bad bad, .fmCandidateExpire bad,
      .fmcMessage bad bad bad false (.parent 0), .fmcResendTimeout bad, .tamperTrigger .mesh [⟨4, 0, 0, .i, 0, 0, false, false⟩] [],
      .getVersion bad, .getCapabilities bad, .negotiateAlgorithms bad, .getDigests bad, .getCertificate bad bad,
      .challenge bad bad bad, .getMeasurements bad bad, .keyExchange bad, .finish bad bad false, .heartbeat bad bad,
      .keyUpdate bad bad, .endSession bad bad, .pgLockSet .sb bad, .i3cWrite bad 0 none, .i3cRead bad none, .enec bad,
      .disec bad, .rstact bad, .msixModerationExpire bad bad, .highWordLatchRead .sb bad, .rcFieldClearRead .sb bad bad,
      .correctableLinkError bad, .ideKm bad false false none, .bankBleedDone bad, .undefinedInstruction ⟨9, 0, false⟩ 0,
      .instructionFetchFault ⟨9, 0, false⟩, .hostBisnpCredit bad bad].all
      (fun i => !i.wf) = true := by decide +kernel

/-- A label, and a namespace that carries it. -/
def lab : Label := ⟨1, 2, 3, 0, 2, 64, 2 ^ 20, 1⟩
def drive : FoundNs := ⟨2 ^ 28, 4096, false, true, 8, 1023, 256, true, some lab, none⟩

/-- What a start-up and a drive show: channels, ranks, changed bytes and labels beyond what the part has. -/
theorem test_wf_startups : facts.wf = true ∧ drive.wf = true ∧
    [Instr.railsGoodRise { facts with rho := 4 }, .resetNAssert { facts with chans := [16] },
      .bootWatchdogExpire { facts with capGib := [] }, .romRecoveryReset { facts with failed := [16] },
      .geyserDrainComplete { facts with nvHits := [⟨2, 0, false, 0, 0⟩] }, .railsGoodRise { facts with nvHits := [⟨0, 6656, false, 0, 0⟩] },
      .railsGoodRise { facts with nvHits := [⟨0, 0, false, 32, 0⟩] }, .medCtrlReady 0 [{ drive with blocks := bad }] false,
      .medCtrlReady 0 [{ drive with a := some { lab with serial := bad } }] false,
      .medCtrlReady 0 [{ drive with a := some { lab with dev := bad } }] false,
      .medCtrlReady 0 [{ drive with b := some { lab with mset := bad } }] false,
      .medCtrlReady 0 [{ drive with b := some { lab with idx := bad } }] false,
      .medCtrlReady 0 [{ drive with b := some { lab with n := bad } }] false,
      .medCtrlReady 0 [{ drive with b := some { lab with jgib := bad } }] false].all (fun i => !i.wf) = true := by
  decide +kernel

/-! ### States for the tests and witnesses -/

/-- The state after a command. -/
def after (r : Host.Outcome State Fault Refusal) : State :=
  match r with
  | .next t => t
  | _ => State.reset

/-- In Run: the sideband is the owner, host port 0 is up with a decoder at HPA 0, the device has one namespace and four channels. -/
def up : State :=
  let s := State.reset
  let m : MSet := ⟨1, 2 ^ 22, 2 ^ 22, 16, 7, [0], []⟩
  { s with
    tb := 3777, tickLast := 2500, epochAt := 2500, epochEnd := some 12500
    mgt := { s.mgt with
      boot := { s.mgt.boot with
        nvDone := true, vaux := true, linksOn := true, hdm := true, dramDone := true, geomOk := true, mediaDone := true, jrnlDone := true }
      own := { s.mgt.own with owner := some .sb, prio := 100, hbAt := 2000 } }
    sec := { s.sec with ready := true }
    rsv := { s.rsv with pst := .run, mainEn := true, railsGood := true }
    hpt := { s.hpt with
      setBits := 8, chBits := 2, dsize := 2 ^ 30
      ports := setAt s.hpt.ports 0 fun p => { p with
        up := true, width := 16, full := true, req := 512, rwd := 256, head := 256, headWt := 256, bisnp := 8
        hdm := [some { dec with committed := true }, none, none, none] } }
    med := { s.med with
      media := { s.med.media with set_ := some m }
      ports := setAt s.med.ports 0 fun p => { p with link := true, ctl := { p.ctl with ready := true }, found := [(2 ^ 24, some ⟨0, 0, 7, 0, 1, 8, 2 ^ 20, 0⟩)] }
      jrnl := { s.med.jrnl with streams := [⟨0, 0, 0, 0, [], false⟩], nb := 4 } }
    cch := { s.cch with
      chans := (List.range 16).map fun i => if i < 4 then { Chan.off with st := .up } else Chan.off }
    io := putReg (putReg s.io Reg.CCH_SCRUB_CFG 0x100) Reg.MGT_OWN_CFG 0x53 }

theorem up_ok : up.ok = true := by decide +kernel

/-- A context that runs, changed by f. -/
def ctxS (e : Ex) (f : Ctx → Ctx) : State := onCtx e (fun x => f { x with st := .running }) up

/-- The same with g1 and g2 at a and b. -/
def regs (a b : Word) (x : Ctx) : Ctx := (x.setReg 1 a).setReg 2 b

theorem free_of_none {x : Ctx} (h : x.slot = none) (rd : Nat) : Claims.Free x rd :=
  ⟨fun b hb => by simp [h] at hb, fun _ => h⟩

/-! ### Statements about every command -/

theorem witness_StepKeepsTheInvariant : ∃ s t, s.ok = true ∧ step s = .next t ∧ t.ok = true :=
  ⟨State.reset, after (step State.reset), by decide +kernel, rfl, by decide +kernel⟩

theorem witness_IdlesOnAnEmptyQueue : State.reset.pending = [] := rfl

theorem test_step_takes_the_front : (after (step { up with pending := [.priorityPromotion, .rstdaa] })).pending = [.rstdaa] := by
  decide +kernel

/-! ### Walni -/

/-- The word of ADD g1, g2, g3 by R440: opcode 0, rd 1, rs 2, rt 3, function 0. -/
theorem witness_WalniWordsDecodeBack : walniWord (.add c0 1 2 3) = some (c0, 0x00221800) ∧ wordDefined c0.isM 0x00221800 = true := by
  decide +kernel

/-- Words by R440 and R441: BR of condition NEZ on g4 without and with A, EVICT g1, g2, EVICT g1, g3, and a word of
an opcode that R441 does not list. -/
theorem test_walni_words :
    walniDecode c0 .ok 0x80440003 = some (.br c0 false 2 4 3) ∧ walniDecode c0 .ok 0x82440003 = some (.br c0 true 2 4 3) ∧
    walniDecode c0 .ok 0xE8011001 = some (.evict c0 0 1 2) ∧ walniDecode c0 .ok 0xE8011801 = some (.evict c0 0 1 3) ∧
    wordDefined false 0xFC000000 = false := by
  decide +kernel

theorem witness_WorkedExampleWordsDecode : c0.core < 8 := by decide

theorem witness_RegisterZeroDiscards : Ctx.reset.g.length = 32 := rfl

/-- g3 after a three-register instruction on g1 and g2. -/
def alu (i : Ex → Fin 32 → Fin 32 → Fin 32 → Instr) (a b : Word) : Word :=
  (ctxAt (after (exec (i c0 3 1 2) (ctxS c0 (regs a b)))) c0).reg 3

/-- R442: wrap of ADD and SUB, signed and unsigned compare, shift amounts modulo 32. -/
theorem test_alu_plain : alu .add 0xFFFFFFFF 1 = 0 ∧ alu .sub 0 1 = 0xFFFFFFFF ∧ alu .and 0xF0F0 0xFF00 = 0xF000 ∧
    alu .or 0xF0F0 0x0F00 = 0xFFF0 ∧ alu .xor 0xFF 0x0F = 0xF0 ∧ alu .nor 0 0xFF = 0xFFFFFF00 ∧ alu .lts 0xFFFFFFFF 0 = 1 ∧
    alu .ltu 0xFFFFFFFF 0 = 0 ∧ alu .min 0xFFFFFFFF 1 = 0xFFFFFFFF ∧ alu .max 0xFFFFFFFF 1 = 1 ∧ alu .minu 0xFFFFFFFF 1 = 1 ∧
    alu .maxu 0xFFFFFFFF 1 = 0xFFFFFFFF := by
  decide +kernel

/-- R442: shifts, multiplies and counts. -/
theorem test_alu_shifts : alu .shl 1 33 = 2 ∧ alu .shr 0x80000000 31 = 1 ∧ alu .sar 0x80000000 31 = 0xFFFFFFFF ∧ alu .ror 1 1 = 0x80000000 ∧
    alu .mul 0x10000 0x10000 = 0 ∧ alu .mulhu 0xFFFFFFFF 0xFFFFFFFF = 0xFFFFFFFE ∧ alu .mulhs 0xFFFFFFFF 0xFFFFFFFF = 0 := by
  decide +kernel

theorem witness_ArithmeticComputes : Claims.Runs (ctxS c0 (regs 5 6)) c0 ∧ Claims.Free (ctxAt (ctxS c0 (regs 5 6)) c0) 3 :=
  ⟨by unfold Claims.Runs; decide +kernel, free_of_none rfl 3⟩

/-- The Walni-M and a context of the last core run as well. -/
theorem witness_Runs_everywhere : Claims.Runs (ctxS ⟨8, 0, false⟩ id) ⟨8, 0, false⟩ ∧ Claims.Runs (ctxS ⟨7, 3, true⟩ id) ⟨7, 3, true⟩ := by
  unfold Claims.Runs; decide +kernel

/-- Loads and stores: an aligned address in data RAM, the last word of it among them; a misaligned one; one outside. -/
theorem witness_DataMemoryInstructions :
    let s := ctxS c0 (regs 0x100 0x1FFFC)
    Claims.Runs s c0 ∧ Claims.addr s c0 1 4 % 4 = 0 ∧ Claims.addr s c0 1 4 < Claims.ramSize c0 ∧
    Claims.addr s c0 2 0 % 4 = 0 ∧ Claims.addr s c0 2 0 < Claims.ramSize c0 ∧ ((ctxAt s c0).reg 2).toNat < Claims.ramSize c0 ∧
    Claims.addr s c0 1 3 % 4 ≠ 0 ∧ Claims.addr s c0 1 3 % 2 ≠ 0 ∧ Claims.addr s c0 2 4 = Claims.ramSize c0 ∧ Ecc.ok ≠ .uncorrectable ∧
    ((ctxAt (ctxS c0 (regs 2 0x20000)) c0).reg 1).toNat % 4 ≠ 0 ∧
    Claims.ramSize c0 ≤ ((ctxAt (ctxS c0 (regs 2 0x20000)) c0).reg 2).toNat := by
  unfold Claims.Runs; decide +kernel

theorem witness_MemoryExceptions_unmapped : ¬ Claims.Mapped c0 0x20000 ∧ ¬ Claims.Mapped c0 0x200000 ∧ Claims.Mapped c0 0x1FFFFF := by
  unfold Claims.Mapped Claims.ramSize; decide

/-- STW then LDB of the byte at offset 3: little-endian, sign-extended (R9, R442). -/
theorem test_store_and_load :
    let s := after (exec (.stw c0 2 1 0x100) (ctxS c0 (regs 0 0x80665544)))
    (ctxAt (after (exec (.ldb c0 3 1 0x103 .ok) s)) c0).reg 3 = 0xFFFFFF80 ∧
    (ctxAt (after (exec (.ldhu c0 3 1 0x100 .ok) s)) c0).reg 3 = 0x5544 ∧ (ctxAt s c0).pc = 4 := by
  decide +kernel

theorem witness_BranchesAndJumps :
    let s := ctxS c0 (regs 0 7)
    Claims.Runs s c0 ∧ Claims.Apart (ctxAt s c0) ∧ (0 < (2 : Fin 16).val ∧ (2 : Fin 16).val ≤ 8) ∧
    Claims.holds 2 ((ctxAt s c0).reg 2) = true ∧ Claims.holds 2 ((ctxAt s c0).reg 1) = false ∧ Claims.holds 0 ((ctxAt s c0).reg 0) = true ∧
    (coreAt s 0).owner = (ctxAt s c0).etag ∧ (coreAt s 0).owner ≠ (ctxAt (ctxS c0 (fun x => { x with etag := 5 })) c0).etag := by
  unfold Claims.Runs Claims.Apart; decide +kernel

/-- BRL taken (R443, R444): the delay slot is next, g31 is PC + 8; then the slot's commit goes to PC + 4 × offset. -/
theorem test_branch_and_slot :
    let s := after (exec (.brl c0 true 2 2 16) (ctxS c0 (regs 0 7)))
    (ctxAt s c0).pc = 4 ∧ (ctxAt s c0).reg 31 = 8 ∧ (ctxAt (after (exec (.add c0 0 0 0) s)) c0).pc = 64 := by
  decide +kernel

theorem witness_LoopsStart :
    let s := ctxS c0 (regs 3 0)
    Claims.Runs s c0 ∧ Claims.Apart (ctxAt s c0) ∧ ¬ (2 : BitVec 16).toInt < 1 ∧ (0 : BitVec 16).toInt < 1 ∧
    (let x := ctxAt (ctxS c0 (fun x => { x with lct0 := 2, lps0 := 0, lpe0 := 4 })) c0
     x.lct0 ≠ 0 ∧ x.atEnd = false ∧ ¬ (Claims.target x 3).toNat ≤ x.lpe0.toNat) := by
  unfold Claims.Runs Claims.Apart; decide +kernel

/-- Each case of R447: out of a slot, in a handler, both levels at their end, one of them, the last round of each. -/
theorem witness_LoopsAdvance :
    let x := Ctx.reset
    let at1 := fun (y : Ctx) => y.slot = none ∧ y.el = false ∧ y.lct1 ≠ 0 ∧ y.lpe1 = y.pc
    let at0 := fun (y : Ctx) => y.slot = none ∧ y.el = false ∧ y.lct0 ≠ 0 ∧ y.lpe0 = y.pc
    (∃ b, ({ x with slot := some ⟨0, 1, some 64, 0, []⟩ } : Ctx).slot = some b) ∧ ({ x with el := true } : Ctx).el = true ∧
    at1 { x with lct1 := 2 } ∧ (at1 { x with lct1 := 1 } ∧ ¬ at0 { x with lct1 := 1 }) ∧
    (at1 { x with lct1 := 1, lct0 := 2 } ∧ at0 { x with lct1 := 1, lct0 := 2 }) ∧ (at1 { x with lct1 := 1, lct0 := 1 } ∧ at0 { x with lct1 := 1, lct0 := 1 }) ∧
    (¬ at1 { x with lct0 := 2 } ∧ at0 { x with lct0 := 2 }) ∧ (¬ at1 { x with lct0 := 1 } ∧ at0 { x with lct0 := 1 }) ∧
    (¬ at1 x ∧ ¬ at0 x) := by
  refine ⟨⟨_, rfl⟩, ?_⟩; decide

theorem witness_SystemInstructions :
    let s := ctxS c0 id
    let t := ctxS c0 (fun x => { x with task := true })
    let u := onCore 0 (fun c => { c with outq := [⟨0, 0, 0, .pin 0 1⟩] }) s
    Claims.Runs s c0 ∧ Claims.Apart (ctxAt s c0) ∧ (ctxAt s c0).task = false ∧ (ctxAt t c0).task = true ∧ Claims.Runs t c0 ∧ c0.core ≠ 8 ∧
    (∀ o ∈ (coreAt s 0).outq, o.ctx ≠ c0.ctx) ∧ (∃ o ∈ (coreAt u 0).outq, o.ctx = c0.ctx) ∧ Claims.Runs u c0 := by
  unfold Claims.Runs Claims.Apart; decide +kernel

/-- FEND with nothing left to deliver ends the frame (R457). -/
theorem test_fend : (ctxAt (after (exec (.fend c0) (ctxS c0 (fun x => { x with active := true })))) c0).st = .asleep ∧
    (ctxAt (after (exec (.fend c0) (ctxS c0 (fun x => { x with active := true })))) c0).active = false := by
  decide +kernel

theorem witness_SpecialRegisters : Claims.Runs (ctxS c0 id) c0 ∧ (11 : Fin 32).val ≤ 11 ∧ (ctxAt (ctxS c0 id) c0).task = false ∧
    Claims.Runs (ctxS ⟨8, 0, false⟩ id) ⟨8, 0, false⟩ ∧ (ctxAt (ctxS c0 (fun x => { x with task := true })) c0).task = true := by
  unfold Claims.Runs; decide +kernel

/-- SWR then SRD of EPC, and FRAME read: ENTRY, ACTIVE, OVR and SEQ (R439). -/
theorem test_special_registers :
    (ctxAt (after (exec (.srd c0 3 1) (after (exec (.swr c0 2 1) (ctxS c0 (regs 0 0x1234)))))) c0).reg 3 = 0x1234 ∧
    (ctxAt (after (exec (.srd c0 3 11) (ctxS c0 (fun x => { x with entry := 0x123, active := true, seq := 5 })))) c0).reg 3 = 0x00150123 := by
  decide +kernel

theorem witness_ExceptionEntry : Claims.Runs (ctxS c0 id) c0 ∧ (ctxAt (ctxS c0 id) c0).el = false ∧
    Claims.Runs (ctxS c0 (fun x => { x with el := true })) c0 ∧ (ctxAt (ctxS c0 (fun x => { x with el := true })) c0).el = true := by
  unfold Claims.Runs; decide +kernel

/-- TRAP of a core under the baseline policy: vector 0x0001_0400 + 0x20 × 9 (R450, R452). -/
theorem test_trap : (ctxAt (after (exec (.trap c0) (ctxS c0 (fun x => { x with pc := 0x40 })))) c0).pc = 0x10520 ∧
    (ctxAt (after (exec (.trap c0) (ctxS c0 (fun x => { x with pc := 0x40 })))) c0).epc = 0x40 := by
  decide +kernel

theorem witness_DecodeExceptionsAndMemoryErrors :
    let s := ctxS c0 (fun x => { x with slot := some ⟨0, 3, none, 0, []⟩, pc := 4 })
    let t := ctxS c0 (fun x => { x with lct0 := 2, lpe0 := 0 })
    Claims.Runs s c0 ∧ Claims.Runs t c0 ∧ wordDefined c0.isM 0xFC000000 = false ∧ (ctxAt s c0).slot = some ⟨0, 3, none, 0, []⟩ ∧
    (ctxAt t c0).slot = none ∧ (ctxAt t c0).atEnd = true ∧ Claims.Runs (ctxS ⟨8, 0, false⟩ id) ⟨8, 0, false⟩ ∧
    (let u := ctxS c0 (fun x => { x with pc := 0x20000 })
     ctxExists u c0 = true ∧ (ctxAt u c0).st = .running ∧ (ctxAt u c0).wait = .none ∧ 0x20000 ≤ (ctxAt u c0).pc.toNat) ∧
    (ctxAt t c0).el = false ∧ frozen t.io Reg.PLC_MEM_ERR = false := by
  unfold Claims.Runs; decide +kernel

theorem witness_PureOperations :
    let s := ctxS c0 (regs 5 0)
    let t := { s with cache := { s.cache with tsc := [(5, ⟨true, [1, 2, 3, 4], [], [], false, 0, 0⟩)] } }
    let u := ctxS c0 (fun x => { x with wait := .heat 3 5 })
    Claims.Runs s c0 ∧ ((ctxAt s c0).reg 1).toNat < 2 ^ s.hpt.setBits ∧ tscHit s 5 = false ∧ Claims.Runs t c0 ∧ tscHit t 5 = true ∧
    2 ^ s.hpt.setBits ≤ ((ctxAt (ctxS c0 (regs 256 0)) c0).reg 1).toNat ∧ ((ctxAt s c0).reg 2).toNat < 2 ^ 20 ∧
    (0 : Nat) / 256 % 4096 = devId s ∧ Claims.inHome s (Claims.offset 5 0) 1 ∧ u.ok = true ∧ ctxExists u c0 = true ∧
    (ctxAt u c0).wait = .heat 3 5 ∧ (ctxAt u c0).heldPre = false := by
  unfold Claims.Runs Claims.inHome; decide +kernel

/-- A resident way: four clean lines. -/
def wayS : Way := { Way.empty with lines := List.replicate 4 ⟨.clean, 0, false, false, 0⟩ }

/-- HEATRD of a set of which ways 0 and 2 are resident, where the TSC holds it (R467). -/
theorem test_heatrd :
    let s := ctxS c0 (regs 5 0)
    let t := { s with cache := { s.cache with
      tsc := [(5, ⟨true, [1, 2, 3, 4], [false, false, false, false], [0, 0, 0, 0], false, 0, 0⟩)], ways := [(20, wayS), (22, wayS)] } }
    (ctxAt (after (exec (.heatrd c0 3 1 0) t)) c0).reg 3 = 0x00030001 := by
  decide +kernel

theorem witness_EffectingOperations :
    let s := ctxS c0 (regs 5 0)
    let full := onCore 0 (fun c => { c with outq := List.replicate 16 ⟨1, 0, 0, .pin 0 1⟩ }) s
    Claims.Runs s c0 ∧ ((ctxAt s c0).reg 1).toNat < 2 ^ s.hpt.setBits ∧ ((ctxAt s c0).reg 2).toNat < 8 ∧
    Claims.inHome s (Claims.offset 5 0) (0 / 2 ^ 16 % 16 + 1) ∧ (0 : Nat) / 8 % 2 ^ 21 = 0 ∧ (coreAt s 0).outq.length < 16 ∧
    Claims.Runs full c0 ∧ 16 ≤ (coreAt full 0).outq.length ∧ (1 : Fin 32) ≠ 0 := by
  unfold Claims.Runs Claims.inHome; decide +kernel

/-! ### Ticks, policy, registers -/

/-- `Claims.MayWrite` as a computation. -/
def may (s : State) (m : Master) (off w : Nat) : Bool :=
  reaches s m && s.mgt.boot.nvDone && isOwner s m && decide (s.mgt.own.handover = none) && !absentReg s.part off &&
    (!lockable off || decide (fldOf s.io (pageOf off + 12) 0 0 ≠ 1)) && !hitsRsv off (regOf s.io off).toNat w

theorem may_write {s : State} {m : Master} {off w : Nat} : may s m off w = true ↔ Claims.MayWrite s m off w := by
  simp only [may, Claims.MayWrite, Bool.and_eq_true, Bool.or_eq_true, Bool.not_eq_true', decide_eq_true_eq, ne_eq]
  cases lockable off <;> simp [and_assoc]

theorem witness_TicksActInOrder : ticking up = true ∧ up.epochEnd = some 12500 := by decide +kernel

/-- R31, step 1: the tick is counted and its TB recorded; the next one is PERIOD × 10 ns later (R35). -/
theorem test_tick : (after (exec (.epochTick []) up)).epochCnt = 1 ∧ (after (exec (.epochTick []) up)).tickLast = 12500 ∧
    (after (exec (.epochTick []) up)).epochEnd = some 22500 := by
  decide +kernel

theorem witness_FramesStartAtTheTick :
    let f := fun (st : CtxSt) (a sh : Bool) => ctxAt (onCtx c0 (fun x => { x with st := st, active := a, shadow := sh }) up) c0
    up.ok = true ∧ ctxExists up c0 = true ∧ ((f .asleep false false).active = false ∧ (f .asleep false false).st = .asleep) ∧
    (f .stopped false false).st ≠ .asleep ∧ ((f .running true false).active = true ∧ (f .running true false).shadow = false) ∧
    ((f .running true true).shadow = true ∧ (f .running true true).st = .running) := by
  decide +kernel

theorem witness_PolicyEngine_delivery_and_flush :
    let o : OutOp := ⟨0, 0, 0, .hint 5 1 true 0⟩
    let s := onCore 0 (fun c => { c with outq := [o] }) up
    let t := ctxS c0 (fun x => { x with etag := 5 })
    (coreAt s 0).outq = [o] ∧ t.ok = true ∧ ctxExists t c0 = true ∧ (ctxAt t c0).st = .running ∧ (coreAt t 0).owner ≠ (ctxAt t c0).etag := by
  decide +kernel

/-- R470, R481: a delivered HINT_WRITE stores the hint of its set. -/
theorem test_cp3_delivery :
    let s := onCore 0 (fun c => { c with outq := [⟨0, 7, 0, .hint 5 1 true 0⟩] }) up
    (after (exec (.cp3Delivery 0) s)).plc.hints = [(5, ⟨0, 1, true, 7, 0⟩)] ∧ (coreAt (after (exec (.cp3Delivery 0) s)) 0).outq = [] := by
  decide +kernel

theorem witness_PolicyEngine_prefetch_and_stream :
    let p : PfEnt := ⟨5, 1, 2, 0⟩
    let s := onCtx c0 (fun x => { x with issue := [p] }) up
    let v : SprEnt := ⟨9, 3, false, false⟩
    let t0 := onCtx c0 (fun x => { x with wait := .stream 3 }) up
    let t := { t0 with plc := { t0.plc with table := [v] } }
    s.cache.shed < 2 ∧ running s = true ∧
    (rrOrder (4 * coreCount s) s.plc.rrCtx).find? (fun i => !(ctxAt s ⟨i / 4, i % 4, false⟩).issue.isEmpty) = some 0 ∧
    (ctxAt s ⟨0 / 4, 0 % 4, false⟩).issue = [p] ∧ t.ok = true ∧ ctxExists t c0 = true ∧ (ctxAt t c0).wait = .stream 3 ∧
    (ctxAt t c0).heldPre = false ∧ t.plc.table = [v] := by
  decide +kernel

theorem witness_PolicyTimers :
    let s := { up with cache := { up.cache with shedAt := some 5 } }
    let k := onCore 0 (fun c => { c with due := true, baseline := false, ring := [⟨9, 3, false, false⟩] }) up
    s.cache.shedAt = some 5 ∧ k.ok = true ∧ 0 < coreCount k ∧ (coreAt k 0).due = true ∧ (coreAt k 0).baseline = false ∧
    running k = true ∧ (coreAt k 0).ring ≠ [] ∧ running (ctxS c0 id) = true ∧ c0 ∈ policyCtxs (ctxS c0 id) ∧
    (coreAt (ctxS c0 id) 0).baseline = true ∧ (ctxAt (ctxS c0 id) c0).st ≠ .notStarted ∧ (ctxS c0 id).plc.passLeft = 0 := by
  decide +kernel

/-- R92: the second step 1 µs after the first. -/
theorem test_shed : (after (exec .shedStepEscalate { up with cache := { up.cache with shed := 1, shedAt := some 4000 } })).cache.shed =
    2 := by
  decide +kernel

/-- Another master's registers reads: host port 0 reaches them and is not the owner. -/
def hm0 : Master := .hm 0

theorem witness_RegisterWrites :
    Claims.MayWrite up .sb Reg.LDG_CAP 12288 ∧ regThere Reg.LDG_CAP = true ∧ Reg.LDG_CAP < 0x400000 ∧ Reg.LDG_CAP % 4 = 0 ∧
    freeReg Reg.LDG_CAP = false ∧ calGuard up Reg.LDG_CAP = false ∧ 0x40 ≤ Reg.LDG_CAP % 4096 ∧
    dataWrite Reg.LDG_CAP (newWord up.part Reg.LDG_CAP (regOf up.io Reg.LDG_CAP).toNat 12288) up = none ∧
    up.ok = true ∧ reaches up hm0 = true ∧ up.mgt.boot.nvDone = true ∧ isOwner up hm0 = false ∧ absentReg up.part Reg.LDG_CAP = false ∧
    frozen up.io Reg.MGT_NONOWNER_WR = false ∧
    (Reg.FAB_ERR_CNT + 8 < 0x400000 ∧ (Reg.FAB_ERR_CNT + 8) % 4 = 0 ∧ absentReg .pm (Reg.FAB_ERR_CNT + 8) = true) := by
  simp only [← may_write]; decide +kernel

/-- 16_management.md, worked example, steps 3 and 5: a write of LDG.CAP by a master that is not the owner is counted, the owner's is stored. -/
theorem test_register_write :
    fld (after (exec (.registerWrite hm0 Reg.LDG_CAP 4 12288) up)) Reg.MGT_NONOWNER_WR 15 0 = 1 ∧
    fld (after (exec (.registerWrite .sb Reg.LDG_CAP 4 12288) up)) Reg.LDG_CAP 14 0 = 12288 := by
  decide +kernel

theorem witness_EpochWrites : up.ok = true ∧ up.epochEnd = some 12500 ∧
    Claims.MayWrite up .sb Reg.CTR_EPOCH 250 ∧ fld up Reg.CTR_EPOCH 13 0 ≠ 250 ∧ Claims.MayWrite up .sb Reg.CTR_EPOCH 0x103E8 ∧
    fld up Reg.CTR_EPOCH 13 0 = 1000 ∧ (0x103E8 : Word).toNat / 2 ^ 16 % 2 = 1 ∧ fld up Reg.CTR_EPOCH 16 16 = 0 ∧
    Claims.MayWrite up .sb Reg.CTR_EPOCH 1000 ∧ ¬ (1000 : Word).toNat / 2 ^ 16 % 2 = 1 ∧
    (let late := { up with tb := 6000 }
     Claims.MayWrite late .sb Reg.CTR_EPOCH 250 ∧ fld late Reg.CTR_EPOCH 13 0 ≠ 250 ∧ late.epochAt + 10 * 250 ≤ late.tb ∧ ticking late = true) := by
  simp only [← may_write]; decide +kernel

/-- R36, R37: from a tick at 2,500 a period of 500 ends the epoch at 7,500; PHASE_LOCK moves its end to the next multiple of 10,000. -/
theorem test_epoch_writes : (after (exec (.epochPeriodWrite .sb 500) up)).epochEnd = some 7500 ∧
    (after (exec (.phaseLockWrite .sb 0x103E8) up)).epochEnd = some 10000 := by
  decide +kernel

theorem witness_LedgerAndCacheCommands :
    let cal := { up with ldg := { up.ldg with cal := some ⟨1, 0⟩ } }
    let w := { up with fab := { up.fab with waiting := [3] } }
    Claims.MayWrite up .sb Reg.LDG_CAP 100 ∧ up.ldg.closed = false ∧ Claims.MayWrite up .sb Reg.LDG_CTL 1 ∧ Claims.MayWrite up .sb Reg.LDG_CAL_CMD 1 ∧
    running up = true ∧ up.ldg.cal = none ∧ Claims.MayWrite cal .sb Reg.LDG_CAL_CMD 2 ∧ cal.ldg.cal ≠ none ∧
    Claims.MayWrite up .sb Reg.TAG_PRED_FLUSH 1 ∧ Claims.MayWrite up .sb Reg.TAG_PRED_FLUSH 2 ∧ Claims.MayWrite up .sb Reg.CCH_TRAIN_CMD 1 ∧
    Claims.MayWrite w .sb Reg.COH_FHB_CMD 1 ∧ ¬ (w.fab.waiting = [] ∧ w.fab.marks = []) := by
  simp only [← may_write]; decide +kernel

theorem witness_AddressMapCommands :
    let p := { up with hpt := { up.hpt with pend := some (3, 3) } }
    let n := setAt up.hpt.ports 0 fun x => { x with hdm := [none, none, none, none] }
    let e := { up with hpt := { up.hpt with ports := n } }
    Claims.MayWrite up .sb Reg.COH_HMAP_DATA 0 ∧ up.hpt.pend = none ∧ (HmapE.ofWord 0).valid = false ∧ (HmapE.ofWord 3).valid = true ∧
    (hmapEntry { up with hpt := { up.hpt with hmap := [(0, ⟨false, true, 0, 0⟩)] } } 0).valid = false ∧
    ((HmapE.ofWord 0x13).valid = true ∧ (hmapEntry up 0).valid = true ∧ HmapE.ofWord 0x13 ≠ hmapEntry up 0) ∧
    p.hpt.pend = some (3, 3) ∧ trackedWays p 3 = [] ∧ (∀ b ∈ p.cache.bis, b.sk / 2 ^ 28 ≠ 3) ∧
    (∀ t ∈ p.cache.txns, t.held = true → t.sk / 2 ^ 28 ≠ 3) ∧ serves e 0 = true ∧ (port e 0).walk = [] ∧ (port e 0).hdm.getD 3 none = none ∧
    hdmOk (port e 0) 3 dec = true ∧ hdmLocked (port e 0) 3 = false ∧ hdmOk (port e 0) 3 { dec with ways := 5 } = false ∧ serves up 0 = true ∧ (port up 0).hdm.getD 0 none = some { dec with committed := true } ∧
    hdmLocked (port up 0) 0 = false := by
  simp only [← may_write]; decide +kernel

/-- R44, R45: a decoder of 5 ways is not committed. -/
theorem test_hdm_ways : (after (exec (.hdmDecoderCommit 0 1 { dec with hpa := 2 ^ 40, ways := 5, da := 2 ^ 40 }) up)).hpt.ports = up.hpt.ports := by
  decide +kernel

theorem witness_BankAndLinkCommands :
    let b := fun (st : BankSt) => onBank 3 (fun x => { x with st := st, present := true }) up
    let f := fun (st : LinkSt) => onFPort 3 (fun x => { x with st := st }) up
    (3 < 4) ∧ Claims.MayWrite (b .holding) .sb Reg.RSV_SVC_CMD (2 ^ 3) ∧ (b .holding).ok = true ∧ (bank (b .holding) 3).st = .holding ∧
    ((bank (b .ready) 3).st ≠ .absent ∧ (bank (b .ready) 3).present = true) ∧
    (Claims.MayWrite (b .isolated) .sb Reg.RSV_SVC_CMD (16 * 2 ^ 3) ∧ (bank (b .isolated) 3).fault ≠ .present ∧ bankEn (b .isolated) 3 = true) ∧
    (Claims.MayWrite (f .up) .sb Reg.FAB_LINK_CMD (2 ^ 3) ∧ 3 < fabPortCount up ∧ flag up Reg.FAB_LINK_CFG 3 = true ∧ (fport (f .up) 3).st = .up) ∧
    (fport (f .down) 3).st = .down ∧ Claims.MayWrite (f .up) .sb Reg.FAB_LINK_CMD (16 * 2 ^ 3) := by
  simp only [← may_write]; decide +kernel

theorem witness_LocksAndKeys :
    let k := { up with mgt := { up.mgt with boot := { up.mgt.boot with mcf := some Image.factoryMcf, keyUsed := 2 } } }
    up.ok = true ∧ Claims.MayWrite up .sb Reg.SEC_ASSIGN_LOCK 1 ∧ Claims.MayWrite up .sb Reg.SEC_DEBUG_CTL 1 ∧
    regThere (pageOf Reg.MGT_OWN_CFG + 12) = true ∧ Claims.MayWrite up .sb (pageOf Reg.MGT_OWN_CFG + 12) 1 ∧
    hitsRsv Reg.SEC_FW_KEY_REVOKE (regOf k.io Reg.SEC_FW_KEY_REVOKE).toNat (15 : Fin 16).val = false ∧ k.mgt.boot.mcf ≠ none := by
  simp only [← may_write]; decide +kernel

/-- R561: of the keys asked for, those with an index below the one in use are revoked. -/
theorem test_revoke :
    let k := { up with mgt := { up.mgt with boot := { up.mgt.boot with mcf := some Image.factoryMcf, keyUsed := 2 } } }
    (after (exec (.fwKeyRevoke 15) k)).sec.revoked = [0, 1] := by
  decide +kernel

/-- No owner; port 1 owned by its host; a handover open. -/
def vacant : State := { up with mgt := { up.mgt with own := { up.mgt.own with owner := none } } }
def offered : State := { up with mgt := { up.mgt with own := { up.mgt.own with handover := some (hm0, 3000) } } }

theorem witness_OwnershipCommands :
    (reaches vacant hm0 = true ∧ vacant.rsv.pst = .run ∧ (0x6400 : Word).toNat % 8 = hm0.id ∧ 0 < (0x6400 : Word).toNat / 256 % 256 ∧
      mayOwn vacant hm0 = true ∧ vacant.mgt.own.owner = none ∧ vacant.mgt.own.handover = none ∧ vacant.mgt.boot.nvDone = true) ∧
    (reaches up hm0 = true ∧ mayOwn up hm0 = true ∧ up.mgt.own.owner = some .sb ∧ Master.sb ≠ hm0 ∧ flag up Reg.MGT_OWN_CFG 6 = true) ∧
    flag { up with io := putReg up.io Reg.MGT_OWN_CFG 0x13 } Reg.MGT_OWN_CFG 6 = false ∧
    (hitsRsv Reg.MGT_OWN_CLAIM (regOf vacant.io Reg.MGT_OWN_CLAIM).toNat (0x6400 : Word).toNat = false ∧
      hitsRsv Reg.MGT_OWN_CLAIM (regOf up.io Reg.MGT_OWN_CLAIM).toNat (0x6400 : Word).toNat = false ∧
      hitsRsv Reg.MGT_OWN_HB (regOf up.io Reg.MGT_OWN_HB).toNat (0 : Word).toNat = false ∧
      hitsRsv Reg.MGT_OWN_YIELD (regOf up.io Reg.MGT_OWN_YIELD).toNat (8 : Word).toNat = false ∧
      hitsRsv Reg.MGT_OWN_YIELD (regOf up.io Reg.MGT_OWN_YIELD).toNat (0 : Word).toNat = false ∧ up.rsv.pst = .run ∧ up.mgt.boot.nvDone = true) ∧
    (reaches up .sb = true ∧ isOwner up .sb = true ∧ (8 : Word).toNat / 8 % 2 = 1 ∧ (0 : Word).toNat / 8 % 2 = 0 ∧
      masterOf ((0 : Word).toNat % 8) = some hm0 ∧ mayOwn up hm0 = true) ∧
    up.mgt.own.owner ≠ none ∧ offered.mgt.own.handover = some (hm0, 3000) := by
  decide +kernel

/-- 16_management.md, worked example, steps 8 and 9: the lapse 300 ms after the last heartbeat, and the claim at priority 200. -/
theorem test_lapse_and_claim :
    (after (exec .ownerLapse up)).tb = 300002000 ∧
    (after (exec (.ownClaim hm0 0xC800) (after (exec .ownerLapse up)))).mgt.own.owner = some hm0 := by
  decide +kernel

theorem witness_ConfigurationAndResetCommands :
    let a := { up with mgt := { up.mgt with nv := { up.mgt.nv with armed := some (.sb, 3000) } } }
    Claims.MayWrite up .sb Reg.MGT_CFG_CMD 1 ∧ up.mgt.nv.job = none ∧ Claims.MayWrite up .sb Reg.MGT_CFG_CMD 2 ∧ up.mgt.nv.armed = none ∧
    Claims.MayWrite a .sb Reg.MGT_CFG_CMD 2 ∧ a.mgt.nv.armed = some (.sb, 3000) ∧ a.tb ≤ 3000 + 1000000000 ∧
    Claims.MayWrite up .sb Reg.MGT_RESET_CMD 0x57520001 ∧ Claims.MayWrite up .sb Reg.MGT_RESET_CMD 0x57520005 ∧ running up = true ∧
    up.mgt.boot.drain = none ∧ up.mgt.boot.release = none ∧ Claims.MayWrite up .sb Reg.MGT_RESET_CMD (0x57520002 + 16 * 11) ∧
    Claims.MayWrite up .sb Reg.MGT_RESET_CMD (0x57520002 + 16 * 3) ∧ Claims.MayWrite up .sb Reg.MGT_RESET_CMD (0x57520002 + 16 * 15) := by
  simp only [← may_write]; decide +kernel

/-- Two entries in the queue, of which one has been read. -/
def queued : State :=
  let e : QEntry := ⟨1, 0x4001, .error, true, false, 0, 10, 0, .count, 0, 0⟩
  { up with io := { putReg up.io Reg.EVT_Q_SEQ 1 with
    q := [e, { e with seq := 2, read := false }], nextSeq := 3, markOn := true, markSet := [1] } }

theorem witness_QueueCommands : queued.ok = true ∧ Claims.MayWrite queued .sb Reg.EVT_Q_CMD 1 ∧ Claims.MayWrite queued .sb Reg.EVT_Q_CMD 2 ∧
    Claims.MayWrite queued .sb Reg.EVT_Q_CMD 3 ∧ Claims.MayWrite queued .sb Reg.EVT_Q_CMD 4 ∧
    (queued.io.q.map (·.seq)).contains (regOf queued.io Reg.EVT_Q_SEQ).toNat = true := by
  simp only [← may_write]; decide +kernel

/-- 18_events_telemetry.md, worked example, steps 5 and 6: REWIND makes what was read unread; RELEASE_ALL_READ frees what is read. -/
theorem test_queue_commands : ((after (exec (.rewind .sb) queued)).io.q.map (·.read)) = [false, false] ∧
    ((after (exec (.releaseAllRead .sb) queued)).io.q.map (·.seq)) = [2] ∧ ((after (exec (.release .sb) queued)).io.q.map (·.seq)) = [2] := by
  decide +kernel

/-! ### Hosts -/

/-- Port 0 of `up` decodes HPA 0x1000 to sector 0x10 of this device. -/
theorem lands : Claims.Lands up 0 0x1000 0 0x1000 0x10 := by unfold Claims.Lands; refine ⟨?_, ?_, ?_⟩ <;> first | decide +kernel | rfl

/-- `up` with sector 0x10 resident in way 0 of its set, held by port 0. -/
def held : State := { up with cache := { up.cache with ways := [(4 * 16, wayS)] } }

theorem maps : mapDa up 0x1000 = .ok 0x10 := rfl

theorem witness_HostReads : Claims.Asks up 0 ∧ Claims.Lands up 0 0x1000 0 0x1000 0x10 ∧ decodeAt up 0 (2 ^ 40) = none :=
  ⟨by unfold Claims.Asks; decide +kernel, lands, by decide +kernel⟩

/-- R54: a read that no decoder maps returns poisoned zeros with EV_HOME_UNMAPPED. -/
theorem test_unmapped_read :
    (after (exec (.memRd 0 7 (2 ^ 40) .a true .none) up)).io.out.head? = some (.cxl 0 7 "MemData" none true) ∧
    ((after (exec (.memRd 0 7 (2 ^ 40) .a true .none) up)).io.q.map (·.code)) = [0x8020] := by
  decide +kernel

/-- A BISnp outstanding to port 0. -/
def snooping (tries : Nat) (dat : Bool) : State :=
  { held with cache := { held.cache with bis := [⟨0, 0x10, 0, dat, 64, 0x1000, some 3000, tries, false, false⟩] } }

theorem lands_held : Claims.Lands held 0 0x1000 0 0x1000 0x10 := by
  unfold Claims.Lands; refine ⟨?_, ?_, ?_⟩ <;> first | decide +kernel | rfl

theorem witness_HostNotices : Claims.Asks held 0 ∧ Claims.Lands held 0 0x1000 0 0x1000 0x10 ∧ findWay held 0x10 = some 64 ∧
    Claims.Asks up 0 ∧ findWay up 0x10 = none ∧ up.cache.shed = 0 ∧ poolUse up .internal < 2048 ∧
    (let w := { up with cache := { up.cache with shed := 1 } }
     Claims.Asks w 0 ∧ Claims.Lands w 0 0x1000 0 0x1000 0x10 ∧ 0 < w.cache.shed) :=
  ⟨by unfold Claims.Asks; decide +kernel, lands_held, by decide +kernel, by unfold Claims.Asks; decide +kernel, by decide +kernel,
    by decide +kernel, by decide +kernel, by unfold Claims.Asks; decide +kernel,
    by unfold Claims.Lands; refine ⟨?_, ?_, ?_⟩ <;> first | decide +kernel | rfl, by decide⟩

theorem witness_HostWrites :
    let s := { up with hpt := { up.hpt with ports := setAt up.hpt.ports 0 fun p => { p with head := 0 } } }
    let f := { up with rsv := { up.rsv with pst := .geyser } }
    Claims.WriteAsks up 0 ∧ Claims.Lands up 0 0x1000 0 0x1000 0x10 ∧ findWay up 0x10 = none ∧
    (Claims.WriteAsks (snooping 0 true) 0 ∧ findWay (snooping 0 true) 0x10 = some 64 ∧
      biFind (snooping 0 true) 0 0x10 (0x1000 / 64 % 4) = some ⟨0, 0x10, 0, true, 64, 0x1000, some 3000, 0, false, false⟩) ∧
    (0 < portCount s ∧ (port s 0).up = true ∧ absorbs s = true ∧ (port s 0).head = 0) ∧ ((port f 0).up = true ∧ absorbs f = false) :=
  ⟨by unfold Claims.WriteAsks; decide +kernel, lands, by decide +kernel, by unfold Claims.WriteAsks; decide +kernel, by decide +kernel, by decide +kernel⟩

theorem witness_AtomicCommands :
    let t := { Txn.blank with id := 3, kind := .atomic word4, ph := .alu 64 }
    let s := { held with cache := { held.cache with txns := [t] } }
    let a := { Txn.blank with id := 3, kind := .append 8, ph := .alu 64 }
    let g := { held with cache := { held.cache with txns := [a] } }
    let l := { held with cache := { held.cache with txns := [{ Txn.blank with id := 4, ph := .probe [0, 1, 2, 3], prio := 2 }] } }
    mapDa up 0x1004 = .ok 0x10 ∧ (0x1004 < bar4Size up ∧ txnAt g 3 = some a ∧ wtRoom g (appendNeeds g a) = true ∧ (nextPromoted l).isSome = true) ∧
    offers up 0 = true ∧ pcieAtomic ⟨.swap, 4, 0, 1, 0⟩ = true ∧ 0x1002 % 4 ≠ 0 ∧ 0x1004 % 4 = 0 ∧
    txnAt s 3 = some t ∧ t.ph = .alu 64 ∧ t.kind = .atomic word4 :=
  ⟨rfl, by decide +kernel⟩

/-- R105: a misaligned AtomicOp gets Completer Abort; R84: anything else of BAR4 Unsupported Request. -/
theorem test_bar4 : (after (exec (.atomicOp 0 7 0x1002 ⟨.swap, 4, 0, 1, 0⟩) up)).io.out.head? = some (.cxl 0 7 "CA" none false) ∧
    (after (exec (.bar4NonAtomic 0 7 0x1000) up)).io.out.head? = some (.cxl 0 7 "UR" none false) := by
  decide +kernel

theorem witness_BackInvalidation_and_links :
    let d := { up with hpt := { up.hpt with ports := setAt up.hpt.ports 0 fun p => { p with up := false } } }
    let i := { up with sec := { up.sec with ideMem := [(0, ⟨true, false, false, 0⟩)] } }
    biAt (snooping 0 true) 0 0x1000 = some ⟨0, 0x10, 0, true, 64, 0x1000, some 3000, 0, false, false⟩ ∧
    biAt (snooping 3 false) 0 0x1000 = some ⟨0, 0x10, 0, false, 64, 0x1000, some 3000, 3, false, false⟩ ∧
    (0 < fld up Reg.COH_BI_CFG 23 22 ∧ fld up Reg.COH_BI_CFG 23 22 ≤ 3) ∧ (0 < portCount up ∧ (port up 0).up = true) ∧
    (d.mgt.boot.linksOn = true ∧ running d = true ∧ (port d 0).up = false ∧ 0 < d.hpt.ports.length) ∧
    tblFind i.sec.ideMem 0 = some ⟨true, false, false, 0⟩ := by
  decide +kernel

/-- R85: the credits of a link that comes up. R218: a conflict is acknowledged at once. -/
theorem test_links :
    (port (after (exec (.hostLinkUp 1 16 true 8) up)) 1).req = 512 ∧ (port (after (exec (.hostLinkUp 1 16 true 8) up)) 1).rwd = 256 ∧
    (after (exec (.biconflict 0 9 0x1000) up)).io.out.head? = some (.cxl 0 9 "BIConflictAck" none false) ∧
    (port (after (exec (.hpLinkDown 0 false) up)) 0).up = false := by
  decide +kernel

/-! ### Mailboxes -/

/-- `up` with the host of port 0 as owner, two SPDM sessions on port 0 (1 established), an IDE stream, an escrow area and a media key. -/
def mail : State :=
  { up with
    mgt := { up.mgt with own := { up.mgt.own with owner := some hm0 } }
    sec := { up.sec with
      sessions := [⟨1, 0, true, 0, 0, 0⟩, ⟨2, 0, false, 0, 0, 0⟩], ideIo := [(0, ⟨true, true, false, 0⟩)], ideMem := [(0, ⟨true, true, false, 1⟩)]
      area := some ⟨1, 55, [(0, ⟨3, 7, none⟩)], []⟩, media := [(0, ⟨3, 7, none⟩)] } }

theorem owns : Claims.Mail mail 0 ∧ Claims.Owns mail 0 := by unfold Claims.Mail Claims.Owns; decide +kernel

theorem trailed : Claims.Trailed mail 0 trailer := by
  refine ⟨rfl, ⟨⟨1, 0, true, 0, 0, 0⟩, ?_⟩, ?_⟩ <;> decide +kernel

theorem witness_MailboxReports : mail.ok = true ∧ Claims.Mail mail 0 := ⟨by decide +kernel, owns.1⟩

/-- R80: the capacity is D_SIZE and the volatile capacity 0. -/
theorem test_identify : Out.mbox 0 0x4000 "SUCCESS" (payloadOf [(8, 2 ^ 30), (8, 0), (8, 2 ^ 28)]) ∈ (after (exec (.identifyMemoryDevice 0) mail)).io.out := by
  decide +kernel

theorem witness_MailboxOwnerCommands : Claims.Mail mail 0 ∧ Claims.Owns mail 0 ∧ mapDa mail 0x1000 = .ok 0x10 ∧
    ((1 : Nat) ≤ 1 ∧ Image.factoryMcf.typ = 1 ∧ mail.mgt.boot.transfer = none) ∧
    (let f := { mail with mgt := { mail.mgt with flash := { mail.mgt.flash with
       mcfB := some Image.factoryMcf, pcfB := some Image.factoryMcf, pcfA := some Image.factoryMcf } } }
     let n := { f with io := putReg f.io Reg.SEC_DMA_ATTR 0 }
     Claims.Mail f 0 ∧ Claims.Owns f 0 ∧ (inactive 1 false f.mgt.flash).isSome = true ∧ (inactive 2 false f.mgt.flash).isSome = true ∧
       dmaSecure f 16 = true ∧ Claims.Mail n 0 ∧ Claims.Owns n 0 ∧ (inactive 1 false n.mgt.flash).isSome = true ∧ dmaSecure n 16 = false) ∧
    (let t := { mail with mgt := { mail.mgt with boot := { mail.mgt.boot with transfer := some 0 } } }
     Claims.Mail t 0 ∧ Claims.Owns t 0 ∧ dmaSecure t 16 = true ∧ t.mgt.boot.transfer = some 0) ∧
    (bgBusy mail 0 = false ∧ dmaSecure mail 16 = true) ∧ isOwner up (mailboxOf 0) = false ∧ Claims.Mail up 0 := by
  unfold Claims.Mail Claims.Owns
  refine ⟨?_, ?_, rfl, ?_⟩ <;> decide +kernel

/-- R95: a host that is not the owner cannot inject poison; the owner can, and the list holds the line (R111). -/
theorem test_inject_poison :
    Out.mbox 0 0x4301 "NOT_OWNER" [] ∈ (after (exec (.injectPoison 0 0x1040) up)).io.out ∧
    (after (exec (.injectPoison 0 0x1040) mail)).cache.poison = [0x41] := by
  decide +kernel

theorem witness_ReserveControl :
    Claims.Mail mail 0 ∧ Claims.Owns mail 0 ∧ bgBusy mail 0 = false ∧ (1 : Nat) ≠ 0 ∧
    (RsvFault.gate ∉ up.rsv.faults ∧ RsvFault.noBank ∉ up.rsv.faults ∧ noBank up = true) ∧
    (let f := { up with rsv := { up.rsv with
       faults := [.gate, .noBank, .adc], banks := setAt up.rsv.banks 0 fun b => { b with st := .ready, present := true } } }
     RsvFault.gate ∈ f.rsv.faults ∧ RsvFault.noBank ∈ f.rsv.faults ∧ noBank f = false ∧ RsvFault.adc ∈ f.rsv.faults ∧ f.rsv.adcFails < 3) :=
  ⟨owns.1, owns.2, by decide +kernel, by decide, by decide +kernel, by decide +kernel⟩

/-- R367: RESERVE_CTL ARM sets the arming bit. R368: a gate fault raises EV_RSV_FAULT. -/
theorem test_reserve : fld (after (exec (.reserveArm 0 0) mail)) Reg.LDG_CTL 0 0 = 1 ∧
    ((after (exec .rsvGateFault up)).io.q.map (·.code)).head? = some 0xE008 := by
  decide +kernel

/-- `mail` in Tamper-Lock, with the media set found. -/
def locked : State := { mail with sec := { mail.sec with lock := 1, media := [] } }

theorem witness_KeysAndSessions_escrow :
    (serves locked 0 = true ∧ locked.mgt.boot.mode ≠ 2 ∧ Claims.Owns locked 0 ∧ ioSecured locked 0 = true ∧ locked.sec.lock ≠ 0 ∧
      locked.sec.ready = true ∧ locked.mgt.boot.mediaDone = true ∧ locked.mgt.nv.escUntil ≤ locked.tb ∧ locked.sec.unlock = none ∧ members locked ≠ [] ∧
      locked.sec.area = some ⟨1, 55, [(0, ⟨3, 7, none⟩)], []⟩) ∧
    (let w := { locked with sec := { locked.sec with unlock := some 0 } }
     w.sec.unlock = some 0 ∧ w.sec.areaQ = []) ∧
    (mail.sec.ready = true ∧ ioSecured mail 0 = true ∧ mail.mgt.nv.escUntil ≤ mail.tb ∧ opRuns mail 0 0xC030 = false ∧ mail.sec.area.isSome = true ∧ areaEscrow mail = 55) ∧
    (let w := { up with mgt := { up.mgt with nv := { up.mgt.nv with escUntil := 9000 } } }
     w.tb < w.mgt.nv.escUntil) := by
  unfold Claims.Owns; decide +kernel

theorem witness_KeysAndSessions_trailer : Claims.Trailed locked 0 trailer ∧ Claims.Trailed mail 0 trailer :=
  ⟨⟨rfl, ⟨⟨1, 0, true, 0, 0, 0⟩, by decide +kernel⟩, by decide +kernel⟩, trailed⟩

theorem witness_KeysAndSessions_enclaves :
    let d := { mail with sec := { mail.sec with ranges := [(0, ⟨0, 3, 5, .active⟩)] } }
    newRanges mail 5 [(0, 16384)] = .ok [(0, 16383)] ∧ (enclaveBusy mail 0 Mb.create 5 = false ∧ mayBind mail 5 (0, 0) = true) ∧
    (Claims.Mail d 0 ∧ Claims.Owns d 0 ∧ enclaveBusy d 0 Mb.destroy 5 = false ∧ d.sec.ranges.any (·.2.encl == 5) = true) ∧
    (mail.med.jrnl.rot = none ∧ opRuns mail 0 0xC033 = false ∧ tblFind mail.sec.media 0 = some ⟨3, 7, none⟩) ∧
    ({ trailer with macOk := false } : Trailer).macOk = false := by
  refine ⟨rfl, ?_⟩; unfold Claims.Mail Claims.Owns; decide +kernel

/-- R560: the first mismatch is counted and begins no wait; the fourth begins one of 10 s. -/
theorem test_escrow_mismatch :
    let l := { locked with mgt := { locked.mgt with nv := { locked.mgt.nv with escFails := 3 } } }
    (after (exec (.keyEscrowUnlock 0 56 [] trailer) locked)).mgt.nv.escFails = 1 ∧
    (after (exec (.keyEscrowUnlock 0 56 [] trailer) l)).mgt.nv.escUntil =
      10000003777 := by
  decide +kernel

theorem witness_RangeAndDataCommands :
    let o : RangeOp := {
      port := 0, opcode := Mb.zalloc, stage := 1, segs := [(16, 17)], all := [(16, 17)], encl := 0, setEncl := none
      binds := [], status := [], waits := [], flushing := [] }
    let s := { up with cache := { up.cache with ops := [o] } }
    let q := { o with segs := [(2 ^ 40, 2 ^ 40 + 1)] }
    let m := { up with cache := { up.cache with ops := [q] } }
    (s.cache.ops.find? (fun o => o.port == 0 && o.stage == 1 && !o.segs.isEmpty && (o.opcode == 0xC000 || o.setEncl.isSome)) = some o ∧
      o.opcode ∉ [0xC001, 0xC002, 0xC003, 0xC005] ∧ mapDa s (256 * 16) = .ok 0x10 ∧ q.setEncl = none ∧
      (∃ why, mapDa m (256 * 2 ^ 40) = .error why) ∧ Claims.Mail s 0) ∧
    Claims.Mail up 0 ∧ (100 : Nat) % 256 ≠ 0 ∧ bgBusy up 0 = false ∧ bgBusy s 0 = true ∧ (opSector o s).isSome = true ∧
    (mailAtomic word4 = true ∧ 0x1000 % word4.width = 0 ∧ 0x1002 % word4.width ≠ 0 ∧
      mailAtomic ⟨.add, 16, 0, 1, 0⟩ = false ∧ 0x1000 % 64 = 0 ∧ 0x1010 % 64 ≠ 0) ∧
    (let n := { mail with sec := { mail.sec with ready := false } }
     Claims.Mail n 0 ∧ Claims.Owns n 0 ∧ n.sec.ready = false) := by
  unfold Claims.Mail Claims.Owns
  refine ⟨⟨rfl, by decide, rfl, rfl, ⟨_, rfl⟩, ?_⟩, ?_⟩ <;> decide +kernel

/-- R95: bounds inside a sector are refused. R101: with nothing sent before it a DFENCE completes at once. -/
theorem test_ranges_and_fences :
    Out.mbox 0 0xC002 "INVALID_INPUT" [] ∈ (after (exec (.pin 0 100 256 none) up)).io.out ∧
    Out.mbox 0 0xC010 "SUCCESS" [] ∈ (after (exec (.dfence 0 0) up)).io.out := by
  decide +kernel

theorem witness_FenceCommands :
    let full := { up with cache := { up.cache with fences := List.replicate 16 ⟨true, 0, [(0, 5)], .doorbell 1 false⟩ } }
    Claims.Mail up 0 ∧ bgBusy up 0 = false ∧ (2 : Nat) ≤ 2 ∧ offers up 0 = true ∧ doorbells up 0 < 16 ∧ offers full 0 = true ∧
    16 ≤ doorbells full 0 ∧ serves up 0 = true ∧ Claims.Mail up 0 := by
  unfold Claims.Mail; decide +kernel

theorem witness_KeysAndSessions_stage :
    let items := [(0, 0, 3)]
    items ≠ [] ∧ items.length ≤ 64 ∧ (∀ i ∈ items, (stageItem i).isSome = true) ∧ mail.mgt.nv.job = none ∧
    (bankSlots mail mail.mgt.nv.cur).length + items.length + 1 ≤ 6656 ∧
    (∃ q, q < 4 ∧ portCount mail = 4 ∧
      nvGet ((items.filterMap stageItem).foldl (fun t r => nvRecord t (.change r.1 r.2.1 r.2.2)) (nvStored mail)) (NvT.assign + q) % 4 = 0) := by
  decide +kernel

theorem witness_RangeAndDataCommands_format :
    let n := { mail with med := { mail.med with ports := [] } }
    (createSet (some 0) (cmdBegin 0 0xC040 (Claims.mailed mail))).isSome = true ∧ Claims.Owns mail 0 ∧ mail.sec.ready = true ∧
    bgBusy mail 0 = false ∧ foundAll mail ≠ [] ∧ fld mail Reg.MED_LAYOUT 5 0 ≤ (foundAll mail).length ∧
    (Claims.Mail n 0 ∧ Claims.Owns n 0 ∧ n.sec.ready = true ∧ bgBusy n 0 = false ∧ foundAll n = []) := by
  unfold Claims.Mail Claims.Owns; decide +kernel
/-! ### The fabric -/

/-- `held` with fabric port 1 up, and what f makes of its fabric state. -/
def fabS (f : Fab → Fab) : State :=
  { held with fab := f { held.fab with
    locked := true, ports := setAt held.fab.ports 1 fun p => { p with st := .up, credits := List.replicate 8 16 }
    routes := [(1, 0x20022), (3, 0x20022)] } }

/-- A message of device 1 about sector 0x10 with TID 9, sent at TB 3,000 under a locked timebase. -/
def fmsg (opc : Nat) : FMsg := { msg with opc := opc, tid := 9, sk := 0x10, time := 3000, tl := true }

/-- `Claims.Arrives` as a computation. -/
def arrives (s : State) (p lane seq : Nat) (m : FMsg) : Bool :=
  fpOk s p && (fport s p).carries && decide (lane < 2) && decide (seq = ((fport s p).rxSeq + 1) % 4096) &&
    decide (m.dst = ownNode s) && decide (s.fab.idPending = false) && decide (s.rsv.pst = .run)

theorem arrives_iff {s : State} {p lane seq : Nat} {m : FMsg} : arrives s p lane seq m = true ↔ Claims.Arrives s p lane seq m := by
  simp only [arrives, Claims.Arrives, Bool.and_eq_true, decide_eq_true_eq, and_assoc]

theorem witness_FabricRequests :
    let s := fabS id
    let far := { fmsg Op.rdNA with sk := 2 ^ 40 }
    Claims.Arrives s 1 0 0 (fmsg Op.rdS) ∧ recOf s 9 = none ∧ Claims.Fresh s (fmsg Op.rdS) ∧ Claims.HomeHere s (fmsg Op.rdS) ∧
    (fmsg Op.rdS).src % 64 = 0 ∧ Claims.Arrives s 1 0 0 far ∧ skHome far.sk ≠ devId s ∧ (fmsg Op.atom).atom = none ∧
    ({ fmsg Op.atom with atom := some word4 }).atom = some word4 := by
  simp only [← arrives_iff]; unfold Claims.HomeHere Claims.Fresh; decide +kernel

/-- R269: a request that is older than half of TO_US is dropped, and EV_FX_STALE raised; R278: one for a sector at home elsewhere gets ERR. -/
theorem test_fabric_requests :
    ((after (exec (.rdS 1 0 0 (fmsg Op.rdS)) { fabS id with tb := 10 ^ 9 })).io.q.map (·.code)).contains 0x8049 = true ∧
    (after (exec (.rdS 1 0 0 (fmsg Op.rdS)) (fabS id))).fab.recs.length = 1 := by
  decide +kernel

/-- The way of `held` as a remote copy under a forward hold of TID 9, its sector the one of device 1. -/
def holding : State :=
  let w := { wayS with remote := true, home := 1, rstate := 2, fwd := some (128, 9) }
  let s := fabS id
  let k := 4 * setOfSk s (2 ^ 40 + 0x10)
  { s with cache := { s.cache with ways := [(k, w)] } }

theorem witness_FabricSnoops_at_a_holder :
    let m := { fmsg Op.snpRefwd with sk := 2 ^ 40 + 0x10, aux := 128 }
    Claims.Arrives (fabS id) 1 0 0 (fmsg Op.snpS) ∧ holdOf (fabS id) 0x10 9 = none ∧ Claims.Arrives holding 1 0 0 m ∧
    (holdOf holding m.sk m.tid).isSome = true ∧ m.aux ≠ m.src := by
  simp only [← arrives_iff]; decide +kernel

/-- A snoop to device 1 about sector 0x10. -/
def snoopS : State := fabS fun f => { f with snps := [⟨3, 1, 0x10, Op.snpS, false, 3000, 0⟩] }

theorem witness_FabricSnoops_answers :
    Claims.Arrives snoopS 1 0 0 (fmsg Op.rspI) ∧ snpOf snoopS (fmsg Op.rspI) = some ⟨3, 1, 0x10, Op.snpS, false, 3000, 0⟩ ∧
    (fmsg Op.rspMiss).flag Fl.wbPend = false ∧ (fmsg Op.rspFwd).flag Fl.held = false ∧ (fmsg Op.rspFwd).st = Fs.i ∧
    (List.range 256).any (fun n => ({ fmsg Op.rspMiss with flags := n }).flag Fl.wbPend) = true ∧
    (List.range 256).any (fun n => ({ fmsg Op.rspFwd with flags := n, st := Fs.s }).flag Fl.held) = true ∧
    Claims.Arrives (fabS id) 1 0 0 (fmsg Op.rspI) ∧ snpOf (fabS id) (fmsg Op.rspI) = none ∧ recOf (fabS id) 9 = none ∧
    (let r : HRec := ⟨9, 0, 64, 0x10, 3, none, 3000, 0, some 1⟩
     recOf (fabS fun f => { f with recs := [r] }) 9 = some r ∧ r.hold = some ((fmsg Op.rspMiss).src / 64)) := by
  simp only [← arrives_iff]; decide +kernel

/-- R271: an answer to no snoop is dropped and reported. -/
theorem test_stale_answer :
    ((after (exec (.rspI 1 0 0 (fmsg Op.rspI)) (fabS id))).io.q.map (·.code)).contains 0x8049 = true ∧
    (after (exec (.rspI 1 0 0 (fmsg Op.rspI)) snoopS)).fab.snps = [] := by
  decide +kernel

/-- A transaction that waits for the answer to its request (TID 9) of an opcode. -/
def asking (opc : Nat) : State :=
  let s := fabS fun f => { f with reqs := [⟨3, { fmsg opc with src := 0, dst := 64, sk := 2 ^ 40 + 0x10 }, 3000, 0, 1⟩] }
  let t := { Txn.blank with id := 3, kind := .rdO, sk := 2 ^ 40 + 0x10, ph := .fabric (some 64) }
  { s with cache := { s.cache with txns := [t] } }

theorem witness_FabricAnswers :
    let m := fun (opc : Nat) => { fmsg opc with sk := 2 ^ 40 + 0x10 }
    let t := { Txn.blank with id := 3, kind := .rdO, sk := 2 ^ 40 + 0x10, ph := .fabric (some 64) }
    let r : ReqOut := ⟨3, { fmsg Op.rdO with src := 0, dst := 64, sk := 2 ^ 40 + 0x10 }, 3000, 0, 1⟩
    Claims.Arrives (asking Op.rdO) 1 0 0 (m Op.data) ∧ reqOf (asking Op.rdO) 9 = some r ∧ r.msg.sk = (m Op.data).sk ∧ r.msg.gen = (m Op.data).gen ∧
    txnAt (asking Op.rdO) r.txn = some t ∧ r.msg.opc ≠ Op.rdNA ∧ (t.fabWay (asking Op.rdO)).isSome = true ∧ r.msg.flag Fl.z = false ∧
    (m Op.data).encl = t.encl ∧ (m Op.err).cause = 0 ∧ ({ m Op.err with cause := 1 }).cause = 1 ∧
    reqOf (fabS id) 9 = none ∧ Claims.Arrives (fabS id) 1 0 0 (fmsg Op.data) ∧ (reqOf (asking Op.rdNA) 9).map (·.msg.opc) = some Op.rdNA ∧
    r.msg.gen ≠ ({ m Op.data with gen := 5 }).gen ∧ (t.fabWay (asking Op.rdO)).map (fun k => (wayAt (asking Op.rdO) k).quar) = some false ∧
    Claims.Arrives (asking Op.rdNA) 1 0 0 (m Op.data) ∧ (txnAt (asking Op.rdNA) 3).map (·.encl) = some (m Op.data).encl := by
  simp only [← arrives_iff]; decide +kernel

theorem witness_FabricAnswers_other :
    let wb : WbOut := ⟨9, 0, 0x10, 1, false, false, false, [], true, 3000, 0, 1⟩
    let rec0 : HRec := ⟨9, 0, 64, 0x10, 3, none, 3000, 0, none⟩
    let d : DirE := ⟨0, 0, true, false, 0, [some 1, none, none]⟩
    let o := { fabS id with cache := { held.cache with dir := [(8 * dirSet 16, d)] } }
    Claims.Arrives (fabS fun f => { f with wbs := [wb] }) 1 0 0 (fmsg Op.cmp) ∧
    (fabS fun f => { f with wbs := [wb] }).fab.wbs.find? (fun x => x.tid == 9 && x.sk == 0x10) = some wb ∧
    holding.fab.wbs = [] ∧ (holdOf holding (2 ^ 40 + 0x10) 9).isSome = true ∧
    recOf (fabS fun f => { f with recs := [rec0] }) 9 = some rec0 ∧ rec0.hold = none ∧
    recOf (fabS fun f => { f with recs := [{ rec0 with hold := some 2 }] }) 9 = some { rec0 with hold := some 2 } ∧
    isOwnerDev (fabS id) 0x10 1 = false ∧ findWay held 0x10 = some 64 ∧ (fabS id).fab.marks = [] ∧
    (snpOf snoopS (fmsg Op.snpData)).isSome = true ∧ (fmsg Op.snpData).st ≠ Fs.s ∧
    (fpOk (fabS id) 1 = true ∧ (fport (fabS id) 1).carries = true ∧ ({ msg with dst := 192 }).dst / 64 ≠ devId (fabS id) ∧
      ({ msg with dst := 5 }).dst / 64 = devId (fabS id) ∧ ({ msg with dst := 5 }).dst % 64 ≠ 0) ∧
    (Claims.Arrives o 1 0 0 (fmsg Op.evcE) ∧ isOwnerDev o 0x10 ((fmsg Op.evcE).src / 64) = true ∧ findWay o 0x10 = some 64 ∧
      Claims.Fresh o (fmsg Op.evcE) ∧ (fmsg Op.evcE).src % 64 = 0) ∧
    Claims.Arrives holding 1 0 0 { fmsg Op.rls with sk := 2 ^ 40 + 0x10 } ∧ (snpOf snoopS (fmsg Op.snpData)).map (·.fwd) = some false := by
  simp only [← arrives_iff]; unfold Claims.Fresh; decide +kernel

theorem witness_FabricTimers :
    let rec0 : HRec := ⟨9, 0, 64, 0x10, 3, some (fmsg Op.data), 3000, 0, none⟩
    let wb : WbOut := ⟨9, 0, 0x10, 1, false, false, false, [], true, 3000, 0, 1⟩
    let t := { Txn.blank with id := 3, pool := .fabReq, src := .fab 64, kind := .fRdS, ph := .queued, tid := 9 }
    let q := { fabS id with cache := { held.cache with txns := [t] } }
    let d := { fabS id with cache := { held.cache with txns := [{ t with ph := .probe [0], dirAt := some 5 }] } }
    (reqOf (asking Op.rdO) 9).map (fun r => decide (r.reissue < maxReissue up)) = some true ∧
    (reqOf (fabS fun f => { f with reqs := [⟨3, fmsg Op.rdO, 3000, 15, 1⟩] }) 9).map (fun r => decide (maxReissue up ≤ r.reissue)) = some true ∧
    (reqOf (fabS fun f => { f with wbs := [wb] }) 9 = none ∧ (fabS fun f => { f with wbs := [wb] }).fab.wbs.find? (·.tid == 9) = some wb) ∧
    recOf (fabS fun f => { f with recs := [rec0] }) 9 = some rec0 ∧ rec0.resends < maxReissue up ∧ maxReissue up ≤ 15 ∧
    (fabS fun f => { f with snps := [⟨3, 1, 0x10, Op.snpS, false, 3000, 15⟩] }).fab.snps.find?
      (fun x => x.sk == 0x10 && x.holder == 1 && x.opc != Op.snpData) = some ⟨3, 1, 0x10, Op.snpS, false, 3000, 15⟩ ∧
    isOwnerDev (fabS id) 0x10 1 = false ∧ (txnAt q 3 = some t ∧ t.isFab = true ∧ t.ph ≠ .ack ∧ q.fab.recs = []) ∧
    (txnAt d 3).map (·.dirAt) = some (some 5) ∧ t.dirTold = false ∧ 1 ≠ devId up ∧ tblFind up.fab.incarn 1 = none ∧
    tblFind (fabS fun f => { f with incarn := [(1, 4)] }).fab.incarn 1 = some 4 ∧
    (let z := { asking Op.rdO with fab := { (asking Op.rdO).fab with reqs := (asking Op.rdO).fab.reqs.map fun r => { r with reissue := 15 } } }
     (reqOf z 9).map (fun r => (decide (maxReissue z ≤ r.reissue), (txnAt z r.txn).isSome)) = some (true, true)) ∧
    (let r := { rec0 with resends := 15 }
     recOf (fabS fun f => { f with recs := [r] }) 9 = some r ∧ maxReissue up ≤ r.resends ∧ r.resp = some (fmsg Op.data)) ∧
    ((fabS fun f => { f with waiting := [1] }).fab.waiting ≠ [] ∧ (fabS id).fab.waitTold = false) := by
  decide +kernel

/-- R267, R268: the request is sent again with the next generation. -/
theorem test_reissue : ((after (exec (.fxTimeout 9) (asking Op.rdO))).fab.reqs.map fun r => (r.msg.gen, r.reissue)) = [(1, 1)] := by
  decide +kernel

/-! ### Tracker, buffers, media, journal -/

def waitTxn (ph : Phase) : Txn := { Txn.blank with id := 3, pool := .host 0, src := .hp 0, kind := .rdS, sk := 0x10, ph := ph }
def withTxn (t : Txn) : State := { up with cache := { up.cache with txns := [t] } }

theorem witness_TrackerAndBuffers_tracker :
    (withTxn (waitTxn .entry)).cache.txns = [] ++ waitTxn .entry :: [] ∧ (waitTxn .entry).ph = .entry ∧
    grantPool (withTxn (waitTxn .entry)) (waitTxn .entry) = some (.host 0) ∧ (∀ t ∈ up.cache.txns, t.ph = .entry → grantPool up t = none) ∧
    txnAt up 3 = none ∧ txnAt (withTxn (waitTxn (.probe [0]))) 3 = some (waitTxn (.probe [0])) ∧ (waitTxn (.probe [0])).gen ≠ 1 ∧
    (waitTxn .dram).ph = .dram ∧ ({ waitTxn (.probe [0]) with vicAt := some 4, sfAt := some 4 }).vicTold = false ∧
    ({ waitTxn .dram with vicTold := true }).vicTold = true ∧ ({ waitTxn .dram with sfTold := true }).sfTold = true := by
  decide +kernel

theorem witness_TrackerAndBuffers_served :
    let s := withTxn (waitTxn (.probe [0]))
    let w := withTxn { waitTxn .dram with vicAt := some 4, sfAt := some 4 }
    (∀ a, (waitTxn (.probe [0])).access s = some a → served s a = true) ∧ (waitTxn (.probe [0])).gen = 0 ∧
    (txnAt w 3).map (fun t => (t.vicAt, t.vicTold, t.sfAt, t.sfTold)) = some (some 4, false, some 4, false) ∧
    (∀ t ∈ State.reset.cache.txns, t.ph = .entry → grantPool State.reset t = none) := by
  refine ⟨?_, by decide, by decide +kernel, by decide⟩
  intro a h; injection h with h; subst h; decide +kernel

/-- R188: a return of an old generation raises EV_TRK_STALE_RSP. R150: a fill without a victim is reported once. -/
theorem test_tracker :
    ((after (exec (.dramReadReturn 3 1 []) (withTxn (waitTxn (.probe [0]))))).io.q.map (·.code)) = [0x5002] ∧
    ((after (exec (.victimStallTimeout 3) (withTxn { waitTxn (.probe [0]) with vicAt := some 4 }))).io.q.map (·.code)) = [0x6005] ∧
    ((after (exec (.victimStallTimeout 3) (withTxn { waitTxn (.probe [0]) with vicAt := some 4, vicTold := true }))).io.q.map (·.code)) = [] := by
  decide +kernel

theorem witness_TrackerAndBuffers_buffers :
    let e : Tsc := ⟨false, [0, 0, 0, 0], [false, false, false, false], [1, 0, 0, 0], false, 0, 0⟩
    let w : WbE := ⟨0x10, .wb, 0, [none, none, none, none], 3000, false⟩
    let n : NtE := ⟨0x10, 0x1000, 0, [(0, 0), (0, 0), (0, 0), (0, 0)], [], 3000, none⟩
    tscAt { up with cache := { up.cache with tsc := [(5, e)] } } 5 = some e ∧ e.usable = false ∧
    (e.access { up with cache := { up.cache with tsc := [(5, e)] } } 5).map (served { up with cache := { up.cache with tsc := [(5, e)] } }) = some true ∧
    (wbEntry { up with cache := { up.cache with wb := [w] } } 0x10 = some w ∧ w.told = false) ∧
    (ntEntry { up with cache := { up.cache with nt := [n] } } 0x10 = some n ∧ n.out = none ∧ up.ldg.st ≠ .armed) ∧
    ({ up with cache := { up.cache with cleanQ := [(256, 3)] } }).cache.cleanQ ≠ [] ∧
    ({ up with cache := { up.cache with walks := [⟨5, 0, false⟩] } }).cache.walks = [⟨5, 0, false⟩] ∧ (⟨5, 0, false⟩ : Walk).visited = false := by
  decide +kernel

theorem witness_TrackerAndBuffers_scheduler :
    let t := { waitTxn (.resv none) with kind := .fWrNA, resv := .waiting, rsz := 64 }
    let b := { t with kind := .wb }
    let dirty := { held with cache := { held.cache with
      ways := [(64, { wayS with lines := List.replicate 4 ⟨.dirty, 1, false, true, 7⟩ })], regions := [0] } }
    (withTxn b).cache.txns.find? (fun t => t.resv == .waiting && !t.kind.classA) = some b ∧ (tryB (withTxn b) (64 + 16)).isSome = true ∧
    t.kind.classA = true ∧ (∀ p, p < 4 → (port (withTxn t) p).owed = []) ∧ (withTxn t).hpt.ports.length = 4 ∧ Port.down.owed = [] ∧
    (∀ u ∈ (withTxn t).cache.txns, u.resv = .waiting → u.kind.classA = true) ∧ (tryA (withTxn t) (64 + 16)).toOption = some .wt ∧
    (withTxn t).cache.txns.find? (fun t => (t.resv == .waiting && t.kind.classA) || t.rsv2 == .waiting) = some t ∧ t.rsv2 ≠ .waiting ∧
    running State.reset = false ∧ running dirty = true ∧ schedMode dirty = .through ∧ (walkOrder dirty).head? = some 64 ∧
    (wayAt dirty 64).remote = false ∧ wbRoom dirty false = true := by
  decide +kernel

/-- A media command of a purpose in the slot of port 0. -/
def cmdS (what : MCmd) (f : Cmd → Cmd) : State :=
  { up with med := { up.med with ports := setAt up.med.ports 0 fun p => { p with cmds := [f ⟨4, 0, 0, 0, 100, what, 3000, none, false, false⟩] } } }

theorem witness_MediaCommands :
    (findCmd (cmdS (.fill 3 0) id) 4).map (·.what) = some (.fill 3 0) ∧ (findCmd (cmdS (.page 1) id) 4).map (·.what) = some (.page 1) ∧
    ((findCmd (cmdS (.summary 0 63 false) id) 4).map (·.what) = some (.summary 0 63 false) ∧
      (findCmd (cmdS (.summary 0 63 true) id) 4).map (·.what) = some (.summary 0 63 true) ∧
      (findCmd (cmdS .create id) 4).map (·.what) = some .create ∧ (findCmd (cmdS (.sinterRd 3) id) 4).map (·.what) = some (.sinterRd 3)) ∧ (findCmd (cmdS (.sinterWr 3) id) 4).map (·.what) = some (.sinterWr 3) ∧
    (findCmd (cmdS (.anchor 1) id) 4).map (·.what) = some (.anchor 1) ∧ (findCmd (cmdS (.area 1) id) 4).map (fun c => (c.what, c.lost)) = some (.area 1, false) ∧
    flag up Reg.MED_CMD_CFG 20 = true ∧ specCid up 4 = false ∧
    ((findCmd (cmdS (.fill 3 0) id) 4).map fun c => (c.lost, c.abortAt, c.retried)) = some (false, none, false) ∧
    ((findCmd (cmdS (.fill 3 0) fun c => { c with abortAt := some 9, retried := true }) 4).map fun c => (c.abortAt, c.retried)) = some (some 9, true) ∧
    (let r := { up with med := { up.med with ports := setAt up.med.ports 0 fun p => { p with ctl := { p.ctl with resetAt := some 9 } } } }
     (r.med.ports.getD 0 MPort.off).ctl.resetAt = some 9) ∧ 0 < medPortCount up ∧ up.mgt.boot.mode = 0 ∧ up.rsv.pst = .run ∧
    (up.med.ports.getD 0 MPort.off).link = true ∧ 0 < up.med.ports.length ∧ (up.med.ports.getD 0 MPort.off).ctl.ready = true := by
  decide +kernel

/-- R317: a command that takes TO_MS is aborted, and EV_MED_CMD_TIMEOUT raised. R352: a drive at 100 % raises EV_MED_DRIVE_HEALTH. -/
theorem test_media_errors :
    ((after (exec (.medCmdTimeout 4) (cmdS (.fill 3 0) id))).io.q.map (·.code)) = [0xC003] ∧
    ((after (exec (.smartPoll 0 false 100) up)).io.q.map (·.code)) = [0xC008] ∧ ((after (exec (.smartPoll 0 false 99) up)).io.q.map (·.code)) = [] := by
  decide +kernel

/-- A completed checkpoint of one stream with its head at slot 1. -/
def ckptS (series pseq tail : Nat) : Ckpt :=
  ⟨series, pseq, [1], [tail], [0], [], 0, none, [], [], [], [], 0, 0, 0, 1, 2, [(0, 0)], [0]⟩

/-- A stream whose head slot 0 is empty and may be passed. -/
def streamS : State :=
  { up with med := { up.med with
    jrnl := { up.med.jrnl with streams := [⟨0, 2, 1, 1, [], false⟩] }
    media := { up.med.media with ckpts := [ckptS 2 5 2, ckptS 1 1 1] } } }

theorem witness_JournalCommands :
    let w : WbE := ⟨0x10, .wb, 0, [none, none, none, none], 3000, false⟩
    let r := { up with med := { up.med with jrnl := { up.med.jrnl with rot := some ⟨0, 3, 4, 0, false⟩ } } }
    ({ up with cache := { up.cache with wb := [w] } }).cache.wb = [w] ∧
    (r.med.jrnl.rot = some ⟨0, 3, 4, 0, false⟩ ∧ running r = true ∧ r.med.jrnl.sinters = [] ∧ nextOwned r 0 0 = some 0 ∧ (startSinter 0 true r).isSome = true) ∧
    (up.med.media.set_.isSome = true ∧ up.med.jrnl.ckpt = none ∧ up.med.jrnl.making = none ∧
      (startCkpt { up with tb := max up.tb (up.med.jrnl.ckptAt + 1000000 * fld up Reg.LDG_JRNL_CFG 30 19) }).isSome = true) ∧
    (0 < (mset streamS).n ∧ (streamAt streamS 0).head < (streamAt streamS 0).tail ∧ (streamAt streamS 0).head < headLimit streamS 0 ∧
      liveRecs streamS 0 (streamAt streamS 0).head = [] ∧
      (outstanding streamS 0).any (fun p => p.page / 64 == (streamAt streamS 0).head) = false ∧ carrySlot 0 [] streamS = some streamS ∧ running streamS = true) ∧
    0 < up.med.jrnl.nb := by
  decide +kernel

/-- A journal page in the head slot with one live record, its stream at the low watermark of 0. -/
def sinterS : State :=
  let l : CLine := ⟨.dirty, 7, 1, false, []⟩
  let r : JRec := ⟨.data, 0x10, 0, 0, 0, 0, false, false, false, .wb, [[some l, none, none, none]], []⟩
  let loc : Option Loc := some ⟨0, 0, 0, .dirty, false⟩
  { streamS with
    io := putReg streamS.io Reg.LDG_JRNL_CFG 0
    med := { streamS.med with
      jrnl := { streamS.med.jrnl with idx := [(0x10, ⟨0, [loc, none, none, none]⟩)] }
      media := { streamS.med.media with pages := [(0, ⟨1, [r], false⟩)] } } }

/-- R340: CKPT_MS after the last checkpoint the next one begins; R339: the head passes its empty slot. -/
theorem test_journal :
    (after (exec .checkpointTimer up)).med.jrnl.ckpt.isSome = true ∧
    ((after (exec (.journalHeadAdvance 0) streamS)).med.jrnl.streams.map (·.head)) = [1] := by
  decide +kernel

theorem witness_JournalCommands_sinter : sintering sinterS = true ∧
    (sinterS.med.jrnl.sinters.filter (!·.rotate)).length < max 1 (fld sinterS Reg.LDG_SINTER_CFG 17 8) ∧
    fullRate sinterS = true ∧ bucketPages sinterS (fullChains sinterS) = [] ∧ (headPages sinterS 0).find? (sinterable sinterS) = some 1 ∧
    (startSinter 1 false sinterS).isSome = true := by
  decide +kernel

/-! ### Retained settings, power, resets -/

def jobS (j : NvJob) : State := { up with mgt := { up.mgt with nv := { up.mgt.nv with job := some j } } }

theorem witness_RetainedAndRestartWork :
    let w := { up with rsv := { up.rsv with sweep := true, marks := [0, 0, 0, 0], rewarm := true } }
    let c := fun (n : Nat) => { up with ldg := { up.ldg with cal := some ⟨n, 0⟩ } }
    (jobS (.store [(5, 1, 1)] none)).mgt.nv.job = some (.store [(5, 1, 1)] none) ∧ (bankSlots up up.mgt.nv.cur).length + 1 + 1 < 4992 ∧
    (jobS (.sinter [] (some []) none)).mgt.nv.job = some (.sinter [] (some []) none) ∧ (jobS .factory).mgt.nv.job = some .factory ∧
    (w.rsv.sweep = true ∧ running w = true ∧ 3 < 2 ^ w.hpt.chBits) ∧ (w.rsv.rewarm = true ∧ nextEntry w = none) ∧
    ((c 1).ldg.cal = some ⟨1, 0⟩ ∧ (c 4).ldg.cal = some ⟨4, 0⟩ ∧ 1000 ≤ 72000) := by
  decide +kernel

theorem witness_RetainedAndRestartWork_rewarm :
    let k := onCore 0 (fun c => { c with sched := [(1, 1, 5)] }) { held with rsv := { held.rsv with rewarm := true } }
    let n := onCore 0 (fun c => { c with sched := [(1, 1, 5)] }) { up with rsv := { up.rsv with rewarm := true } }
    (nextEntry k).isSome = true ∧ (entrySectors k (1, 1, 5)).1 = [] ∧ (nextEntry k).map (·.1) = some (1, 1, 5) ∧
    ((nextEntry n).map (·.1) = some (1, 1, 5) ∧ running n = true ∧ (entrySectors n (1, 1, 5)).1 = [16] ∧
      ∀ sk ∈ [16], ∀ r ∈ readsFor n sk [0, 1, 2, 3], rewarmRoom n (nsPort n r.1) = true) := by
  decide +kernel

/-- R606: a factory restore sets FACTORY_DONE and raises EV_NV_FACTORY. R386: the sweep moves one set on. -/
theorem test_retained : (after (exec .nvmWriteCompletion (jobS .factory))).mgt.nv.facDone = true ∧
    ((after (exec .nvmWriteCompletion (jobS .factory))).io.q.map (·.code)) = [0x0015] ∧
    (after (exec (.restartSweepSet 1) { up with rsv := { up.rsv with sweep := true, marks := [0, 0, 0, 0] } })).rsv.marks = [0, 1, 0, 0] := by
  decide +kernel

def pstS (p : PSt) : State := { up with rsv := { up.rsv with pst := p } }

theorem witness_PowerTransitions_fails :
    let g := { pstS .geyser with rsv := { (pstS .geyser).rsv with
      drain := 6, banks := setAt up.rsv.banks 0 fun b => { b with st := .holding } } }
    running up = true ∧ up.rsv.mainEn = true ∧ State.reset.rsv.mainEn = false ∧
    (g.rsv.pst = .geyser ∧ drainedAll g = true ∧ g.sec.quenched = false ∧ (∃ b ∈ g.rsv.banks, b.st = .holding)) ∧
    (pstS .dormant).rsv.pst = .dormant := by
  decide +kernel

/-- R371: PWRFAIL_N in Run starts Fence. R370: a glitch leaves Run alone. R377: a drain without energy ends in Off. -/
theorem test_power_fails : (after (exec (.pwrfailNAssert [] []) up)).rsv.pst ≠ .run ∧ (after (exec .powerFailGlitch up)).rsv.pst = .run ∧
    (after (exec .bankVminReached { pstS .geyser with rsv := { (pstS .geyser).rsv with
      banks := setAt up.rsv.banks 0 fun b => { b with st := .holding } } })).rsv.pst = .off := by
  decide +kernel

theorem witness_PowerTransitions_returns :
    let u := { pstS .startup with
      io := putReg up.io Reg.SEC_ASSIGN_LOCK 1
      mgt := { up.mgt with boot := { up.mgt.boot with cls := some .cold } } }
    let h := { u with rsv := { u.rsv with pfLow := true }, mgt := { u.mgt with boot := { u.mgt.boot with heldAt := some 5 } } }
    State.reset.mgt.boot.vaux = false ∧ (up.mgt.boot.vaux = true ∧ (pstS .dormant).rsv.pst = .dormant ∧ (pstS .off).rsv.pst = .off ∧ up.rsv.pst = .run) ∧
    ((pstS .off).mgt.boot.vaux = true ∧ (pstS .off).rsv.mainEn = true) ∧
    (u.rsv.pst = .startup ∧ linkReady u = true ∧ u.rsv.pfLow = false ∧ u.rsv.busLow = false) ∧
    (linkReady h = true ∧ h.rsv.pfLow = true ∧ h.mgt.boot.heldAt = some 5 ∧ h.mgt.boot.heldTold = false) := by
  decide +kernel

/-- R665: VAUX drives MAIN_EN. -/
theorem test_vaux : (after (exec .vauxPowerUp State.reset)).rsv.mainEn = true ∧ (after (exec .vauxFall up)).mgt.own.owner = none ∧
    (after (exec .vauxFall up)).tb = 0 := by
  decide +kernel

theorem witness_Resets :
    let b := fun (f : Boot → Boot) (p : PSt) => { pstS p with mgt := { up.mgt with boot := f up.mgt.boot } }
    running up = true ∧ (pstS .startup).rsv.pst = .startup ∧ (b (fun x => { x with trialEnd := some 9 }) .startup).mgt.boot.trialEnd = some 9 ∧
    ((b (fun x => { x with romAct := some 9, mode := 2 }) .run).mgt.boot.romAct = some 9 ∧ (b (fun x => { x with romAct := some 9, mode := 2 }) .run).mgt.boot.mode = 2) ∧
    ((b (fun x => { x with release := some 9 }) .run).mgt.boot.release = some 9 ∧ running (b (fun x => { x with release := some 9 }) .run) = true) := by
  decide +kernel

/-! ### Banks and channels -/

def bankS (f : Bank → Bank) : State := onBank 3 f up

theorem witness_BankCommands :
    let m := bankS fun b => { b with st := .measuring }
    let c := bankS fun b => { b with st := .charging, measAt := some 9 }
    let d := bankS fun b => { b with st := .discharging, disAt := some 9 }
    let l := bankS fun b => { b with st := .ready, bleed := true, mv := 16300, vtgt := 16000 }
    (3 < up.rsv.banks.length ∧ (bank up 3).st = .absent ∧ bankEn up 3 = true) ∧
    bankEn { up with io := putReg up.io (Reg.RSV_BANK + 24) 0 } 3 = false ∧
    (bank (bankS fun b => { b with st := .holding }) 3).st = .holding ∧ (bank l 3).st = .ready ∧
    ((bank m 3).st = .measuring ∧ (bank m 3).measAt = none ∧ 2000 ≤ 2000 ∧ 250000 ≤ 250000 ∧ 1999 < 2000 ∧ 250000 < 250001) ∧
    chargeTurn c 3 = true ∧ ((bank d 3).st = .discharging ∧ (bank d 3).disTold = false ∧ (bank d 3).disAt = some 9 ∧ d.rsv.waiters = []) ∧
    ((bank l 3).bleed = true ∧ (bank l 3).st ≠ .discharging) := by
  decide +kernel

/-- R360, R364: 156.25 mF lets a bank charge, 1.9 mF isolates it with CAP_RANGE. -/
theorem test_bank_measure :
    let m := bankS fun b => { b with st := .measuring, present := true }
    (bank (after (exec (.bankCapMeasure 3 15625) m)) 3).st = .charging ∧
    ((bank (after (exec (.bankCapMeasure 3 1900) m)) 3).st = .isolated ∧ (bank (after (exec (.bankCapMeasure 3 1900) m)) 3).fault = .capRange) := by
  decide +kernel

theorem witness_ChannelCommands :
    let mi := { up with cch := { up.cch with mirror := true } }
    let r := fun (q : Nat) => onPair 1 (fun x => { x with resilver := some q }) up
    (running up = true ∧ flag up Reg.CCH_SCRUB_CFG 8 = true ∧ 3 < 2 ^ up.hpt.chBits ∧ up.cch.mode = false) ∧
    (let set := setAtPos up 3 ((chan up (scrubChan up 3)).scrub % 2 ^ (up.hpt.setBits - up.hpt.chBits))
     let v := tally Ctr.CCH_SCRUB_SLOT 1 (upTo 4 (fun w s => scrubWay set w ⟨[]⟩ s) up)
     v.cch.mode = false ∧ setFailed up set = false) ∧
    (let q := { up with cache := { up.cache with ways := [(7, { Way.empty with quar := true })] } }
     (wayAt q 7).quar = true ∧ running q = true ∧ sfFind q 7 = none ∧ dirFind q 7 = none) ∧
    ((chan up 3).on = true ∧ 85 ≤ 85 ∧ 85 < 86) ∧ up.cch.mirror = false ∧
    (mi.cch.mirror = true ∧ (chan mi (if 3 % 2 = 0 then 3 + 1 else 3 - 1)).st ≠ .failed ∧ pairAt mi 1 = Pair.whole) ∧
    ((pairAt (r 0) 1).resilver = some 0 ∧ 0 + 1 < 2 ^ (up.hpt.setBits - up.hpt.chBits) ∧ (pairAt (r 63) 1).resilver = some 63 ∧
      2 ^ (up.hpt.setBits - up.hpt.chBits) ≤ 63 + 1) := by
  decide +kernel

/-- R404: above 85 °C the refresh doubles, with EV_CCH_THERMAL on entry; at 85 °C it does not. -/
theorem test_thermal : (chan (after (exec (.thermalPoll 3 86) up)) 3).ref2x = true ∧
    ((after (exec (.thermalPoll 3 86) up)).io.q.map (·.code)) = [0xA00E] ∧ (chan (after (exec (.thermalPoll 3 85) up)) 3).ref2x = false := by
  decide +kernel

/-! ### Fabric links and the fabric manager -/

def portS (f : FPort → FPort) : State := { fabS id with fab := { (fabS id).fab with ports := setAt (fabS id).fab.ports 1 f } }

theorem witness_FabricLinkStates :
    let late := portS fun p => { p with st := .replaying, episode := some ⟨0, 200, 0⟩ }
    let d := portS fun p => { p with st := .degrading, wide := true }
    let t := portS fun p => { p with st := .training }
    let q : Queued := ⟨{ msg with dst := 5 * 64 }, 0, 3000, none⟩
    (fpOk (fabS id) 1 = true ∧ (fport (fabS id) 1).carries = true ∧ (fport (fabS id) 1).nakking = false) ∧
    (overBudget (openEpisode 1 (onFPort 1 (fun x => { x with nakking := true }) (fabS id))) 1 = false ∧
      overBudget (openEpisode 1 (ackFlits 1 4095 (fabS id))) 1 = false ∧ overBudget (openEpisode 1 (ackFlits 1 4095 late)) 1 = true) ∧
    (fport up 1).carries = false ∧ ((fport late 1).episode = some ⟨0, 200, 0⟩ ∧ (fport late 1).st = .replaying) ∧
    ((fport d 1).st = .degrading ∧ (fport d 1).episode = none ∧ (fport d 1).wide = true ∧
      widest [true, true, true, true, true, false, true, true] = some 1 ∧ 1 ≤ min 2 (fld d Reg.FAB_LINK_CFG 5 4)) ∧
    ((fport t 1).st = .training ∧ t.rsv.pst = .run) ∧
    (200 + 2000 ≤ 0 + 1000 * clampTo 2 20 (fld late Reg.FAB_REPLAY_CFG 8 4) ∧
      0 + 1000 * clampTo 2 20 (fld late Reg.FAB_REPLAY_CFG 8 4) < 20000 + 2000) ∧
    (let s := { fabS id with fab := { (fabS id).fab with queue := [q] } }
     s.fab.queue[0]? = some q ∧ routePorts s (route? s (q.msg.dst / 64)) q.lane = []) := by
  decide +kernel

/-- 14_fabric_links.md, worked example, steps 6 and 7: lane 5 fails, so the port comes back as x4 with EV_FAB_LANE_DEGRADED. -/
theorem test_lane_degrade :
    let s := after (exec (.laneDegrade 1 4095 [true, true, true, true, true, false, true, true] (List.replicate 8 16))
      (portS fun p => { p with st := .degrading }))
    (fport s 1).width = 1 ∧ (fport s 1).st = .up ∧ (s.io.q.map (·.code)).contains 0xF004 = true := by
  decide +kernel

theorem witness_FabricManagement :
    let c : Cand := ⟨128, 9, 3, 1, 3000⟩
    let q : Peer := ⟨9, 3, true, 0, 1, false, 1, some c⟩
    let p := portS fun x => { x with peer := some q }
    let child := fabS fun f => { f with parent := some 1 }
    let m : FmcOut := ⟨4, 3, .parent 0, 3000⟩
    (fpOk (fabS id) 1 = true ∧ (fport (fabS id) 1).carries = true ∧ hail.idValid = true ∧ hail.id ≠ devId (fabS id) ∧ (fport (fabS id) 1).peer = none) ∧
    (child.fab.parent = some 1 ∧ child.fab.isFm = false ∧ flag { child with io := putReg child.io Reg.FAB_SYNC_CFG 1 } Reg.FAB_SYNC_CFG 0 = true) ∧
    ((fabS id).fab.locked = true ∧ (fabS id).fab.isFm = false) ∧ ((fport p 1).peer = some q ∧ q.cand = some c) ∧
    ((fabS fun f => { f with bestSince := some 9 }).fab.bestSince = some 9 ∧ running (fabS id) = true) ∧
    (fabS fun f => { f with fm := some ⟨3, 128, 9, 1, 3000⟩ }).fab.fm = some ⟨3, 128, 9, 1, 3000⟩ ∧
    ((fabS fun f => { f with isFm := true }).fab.isFm = true ∧ routeFit 0x20022 = true ∧ 3 ≠ devId (fabS id)) ∧
    (fabS fun f => { f with fmcOut := [m] }).fab.fmcOut.find? (·.tag == 4) = some m := by
  decide +kernel

/-- R531: an answer with no offset locks; 10 ms without one unlocks with EV_FAB_SYNC_LOST. -/
theorem test_sync :
    ((after (exec .syncHoldoverExpire (fabS id))).fab.locked = false ∧ (after (exec .syncHoldoverExpire (fabS id))).tb = 10000000) ∧
    ((after (exec .syncHoldoverExpire (fabS id))).io.q.map (·.code)).contains 0xF00D = true := by
  decide +kernel

/-! ### Security -/

theorem witness_TamperAndRandom :
    (watched .mesh { up with io := putReg up.io Reg.SEC_TAMPER_CFG 2 } = true ∧ flag { up with io := putReg up.io Reg.SEC_TAMPER_CFG 2 } Reg.SEC_TAMPER_CFG 2 = false ∧
      up.sec.quenched = false ∧ up.rsv.pst = .run) ∧
    (watched .temp { up with io := putReg up.io Reg.SEC_TAMPER_CFG 4 } = true ∧ flag { up with io := putReg up.io Reg.SEC_TAMPER_CFG 4 } Reg.SEC_TAMPER_CFG 2 = true) ∧
    ({ up with sec := { up.sec with clearing := true } }).sec.clearing = true ∧ up.sec.drainThen = none ∧
    (let g := { pstS .geyser with sec := { up.sec with drainThen := some 5 } }
     g.sec.drainThen = some 5 ∧ g.rsv.pst = .geyser) ∧
    (({ up with sec := { up.sec with ready := false } }).sec.ready = false ∧ up.mgt.boot.vaux = true) ∧
    (up.sec.ready = true ∧ up.io.ok = true) ∧ (isOwner up .sb = true ∧ isOwner up hm0 = false) := by
  decide +kernel

/-- R568: a tamper source quenches: the keys go. R546: a health failure raises EV_RNG_HEALTH. -/
theorem test_tamper : (after (exec (.tamperTrigger .temp [] []) mail)).sec.media = [] ∧ (after (exec (.tamperTrigger .temp [] []) mail)).sec.quenched = true ∧
    ((after (exec .rngHealthFail up)).io.q.map (·.code)) = [0x2002] := by
  decide +kernel

theorem witness_SpdmCommands :
    serves mail 0 = true ∧ mail.sec.ready = true ∧ ({ mail with sec := { mail.sec with ready := false } }).sec.ready = false ∧
    mail.sec.sessions.length < 8 ∧ 8 ≤ (List.replicate 8 (⟨1, 0, true, 0, 0, 0⟩ : Session)).length ∧
    mail.sec.sessions.find? (fun x => x.id == 1 && x.port == 0) = some ⟨1, 0, true, 0, 0, 0⟩ ∧
    mail.sec.sessions.find? (fun x => x.id == 9 && x.port == 0) = none ∧ (1 : Nat) ≠ 0 ∧ (1 ≤ 5 ∧ 5 ≤ 5) ∧
    (∃ x ∈ mail.sec.sessions, x.id = 1 ∧ x.port = 0 ∧ x.established = true) := by
  decide +kernel

/-- R556: a session that no FINISH has established takes no HEARTBEAT; END_SESSION discards it. -/
theorem test_spdm : (after (exec (.endSession 0 1) mail)).sec.sessions.map (·.id) = [2] ∧
    (after (exec (.finish 0 2 true) mail)).sec.sessions.map (·.established) = [true, true] := by
  decide +kernel

/-! ### The sideband and reads -/

theorem witness_SidebandCommands :
    up.mgt.boot.vaux = true ∧ up.rsv.pst ≠ .off ∧ up.rsv.pst ≠ .dormant ∧ (0x7FFFFC < 0x800000 ∧ 0x7FFFFC % 4 = 0) ∧ up.mgt.i3c.daddr = 0 ∧
    fld up Reg.MGT_I3C_CFG 6 0 < 128 ∧ ({ up.mgt.i3c with daddr := 8 }).daddr = (8 : Fin 128).val ∧ (8 : Fin 128).val ≠ 0 ∧ 1 % 2 = 1 ∧ 2 % 2 = 0 ∧
    ({ up.io with ibi := some 1 }).ibi = some 1 ∧ ({ up.mgt.i3c with enec := true }).enec = true := by
  decide +kernel

/-- R594: ENTDAA gives an address, RSTDAA takes it. R596: the interrupt goes out. -/
theorem test_sideband : (after (exec (.entdaa 8) up)).mgt.i3c.daddr = 8 ∧
    (after (exec .rstdaa (after (exec (.entdaa 8) up)))).mgt.i3c.daddr = 0 ∧
    (after (exec .ibiSend { up with
      io := { up.io with ibi := some 1 }, mgt := { up.mgt with i3c := { up.mgt.i3c with enec := true } } })).io.out = [.ibi 1] := by
  decide +kernel

theorem witness_ReadEffects :
    let v := { up with io := { up.io with vecs := [(256 * 0 + 3, { Vec.idle with start := some 9 })] } }
    (reaches up .sb = true ∧ Reg.MGT_NONOWNER_WR < 0x400000 ∧ Reg.MGT_NONOWNER_WR % 4 = 0 ∧ Reg.MGT_NONOWNER_WR ≠ Reg.SEC_RNG_DATA_LO ∧
      pairLow Reg.MGT_NONOWNER_WR = false ∧ Reg.MGT_NONOWNER_WR ≠ Reg.EVT_Q_ENTRY ∧ Reg.MGT_NONOWNER_WR ≠ Reg.EVT_SAMPLE_REC ∧
      Reg.MGT_NONOWNER_WR ∉ [Reg.TRK_PEAK, Reg.WBF_PEAK, Reg.LDG_PEAK, Reg.MED_SLOT_PEAK, Reg.PLC_FRAME_PEAK] ∧ isOwner up .sb = true ∧
      frozen up.io Reg.MGT_NONOWNER_WR = false) ∧ pairLow Reg.LDG_DIRTY_LO = true ∧ (isOwner up hm0 = false ∧ reaches up hm0 = true) ∧
    ((qHead queued.io.q).map (·.seq) = some 2 ∧ queued.io.loss = (0, 0, 0) ∧ isOwner queued .sb = true) ∧
    (tblGet Vec.idle v.io.vecs (256 * 0 + 3)).start = some 9 := by
  decide +kernel

/-- R12, R636: the owner's read takes the head entry; another master's leaves it. R14: NONOWNER_WR counts again from 0 after the owner's read. -/
theorem test_reads : ((after (exec (.queueHeadRead .sb) queued)).io.q.map (·.read)) = [true, true] ∧
    ((after (exec (.queueHeadRead hm0) queued)).io.q.map (·.read)) = [true, false] ∧
    fld (after (exec (.rcFieldClearRead .sb Reg.MGT_NONOWNER_WR 4) (after (exec (.registerWrite hm0 Reg.LDG_CAP 4 1) up)))) Reg.MGT_NONOWNER_WR 15 0 = 0 := by
  decide +kernel


/-! ### The codes of the cache -/

/-- FIPS 197, appendix C.3: AES-256 of the block 00 11 .. FF under the key 00 01 .. 1F. -/
theorem test_aes : aesEnc (List.range 32) ((List.range 16).map (17 * ·)) =
    [0x8E, 0xA2, 0xB7, 0xCA, 0x51, 0x67, 0x45, 0xBF, 0xEA, 0xFC, 0x49, 0x90, 0x4B, 0x49, 0x60, 0x89] := by
  decide +kernel

/-- R407: no error decodes as none, one wrong symbol is put right. -/
theorem test_rs : decodeRs none [] [] = .clean ∧ (decodeRs none [] [(3, 5)]).fix = [(3, 5)] := by decide +kernel
end Sys2Proof.Tests
end

/-! SUPPORT. The state after reset: its invariant part by part, and the values that its stored registers show. -/

namespace Sys2Proof.Machine

open Sys2Proof

/-! ### The invariant, part by part -/

/-- Nothing is queued, counted, sampled, sent or stored after reset, so every bound of telemetry holds. -/
theorem reset_io_ok : State.reset.io.ok = true := by decide

/-- Nothing is on media and no word of a data RAM has been written. -/
theorem reset_memWf : State.reset.memWf = true := by decide

/-- The units of R433, R400 and the port counts are there from reset on. -/
theorem reset_shapeOk : State.reset.shapeOk = true := by decide

theorem reset_ok : State.reset.ok = true := by
  rw [State.ok, reset_io_ok, reset_memWf, reset_shapeOk]; rfl

/-! ### Registers -/

/-- R35: PERIOD is 1,000 after reset. -/
theorem reset_epoch_period : fld State.reset Reg.CTR_EPOCH 13 0 = 1000 := by decide

/-- R37: the phase is not locked after reset. -/
theorem reset_epoch_unlocked : fld State.reset Reg.CTR_EPOCH 16 16 = 0 := by decide

/-- R563: the assignment is not locked after reset. -/
theorem reset_assign_unlocked : fld State.reset Reg.SEC_ASSIGN_LOCK 0 0 = 0 := by decide

/-- Settles O4: the invariant by its three parts; the fields of the state are those of `State.reset`, the registers those of
their reset words. -/
theorem resetMeetsTheInvariant : Obligations.ResetMeetsTheInvariant :=
  ⟨reset_ok, rfl, rfl, rfl, rfl, rfl, rfl, rfl, rfl, rfl, rfl, rfl, rfl, rfl,
    reset_epoch_period, reset_epoch_unlocked, reset_assign_unlocked⟩

end Sys2Proof.Machine

/-! SUPPORT. What a POR leaves of the state, and the commands that end in a reset, each in the case in which it acts. -/

namespace Sys2Proof.Machine

open Sys2Proof

/-! ### What a POR clears and keeps (R15, R617) -/

section
variable (s : State)

@[simp] theorem coreReset_por_tb : (coreReset .por s).tb = 0 := rfl
@[simp] theorem coreReset_por_ioQ : (coreReset .por s).io.q = [] := rfl
@[simp] theorem coreReset_por_hpt : (coreReset .por s).hpt = Hpt.reset := rfl
@[simp] theorem coreReset_por_ldg : (coreReset .por s).ldg = Ldg.reset := rfl
@[simp] theorem coreReset_por_plc : (coreReset .por s).plc = Plc.reset := rfl
@[simp] theorem coreReset_por_fab :
    (coreReset .por s).fab = { Fab.reset with serial := s.fab.serial, idPending := s.fab.idPending } := rfl

@[simp] theorem coreReset_por_own : (coreReset .por s).mgt.own = Own.reset := rfl
@[simp] theorem coreReset_por_flash : (coreReset .por s).mgt.flash = s.mgt.flash := rfl
@[simp] theorem coreReset_por_bank0 : (coreReset .por s).mgt.nv.bank0 = s.mgt.nv.bank0 := rfl
@[simp] theorem coreReset_por_bank1 : (coreReset .por s).mgt.nv.bank1 = s.mgt.nv.bank1 := rfl

@[simp] theorem coreReset_por_pst : (coreReset .por s).rsv.pst = .off := rfl
@[simp] theorem coreReset_por_mainEn : (coreReset .por s).rsv.mainEn = false := rfl

@[simp] theorem coreReset_por_root : (coreReset .por s).sec.root = none := rfl
@[simp] theorem coreReset_por_cacheKey : (coreReset .por s).sec.cacheKey = none := rfl
@[simp] theorem coreReset_por_mediaKeys : (coreReset .por s).sec.media = [] := rfl
@[simp] theorem coreReset_por_lock : (coreReset .por s).sec.lock = 0 := rfl
@[simp] theorem coreReset_por_sessions : (coreReset .por s).sec.sessions = [] := rfl
@[simp] theorem coreReset_por_area : (coreReset .por s).sec.area = s.sec.area := rfl
@[simp] theorem coreReset_por_revoked : (coreReset .por s).sec.revoked = s.sec.revoked := rfl

end

/-! ### The commands -/

/-- VAUX_FALL is a POR of the core that also takes VAUX away and owes the next start-up a POR. -/
theorem exec_vauxFall (s : State) :
    exec .vauxFall s = .next (onBoot (fun b => { b with vaux := false, porDue := true }) (coreReset .por s)) := rfl

theorem exec_resetNAssert_of_running {s : State} (f : BootFacts) (h : running s = true) :
    exec (.resetNAssert f) s = .next (resetDrain .resetN s) :=
  if_pos h

/-- A device in start-up is not in Run. -/
theorem running_eq_false_of_startup {s : State} (h : s.rsv.pst = .startup) : running s = false := by
  rw [running, h]; rfl

theorem exec_resetNAssert_of_startup {s : State} (f : BootFacts) (h : s.rsv.pst = .startup) :
    exec (.resetNAssert f) s = .next (startUp .cold .resetN f s) := by
  change execResetNAssert f s = _
  simp [execResetNAssert, running_eq_false_of_startup h, h]

theorem exec_bootWatchdogExpire_of_trial {s : State} {t : Nat} (f : BootFacts) (ht : s.mgt.boot.trialEnd = some t)
    (h : s.rsv.pst = .startup) : exec (.bootWatchdogExpire f) s = .next (startUp .cold .watchdog f (until_ t s)) := by
  change execBootWatchdogExpire f s = _
  simp [execBootWatchdogExpire, ht, h]

theorem exec_romRecoveryReset_of_activated {s : State} {t : Nat} (f : BootFacts) (ht : s.mgt.boot.romAct = some t)
    (h : s.mgt.boot.mode = 2) :
    exec (.romRecoveryReset f) s = .next (startUp .warm .warmCmd f (until_ (t + 1000000000) s)) := by
  change execRomRecoveryReset f s = _
  simp [execRomRecoveryReset, ht, h]

theorem exec_releasePhaseTimeout_of_running {s : State} {t : Nat} (ht : s.mgt.boot.release = some t) (h : running s = true) :
    exec .releasePhaseTimeout s =
      .next (resetDrain .warmCmd (if remoteLeft s = true then until_ (t + 20000000) s else s)) := by
  change execReleasePhaseTimeout s = _
  simp [execReleasePhaseTimeout, ht, h]

/-- Settles O52: VAUX falling by what a POR clears and keeps, every other command by its case. -/
theorem resets : Obligations.Resets := by
  refine ⟨fun s => ⟨_, exec_vauxFall s, ?_⟩, fun s f => ⟨?_, ?_, ?_, ?_⟩, fun s t => ?_⟩
  · simp [onBoot]
  · exact exec_resetNAssert_of_running f
  · exact exec_resetNAssert_of_startup f
  · exact fun t => exec_bootWatchdogExpire_of_trial f
  · exact fun t => exec_romRecoveryReset_of_activated f
  · exact exec_releasePhaseTimeout_of_running

end Sys2Proof.Machine

/-! SUPPORT. BAR4's accesses, the ALU step of an atomic and the promotion of a priority, each in the case in which it acts. -/

namespace Sys2Proof.Machine

open Sys2Proof

/-! ### A port that takes BAR4's accesses -/

/-- What a port offers, it offers over a link that is up. -/
theorem port_up_of_offers {s : State} {p : Nat} (h : offers s p = true) : (port s p).up = true := by
  simp only [offers, serves, portUp, Bool.and_eq_true] at h
  obtain ⟨⟨⟨⟨-, hup⟩, -⟩, -⟩, -⟩ := h
  exact hup

theorem inBar4_of_offers {s : State} {p da : Nat} (h : offers s p = true) (hda : da < bar4Size s) : inBar4 s p da = true := by
  simp [inBar4, h, hda]

theorem port_raise (e : Ev) (d u : Nat) (s : State) (p : Nat) : port (raise e d u s) p = port s p := rfl

/-- An answer to a request of a host port whose link is up goes out on that port. -/
theorem answer_of_host_up {t : Txn} {p : Nat} (kind : String) (data : Option Line) {s : State} (hsrc : t.src = .hp p)
    (hgone : t.gone = false) (hup : (port s p).up = true) :
    answer t kind data false s = emit (.cxl p t.tag kind data false) s := by
  simp [answer, hsrc, hgone, hup]

/-! ### BAR4 (R84, R105) -/

theorem exec_atomicOp_misaligned {s : State} {p tag da : Nat} {a : Atom} (h : offers s p = true) (hda : da < bar4Size s)
    (hop : pcieAtomic a = true) (hal : da % a.width ≠ 0) :
    exec (.atomicOp p tag da a) s = .next (emit (.cxl p tag "CA" none false) s) := by
  change execAtomicOp p tag da a s = _
  simp only [execAtomicOp, inBar4_of_offers h hda, hop, hal, not_true_eq_false, not_false_eq_true, ne_eq, if_true, if_false]
  exact congrArg _ (answer_of_host_up _ _ rfl rfl (port_up_of_offers h))

/-- The AtomicOp of a port as it is admitted at its sector, numbered in its port's order. -/
theorem exec_atomicOp_aligned {s : State} {p tag da sk : Nat} {a : Atom} (h : offers s p = true) (hda : da < bar4Size s)
    (hop : pcieAtomic a = true) (hal : da % a.width = 0) (hsk : mapDa s da = .ok sk) :
    exec (.atomicOp p tag da a) s = .next (serve { hostTxn p tag da (.atomic { a with off := da % 64 }) .i with
        wport := p, sk := sk, line := da / 64 % 4, wseq := s.cache.wseq.getD p 0 + 1 }
      (onCache (fun c => { c with wseq := setAt c.wseq p fun _ => s.cache.wseq.getD p 0 + 1 }) s)) := by
  have hmap : ∀ f, mapDa (onCache f s) da = .ok sk := fun _ => hsk
  change execAtomicOp p tag da a s = _
  simp [execAtomicOp, inBar4_of_offers h hda, hop, hal, hmap]

theorem exec_bar4NonAtomic_of_offers {s : State} {p tag da : Nat} (h : offers s p = true) (hda : da < bar4Size s) :
    exec (.bar4NonAtomic p tag da) s =
      .next (emit (.cxl p tag "UR" none false) (raise Ev.hpBar4Ur (dataAddr 0 da) p s)) := by
  change execBar4NonAtomic p tag da s = _
  simp only [execBar4NonAtomic, inBar4_of_offers h hda, not_true_eq_false, if_false]
  refine congrArg _ (answer_of_host_up _ _ rfl rfl ?_)
  rw [port_raise]
  exact port_up_of_offers h

/-! ### The ALU step (R222, R223, R226) -/

theorem exec_atmAluDone_of_atomic {s : State} {id k : Nat} {a : Atom} {t : Txn} (ht : txnAt s id = some t)
    (hph : t.ph = .alu k) (hk : t.kind = .atomic a ∨ t.kind = .fAtom a) :
    exec (.atmAluDone id) s = .next (settle (runAtom t a k s)) := by
  change execAtmAluDone id s = _
  obtain hk | hk := hk
  · simp only [execAtmAluDone, ht, hph, hk]
  · simp only [execAtmAluDone, ht, hph, hk]

theorem exec_atmAluDone_of_append {s : State} {id k len : Nat} {t : Txn} (ht : txnAt s id = some t)
    (hph : t.ph = .alu k) (hk : t.kind = .append len) (hroom : wtRoom s (appendNeeds s t) = true) :
    exec (.atmAluDone id) s = .next (settle (runAppend t len k s)) := by
  change execAtmAluDone id s = _
  simp only [execAtmAluDone, ht, hph, hk, hroom, if_true]

/-! ### Promotion (R152) -/

theorem exec_priorityPromotion_of_next {s : State} {a : Access} (h : nextPromoted s = some a) :
    exec .priorityPromotion s = .next (promote a (until_ (a.at_ + 4000) s)) := by
  change execPriorityPromotion s = _
  simp only [execPriorityPromotion, h]

/-- Settles O35: each command by its case. -/
theorem atomicCommands : Obligations.AtomicCommands :=
  ⟨fun _ _ _ _ _ h hda hop =>
      ⟨exec_atomicOp_misaligned h hda hop, fun _ hal hsk => exec_atomicOp_aligned h hda hop hal hsk⟩,
    fun _ _ _ _ => exec_bar4NonAtomic_of_offers,
    fun _ _ _ _ _ _ ht hph => ⟨exec_atmAluDone_of_atomic ht hph, exec_atmAluDone_of_append ht hph⟩,
    fun _ _ => exec_priorityPromotion_of_next⟩

end Sys2Proof.Machine

/-! SUPPORT. The fields of a word: what storing bits under a mask leaves in them, and what a write of a register stores in
them (R12, R13). -/

namespace Sys2Proof.Machine

open Sys2Proof

/-! ### Bits of a word -/

theorem testBit_bitsOf (w hi lo i : Nat) : (bitsOf w hi lo).testBit i = (decide (i < hi + 1 - lo) && w.testBit (lo + i)) := by
  rw [bitsOf, Nat.testBit_mod_two_pow, Nat.testBit_div_two_pow, Nat.add_comm i lo]

theorem testBit_mixBits (old w mask i : Nat) :
    (mixBits old w mask).testBit i = if mask.testBit i = true then w.testBit i else old.testBit i := by
  simp only [mixBits, Nat.testBit_or, Nat.testBit_xor, Nat.testBit_and]
  cases mask.testBit i <;> simp

/-- A field that the mask takes in full comes from the word written. -/
theorem bitsOf_mixBits_of_full {mask hi lo : Nat} (old w : Nat) (h : bitsOf mask hi lo = 2 ^ (hi + 1 - lo) - 1) :
    bitsOf (mixBits old w mask) hi lo = bitsOf w hi lo := by
  refine Nat.eq_of_testBit_eq fun i => ?_
  have hmask := congrArg (·.testBit i) h
  simp only [testBit_bitsOf, Nat.testBit_two_pow_sub_one] at hmask
  simp only [testBit_bitsOf, testBit_mixBits]
  cases hlt : decide (i < hi + 1 - lo)
  · simp only [Bool.false_and]
  · rw [hlt, Bool.true_and] at hmask
    simp only [hmask, if_true]

/-- A field that the mask leaves out keeps its bits. -/
theorem bitsOf_mixBits_of_clear {mask hi lo : Nat} (old w : Nat) (h : bitsOf mask hi lo = 0) :
    bitsOf (mixBits old w mask) hi lo = bitsOf old hi lo := by
  refine Nat.eq_of_testBit_eq fun i => ?_
  have hmask := congrArg (·.testBit i) h
  simp only [testBit_bitsOf, Nat.zero_testBit] at hmask
  simp only [testBit_bitsOf, testBit_mixBits]
  cases hlt : decide (i < hi + 1 - lo)
  · simp only [Bool.false_and]
  · rw [hlt, Bool.true_and] at hmask
    simp only [hmask, Bool.false_eq_true, if_false]

/-- A field lies in the bits below any bound that is above it. -/
theorem bitsOf_mod_two_pow (w lo : Nat) {hi n : Nat} (h : hi < n) : bitsOf (w % 2 ^ n) hi lo = bitsOf w hi lo := by
  refine Nat.eq_of_testBit_eq fun i => ?_
  simp only [testBit_bitsOf, Nat.testBit_mod_two_pow]
  by_cases hlt : i < hi + 1 - lo
  · simp only [show lo + i < n by omega, decide_true, Bool.true_and]
  · simp only [hlt, decide_false, Bool.false_and]

theorem bitsOf_setBits_same (w hi lo v : Nat) : bitsOf (setBits w hi lo v) hi lo = v % 2 ^ (hi + 1 - lo) := by
  have hlo : 0 < 2 ^ lo := Nat.two_pow_pos lo
  have hclear : w / 2 ^ lo - w / 2 ^ lo % 2 ^ (hi + 1 - lo) = 2 ^ (hi + 1 - lo) * (w / 2 ^ lo / 2 ^ (hi + 1 - lo)) := by
    have := Nat.div_add_mod (w / 2 ^ lo) (2 ^ (hi + 1 - lo))
    omega
  rw [bitsOf, setBits, bitsOf, Nat.add_mul_div_right _ _ hlo, Nat.mul_comm _ (2 ^ lo), Nat.sub_mul_div, hclear,
    Nat.mul_add_mod, Nat.mod_mod]

theorem bitsOf_setBits_of_below {hi lo : Nat} (w hi' lo' v : Nat) (h : hi < lo') :
    bitsOf (setBits w hi' lo' v) hi lo = bitsOf w hi lo := by
  have hle : bitsOf w hi' lo' * 2 ^ lo' ≤ w :=
    (Nat.mul_le_mul_right _ (Nat.mod_le _ _)).trans (Nat.div_mul_le_self w (2 ^ lo'))
  have hmod : setBits w hi' lo' v % 2 ^ lo' = w % 2 ^ lo' := by
    rw [setBits, Nat.add_mul_mod_self_right, Nat.mul_comm, Nat.sub_mul_mod (Nat.mul_comm _ _ ▸ hle)]
  rw [← bitsOf_mod_two_pow _ lo h, hmod, bitsOf_mod_two_pow _ lo h]

/-! ### The word that a write stores -/

/-- A register without bits of absent units stores its RW fields, each brought into its limits, and 0 elsewhere. -/
theorem storeForm_of_regFind {off i : Nat} {d : RegDef} (part : Part) (w : Nat) (h : regFind off = some (d, i))
    (hmask : pmMask off = 0) :
    storeForm part off w = (d.flds.filter (·.acc = .rw)).foldl
      (fun a f => setBits a f.hi f.lo (fixField (part == .pm) off f w (bitsOf w f.hi f.lo))) 0 := by
  simp only [storeForm, h, hmask, Nat.and_zero, Nat.xor_zero, ite_self, List.foldl_filter, decide_eq_true_eq]

/-- A field whose bits are all RW takes what `storeForm` brings within its limits, on every part. -/
theorem bitsOf_newWord_of_rw {off hi lo : Nat} (part : Part) (old w : Nat) (hoff : 0x40 ≤ off % 4096) (hlk : lkBits off = 0)
    (hrw : bitsOf (rwBits off) hi lo = 2 ^ (hi + 1 - lo) - 1) (hrsv : bitsOf (rsvBits off) hi lo = 0) :
    bitsOf (newWord part off old w) hi lo = bitsOf (storeForm part off w) hi lo := by
  have hex : bitsOf (if part = .ex then rsvBits off else 0) hi lo = 0 := by
    split
    · exact hrsv
    · simp [bitsOf]
  simp only [newWord, if_neg (show ¬ off % 4096 = 4 by omega), if_neg (show ¬ off % 4096 = 16 by omega), hlk, Nat.and_zero,
    Nat.or_zero]
  rw [bitsOf_mixBits_of_clear _ _ hex, bitsOf_mixBits_of_full _ _ hrw]

theorem tblWf_regs_of_ok {x : Io} (h : x.ok = true) : tblWf x.regs := by
  simp only [Io.ok, Bool.and_eq_true] at h
  obtain ⟨-, -, hregs⟩ := h
  exact hregs

theorem regOf_putReg_same {x : Io} (off : Nat) (w : Word) (h : x.ok = true) : regOf (putReg x off w) off = w :=
  tblGet_set_same (tblWf_regs_of_ok h)

theorem io_ok_of_ok {s : State} (h : s.ok = true) : s.io.ok = true := by
  rw [State.ok, Bool.and_eq_true] at h
  exact h.1

/-- A field of the register that a write has stored. -/
theorem fld_stored_same {s : State} (off w lo : Nat) {hi : Nat} (h : s.ok = true) (hhi : hi < 32) :
    fld (Claims.stored off w s) off hi lo = bitsOf (newWord s.part off (regOf s.io off).toNat w) hi lo := by
  rw [fld, fldOf, Claims.stored, regOf_putReg_same off _ (io_ok_of_ok h), BitVec.toNat_ofNat, bitsOf_mod_two_pow _ _ hhi]

/-! ### The path of a write that is taken (R14, R578, R579) -/

/-- A write that hits no reserved bit sets no RSV_WR. -/
theorem tellRsv_of_no_hit {who : Writer} {off old w : Nat} {s : State} (h : hitsRsv off old w = false) :
    tellRsv who off old w s = s := by
  simp [tellRsv, h]

theorem storeWord_of_register {m : Master} {off old w : Nat} {s : State} (hoff : 0x40 ≤ off % 4096)
    (hdata : dataWrite off (newWord s.part off old w) s = none) :
    storeWord m off old w s = (false, settle (onWrite m off old (newWord s.part off old w) w
      (onIo (fun io => putReg io off (BitVec.ofNat 32 (newWord s.part off old w))) s))) := by
  have hlt : ¬ off % 4096 < 0x40 := by omega
  simp only [storeWord, if_neg hlt, hdata]

/-- The owner's write of an aligned word: stored, then what the register commands. -/
theorem regPut_of_mayWrite {s : State} {m : Master} {off : Nat} {w : Word} (h : Claims.MayWrite s m off w.toNat)
    (hthere : regThere off = true) (hlt : off < 0x400000) (hal : off % 4 = 0) (hfree : freeReg off = false)
    (hcal : calGuard s off = false) (hoff : 0x40 ≤ off % 4096)
    (hdata : dataWrite off (newWord s.part off (regOf s.io off).toNat w.toNat) s = none) :
    regPut m off w s = .next (settle (onWrite m off (regOf s.io off).toNat
      (newWord s.part off (regOf s.io off).toNat w.toNat) w.toNat (Claims.stored off w.toNat s))) := by
  obtain ⟨hreach, hnv, howner, hhand, habs, hlock, hrsv⟩ := h
  have hfit : off + 4 ≤ 0x800000 := by omega
  have hwords : wordsOf off 4 w.toNat = some [(off, w.toNat)] := by
    simp [wordsOf, hal, show ¬ 0x400000 ≤ off by omega, Nat.mod_eq_of_lt w.isLt]
  have hmay : mayWrite s m = true := by simp [mayWrite, howner, hhand]
  have hlock' : ¬ (lockable off = true ∧ fldOf s.io (pageOf off + 12) 0 0 = 1) := fun ⟨hl, h1⟩ => hlock hl h1
  have hword : writeWord (some m) off w.toNat s = storeWord m off (regOf s.io off).toNat w.toNat s := by
    simp [writeWord, hthere, habs, hlock', hcal, tellRsv_of_no_hit hrsv, asMaster]
  have hreg : regWrite m off 4 w.toNat s = writeWords (some m) [(off, w.toNat)] s := by
    simp [regWrite, hnv, hwords, presentWords, habs, arbWrite, hfree, hmay, eachIn]
  rw [regPut, regCmd, hreach, decide_eq_true hfit, hreg]
  simp only [writeWords, List.foldl, hword, storeWord_of_register hoff hdata, Bool.and_self, if_true]
  rfl

end Sys2Proof.Machine

/-! SUPPORT. The epoch: what a tick does, in the order of R31, and what a write of CTR.EPOCH does to its end. -/

namespace Sys2Proof.Machine

open Sys2Proof

/-! ### The tick (R29, R31, R33) -/

/-- In the states that have ticks, EPOCH_TICK is the tick that falls at the end of the epoch. -/
theorem exec_epochTick_of_ticking {s : State} {t : Nat} (adc : List Adc) (htick : ticking s = true) (hend : s.epochEnd = some t) :
    exec (.epochTick adc) s = .next (settle (afterTick (undoShed (tickAll t adc (until_ t s))))) := by
  change execEpochTick adc s = _
  simp only [execEpochTick, hend, htick, if_true]

/-- Settles O21: the tick is `tickAll` at the end of the epoch; steps 1 and 2 of R31 are `tickHead`, and the ledger's evaluation
comes after the policy's frames have started. -/
theorem ticksActInOrder : Obligations.TicksActInOrder := by
  intro s adc t htick hend p s0 s1 s2 s3 s4
  have hhead : tickHead t (until_ t s) = s2 := rfl
  have hall : tickAll t adc (until_ t s) = if s3.ldg.closed = true then s4 else tickLedger s4 := by
    rw [tickAll, hhead]
    rfl
  rw [exec_epochTick_of_ticking adc htick hend, hall]

/-! ### CTR.EPOCH (R35) -/

theorem regFind_epoch : regFind Reg.CTR_EPOCH =
    some (⟨Reg.CTR_EPOCH, 4, 1, .nv, [⟨13, 0, .rw, 1000, 250, 10000⟩, rsv 15 14, ⟨16, 16, .rw, 0, 0, 1⟩, rsv 31 17]⟩, 0) := by
  decide

/-- The fields of CTR.EPOCH are among those that are brought to the nearer limit. -/
theorem fixField_epoch (pm : Bool) (f : Fld) (w v : Nat) : fixField pm Reg.CTR_EPOCH f w v = clampTo f.mn f.mx v := by
  simp [fixField]

/-- The RW fields of CTR.EPOCH are PERIOD and PHASE_LOCK. -/
theorem epoch_rwFields :
    [⟨13, 0, .rw, 1000, 250, 10000⟩, rsv 15 14, ⟨16, 16, .rw, 0, 0, 1⟩, rsv 31 17].filter (·.acc = .rw) =
      [⟨13, 0, .rw, 1000, 250, 10000⟩, ⟨16, 16, .rw, 0, 0, 1⟩] := rfl

/-- What a write stores in CTR.EPOCH: PERIOD and PHASE_LOCK, each within its limits. -/
theorem storeForm_epoch (part : Part) (w : Nat) : storeForm part Reg.CTR_EPOCH w =
    setBits (setBits 0 13 0 (clampTo 250 10000 (bitsOf w 13 0))) 16 16 (clampTo 0 1 (bitsOf w 16 16)) := by
  rw [storeForm_of_regFind part w regFind_epoch (by decide), epoch_rwFields, List.foldl_cons, List.foldl_cons, List.foldl_nil,
    fixField_epoch, fixField_epoch]

theorem bitsOf_newWord_period (part : Part) (old w : Nat) :
    bitsOf (newWord part Reg.CTR_EPOCH old w) 13 0 = max 250 (min 10000 (w % 2 ^ 14)) := by
  have hfit : clampTo 250 10000 (bitsOf w 13 0) < 2 ^ 14 := by
    rw [clampTo]
    omega
  rw [bitsOf_newWord_of_rw part old w (by decide) (by decide) (by decide) (by decide), storeForm_epoch,
    bitsOf_setBits_of_below _ _ _ _ (by decide), bitsOf_setBits_same, Nat.mod_eq_of_lt hfit]
  simp only [clampTo, bitsOf, Nat.pow_zero, Nat.div_one, Nat.sub_zero]

theorem bitsOf_newWord_phaseLock (part : Part) (old w : Nat) :
    bitsOf (newWord part Reg.CTR_EPOCH old w) 16 16 = w / 2 ^ 16 % 2 := by
  have hle : bitsOf w 16 16 ≤ 1 := Nat.le_of_lt_succ (Nat.mod_lt _ (by decide))
  have hclamp : clampTo 0 1 (bitsOf w 16 16) = bitsOf w 16 16 := by
    rw [clampTo, Nat.zero_max, Nat.min_eq_right hle]
  rw [bitsOf_newWord_of_rw part old w (by decide) (by decide) (by decide) (by decide), storeForm_epoch, bitsOf_setBits_same,
    hclamp, bitsOf, Nat.mod_mod, show 16 + 1 - 16 = 1 from rfl, Nat.pow_one]

theorem exec_epochPeriodWrite (m : Master) (w : Word) (s : State) :
    exec (.epochPeriodWrite m w) s = regPut m Reg.CTR_EPOCH w s := rfl

theorem exec_phaseLockWrite (m : Master) (w : Word) (s : State) :
    exec (.phaseLockWrite m w) s = regPut m Reg.CTR_EPOCH w s := rfl

/-- A write of CTR.EPOCH that is taken is followed by `epochWrite`. -/
theorem regPut_epoch {s : State} {m : Master} {w : Word} (h : Claims.MayWrite s m Reg.CTR_EPOCH w.toNat) :
    regPut m Reg.CTR_EPOCH w s = .next (settle (epochWrite (regOf s.io Reg.CTR_EPOCH).toNat
      (newWord s.part Reg.CTR_EPOCH (regOf s.io Reg.CTR_EPOCH).toNat w.toNat) (Claims.stored Reg.CTR_EPOCH w.toNat s))) :=
  regPut_of_mayWrite h (by decide) (by decide) (by decide) (by decide) (Bool.and_eq_false_iff.mpr (.inr (by decide)))
    (by decide) rfl

/-! ### The end of the epoch after a write (R36, R37) -/

section
variable {s : State} {old new e p : Nat}

theorem epochWrite_of_period_changed (hend : s.epochEnd = some e) (hnew : bitsOf new 13 0 = p) (hold : bitsOf old 13 0 ≠ p) :
    let next := (s.tb / (10 * p) + 1) * (10 * p)
    let v := tally Ctr.CTR_TICK_RECOMPUTE 1 { s with epochEnd := some (if bitsOf new 16 16 = 1 then next else s.epochAt + 10 * p) }
    epochWrite old new s =
      if ¬ bitsOf new 16 16 = 1 ∧ s.epochAt + 10 * p ≤ s.tb ∧ ticking s = true then
        afterTick (undoShed (tickAll s.tb [] v)) else v := by
  subst hnew
  simp only [epochWrite, hend, Option.isNone_some, Bool.false_eq_true, if_false, if_pos hold, beq_iff_eq, tally_tb, tally_epochAt]
  rfl

theorem epochWrite_of_lock_set (hend : s.epochEnd = some e) (hnew : bitsOf new 13 0 = p) (hold : bitsOf old 13 0 = p)
    (hlock : bitsOf new 16 16 = 1) (hfree : bitsOf old 16 16 = 0) :
    epochWrite old new s = { s with epochEnd := some ((s.tb / (10 * p) + 1) * (10 * p)) } := by
  simp [epochWrite, hend, hnew, hold, rose, hlock, hfree]

/-- A write that changes no period and does not set PHASE_LOCK leaves the end of the epoch as it is. -/
theorem epochWrite_of_kept (hnew : bitsOf new 13 0 = p) (hold : bitsOf old 13 0 = p)
    (hlock : ¬ bitsOf new 16 16 = 1 ∨ bitsOf old 16 16 = 1) : epochWrite old new s = s := by
  have hrose : rose old new 16 = false := by
    obtain h | h := hlock <;> simp [rose, h]
  simp [epochWrite, hnew, hold, hrose]

end

/-- Settles O25: the word stored field by field, and the end of the epoch by the three cases of `epochWrite`. -/
theorem epochWrites : Obligations.EpochWrites := by
  intro s m w e hok hmay hend
  have hperiod := bitsOf_newWord_period s.part (regOf s.io Reg.CTR_EPOCH).toNat w.toNat
  have hlock := bitsOf_newWord_phaseLock s.part (regOf s.io Reg.CTR_EPOCH).toNat w.toNat
  have hend' : (Claims.stored Reg.CTR_EPOCH w.toNat s).epochEnd = some e := hend
  refine ⟨(fld_stored_same _ _ _ hok (by decide)).trans hperiod, (fld_stored_same _ _ _ hok (by decide)).trans hlock,
    fun hchg => ?_, fun hsame hset hclear => ?_, fun hsame hkept => ?_⟩
  all_goals rw [exec_epochPeriodWrite, exec_phaseLockWrite, and_self, regPut_epoch hmay]
  · rw [epochWrite_of_period_changed hend' hperiod hchg, hlock]
    rfl
  · rw [epochWrite_of_lock_set hend' hperiod hsame (hlock.trans hset) hclear]
    rfl
  · rw [epochWrite_of_kept hperiod hsame (hkept.imp_left (hlock ▸ ·))]

end Sys2Proof.Machine

/-! SUPPORT. One step from a state that is `ok`. -/

namespace Sys2Proof.Machine

open Sys2Proof

/-- `State.ok` asks nothing of the queue. -/
theorem ok_withPending (q : List Instr) (s : State) : State.ok { s with pending := q } = s.ok := rfl

theorem step_of_empty {s : State} (h : s.pending = []) : step s = .next (idle s) := by
  rw [step, h]

theorem step_of_front {s : State} {c : Instr} {rest : List Instr} (h : s.pending = c :: rest) :
    step s = exec c { s with pending := rest } := by
  rw [step, h]

theorem exec_keeps_ok {c : Instr} {s t : State} (hok : s.ok = true) (h : exec c s = .next t) : t.ok = true :=
  let ⟨_, _, hkept⟩ := exec_good c s (Good.self s) h
  hkept hok

theorem idle_keeps_ok {s : State} (hok : s.ok = true) : (idle s).ok = true :=
  let ⟨_, _, hkept⟩ := idle_good s (Good.self s)
  hkept hok

/-- Settles O3: on an empty queue the step idles, else it is the front command on the state with the rest of the queue; both keep
what `Good` says. -/
theorem stepKeepsTheInvariant : Obligations.StepKeepsTheInvariant := by
  intro s t hok hstep
  cases hq : s.pending with
  | nil =>
    rw [step_of_empty hq] at hstep
    exact Host.Outcome.next.inj hstep ▸ idle_keeps_ok hok
  | cons c rest =>
    rw [step_of_front hq] at hstep
    exact exec_keeps_ok ((ok_withPending rest s).trans hok) hstep

end Sys2Proof.Machine

/-! SUPPORT. Address maps: the write of a home-map entry, the end of its back-invalidation, and the HDM decoders. -/

namespace Sys2Proof.Machine

open Sys2Proof

/-! ### A word that the arbiter takes (R578, R579) -/

section
variable {s : State} {m : Master} {off : Nat} {w : Word}

/-- A register that exists, is not locked and is no figure of a calibration is stored. -/
theorem writeWord_of_mayWrite (h : Claims.MayWrite s m off w.toNat) (hthere : regThere off = true) (hcal : calGuard s off = false) :
    writeWord (some m) off w.toNat s = storeWord m off (regOf s.io off).toNat w.toNat s := by
  obtain ⟨-, -, -, -, habs, hlock, hrsv⟩ := h
  have hlock' : ¬ (lockable off = true ∧ fldOf s.io (pageOf off + 12) 0 0 = 1) := fun ⟨hl, h1⟩ => hlock hl h1
  simp [writeWord, hthere, habs, hlock', hcal, tellRsv_of_no_hit hrsv, asMaster]

/-- The owner's write of one aligned word, whatever kind of register it is for. -/
theorem regPut_eq_storeWord (h : Claims.MayWrite s m off w.toNat) (hthere : regThere off = true) (hlt : off < 0x400000)
    (hal : off % 4 = 0) (hfree : freeReg off = false) (hcal : calGuard s off = false) :
    regPut m off w s = .next (storeWord m off (regOf s.io off).toNat w.toNat s).2 := by
  have hword := writeWord_of_mayWrite h hthere hcal
  obtain ⟨hreach, hnv, howner, hhand, habs, -, -⟩ := h
  have hfit : off + 4 ≤ 0x800000 := by omega
  have hwords : wordsOf off 4 w.toNat = some [(off, w.toNat)] := by
    simp [wordsOf, hal, Nat.not_le.mpr hlt, Nat.mod_eq_of_lt w.isLt]
  have hreg : regWrite m off 4 w.toNat s = writeWords (some m) [(off, w.toNat)] s := by
    simp [regWrite, hnv, hwords, presentWords, habs, arbWrite, hfree, mayWrite, howner, hhand, eachIn]
  rw [regPut, regCmd, hreach, decide_eq_true hfit, hreg]
  simp only [writeWords, List.foldl, hword, Bool.and_self, if_true]

/-- A register that selects the entry of a table takes its word through `dataWrite`. -/
theorem storeWord_of_table {old n : Nat} {r : Bool × State} (hoff : 0x40 ≤ off % 4096)
    (hdata : dataWrite off (newWord s.part off old n) s = some r) :
    storeWord m off old n s = (r.1, keepRsv off (newWord s.part off old n) r.2) := by
  simp only [storeWord, if_neg (Nat.not_lt.mpr hoff), hdata]

end

/-! ### Home-map entries (R55, R56) -/

section
variable {s : State} {win w : Nat}

theorem hmapWrite_refused (h : s.hpt.pend ≠ none ∨
      ((HmapE.ofWord w).valid = true ∧ (hmapEntry s win).valid = true ∧ HmapE.ofWord w ≠ hmapEntry s win)) :
    hmapWrite win w s = (true, rcFlag Reg.COH_HMAP_STS 1 s) := by
  refine if_pos (h.imp_left fun hp => ?_)
  rwa [Option.isSome_iff_ne_none]

theorem hmapWrite_of_valid (hpend : s.hpt.pend = none) (hvalid : (HmapE.ofWord w).valid = true)
    (hentry : (hmapEntry s win).valid = false ∨ HmapE.ofWord w = hmapEntry s win) :
    hmapWrite win w s = (false, settle (putHmap win (HmapE.ofWord w) s)) := by
  have htaken : ¬ ((hmapEntry s win).valid = true ∧ HmapE.ofWord w ≠ hmapEntry s win) := by
    obtain he | he := hentry <;> simp [he]
  simp [hmapWrite, hpend, hvalid, htaken]

theorem hmapWrite_of_invalid (hpend : s.hpt.pend = none) (hvalid : (HmapE.ofWord w).valid = false) :
    hmapWrite win w s = (false, settle (onHpt (fun h => { h with pend := some (win, windowKey s (hmapEntry s win)) })
      (putHmap win (HmapE.ofWord w) s))) := by
  simp [hmapWrite, hpend, hvalid]

end

/-- A write of HMAP_DATA that is taken is the write of the entry that HMAP_SEL selects. -/
theorem exec_hmapDataWrite_of_mayWrite {s : State} {m : Master} {w : Word} (h : Claims.MayWrite s m Reg.COH_HMAP_DATA w.toNat) :
    let v := newWord s.part Reg.COH_HMAP_DATA (regOf s.io Reg.COH_HMAP_DATA).toNat w.toNat
    exec (.hmapDataWrite m w) s = .next (keepRsv Reg.COH_HMAP_DATA v (hmapWrite (fld s Reg.COH_HMAP_SEL 11 0) v s).2) := by
  have hstore := regPut_eq_storeWord h (by decide) (by decide) (by decide) (by decide) (Bool.and_eq_false_iff.mpr (.inr (by decide)))
  rw [storeWord_of_table (by decide) (if_pos rfl)] at hstore
  exact hstore

/-- The back-invalidation of a window ends once no copy is tracked under it, no BISnp is open and no entry addresses it. -/
theorem exec_hmapInvalidationDone_of_clear {s : State} {win key : Nat} (hpend : s.hpt.pend = some (win, key))
    (hways : trackedWays s key = []) (hbis : ∀ b ∈ s.cache.bis, b.sk / 2 ^ 28 ≠ key)
    (htxns : ∀ t ∈ s.cache.txns, t.held = true → t.sk / 2 ^ 28 ≠ key) :
    exec .hmapInvalidationDone s = .next (onHpt (fun h => { h with pend := none }) s) := by
  have hnobis : s.cache.bis.any (fun b => b.sk / 2 ^ 28 == key) = false := by
    simpa using hbis
  have hnotxn : s.cache.txns.any (fun t => t.held && t.sk / 2 ^ 28 == key) = false := by
    simpa using htxns
  change execHmapInvalidationDone s = _
  simp [-Nat.reducePow, execHmapInvalidationDone, hpend, hways, hnobis, hnotxn]

/-! ### HDM decoders (R44, R48) -/

section
variable {s : State} {p i : Nat} {d : Option Hdm}

/-- A decoder that is not committed changes at once. -/
theorem changeHdm_of_none (h : (port s p).hdm.getD i none = none) : changeHdm p i d s = settle (setDec p i d s) := by
  unfold changeHdm
  refine congrArg settle ?_
  rw [h]
  exact if_pos rfl

/-- The release of a committed decoder begins a walk, which ends with the decoder gone. -/
theorem changeHdm_release {old : Hdm} (h : (port s p).hdm.getD i none = some old) (hcomm : old.committed = true) :
    changeHdm p i none s = settle (onPort p (fun x => { x with walk := x.walk.filter (·.1 != i) ++ [(i, none)] }) s) := by
  unfold changeHdm
  refine congrArg settle ?_
  rw [h]
  exact if_neg (by simp [hcomm])

end

section
variable {s : State} {p i : Nat}

theorem exec_hdmDecoderCommit_of_free (d : Hdm) (hserves : serves s p = true) (hi : i < 4) (hfree : hdmLocked (port s p) i = false) :
    exec (.hdmDecoderCommit p i d) s = if hdmOk (port s p) i d = true then .next (changeHdm p i (some { d with committed := true }) s)
      else .next (emit (.cxl p 0 "ErrorNotCommitted" none false) s) := by
  change execHdmDecoderCommit p i d s = _
  simp [execHdmDecoderCommit, hserves, Nat.not_le.mpr hi, hfree]

theorem exec_hdmDecoderUncommit_of_free (hserves : serves s p = true) (hi : i < 4) (hfree : hdmLocked (port s p) i = false) :
    exec (.hdmDecoderUncommit p i) s = .next (changeHdm p i none s) := by
  change execHdmDecoderUncommit p i s = _
  simp [execHdmDecoderUncommit, hserves, Nat.not_le.mpr hi, hfree]

end

/-- Settles O27: the home map by the three cases of `hmapWrite`, the decoders by whether R44 allows the commit and by whether the
one released was committed. -/
theorem addressMapCommands : Obligations.AddressMapCommands := by
  refine ⟨fun s m w hmay => ⟨fun hrefused => ?_, fun hpend hvalid hentry => ?_, fun hpend hvalid => ?_⟩,
    fun s win key => exec_hmapInvalidationDone_of_clear,
    fun s p i d hserves hi hfree => ⟨fun hnone hok => ?_, fun hbad => ?_, fun old hold hcomm => ?_⟩⟩
  · rw [exec_hmapDataWrite_of_mayWrite hmay, hmapWrite_refused hrefused]
  · rw [exec_hmapDataWrite_of_mayWrite hmay, hmapWrite_of_valid hpend hvalid hentry]
  · rw [exec_hmapDataWrite_of_mayWrite hmay, hmapWrite_of_invalid hpend hvalid]
  · rw [exec_hdmDecoderCommit_of_free d hserves hi hfree, if_pos hok, changeHdm_of_none hnone]
  · rw [exec_hdmDecoderCommit_of_free d hserves hi hfree, hbad, if_neg Bool.false_ne_true]
  · rw [exec_hdmDecoderUncommit_of_free hserves hi hfree, changeHdm_release hold hcomm]

end Sys2Proof.Machine

/-! SUPPORT. TRANSFER_FW where channel 16 is not secure, and a state whose stored registers are not in their canonical form. -/

namespace Sys2Proof.Machine

open Sys2Proof

/-! ### The owner's mailbox (R99) -/

/-- The owner's command runs on the state in which it is counted. -/
theorem mbox_of_owner {s : State} {p opc : Nat} {owner : Bool} (f : State → State) (hmail : Claims.Mail s p) (howns : Claims.Owns s p) :
    mbox p opc owner f s = .next (f (Claims.mailed s)) := by
  obtain ⟨hserves, hmode, hlock⟩ := hmail
  obtain ⟨howner, hhand⟩ := howns
  have hdeny : mboxDeny p opc owner (tally Ctr.HPT_MBOX_CMD 1 s) = none := by
    simp [mboxDeny, hmode, hlock, hhand, isOwner, beq_iff_eq.mp howner]
  simp [mbox, hserves, hdeny, Claims.mailed]

@[simp] theorem mboxDone_mgt (p opc : Nat) (status : String) (payload : List Byte) (s : State) :
    (mboxDone p opc status payload s).mgt = s.mgt := by
  unfold mboxDone
  split <;> rfl

@[simp] theorem bgEnd_mgt (p opc : Nat) (status : String) (s : State) : (bgEnd p opc status s).mgt = s.mgt :=
  mboxDone_mgt ..

/-- TRANSFER_FW that begins and finds channel 16 not secure (R565). -/
theorem exec_transferFw_aborted {s : State} {p typ : Nat} (last : Bool) {img : Image} (hmail : Claims.Mail s p) (howns : Claims.Owns s p)
    (hlo : 1 ≤ typ) (hhi : typ ≤ 3) (himg : img.typ = typ) (hnone : s.mgt.boot.transfer = none) (hfree : bgBusy s p = false)
    (hdma : dmaSecure (cmdBegin p 0x0201 (Claims.mailed s)) 16 = false) :
    exec (.transferFw p typ last img) s = .next (bgEnd p 0x0201 "INTERNAL_ERROR" (onBoot (fun b => { b with transfer := none })
      (flashAbort (cmdBegin p 0x0201 (Claims.mailed s))))) := by
  have hmode : (s.mgt.boot.mode == 2) = false := by
    obtain ⟨-, hmode, -⟩ := hmail
    rw [hmode]
    rfl
  have hnone' : (Claims.mailed s).mgt.boot.transfer = none := hnone
  have hfree' : bgBusy (Claims.mailed s) p = false := hfree
  change execTransferFw p typ last img s = _
  unfold execTransferFw
  refine (mbox_of_owner _ hmail howns).trans ?_
  simp [Nat.not_lt.mpr hlo, Nat.not_lt.mpr hhi, himg, hmode, hnone', background, hfree', hdma]

/-! ### Stored registers out of their order -/

/-- Host port 0, whose link is up, owns the device in Run. The keys of the stored registers fall where the canonical form has them
rise: TRK.PEAK stands before SEC.DMA_ATTR, whose stored 0 no lookup reaches, so that DMA_ATTR reads as its reset word. -/
def regsFall : State :=
  { State.reset with
    io := { State.reset.io with regs := [(Reg.TRK_PEAK, 0), (Reg.SEC_DMA_ATTR, 0)] }
    rsv := { State.reset.rsv with pst := .run }
    hpt := { State.reset.hpt with ports := setAt State.reset.hpt.ports 0 fun p => { p with up := true } }
    mgt := { State.reset.mgt with own := { State.reset.mgt.own with owner := some (mailboxOf 0) } } }

theorem regsFall_mail : Claims.Mail regsFall 0 := ⟨by decide, rfl, rfl⟩

theorem regsFall_owns : Claims.Owns regsFall 0 := ⟨by decide, rfl⟩

theorem regsFall_dmaSecure : dmaSecure regsFall 16 = true := by decide

theorem regsFall_bgBusy : bgBusy regsFall 0 = false := by decide

/-- The entry of a background command writes 0 over the 0 of TRK.PEAK, which takes TRK.PEAK off the list; the lookup of DMA_ATTR
then reaches its stored 0. -/
theorem regsFall_cmdBegin_dmaSecure : dmaSecure (cmdBegin 0 0x0201 (Claims.mailed regsFall)) 16 = false := by decide +kernel

/-- Refutes O38: the statement asks no canonical form of the stored registers, as `State.ok` does. In `regsFall` channel 16 is secure
before TRANSFER_FW and not once the command has its tracker entry, so the first body part of an image ends with INTERNAL_ERROR and
no transfer belongs to the port. -/
theorem not_mailboxOwnerCommands : ¬ Obligations.MailboxOwnerCommands := by
  intro h
  obtain ⟨howner, -⟩ := h regsFall 0 1 0 0 0 [] Image.factoryMcf regsFall_mail
  obtain ⟨-, -, hsecure, -⟩ := howner regsFall_owns
  obtain ⟨htransfer, -⟩ := hsecure regsFall_dmaSecure
  obtain ⟨hfirst, -⟩ := htransfer (by decide) (by decide) rfl
  obtain ⟨hbegins, -⟩ := hfirst rfl regsFall_bgBusy
  have haborts := exec_transferFw_aborted false regsFall_mail regsFall_owns (by decide) (by decide) rfl rfl regsFall_bgBusy
    regsFall_cmdBegin_dmaSecure (img := Image.factoryMcf) (typ := 1)
  have htransfer := congrArg (·.mgt.boot.transfer) (Host.Outcome.next.inj (haborts.symm.trans hbegins))
  rw [bgEnd_mgt] at htransfer
  exact nomatch htransfer

end Sys2Proof.Machine

/-! SUPPORT. Completions of media commands and errors of media ports, each command in the case in which it acts. -/

namespace Sys2Proof.Machine

open Sys2Proof

/-! ### The command that a completion names -/

theorem findCmd_cid {s : State} {cid : Nat} {c : Cmd} (h : findCmd s cid = some c) : c.cid = cid := by
  simpa using List.find?_some h

/-! ### Completions (R71, R168, R325, R331, R334, R341, R349, R350, R543) -/

section
variable {s : State} {cid : Nat} {c : Cmd} (hfind : findCmd s cid = some c) (hlive : c.lost = false)
include hfind hlive

section
variable (hread : (∃ t g, c.what = .fill t g) ∨ ∃ p, c.what = .sinterRd p)
include hread

theorem exec_mediaReadCompletion_ok :
    exec (.mediaReadCompletion cid .ok) s = .next (mediaOn (readDone c true (endCmd c true true s))) := by
  change execMediaReadCompletion cid .ok s = _
  obtain ⟨t, g, hwhat⟩ | ⟨p, hwhat⟩ := hread <;>
    simp [execMediaReadCompletion, hfind, hlive, hwhat]

theorem exec_mediaReadCompletion_aborted : exec (.mediaReadCompletion cid .aborted) s = .next (reissue c s) := by
  change execMediaReadCompletion cid .aborted s = _
  obtain ⟨t, g, hwhat⟩ | ⟨p, hwhat⟩ := hread <;>
    simp [execMediaReadCompletion, hfind, hlive, hwhat]

/-- A read that failed, where no run-ahead fetch was squashed: once more where RETRY_RD is set and it was not yet (R349). -/
theorem exec_mediaReadCompletion_err (hspec : specCid s cid = false) :
    exec (.mediaReadCompletion cid .err) s = if flag s Reg.MED_CMD_CFG 20 = true ∧ c.retried = false then
      .next (tally Ctr.MED_RD_RETRY 1 (reissue c (onCmd cid (fun c => { c with retried := true }) s)))
      else .next (mediaOn (readDone c false (endCmd c true false s))) := by
  change execMediaReadCompletion cid .err s = _
  obtain ⟨t, g, hwhat⟩ | ⟨p, hwhat⟩ := hread <;>
    simp [execMediaReadCompletion, hfind, hlive, hwhat, hspec]

end

section
variable (hpage : (∃ q, c.what = .page q) ∨ ∃ ns pg again, c.what = .summary ns pg again)
include hpage

theorem exec_journalPageCompletion_ok :
    exec (.journalPageCompletion cid .ok) s = .next (mediaOn (pageDone c true (endCmd c false true s))) := by
  change execJournalPageCompletion cid .ok s = _
  obtain ⟨q, hwhat⟩ | ⟨ns, pg, again, hwhat⟩ := hpage <;>
    simp [execJournalPageCompletion, hfind, hlive, hwhat]

theorem exec_journalPageCompletion_aborted : exec (.journalPageCompletion cid .aborted) s = .next (reissue c s) := by
  change execJournalPageCompletion cid .aborted s = _
  obtain ⟨q, hwhat⟩ | ⟨ns, pg, again, hwhat⟩ := hpage <;>
    simp [execJournalPageCompletion, hfind, hlive, hwhat]

end

/-- A journal page fails at once, a summary page at its second write. -/
theorem exec_journalPageCompletion_err (hpage : (∃ q, c.what = .page q) ∨ ∃ ns pg, c.what = .summary ns pg true) :
    exec (.journalPageCompletion cid .err) s = .next (mediaOn (pageDone c false (endCmd c false false s))) := by
  have hbad : (MOut.err == MOut.ok) = false := rfl
  change execJournalPageCompletion cid .err s = _
  obtain ⟨q, hwhat⟩ | ⟨ns, pg, hwhat⟩ := hpage <;>
    simp [execJournalPageCompletion, hfind, hlive, hwhat, hbad]

theorem exec_journalPageCompletion_summary_err {ns pg : Nat} (hwhat : c.what = .summary ns pg false) :
    exec (.journalPageCompletion cid .err) s = .next (sumAgain c ns pg s) := by
  change execJournalPageCompletion cid .err s = _
  simp [execJournalPageCompletion, hfind, hlive, hwhat]

section
variable (hwhat : c.what = .create)
include hwhat

theorem exec_journalPageCompletion_create (out : MOut) :
    exec (.journalPageCompletion cid out) s = .next (settle (bootPump (makeOn c out s))) := by
  change execJournalPageCompletion cid out s = _
  simp [execJournalPageCompletion, hfind, hlive, hwhat]

theorem exec_labelAreaWriteCompletion_create (out : MOut) :
    exec (.labelAreaWriteCompletion cid out) s = .next (makeOn c out s) := by
  change execLabelAreaWriteCompletion cid out s = _
  simp [execLabelAreaWriteCompletion, hfind, hlive, hwhat]

end

section
variable {p : Nat} (hwhat : c.what = .sinterWr p)
include hwhat

theorem exec_sinterHomeWriteDone_ok :
    exec (.sinterHomeWriteDone cid .ok) s = .next (mediaOn (homeWritten p (endCmd c false true s))) := by
  change execSinterHomeWriteDone cid .ok s = _
  simp [execSinterHomeWriteDone, hfind, hlive, hwhat]

theorem exec_sinterHomeWriteDone_err :
    exec (.sinterHomeWriteDone cid .err) s = .next (mediaOn (homeFailed p (endCmd c false false s))) := by
  change execSinterHomeWriteDone cid .err s = _
  simp [execSinterHomeWriteDone, hfind, hlive, hwhat]

theorem exec_sinterHomeWriteDone_aborted : exec (.sinterHomeWriteDone cid .aborted) s = .next (reissue c s) := by
  change execSinterHomeWriteDone cid .aborted s = _
  simp [execSinterHomeWriteDone, hfind, hlive, hwhat]

end

section
variable (hlabel : (∃ n, c.what = .anchor n) ∨ ∃ n, c.what = .area n)
include hlabel

theorem exec_labelAreaWriteCompletion_ok : exec (.labelAreaWriteCompletion cid .ok) s =
    .next (settle (bootPump (mediaOn (labelDone c (endCmd c false true s))))) := by
  change execLabelAreaWriteCompletion cid .ok s = _
  obtain ⟨n, hwhat⟩ | ⟨n, hwhat⟩ := hlabel <;>
    simp [execLabelAreaWriteCompletion, hfind, hlive, hwhat]

theorem exec_labelAreaWriteCompletion_err :
    exec (.labelAreaWriteCompletion cid .err) s = .next (mediaOn (endCmd c false false s)) := by
  change execLabelAreaWriteCompletion cid .err s = _
  obtain ⟨n, hwhat⟩ | ⟨n, hwhat⟩ := hlabel <;>
    simp [execLabelAreaWriteCompletion, hfind, hlive, hwhat]

theorem exec_labelAreaWriteCompletion_aborted : exec (.labelAreaWriteCompletion cid .aborted) s = .next (reissue c s) := by
  change execLabelAreaWriteCompletion cid .aborted s = _
  obtain ⟨n, hwhat⟩ | ⟨n, hwhat⟩ := hlabel <;>
    simp [execLabelAreaWriteCompletion, hfind, hlive, hwhat]

end

/-! ### Timeouts (R318) -/

theorem exec_medCmdTimeout_of_running (habort : c.abortAt = none) :
    exec (.medCmdTimeout cid) s = .next (cmdTimeout c (until_ (c.at_ + cmdTo s) s)) := by
  change execMedCmdTimeout cid s = _
  simp [execMedCmdTimeout, hfind, hlive, habort]

theorem exec_medAbortTimeout_of_aborted {t : Nat} (habort : c.abortAt = some t) :
    exec (.medAbortTimeout cid) s = .next (abortTimeout c (until_ (t + cmdTo s) s)) := by
  change execMedAbortTimeout cid s = _
  simp [execMedAbortTimeout, hfind, hlive, habort]

end

/-- A summary page that is written asks nothing more. -/
theorem pageDone_summary_ok {c : Cmd} {ns pg : Nat} {again : Bool} (s : State) (h : c.what = .summary ns pg again) :
    pageDone c true s = s := by
  simp [pageDone, h]

theorem makeOn_create_ok {c : Cmd} (s : State) (h : c.what = .create) :
    makeOn c .ok s = mediaOn (makeDone c.ns c.lba (endCmd c false true s)) := by
  unfold makeOn
  simp only [h]

theorem makeOn_create_err {c : Cmd} (s : State) (h : c.what = .create) :
    makeOn c .err s = makePump (endCmd c false false s) := by
  unfold makeOn
  simp only [h]

theorem mediaCompletions : Claims.MediaCompletions := by
  intro s cid c hfind hlive
  refine ⟨fun hread => ⟨?_, ?_, fun hflag hfirst hspec => ?_, fun hagain hspec => ?_⟩, fun hpage => ?_,
    fun ns pg hwhat => ⟨?_, ?_, ?_⟩, fun hwhat => ⟨?_, ?_, ?_⟩, fun p hwhat => ⟨?_, ?_, ?_⟩, fun hlabel => ⟨?_, ?_, ?_⟩⟩
  · exact exec_mediaReadCompletion_ok hfind hlive hread
  · exact exec_mediaReadCompletion_aborted hfind hlive hread
  · rw [exec_mediaReadCompletion_err hfind hlive hread hspec, if_pos ⟨hflag, hfirst⟩]
  · rw [exec_mediaReadCompletion_err hfind hlive hread hspec, if_neg (by simp [hagain])]
  · have hpage' : (∃ q, c.what = .page q) ∨ ∃ ns pg again, c.what = .summary ns pg again :=
      hpage.imp_right fun ⟨ns, pg, hwhat⟩ => ⟨ns, pg, true, hwhat⟩
    exact ⟨exec_journalPageCompletion_ok hfind hlive hpage', exec_journalPageCompletion_err hfind hlive hpage,
      exec_journalPageCompletion_aborted hfind hlive hpage'⟩
  · rw [exec_journalPageCompletion_ok hfind hlive (.inr ⟨ns, pg, false, hwhat⟩), pageDone_summary_ok _ hwhat]
  · exact exec_journalPageCompletion_summary_err hfind hlive hwhat
  · exact exec_journalPageCompletion_aborted hfind hlive (.inr ⟨ns, pg, false, hwhat⟩)
  · rw [exec_journalPageCompletion_create hfind hlive hwhat, makeOn_create_ok _ hwhat]
  · rw [exec_journalPageCompletion_create hfind hlive hwhat, makeOn_create_err _ hwhat]
  · rw [exec_labelAreaWriteCompletion_create hfind hlive hwhat, makeOn_create_ok _ hwhat]
  · exact exec_sinterHomeWriteDone_ok hfind hlive hwhat
  · exact exec_sinterHomeWriteDone_err hfind hlive hwhat
  · exact exec_sinterHomeWriteDone_aborted hfind hlive hwhat
  · exact exec_labelAreaWriteCompletion_ok hfind hlive hlabel
  · exact exec_labelAreaWriteCompletion_err hfind hlive hlabel
  · exact exec_labelAreaWriteCompletion_aborted hfind hlive hlabel

/-! ### Ports and controllers (R317, R318, R351, R352) -/

section
variable {s : State} {p : Nat}

theorem exec_medCtrlReadyTimeout_of_reset {t : Nat} (h : (s.med.ports.getD p MPort.off).ctl.resetAt = some t) :
    exec (.medCtrlReadyTimeout p) s = .next (settle (bootPump (portLost p (until_ (t + 2 * cmdTo s) s)))) := by
  change execMedCtrlReadyTimeout p s = _
  simp only [execMedCtrlReadyTimeout, h]

theorem exec_medCtrlReady_of_reset {t : Nat} (nss : List FoundNs) (last : Bool) (h : (s.med.ports.getD p MPort.off).ctl.resetAt = some t)
    (hp : p < medPortCount s) (hmode : s.mgt.boot.mode = 0) (hrun : s.rsv.pst = .run) :
    exec (.medCtrlReady p nss last) s = .next (ctlBack p s) := by
  have hserved : ¬ (medPortCount s ≤ p ∨ s.mgt.boot.mode ≠ 0 ∨ (s.rsv.pst ≠ .startup ∧ s.rsv.pst ≠ .run ∧ s.rsv.pst ≠ .geyser)) := by
    simp [Nat.not_le.mpr hp, hmode, hrun]
  change execMedCtrlReady p nss last s = _
  simp only [execMedCtrlReady, if_neg hserved, h, Option.isSome_some, if_true]

theorem exec_mediaPortLost_of_link (h : (s.med.ports.getD p MPort.off).link = true) :
    exec (.mediaPortLost p) s = .next (settle (bootPump (portLost p s))) :=
  if_pos h

/-- Reading SMART leaves the controller as ready as it is. -/
theorem polled_ready (hp : p < s.med.ports.length) :
    ((polled p s).med.ports.getD p MPort.off).ctl.ready = (s.med.ports.getD p MPort.off).ctl.ready := by
  simp only [polled, onMPort, getD_setAt, hp, and_self, if_true]

/-- A controller that is ready tells of bad health at every poll (log 78). -/
theorem health_polled (warn : Bool) (used : Nat) (hp : p < s.med.ports.length) (h : (s.med.ports.getD p MPort.off).ctl.ready = true) :
    health p warn used (polled p s) =
      if warn = true ∨ 100 ≤ used then raise Ev.medDriveHealth 0 p (polled p s) else polled p s := by
  simp only [health, polled_ready hp, h, true_and]

theorem exec_smartPoll_of_ready (warn : Bool) (used : Nat) (h : (s.med.ports.getD p MPort.off).ctl.ready = true) :
    exec (.smartPoll p warn used) s = .next (health p warn used (polled p
      (until_ ((s.med.ports.getD p MPort.off).ctl.polled + 1000000 * max 1 (fld s Reg.MED_HEALTH_CFG 15 0)) s))) := by
  change execSmartPoll p warn used s = _
  simp only [execSmartPoll, h, not_true_eq_false, if_false]

theorem exec_nvmeAsyncEvent (warn : Bool) (used : Nat) :
    exec (.nvmeAsyncEvent p warn used) s = .next (health p warn used (polled p s)) := rfl

end

theorem mediaErrors : Claims.MediaErrors := by
  refine ⟨fun s cid c hfind hlive => ⟨fun habort => ?_, fun t habort => ?_⟩, fun s p t hreset => ⟨?_, fun hp hmode hrun nss last => ?_⟩,
    fun s p => exec_mediaPortLost_of_link, fun s p used warn hp hready => ⟨?_, ?_⟩⟩
  · rw [exec_medCmdTimeout_of_running hfind hlive habort, cmdTimeout, findCmd_cid hfind]
    rfl
  · rw [exec_medAbortTimeout_of_aborted hfind hlive habort, abortTimeout, findCmd_cid hfind]
    rfl
  · exact exec_medCtrlReadyTimeout_of_reset hreset
  · exact exec_medCtrlReady_of_reset nss last hreset hp hmode hrun
  · exact (exec_smartPoll_of_ready warn used hready).trans (congrArg _ (health_polled (s := until_ _ s) warn used hp hready))
  · exact (exec_nvmeAsyncEvent warn used).trans (congrArg _ (health_polled warn used hp hready))

/-- Settles O48: completions by what the command was for and how it ended, errors of the ports by what the port or controller does. -/
theorem mediaCommands : Obligations.MediaCommands := ⟨mediaCompletions, mediaErrors⟩

end Sys2Proof.Machine

/-! SUPPORT. The cache channels' own work: scrub, quarantine, refresh and temperature, failures and resilvering, each command in the
case in which it acts. -/

namespace Sys2Proof.Machine

open Sys2Proof

/-! ### Patrol scrub and quarantine (R156, R414, R415) -/

/-- The set at the scrub position of a channel or pair. -/
def scrubSet (s : State) (c : Nat) : Nat :=
  setAtPos s c ((chan s (scrubChan s c)).scrub % 2 ^ (s.hpt.setBits - s.hpt.chBits))

/-- What a slot makes of the four ways of a set, and the slot's count. -/
def slotRead (set : Nat) (rds : List Rd) (s : State) : State :=
  tally Ctr.CCH_SCRUB_SLOT 1 (upTo 4 (fun w s => scrubWay set w (rds.getD w ⟨[]⟩) s) s)

/-- Under the Reed–Solomon code no parity error waits for host copies (R424, R425). -/
theorem scrubWaits_of_reedSolomon {s : State} (h : s.cch.mode = false) (set : Nat) : scrubWaits s set = false := by
  simp only [scrubWaits, h, Bool.false_and]

theorem exec_scrubSlot_of_served {s : State} {c : Nat} (rds : List Rd) (hrun : running s = true)
    (hon : flag s Reg.CCH_SCRUB_CFG 8 = true) (hc : c < 2 ^ s.hpt.chBits) (hrs : s.cch.mode = false)
    (hserved : setFailed s (scrubSet s c) = false) (hrs' : (slotRead (scrubSet s c) rds s).cch.mode = false) :
    exec (.scrubSlot c rds) s = .next (settle (onChan (scrubChan s c) (scrubNext (slotRead (scrubSet s c) rds s))
      (slotRead (scrubSet s c) rds s))) := by
  have hslot : ¬ (¬ running s ∨ ¬ flag s Reg.CCH_SCRUB_CFG 8 ∨ 2 ^ s.hpt.chBits ≤ c) := by
    simp [hrun, hon, hc]
  have hset : ¬ (scrubWaits s (scrubSet s c) = true ∨ setFailed s (scrubSet s c) = true) := by
    simp [scrubWaits_of_reedSolomon hrs, hserved]
  have hmoves : ¬ scrubWaits (slotRead (scrubSet s c) rds s) (scrubSet s c) = true := by
    simp [scrubWaits_of_reedSolomon hrs']
  have hreads : exec (.scrubSlot c rds) s = .next (settle (if scrubWaits (slotRead (scrubSet s c) rds s) (scrubSet s c) = true
      then slotRead (scrubSet s c) rds s
      else onChan (scrubChan s c) (scrubNext (slotRead (scrubSet s c) rds s)) (slotRead (scrubSet s c) rds s))) :=
    (if_neg hslot).trans (if_neg hset)
  rw [hreads, if_neg hmoves]

theorem exec_quarantineRewrite_of_copyless {s : State} {k : Nat} (hquar : (wayAt s k).quar = true) (hrun : running s = true)
    (hhosts : sfFind s k = none) (hdevices : dirFind s k = none) :
    exec (.quarantineRewrite k) s =
      .next (settle (burstsWritten k [0, 1, 2, 3] (clearWay k (tally Ctr.CCH_SCRUB_SLOT 1 s)))) :=
  if_pos ⟨hquar, hrun, hhosts, hdevices⟩

/-! ### Refresh, temperature and failures of a channel that serves (R404, R421, R423) -/

section
variable {s : State} {c : Nat} (hon : (chan s c).on = true)
include hon

theorem exec_refreshInterval_of_on :
    exec (.refreshInterval c) s = .next (emit (.dram "REFSB" [c]) (tally Ctr.CCH_REFRESH 1 s)) :=
  if_pos hon

theorem exec_thermalPoll_cool {temp : Nat} (hcool : temp ≤ 85) :
    exec (.thermalPoll c temp) s = .next (onChan c (fun x => { x with temp := temp % 256, ref2x := false }) s) := by
  change execThermalPoll c temp s = _
  simp [execThermalPoll, hon, Nat.not_lt.mpr hcool]

/-- The double rate is reported when it begins, not at each poll. -/
theorem exec_thermalPoll_hot {temp : Nat} (hhot : 85 < temp) :
    exec (.thermalPoll c temp) s = .next (if (chan s c).ref2x = true
      then tally Ctr.CCH_REF2X_MS 1 (onChan c (fun x => { x with temp := temp % 256, ref2x := true }) s)
      else raise Ev.cchThermal 0 c (tally Ctr.CCH_REF2X_MS 1 (onChan c (fun x => { x with temp := temp % 256, ref2x := true }) s))) := by
  change execThermalPoll c temp s = _
  cases hwas : (chan s c).ref2x <;>
    simp [execThermalPoll, hon, hhot, hwas]

theorem exec_channelFailDetect_unmirrored (hmirror : s.cch.mirror = false) :
    exec (.channelFailDetect c) s = .next (settle (chanLost c (onChan c (fun x => { x with st := .failed }) s))) := by
  change execChannelFailDetect c s = _
  simp [execChannelFailDetect, hon, hmirror]

theorem exec_channelFailDetect_whole (hmirror : s.cch.mirror = true)
    (hother : (chan s (if c % 2 = 0 then c + 1 else c - 1)).st ≠ .failed) (hpair : pairAt s (c / 2) = Pair.whole) :
    exec (.channelFailDetect c) s =
      .next (settle (raise Ev.mirrorFailover 0 c (breakPair (c / 2) (c % 2 == 0) (onChan c (fun x => { x with st := .failed }) s)))) := by
  change execChannelFailDetect c s = _
  simp [execChannelFailDetect, hon, hmirror, hother, hpair, Pair.whole]

end

/-! ### Resilvering (R422) -/

@[simp] theorem running_tally (i n : Nat) (s : State) : running (tally i n s) = running s := by
  simp only [running, tally_rsv]

@[simp] theorem pairAt_tally (i n : Nat) (s : State) (p : Nat) : pairAt (tally i n s) p = pairAt s p := by
  simp only [pairAt, tally_cch]

section
variable {s : State} {p q : Nat} (hpos : (pairAt s p).resilver = some q)
include hpos

theorem exec_resilverSetCopy_dropped : exec (.resilverSetCopy p true) s = .next s := by
  change execResilverSetCopy p true s = _
  simp [execResilverSetCopy, hpos]

/-- A copy that no write dropped, in Run: the position moves on, and the last set makes the pair whole. -/
theorem exec_resilverSetCopy_copied (hrun : running s = true) :
    exec (.resilverSetCopy p false) s = if q + 1 < 2 ^ (s.hpt.setBits - s.hpt.chBits)
      then .next (onPair p (fun x => { x with resilver := some (q + 1) }) (tally Ctr.CCH_RD_BURST 16 (tally Ctr.CCH_WR_BURST 16 s)))
      else .next (settle (raise Ev.cchResilverDone 0 p (keepRecord
        (onChan (if (pairAt s p).odd then 2 * p else 2 * p + 1) (fun x => { x with st := .up })
          (onPair p (fun _ => Pair.whole) (tally Ctr.CCH_RD_BURST 16 (tally Ctr.CCH_WR_BURST 16 s))))))) := by
  change execResilverSetCopy p false s = _
  simp [execResilverSetCopy, hpos, hrun]

end

/-- Settles O54: each command by the case in which it acts. -/
theorem channelCommands : Obligations.ChannelCommands := by
  refine ⟨fun s c rds hrun hon hc hrs => ?_, fun s k hquar hrun hhosts hdevices => ?_,
    fun s c temp hon => ⟨?_, ?_, ?_, ?_, ?_⟩, fun s p q hpos hrun => ⟨?_, ?_, ?_⟩⟩
  · exact exec_scrubSlot_of_served rds hrun hon hc hrs
  · exact exec_quarantineRewrite_of_copyless hquar hrun hhosts hdevices
  · exact exec_refreshInterval_of_on hon
  · exact exec_thermalPoll_cool hon
  · exact exec_thermalPoll_hot hon
  · exact exec_channelFailDetect_unmirrored hon
  · exact exec_channelFailDetect_whole hon
  · exact fun hmore => (exec_resilverSetCopy_copied hpos hrun).trans (if_pos hmore)
  · exact fun hlast => (exec_resilverSetCopy_copied hpos hrun).trans (if_neg (Nat.not_lt.mpr hlast))
  · exact exec_resilverSetCopy_dropped hpos

end Sys2Proof.Machine

/-! SUPPORT. Register writes that command the ledger, a calibration, the predictors, training and the handback wait. -/

namespace Sys2Proof.Machine

open Sys2Proof

/-! ### Registers that take a command (R578) -/

/-- The registers whose writes go through `dataWrite`: the data registers of the tables, PIN_ATTR and DMA_ATTR. -/
def tableRegs : List Nat :=
  [Reg.COH_HMAP_DATA, Reg.COH_DOM_DATA, Reg.COH_HOP_DATA, Reg.SEC_ASSIGN_DATA, Reg.SEC_ESET_DATA, Reg.SEC_PIN_ATTR, Reg.SEC_DMA_ATTR]

/-- The registers of the ledger, the predictors, training and the handback wait of which a write is a command. -/
def commandRegs : List Nat :=
  [Reg.LDG_CAP, Reg.LDG_CTL, Reg.LDG_CAL_CMD, Reg.TAG_PRED_FLUSH, Reg.CCH_TRAIN_CMD, Reg.COH_FHB_CMD]

theorem dataWrite_of_not_table {off : Nat} (w : Nat) (s : State) (h : off ∉ tableRegs) : dataWrite off w s = none := by
  simp only [tableRegs, List.mem_cons, List.not_mem_nil, or_false, not_or] at h
  obtain ⟨hhmap, hdom, hhop, hassign, heset, hpin, hdma⟩ := h
  simp [dataWrite, hhmap, hdom, hhop, hassign, heset, hpin, hdma]

/-- The command registers are aligned words of the active window that only the owner may write, no figure of a calibration and no entry of a table. -/
theorem commandReg_facts : ∀ off ∈ commandRegs,
    regThere off = true ∧ off < 0x400000 ∧ off % 4 = 0 ∧ freeReg off = false ∧
      [Reg.LDG_CAL_BW, Reg.LDG_CAL_PWR, Reg.LDG_CAL_CFG].contains off = false ∧ 0x40 ≤ off % 4096 ∧
      off ∉ tableRegs := by
  decide

/-- The owner's write of a word n to one of them: stored, then what `onWrite` says of the register. -/
theorem regPut_of_commandReg {s : State} {m : Master} {off n : Nat} {w : Word} (hw : w.toNat = n) (h : Claims.MayWrite s m off n)
    (hoff : off ∈ commandRegs) :
    regPut m off w s = .next (settle (onWrite m off (regOf s.io off).toNat (newWord s.part off (regOf s.io off).toNat n) n
      (Claims.stored off n s))) := by
  subst hw
  obtain ⟨hthere, hlt, hal, hfree, hfigure, hpage, htable⟩ := commandReg_facts off hoff
  exact regPut_of_mayWrite h hthere hlt hal hfree (Bool.and_eq_false_iff.mpr (.inr hfigure)) hpage (dataWrite_of_not_table _ _ htable)

/-! ### What follows the write of each -/

section
variable (m : Master) (old new w : Nat) (s : State)

theorem onWrite_ldgCap : onWrite m Reg.LDG_CAP old new w s = capWrite s := rfl

theorem onWrite_ldgCtl : onWrite m Reg.LDG_CTL old new w s = rstateNow s := rfl

theorem onWrite_calCmd : onWrite m Reg.LDG_CAL_CMD old new w s = calCmd w s := rfl

theorem onWrite_predFlush : onWrite m Reg.TAG_PRED_FLUSH old new w s = predFlush w s := rfl

theorem onWrite_trainCmd_full : onWrite m Reg.CCH_TRAIN_CMD old new 1 s = onCch (fun c => { c with fullReq := true }) s := rfl

theorem onWrite_fhbCmd_force : onWrite m Reg.COH_FHB_CMD old new 1 s = fhbForce s := rfl

end

/-! ### The bits of a command register -/

section
variable (s : State)

theorem calCmd_start : calCmd 1 s = calStart s := by
  simp [calCmd, bitsOf]

theorem calCmd_abort : calCmd 2 s = calAbort s := by
  simp [calCmd, bitsOf]

theorem predFlush_miss : predFlush 1 s = onCache (fun c => { c with missPred := [] }) s := rfl

theorem predFlush_way : predFlush 2 s = onCache (fun c => { c with wayPred := [] }) s := rfl

end

/-! ### The cases in which they act -/

section
variable {s : State}

/-- In Run and without a calibration, START begins one at step 1 (R305). -/
theorem calStart_of_idle (hrun : running s = true) (hnone : s.ldg.cal = none) :
    calStart s = settle (rstateNow (onLdg (fun l => { l with cal := some ⟨1, s.tb⟩ }) s)) := by
  have hstart : ¬ (s.ldg.cal.isSome ∨ ¬ running s) := by simp [hnone, hrun]
  exact if_neg hstart

/-- ABORT ends the calibration under way as a failure (R306). -/
theorem calAbort_of_calibrating (hcal : s.ldg.cal ≠ none) : calAbort s = settle (raise Ev.ldgCalFail 0 0 (calEnd 2 s)) := by
  have hsome : ¬ s.ldg.cal.isNone = true := by rwa [Option.isNone_iff_eq_none]
  exact congrArg settle (if_neg hsome)

/-- FORCE acts while a handback is awaited or a sector is marked (R279). -/
theorem fhbForce_of_waiting (h : ¬ (s.fab.waiting = [] ∧ s.fab.marks = [])) :
    let t := eachIn s.fab.marks (fun x s => hwFld Reg.COH_FX_FAIL 11 0 ((x.owner <|> x.hold.map (·.1)).getD 0)
      (hwFld Reg.COH_FX_FAIL 15 12 4 (clearMark x.sk (poisonSector x.sk s)))) s
    let t := onFab (fun f => { f with forced := true }) t
    let t := eachIn t.fab.aside (fun m s => endAside m false s) t
    fhbForce s = settle (handedBack (raise Ev.fhbForced 0 0
      (onFab (fun f => { f with waiting := [], hold_ := false, holds := [] }) t))) := by
  have hactive : ¬ (s.fab.waiting.isEmpty ∧ s.fab.marks.isEmpty) := by rwa [List.isEmpty_iff, List.isEmpty_iff]
  exact if_neg hactive

end

/-! ### The commands as writes of their registers -/

section
variable (m : Master) (w : Word) (s : State)

theorem exec_ldgCapWrite : exec (.ldgCapWrite m w) s = regPut m Reg.LDG_CAP w s := rfl

theorem exec_ldgArmWrite : exec (.ldgArmWrite m w) s = regPut m Reg.LDG_CTL w s := rfl

theorem exec_calStart : exec (.calStart m) s = regPut m Reg.LDG_CAL_CMD 1 s := rfl

theorem exec_calAbort : exec (.calAbort m) s = regPut m Reg.LDG_CAL_CMD 2 s := rfl

theorem exec_predFlushMiss : exec (.predFlushMiss m) s = regPut m Reg.TAG_PRED_FLUSH 1 s := rfl

theorem exec_predFlushWay : exec (.predFlushWay m) s = regPut m Reg.TAG_PRED_FLUSH 2 s := rfl

theorem exec_trainCmdFull : exec (.trainCmdFull m) s = regPut m Reg.CCH_TRAIN_CMD 1 s := rfl

theorem exec_fhbForce : exec (.fhbForce m) s = regPut m Reg.COH_FHB_CMD 1 s := rfl

end

/-- Settles O26: each command is the owner's write of its register, and then what that register does with the bits of the word. The
word stored touches neither the ledger nor the fabric state, so what is assumed of them holds after it as well. -/
theorem ledgerAndCacheCommands : Obligations.LedgerAndCacheCommands := by
  refine fun s m w => ⟨fun hmay => ?_, fun hmay => ?_, fun hmay hrun hnone => ?_, fun hmay hcal => ?_, fun hmay => ?_, fun hmay => ?_,
    fun hmay => ?_, fun hmay hwait => ?_⟩
  · rw [exec_ldgCapWrite, regPut_of_commandReg rfl hmay (by decide), onWrite_ldgCap]
    rfl
  · rw [exec_ldgArmWrite, regPut_of_commandReg rfl hmay (by decide), onWrite_ldgCtl]
  · rw [exec_calStart, regPut_of_commandReg (n := 1) rfl hmay (by decide), onWrite_calCmd, calCmd_start,
      calStart_of_idle (s := Claims.stored _ 1 s) hrun hnone]
    rfl
  · rw [exec_calAbort, regPut_of_commandReg (n := 2) rfl hmay (by decide), onWrite_calCmd, calCmd_abort,
      calAbort_of_calibrating (s := Claims.stored _ 2 s) hcal]
  · rw [exec_predFlushMiss, regPut_of_commandReg (n := 1) rfl hmay (by decide), onWrite_predFlush, predFlush_miss]
  · rw [exec_predFlushWay, regPut_of_commandReg (n := 2) rfl hmay (by decide), onWrite_predFlush, predFlush_way]
  · rw [exec_trainCmdFull, regPut_of_commandReg (n := 1) rfl hmay (by decide), onWrite_trainCmd_full]
  · rw [exec_fhbForce, regPut_of_commandReg (n := 1) rfl hmay (by decide), onWrite_fhbCmd_force,
      fhbForce_of_waiting (s := Claims.stored _ 1 s) hwait]
    rfl

end Sys2Proof.Machine

/-! SUPPORT. Back-invalidation answers and the links of the host ports, each command in the case in which it acts. -/

namespace Sys2Proof.Machine

open Sys2Proof

/-! ### Ports by position -/

section
variable {s : State} {p : Nat}

theorem portUp_of_up (hp : p < portCount s) (hup : (port s p).up = true) : portUp s p = true := by
  simp [portUp, hp, hup]

theorem port_onPort_same (f : Port → Port) (hp : p < s.hpt.ports.length) : port (onPort p f s) p = f (port s p) := by
  simp only [port, onPort, onHpt, getD_setAt, hp, and_self, if_true]

theorem port_onPort_other {q : Nat} (f : Port → Port) (h : q ≠ p) : port (onPort p f s) q = port s q := by
  simp only [port, onPort, onHpt, getD_setAt, h.symm, false_and, if_false]

/-- A change of a port that does not touch its link leaves the link as it is, at a position past the last port too. -/
theorem port_onPort_up {f : Port → Port} (hf : ∀ x, (f x).up = x.up) : (port (onPort p f s) p).up = (port s p).up := by
  simp only [port, onPort, onHpt, getD_setAt]
  split
  · exact hf _
  · rfl

end

/-! ### Answers to a BISnp (R209, R216) -/

section
variable {s : State} {p hpa kind : Nat} {b : Bi}

/-- The outstanding BISnp of an address stands at its port and address. -/
theorem biAt_port_hpa (h : biAt s p hpa = some b) : b.port = p ∧ b.hpa = hpa := by
  have hfound := List.find?_some h
  simp only [Bool.and_eq_true, beq_iff_eq] at hfound
  obtain ⟨⟨hport, hhpa⟩, -⟩ := hfound
  exact ⟨hport, hhpa⟩

/-- The BISnp b will be sent again, as one more try. -/
def biAgain (b : Bi) (s : State) : State :=
  onCache (fun c => { c with
    bis := c.bis.map fun x => if x = b then { x with tries := x.tries + 1, sent := none } else x }) s

/-- What an answer that the BISnp b does not allow leads to: b is sent again while retries last, then the link goes down. -/
def biIllegal (p hpa : Nat) (b : Bi) (s : State) : State :=
  if b.tries < fld s Reg.COH_BI_CFG 23 22 then settle (biAgain b s)
  else settle (hostDown p (rcFlag Reg.COH_SF_STS 17 (raise Ev.cohBirspIllegal (dataAddr 3 hpa) p s)))

theorem biIllegal_of_retry (h : b.tries < fld s Reg.COH_BI_CFG 23 22) : biIllegal p hpa b s = settle (biAgain b s) := if_pos h

theorem biIllegal_of_exhausted (h : fld s Reg.COH_BI_CFG 23 22 ≤ b.tries) : biIllegal p hpa b s =
    settle (hostDown p (rcFlag Reg.COH_SF_STS 17 (raise Ev.cohBirspIllegal (dataAddr 3 hpa) p s))) :=
  if_neg (Nat.not_lt.mpr h)

theorem sfSt_tally (i n : Nat) (s : State) : sfSt (tally i n s) = sfSt s := rfl

/-- BIRspI is allowed to every BISnp. -/
theorem exec_birsp_i (h : biAt s p hpa = some b) :
    exec (.birsp p hpa 0) s = .next (settle (biDone b .i
      (if sfSt s b.way b.line b.port = .a ∧ b.wb = false then tally Ctr.COH_BISNP_STALE 1 (tally Ctr.COH_BIRSP_I 1 s)
        else tally Ctr.COH_BIRSP_I 1 s))) := by
  change execBirsp p hpa 0 s = _
  simp [execBirsp, h, sfSt_tally]

/-- BIRspS is allowed to a BISnpData. -/
theorem exec_birsp_s (h : biAt s p hpa = some b) (hdat : b.dat = true) :
    exec (.birsp p hpa 1) s = .next (settle (biDone b .s (tally Ctr.COH_BIRSP_S 1 s))) := by
  change execBirsp p hpa 1 s = _
  simp [execBirsp, h, hdat]

/-- BIRspS is not allowed to a BISnpInv. -/
theorem exec_birsp_s_inv (h : biAt s p hpa = some b) (hdat : b.dat = false) :
    exec (.birsp p hpa 1) s = .next (biIllegal p hpa b (tally Ctr.COH_BIRSP_S 1 s)) := by
  change execBirsp p hpa 1 s = _
  simp only [execBirsp, h, hdat, Bool.false_eq_true, if_false]
  exact (apply_ite Host.Outcome.next ..).symm

/-- Every other answer is allowed to none. -/
theorem exec_birsp_other (h : biAt s p hpa = some b) (hkind : 2 ≤ kind) :
    exec (.birsp p hpa kind) s = .next (biIllegal p hpa b s) := by
  obtain ⟨n, rfl⟩ := Nat.exists_eq_add_of_le' hkind
  change execBirsp p hpa (n + 2) s = _
  simp only [execBirsp, h, Bool.false_eq_true, if_false]
  exact (apply_ite Host.Outcome.next ..).symm

theorem exec_birsp_illegal (h : biAt s p hpa = some b) (hkind : 2 ≤ kind ∨ kind = 1 ∧ b.dat = false) :
    exec (.birsp p hpa kind) s = .next (biIllegal p hpa b (if kind = 1 then tally Ctr.COH_BIRSP_S 1 s else s)) := by
  obtain hother | ⟨rfl, hdat⟩ := hkind
  · rw [if_neg (by omega), exec_birsp_other h hother]
  · rw [if_pos rfl, exec_birsp_s_inv h hdat]

/-! ### Timeouts, conflicts and credits (R215, R218, R219) -/

theorem exec_bisnpTimeout_of_outstanding (h : biAt s p hpa = some b) :
    exec (.bisnpTimeout p hpa) s = .next (settle (hostDown p (rcFlag Reg.COH_SF_STS 17
      (raise Ev.cohBisnpTimeout (dataAddr 3 hpa) p
        (until_ (b.sent.getD 0 + 1000000 * max 1 (fld s Reg.COH_BI_CFG 9 0)) s))))) := by
  obtain ⟨rfl, rfl⟩ := biAt_port_hpa h
  change execBisnpTimeout b.port b.hpa s = _
  simp only [execBisnpTimeout, h]
  rfl

/-- A request that the port makes under a credit in Run is counted and handled. -/
theorem onReqCredit_of_asks (f : State → State) (h : Claims.Asks s p) : onReqCredit p f s = f (Claims.asked p s) := by
  obtain ⟨hp, hup, hreq, hrun⟩ := h
  have hcredit : portUp s p = true ∧ 0 < (port s p).req := ⟨portUp_of_up hp hup, hreq⟩
  have hthen : running (Claims.asked p s) = true := by simpa [running, Claims.asked, onPort] using hrun
  exact (if_pos hcredit).trans (if_pos hthen)

theorem port_up_of_asks (h : Claims.Asks s p) : (port s p).up = true := by
  obtain ⟨-, hup, -, -⟩ := h
  exact hup

theorem port_tally (i n : Nat) (s : State) (q : Nat) : port (tally i n s) q = port s q := rfl

theorem port_asked_up : (port (Claims.asked p s) p).up = (port s p).up := by
  rw [Claims.asked, port_tally]
  exact port_onPort_up fun _ => rfl

theorem exec_biconflict_of_asks {tag : Nat} (h : Claims.Asks s p) :
    exec (.biconflict p tag hpa) s = .next (returnReq p (emit (.cxl p tag "BIConflictAck" none false)
      (tally Ctr.COH_BICONFLICT 1 (Claims.asked p s)))) := by
  have hup : (port (tally Ctr.COH_BICONFLICT 1 (Claims.asked p s)) p).up = true := by
    rw [port_tally, port_asked_up, port_up_of_asks h]
  change execBiconflict p tag hpa s = _
  rw [execBiconflict, onReqCredit_of_asks _ h, answer_of_host_up _ _ rfl rfl hup]
  rfl

theorem exec_hostBisnpCredit_of_up (n : Nat) (hp : p < portCount s) (hup : (port s p).up = true) :
    exec (.hostBisnpCredit p n) s = .next (settle (onPort p (fun x => { x with bisnp := x.bisnp + n }) s)) :=
  if_pos (portUp_of_up hp hup)

end

theorem backInvalidation : Claims.BackInvalidation := by
  refine ⟨fun s p hpa kind b hbi => ⟨?_, ?_, fun hkind => ⟨fun hretry => ?_, fun hlast => ?_⟩⟩,
    fun s p hpa b => exec_bisnpTimeout_of_outstanding, fun s p tag hpa => exec_biconflict_of_asks,
    fun s p n => exec_hostBisnpCredit_of_up n⟩
  · rintro rfl
    exact exec_birsp_i hbi
  · rintro rfl hdat
    exact exec_birsp_s hbi hdat
  · rw [exec_birsp_illegal hbi hkind, biIllegal_of_retry hretry]
    rfl
  · rw [exec_birsp_illegal hbi hkind, biIllegal_of_exhausted hlast]

/-! ### Host links (R85, R108 to R110, R294) -/

/-- A port whose link has come up: every credit, a headroom for each write, `headWt` of them of the write-through kind. -/
def linkedPort (headWt width : Nat) (full : Bool) (bisnp : Nat) (x : Port) : Port :=
  { x with
    up := true, width := width, full := full, req := 512, rwd := 256, head := 256
    headWt := headWt, owed := [], bisnp := bisnp, reqKept := 0, gpf := false
    ioCr := List.replicate 3 ⟨64, 256⟩, doneSeq := 0, doneKind := false, ovf := false }

/-- Port p with its link up: its headrooms are write-through ones unless the ledger is Armed. -/
def linkPort (p width : Nat) (full : Bool) (bisnp : Nat) (s : State) : State :=
  onPort p (linkedPort (if s.ldg.st = .armed then 0 else 256) width full bisnp) s

/-- The link of port p comes up; one of less than its full width or rate is reported. -/
def linkUp (p width : Nat) (full : Bool) (bisnp : Nat) (s : State) : State :=
  if width < 16 ∨ full = false then raise Ev.hpLinkDegraded 0 p (linkPort p width full bisnp s)
  else linkPort p width full bisnp s

section
variable {s : State} {p : Nat}

theorem exec_hostLinkUp_of_down (width : Nat) (full : Bool) (bisnp : Nat) (hp : p < portCount s)
    (hon : s.mgt.boot.linksOn = true) (hrun : running s = true) (hdown : (port s p).up = false) :
    exec (.hostLinkUp p width full bisnp) s = .next (settle (linkUp p width full bisnp s)) := by
  change execHostLinkUp p width full bisnp s = _
  have hcomes : ¬ (portCount s ≤ p ∨ ¬ s.mgt.boot.linksOn = true ∨ ¬ running s = true) := by simp [hp, hon, hrun]
  rw [execHostLinkUp, if_neg hcomes]
  simp only [hdown, Bool.not_eq_true, Bool.false_eq_true, if_false, bne_iff_ne, ne_eq, ite_not]
  rfl

/-- Only the port and what is reported change. -/
theorem linkUp_frame (p width : Nat) (full : Bool) (bisnp : Nat) (s : State) :
    linkUp p width full bisnp s = { s with
      io := (linkUp p width full bisnp s).io
      hpt := { s.hpt with ports := (linkUp p width full bisnp s).hpt.ports } } := by
  unfold linkUp
  split
  · simp [linkPort, raise, onIo, onPort, onHpt]
  · rfl

theorem port_linkUp (p width : Nat) (full : Bool) (bisnp : Nat) (s : State) (q : Nat) :
    port (linkUp p width full bisnp s) q = port (linkPort p width full bisnp s) q := by
  unfold linkUp
  split
  · exact port_raise ..
  · rfl

/-- Full width at the full rate is not reported. -/
theorem linkUp_io_of_full (p bisnp : Nat) (s : State) : (linkUp p 16 true bisnp s).io = s.io := rfl

theorem hostDown_of_up (hup : (port s p).up = true) :
    hostDown p s = vacateIf (.hm (Fin.ofNat 4 p)) (raise Ev.hpLinkDown 0 p (portDown p s)) :=
  if_pos hup

theorem hostDown_of_down (hdown : (port s p).up = false) : hostDown p s = s := if_neg (by simp [hdown])

theorem exec_hpLinkDown (p : Nat) (perst : Bool) (s : State) : exec (.hpLinkDown p perst) s = .next (settle (hostDown p s)) := rfl

theorem exec_ideIntegrityFail_of_stream {mem : Bool} {x : Stream} (hp : p < portCount s) (hup : (port s p).up = true)
    (hx : tblFind (if mem = true then s.sec.ideMem else s.sec.ideIo) p = some x) :
    exec (.ideIntegrityFail p mem) s = .next (settle (hostDown p (raise Ev.hpIdeFail 0 p
      (onSec (fun x => { x with binds := x.binds.filter (fun b => b.1 / 4 != p) }) s)))) := by
  refine if_neg ?_
  simp [portUp_of_up hp hup, hx]

theorem exec_correctableLinkError_of_up (hp : p < portCount s) (hup : (port s p).up = true) :
    exec (.correctableLinkError p) s = .next (raise Ev.hpLinkCorr 0 p (tally Ctr.HPT_LINK_CORR 1 s)) :=
  if_pos (portUp_of_up hp hup)

end

theorem hostLinks : Claims.HostLinks := by
  refine ⟨fun s p width n full hp hon hrun hdown hthere => ?_, fun s p perst hup => ?_, fun s p perst hdown => ?_,
    fun s p mem x => exec_ideIntegrityFail_of_stream, fun s p => exec_correctableLinkError_of_up⟩
  · have hport : port (linkUp p width full n s) p =
        linkedPort (if s.ldg.st = .armed then 0 else 256) width full n (port s p) :=
      (port_linkUp p width full n s p).trans (port_onPort_same _ hthere)
    refine ⟨linkUp p width full n s, exec_hostLinkUp_of_down width full n hp hon hrun hdown, ?_⟩
    rw [hport]
    refine ⟨rfl, rfl, rfl, rfl, rfl, rfl, rfl, rfl, rfl, fun q hq => ?_, linkUp_frame p width full n s, ?_⟩
    · rw [port_linkUp, linkPort, port_onPort_other _ hq]
    · rintro rfl rfl
      exact linkUp_io_of_full p n s
  · rw [exec_hpLinkDown, hostDown_of_up hup]
  · rw [exec_hpLinkDown, hostDown_of_down hdown]

/-- Settles O36: each answer to a BISnp by whether the BISnp allows it, each event of a link by its case. -/
theorem backInvalidationAndHostLinks : Obligations.BackInvalidationAndHostLinks := ⟨backInvalidation, hostLinks⟩

end Sys2Proof.Machine

/-! SUPPORT. Counting leaves the stored registers outside EVT as they read, whether or not the table of them is in its canonical form. -/

namespace Sys2Proof.Machine

open Sys2Proof

/-! ### Registers outside EVT (R643) -/

/-- The stored registers of every block but EVT read in y as they do in x. -/
structure SameRegs (x y : Io) : Prop where
  regOf_eq : ∀ off, blockOf off ≠ Blk.evt → regOf y off = regOf x off

theorem SameRegs.refl (x : Io) : SameRegs x x := ⟨fun _ _ => rfl⟩

theorem SameRegs.trans {x y z : Io} (h : SameRegs x y) (k : SameRegs y z) : SameRegs x z :=
  ⟨fun off ho => (k.regOf_eq off ho).trans (h.regOf_eq off ho)⟩

theorem SameRegs.of_regs {x y : Io} (h : y.regs = x.regs) : SameRegs x y := ⟨fun off _ => by simp only [regOf, h]⟩

/-- `of_regs` before another. -/
theorem SameRegs.pre {x y z : Io} (k : SameRegs y z) (h : y.regs = x.regs) : SameRegs x z := (SameRegs.of_regs h).trans k

theorem sameRegs_fold {α : Type} (f : Io → α → Io) (l : List α) (x : Io) (h : ∀ y a, SameRegs y (f y a)) :
    SameRegs x (l.foldl f x) := by
  induction l generalizing x with
  | nil => exact .refl x
  | cons a l ih => exact (h x a).trans (ih _)

/-! ### Stored words -/

/-- A word that is not the reset word is listed and none is dropped, so that other keys read as before in any table. -/
theorem regOf_putReg_other {x : Io} {o off : Nat} {w : Word} (ho : o ≠ off) (hw : w ≠ BitVec.ofNat 32 (resetWord off)) :
    regOf (putReg x off w) o = regOf x o := by
  simp only [regOf, putReg, tblSet, if_neg hw, tblGet, tblFind_put_other _ _ ho]

/-- A register of EVT that resets to 0, as its page's status does. -/
def ZeroReset (off : Nat) : Prop := blockOf off = Blk.evt ∧ resetWord off = 0 ∧ resetWord (pageOf off + 8) = 0

theorem zeroReset_drop : ZeroReset Reg.EVT_DROP := by
  unfold ZeroReset
  decide +kernel

theorem zeroReset_ovf {i : Nat} (h : i < 768) : ZeroReset (Reg.EVT_OVF + 4 * (i / 32)) := by
  have hwords : ∀ j < 24, ZeroReset (Reg.EVT_OVF + 4 * j) := by
    unfold ZeroReset
    decide +kernel
  exact hwords _ (by omega)

theorem putFld_sameRegs (x : Io) {off hi lo v : Nat} (hblk : blockOf off = Blk.evt) (hrst : resetWord off = 0) (hhi : hi < 32)
    (hv : v % 2 ^ (hi + 1 - lo) ≠ 0) : SameRegs x (putFld x off hi lo v) := by
  refine ⟨fun o ho => regOf_putReg_other (fun he => ho (he ▸ hblk)) fun hw => hv ?_⟩
  have hfield := congrArg (fun w => bitsOf (BitVec.toNat w) hi lo) hw
  simp only [BitVec.toNat_ofNat, bitsOf_mod_two_pow _ lo hhi, bitsOf_setBits_same, hrst] at hfield
  simpa only [bitsOf, Nat.zero_div, Nat.zero_mod] using hfield

theorem setPgSts_sameRegs (x : Io) {off : Nat} (h : ZeroReset off) : SameRegs x (setPgSts x (pageOf off) 0) := by
  obtain ⟨hblk, -, hpage⟩ := h
  have hset : SameRegs x (putFld x (pageOf off + 8) 0 0 1) :=
    putFld_sameRegs x (page_block (by decide) hblk) hpage (by decide) (by decide)
  unfold setPgSts
  split
  · exact .refl x
  · dsimp only
    split
    · exact hset.trans (.of_regs rfl)
    · exact hset

theorem rcAdd_sameRegs (x : Io) {off hi lo : Nat} (n : Nat) (h : ZeroReset off) (hhi : hi < 32) (hlo : lo ≤ hi) :
    SameRegs x (rcAdd off hi lo n x) := by
  unfold rcAdd
  split
  · exact .refl x
  next hcounts =>
    have hn : n ≠ 0 := by
      simp only [Bool.or_eq_true, beq_iff_eq, not_or] at hcounts
      obtain ⟨-, hn⟩ := hcounts
      exact hn
    have hwidth : 2 ≤ 2 ^ (hi + 1 - lo) := Nat.le_self_pow (by omega) 2
    have ⟨hblk, hrst, _⟩ := h
    have hcount : SameRegs x (putFld x off hi lo (min (2 ^ (hi + 1 - lo) - 1) (fldOf x off hi lo + n))) := by
      refine putFld_sameRegs x hblk hrst hhi ?_
      rw [Nat.mod_eq_of_lt (by omega)]
      omega
    dsimp only
    split
    · exact hcount.trans (setPgSts_sameRegs _ h)
    · exact hcount

/-! ### Counting and what it makes due -/

theorem sampCount_regs (i n : Nat) (x : Io) : (sampCount i n x).regs = x.regs := by
  unfold sampCount
  split
  · dsimp only
    split <;> rfl
  · rfl

theorem count_sameRegs (i n : Nat) (x : Io) : SameRegs x (count i n x) := by
  unfold count
  split
  next hlive =>
    have hi : i < 768 := by
      simp only [ctrLive, Bool.and_eq_true, decide_eq_true_eq] at hlive
      obtain ⟨hi, -⟩ := hlive
      exact hi
    dsimp only
    split
    · exact .of_regs (sampCount_regs i n x)
    · exact (rcAdd_sameRegs _ 1 (zeroReset_ovf hi) (by omega) (by omega)).pre (sampCount_regs i n x)
  · exact .refl x

theorem sendVec_sameRegs (v : IoEnv) (p n : Nat) (w : Vec) (x : Io) : SameRegs x (sendVec v p n w x) :=
  (count_sameRegs _ _ _).pre rfl

theorem signal_sameRegs (v : IoEnv) (p n e : Nat) (x : Io) : SameRegs x (signal v p n e x) := by
  unfold signal
  split
  · exact .refl x
  · dsimp only
    split
    · exact .of_regs rfl
    · split
      · exact sendVec_sameRegs ..
      · split
        · exact sendVec_sameRegs ..
        · exact .of_regs rfl

theorem signalPorts_sameRegs (v : IoEnv) (ports n e : Nat) (x : Io) : SameRegs x (signalPorts v ports n e x) := by
  refine sameRegs_fold _ _ _ fun y p => ?_
  split
  · exact signal_sameRegs ..
  · exact .refl y

theorem route_sameRegs (v : IoEnv) (code : Nat) (sev : Sev) (encl : Nat) (x : Io) : SameRegs x (route v code sev encl x) := by
  unfold route
  extract_lets m io
  have hio : SameRegs x io := by
    unfold io
    split
    · exact signalPorts_sameRegs ..
    · exact .refl x
  split
  · exact hio.trans (.of_regs rfl)
  · exact hio

theorem qStore_sameRegs (v : IoEnv) (e : Ev) (d u n : Nat) (x : Io) : SameRegs x (qStore v e d u n x) :=
  (route_sameRegs ..).pre rfl

theorem qDisplace_sameRegs (q : QEntry) (x : Io) : SameRegs x (qDisplace q x) := by
  have hcount : SameRegs x (count Ctr.EVT_DISPLACED 1 (rcAdd Reg.EVT_DROP 31 24 1 { x with q := qDrop x.q q.seq })) :=
    ((rcAdd_sameRegs _ 1 zeroReset_drop (by decide) (by decide)).trans (count_sameRegs ..)).pre rfl
  unfold qDisplace
  dsimp only
  split
  · exact hcount.trans (.of_regs rfl)
  · exact hcount

theorem qLose_sameRegs (e : Ev) (x : Io) : SameRegs x (qLose e x) := by
  have hdrop (hi lo : Nat) (hhi : hi < 32) (hlo : lo ≤ hi) : SameRegs x (rcAdd Reg.EVT_DROP hi lo 1 (count Ctr.EVT_DROP 1 x)) :=
    (count_sameRegs ..).trans (rcAdd_sameRegs _ 1 zeroReset_drop hhi hlo)
  unfold qLose
  dsimp only
  split
  · exact (hdrop 7 0 (by decide) (by decide)).trans (.of_regs rfl)
  · exact (hdrop 15 8 (by decide) (by decide)).trans (.of_regs rfl)
  · exact (hdrop 23 16 (by decide) (by decide)).trans (.of_regs rfl)
  · exact count_sameRegs ..

theorem arriveNonCrit_sameRegs (v : IoEnv) (e : Ev) (d u n : Nat) (x : Io) : SameRegs x (arriveNonCrit v e d u n x) := by
  unfold arriveNonCrit
  split
  · exact qStore_sameRegs ..
  · split
    · exact (qDisplace_sameRegs ..).trans (qStore_sameRegs ..)
    · exact qLose_sameRegs ..

/-- An event that is not Critical leaves no code in EVT.CRIT_LATCH. -/
theorem arrive_sameRegs (v : IoEnv) {e : Ev} (d u n : Nat) (x : Io) (h : e.sev ≠ .critical) : SameRegs x (arrive v e d u n x) := by
  unfold arrive
  split
  · contradiction
  all_goals exact (count_sameRegs ..).trans (arriveNonCrit_sameRegs ..)

theorem lossTry_sameRegs (v : IoEnv) (x : Io) : SameRegs x (lossTry v x) := by
  unfold lossTry
  split
  · exact ((count_sameRegs ..).trans (qStore_sameRegs ..)).pre rfl
  · exact .refl x

theorem dueRound_sameRegs (v : IoEnv) (x : Io) : SameRegs x (dueRound v x) := by
  refine (sameRegs_fold _ x.due { x with due := [] } fun y d => ?_).pre rfl
  split
  · exact arrive_sameRegs _ _ _ _ _ (by decide)
  · dsimp only
    split
    · exact signalPorts_sameRegs ..
    · exact (signalPorts_sameRegs ..).trans ((arrive_sameRegs _ _ _ _ _ (by decide)).pre rfl)

theorem flush_sameRegs (v : IoEnv) (x : Io) : SameRegs x (flush v x) :=
  (((dueRound_sameRegs v x).trans (dueRound_sameRegs ..)).trans (dueRound_sameRegs ..)).trans (lossTry_sameRegs ..)

theorem tally_sameRegs (i n : Nat) (s : State) : SameRegs s.io (tally i n s).io := (count_sameRegs ..).trans (flush_sameRegs ..)

end Sys2Proof.Machine

/-! SUPPORT. Reception of a fabric message: what its arrival and its leaving of the receive buffer leave of the state, and the message
that is taken, new, in time and at home. -/

namespace Sys2Proof.Machine

open Sys2Proof

/-! ### The state in which a message acts (R511, R528) -/

section
variable (p lane : Nat) (m : FMsg) (s : State)

/-- Flits that leave a receive buffer change the fabric ports and what goes out alone. -/
theorem rxRelease_eq (v : VC) (n : Nat) : rxRelease p v lane n s = { s with
    io := (rxRelease p v lane n s).io, fab := { s.fab with ports := (rxRelease p v lane n s).fab.ports } } := by
  unfold rxRelease
  split
  · rfl
  · split
    · rfl
    · split <;> rfl

theorem rxRelease_regs (v : VC) (n : Nat) : (rxRelease p v lane n s).io.regs = s.io.regs := by
  unfold rxRelease
  split
  · rfl
  · split
    · rfl
    · split <;> rfl

/-- A message that arrives changes the fabric ports, the counters and what they make due alone. -/
theorem arrived_eq : Claims.arrived p lane m s = { s with
    io := (Claims.arrived p lane m s).io, fab := { s.fab with ports := (Claims.arrived p lane m s).fab.ports } } := by
  simp only [Claims.arrived, tally, onIo, onFPort, onFab]

theorem took_eq : Claims.took p lane m s = { s with
    io := (Claims.took p lane m s).io, fab := { s.fab with ports := (Claims.took p lane m s).fab.ports } } := by
  unfold Claims.took Claims.left
  rw [rxRelease_eq, arrived_eq]

theorem arrived_sameRegs : SameRegs s.io (Claims.arrived p lane m s).io := (tally_sameRegs ..).pre rfl

theorem took_sameRegs : SameRegs s.io (Claims.took p lane m s).io :=
  (arrived_sameRegs p lane m s).trans (.of_regs (rxRelease_regs ..))

@[simp] theorem arrived_tb : (Claims.arrived p lane m s).tb = s.tb := by rw [arrived_eq]

@[simp] theorem arrived_rsv : (Claims.arrived p lane m s).rsv = s.rsv := by rw [arrived_eq]

@[simp] theorem arrived_locked : (Claims.arrived p lane m s).fab.locked = s.fab.locked := by rw [arrived_eq]

@[simp] theorem arrived_idPending : (Claims.arrived p lane m s).fab.idPending = s.fab.idPending := by rw [arrived_eq]

@[simp] theorem devId_arrived : devId (Claims.arrived p lane m s) = devId s := by
  simp only [devId, Claims.arrived, tally_fab, onFPort, onFab]

@[simp] theorem homeCap_arrived : homeCap (Claims.arrived p lane m s) = homeCap s := by
  simp only [homeCap, Claims.arrived, tally_med, onFPort, onFab]

@[simp] theorem recOf_arrived (tid : Nat) : recOf (Claims.arrived p lane m s) tid = recOf s tid := by
  simp only [recOf, Claims.arrived, tally_fab, onFPort, onFab]

@[simp] theorem took_tb : (Claims.took p lane m s).tb = s.tb := by rw [took_eq]

@[simp] theorem took_wbs : (Claims.took p lane m s).fab.wbs = s.fab.wbs := by rw [took_eq]

@[simp] theorem took_locked : (Claims.took p lane m s).fab.locked = s.fab.locked := by rw [took_eq]

@[simp] theorem wayAt_took (k : Nat) : wayAt (Claims.took p lane m s) k = wayAt s k := by
  rw [took_eq]
  rfl

@[simp] theorem findWay_took (sk : Nat) : findWay (Claims.took p lane m s) sk = findWay s sk := by
  rw [took_eq]
  rfl

@[simp] theorem txnAt_took (id : Nat) : txnAt (Claims.took p lane m s) id = txnAt s id := by
  rw [took_eq]
  rfl

@[simp] theorem recOf_took (tid : Nat) : recOf (Claims.took p lane m s) tid = recOf s tid := by
  rw [took_eq]
  rfl

@[simp] theorem reqOf_took (tid : Nat) : reqOf (Claims.took p lane m s) tid = reqOf s tid := by
  rw [took_eq]
  rfl

@[simp] theorem snpOf_took (x : FMsg) : snpOf (Claims.took p lane m s) x = snpOf s x := by
  rw [took_eq]
  rfl

@[simp] theorem holdOf_took (sk tid : Nat) : holdOf (Claims.took p lane m s) sk tid = holdOf s sk tid := by
  rw [took_eq]
  rfl

@[simp] theorem isOwnerDev_took (sk d : Nat) : isOwnerDev (Claims.took p lane m s) sk d = isOwnerDev s sk d := by
  rw [took_eq]
  rfl

@[simp] theorem ownNode_took : ownNode (Claims.took p lane m s) = ownNode s := by
  rw [took_eq]
  rfl

@[simp] theorem devId_tally (i n : Nat) : devId (tally i n s) = devId s := by simp only [devId, tally_fab]

@[simp] theorem homeCap_tally (i n : Nat) : homeCap (tally i n s) = homeCap s := by simp only [homeCap, tally_med]

end

/-! ### Reception (R255, R528) -/

section
variable {s : State} {p lane seq : Nat} {m : FMsg}

theorem withOpc_of_opc {m : FMsg} {o : Nat} (h : m.opc = o) : { m with opc := o } = m := by
  subst h
  rfl

theorem rxAccept_of_inOrder (hp : fpOk s p = true) (hup : (fport s p).carries = true) (hlane : lane < 2)
    (hseq : seq = ((fport s p).rxSeq + 1) % 4096) : rxAccept p lane seq m s = (true, Claims.arrived p lane m s) :=
  if_pos ⟨hp, hup, hlane, hseq⟩

theorem receive_of_arrives (h : Claims.Arrives s p lane seq m) (free : Bool) (f : FMsg → State → State) :
    receive p lane seq m free f s =
      .next (settle (f m (if free then Claims.took p lane m s else Claims.arrived p lane m s))) := by
  obtain ⟨hp, hup, hlane, hseq, hdst, hid, hrun⟩ := h
  have hdev : m.dst / 64 = devId s := hdst ▸ Nat.mul_div_cancel _ (by decide)
  have hend : m.dst % 64 = 0 := hdst ▸ Nat.mul_mod_left _ _
  simp [receive, rxAccept_of_inOrder hp hup hlane hseq, hdev, hend, hid, taken, hrun, Claims.took, Claims.left]

/-- A command that receives a message of the opcode it names does what the message does, in the state in which it acts. -/
theorem receives_of_arrives {r : Res} {o : Nat} {free : Bool} {f : FMsg → State → State} {t : State}
    (hopc : m.opc = o) (h : Claims.Arrives s p lane seq m) (hr : r = receive p lane seq { m with opc := o } free f s)
    (ht : f m (if free then Claims.took p lane m s else Claims.arrived p lane m s) = t) : r = .next (settle t) := by
  rw [hr, withOpc_of_opc hopc, receive_of_arrives h, ht]

/-! ### Requests at the home (R256, R269, R270, R278) -/

/-- TO_US is no register of EVT. -/
theorem halfTo_of_sameRegs {u : State} (h : SameRegs s.io u.io) : halfTo u = halfTo s := by
  simp only [halfTo, fld, fldOf, h.regOf_eq Reg.COH_FX_CFG (by decide)]

/-- Counting does not make a message too old. -/
theorem aged_of_fresh {u : State} (h : Claims.Fresh s m) (hlocked : u.fab.locked = s.fab.locked) (htb : u.tb = s.tb)
    (hregs : SameRegs s.io u.io) : aged m u = false := by
  by_cases htimed : s.fab.locked = true ∧ m.tl = true
  · obtain ⟨hlock, htl⟩ := htimed
    have hage : ¬ m.time + halfTo s < s.tb := Nat.not_lt.mpr (h hlock htl)
    simp [aged, htb, halfTo_of_sameRegs hregs, hage]
  · obtain hlock | htl := not_and_or.mp htimed
    · simp [aged, hlocked, hlock]
    · simp [aged, htl]

theorem aged_arrived (h : Claims.Fresh s m) : aged m (Claims.arrived p lane m s) = false :=
  aged_of_fresh h (arrived_locked ..) (arrived_tb ..) (arrived_sameRegs ..)

theorem aged_took (h : Claims.Fresh s m) : aged m (Claims.took p lane m s) = false :=
  aged_of_fresh h (took_locked ..) (took_tb ..) (took_sameRegs ..)

theorem homeReq_of_new {ctr : Nat} {any rec : Bool} {t : Txn} (hrec : recOf s m.tid = none) (hfresh : Claims.Fresh s m)
    (hhome : Claims.HomeHere s m) (hsrc : any = true ∨ m.src % 64 = 0) :
    homeReq p lane m ctr any rec t (Claims.arrived p lane m s) = Claims.homed ctr rec m t (Claims.arrived p lane m s) := by
  obtain ⟨hdev, hcap⟩ := hhome
  have hadmits : ¬ (¬ any = true ∧ m.src % 64 ≠ 0) := by
    rintro ⟨hcaching, hend⟩
    exact hsrc.elim hcaching hend
  simp only [homeReq, recOf_arrived, hrec, aged_arrived hfresh, Bool.false_eq_true, if_false, if_neg hadmits, devId_tally,
    devId_arrived, if_neg (not_not_intro hdev), homeCap_tally, homeCap_arrived, if_neg (Nat.not_le.mpr hcap)]
  rfl

theorem homeReq_of_foreign {ctr : Nat} {rec : Bool} {t : Txn} (hrec : recOf s m.tid = none) (hfresh : Claims.Fresh s m)
    (hhome : skHome m.sk ≠ devId s) : homeReq p lane m ctr true rec t (Claims.arrived p lane m s) =
      Claims.left p lane m (refuse m 1 (tally ctr 1 (Claims.arrived p lane m s))) := by
  simp only [homeReq, recOf_arrived, hrec, aged_arrived hfresh, Bool.false_eq_true, not_true_eq_false, false_and, if_false,
    devId_tally, devId_arrived, if_pos hhome]
  rfl

end

/-- Settles O43: each message is received and, being new and in time, is handled at its home or refused there. TO_US is read in the
state that its arrival has left, in which a counter may have wrapped, and reads as before. -/
theorem fabricRequests : Obligations.FabricRequests := by
  intro s p lane seq m harr hrec hfresh v
  refine ⟨fun hhome => ⟨fun hsrc hopc => ?_, fun hsrc hopc => ?_, fun hsrc hopc => ?_, fun hsrc hopc => ?_, fun hsrc hopc => ?_,
    fun hopc => ?_, fun hopc => ?_, fun a hopc hatom => ?_, fun hopc hatom => ?_⟩, fun hhome hopc => ?_⟩
  · change execRdS p lane seq m s = _
    exact receives_of_arrives hopc harr rfl (homeReq_of_new hrec hfresh hhome (.inr hsrc))
  · change execRdO p lane seq m s = _
    exact receives_of_arrives hopc harr rfl (homeReq_of_new hrec hfresh hhome (.inr hsrc))
  · change execRdOna p lane seq m s = _
    exact receives_of_arrives hopc harr rfl (homeReq_of_new hrec hfresh hhome (.inr hsrc))
  · change execFhb p lane seq m s = _
    exact receives_of_arrives hopc harr rfl (homeReq_of_new hrec hfresh hhome (.inr hsrc))
  · change execWb p lane seq m s = _
    exact receives_of_arrives hopc harr rfl (homeReq_of_new hrec hfresh hhome (.inr hsrc))
  · change execRdNa p lane seq m s = _
    exact receives_of_arrives hopc harr rfl (homeReq_of_new hrec hfresh hhome (.inl rfl))
  · change execWrNa p lane seq m s = _
    exact receives_of_arrives hopc harr rfl (homeReq_of_new hrec hfresh hhome (.inl rfl))
  · change execAtom p lane seq m s = _
    refine receives_of_arrives hopc harr rfl ((homeReq_of_new hrec hfresh hhome (.inl rfl)).trans ?_)
    rw [hatom]
  · change execAtom p lane seq m s = _
    refine receives_of_arrives hopc harr rfl ((homeReq_of_new hrec hfresh hhome (.inl rfl)).trans ?_)
    rw [hatom]
  · change execRdNa p lane seq m s = _
    exact receives_of_arrives hopc harr rfl (homeReq_of_foreign hrec hfresh hhome)

end Sys2Proof.Machine

/-! SUPPORT. Snoops at a holder and their answers at the home, each message in the case in which it acts. -/

namespace Sys2Proof.Machine

open Sys2Proof

section
variable {s : State} {p lane seq : Nat} {m : FMsg}

/-! ### Answers of a holder (R249, R262) -/

theorem homeRsp_of_snoop {r : Res} {o : Nat} {f : SnpOut → FMsg → State → State} {t : State} {x : SnpOut} (hopc : m.opc = o)
    (h : Claims.Arrives s p lane seq m) (hx : snpOf s m = some x) (hr : r = homeRsp p lane seq { m with opc := o } f s)
    (ht : f x m (Claims.took p lane m s) = t) : r = .next (settle t) :=
  receives_of_arrives hopc h hr (by simp only [if_true, snpOf_took, hx, ht])

theorem homeRsp_of_none {r : Res} {o : Nat} {f : SnpOut → FMsg → State → State} (hopc : m.opc = o)
    (h : Claims.Arrives s p lane seq m) (hx : snpOf s m = none) (hr : r = homeRsp p lane seq { m with opc := o } f s) :
    r = .next (settle (stale m (Claims.took p lane m s))) :=
  receives_of_arrives hopc h hr (by simp only [if_true, snpOf_took, hx])

end

theorem fabricSnoops_at_holder : Claims.FabricSnoops := by
  intro s p lane seq m harr v w fw
  refine ⟨fun hopc => ?_, fun hopc => ?_, fun hopc => ?_, fun hopc => ⟨fun hnone => ?_, fun k hk hother => ?_⟩⟩
  · change execSnpS p lane seq m s = _
    exact receives_of_arrives hopc harr rfl rfl
  · change execSnpInv p lane seq m s = _
    exact receives_of_arrives hopc harr rfl rfl
  · change execSnpCur p lane seq m s = _
    exact receives_of_arrives hopc harr rfl rfl
  · change execSnpRefwd p lane seq m s = _
    refine receives_of_arrives hopc harr rfl ?_
    simp only [if_true, holdOf_took, hnone]
    rfl
  · change execSnpRefwd p lane seq m s = _
    refine receives_of_arrives hopc harr rfl ?_
    simp only [if_true, holdOf_took, hk, if_neg hother, wayAt_took]
    rfl

theorem fabricSnoopAnswers : Claims.FabricSnoopAnswers := by
  intro s p lane seq m harr w gone
  refine ⟨fun x hx => ⟨fun hopc => ?_, fun hopc => ?_, fun hopc hpend => ?_, fun hopc hpend => ?_, fun hopc hheld hst => ?_,
    fun hopc hheld hst => ?_⟩, fun r hnone hopc hr hhold => ?_, fun hnone hhold c hc hopc => ?_, fun hopc => ?_⟩
  · change execRspI p lane seq m s = _
    exact homeRsp_of_snoop hopc harr hx rfl rfl
  · change execRspS p lane seq m s = _
    exact homeRsp_of_snoop hopc harr hx rfl rfl
  · change execRspMiss p lane seq m s = _
    refine receives_of_arrives hopc harr rfl ?_
    simp only [if_true, snpOf_took, hx, hpend, Bool.false_eq_true, if_false]
    rfl
  · change execRspMiss p lane seq m s = _
    refine receives_of_arrives hopc harr rfl ?_
    simp only [if_true, snpOf_took, hx, hpend]
    rfl
  · change execRspFwd p lane seq m s = _
    refine homeRsp_of_snoop hopc harr hx rfl ?_
    simp only [hheld, hst, Bool.false_eq_true, if_true, if_false]
    rfl
  · change execRspFwd p lane seq m s = _
    refine homeRsp_of_snoop hopc harr hx rfl ?_
    simp only [hheld, hst, if_true, Nat.one_ne_zero, if_false]
    rfl
  · change execRspMiss p lane seq m s = _
    refine receives_of_arrives hopc harr rfl ?_
    simp only [if_true, snpOf_took, recOf_took, hnone, hr, hhold]
    rfl
  · simp only [List.mem_cons, List.not_mem_nil, or_false] at hc
    obtain rfl | rfl | rfl | rfl := hc
    · change execRspI p lane seq m s = _
      exact homeRsp_of_none hopc harr hnone rfl
    · change execRspS p lane seq m s = _
      exact homeRsp_of_none hopc harr hnone rfl
    · change execRspMiss p lane seq m s = _
      refine receives_of_arrives hopc harr rfl ?_
      simp only [if_true, snpOf_took, recOf_took, hnone]
      split
      next r hr => exact if_neg (hhold r hr)
      · rfl
    · change execRspFwd p lane seq m s = _
      exact homeRsp_of_none hopc harr hnone rfl
  · change execRspPend p lane seq m s = _
    refine receives_of_arrives hopc harr rfl ?_
    simp only [if_true, took_tb]
    rfl

/-- Settles O44: each message is received, and then what it names (the hold, the snoop or the record) decides the case in which it
acts. -/
theorem fabricSnoops : Obligations.FabricSnoops := ⟨fabricSnoops_at_holder, fabricSnoopAnswers⟩

end Sys2Proof.Machine

/-! SUPPORT. Answers at a requester, and the other messages of the fabric, each in the case in which it acts. -/

namespace Sys2Proof.Machine

open Sys2Proof

section
variable {s : State} {p lane seq : Nat} {m : FMsg}

/-! ### Answers at a requester (R268, R271) -/

theorem fabWay_took (t : Txn) : t.fabWay (Claims.took p lane m s) = t.fabWay s := by
  simp only [Txn.fabWay, findWay_took]

theorem requesterRsp_of_live {out : Res} {o : Nat} {f : ReqOut → Txn → FMsg → State → State} {u : State} {r : ReqOut} {t : Txn}
    (hopc : m.opc = o) (h : Claims.Arrives s p lane seq m) (hreq : reqOf s m.tid = some r) (hsk : r.msg.sk = m.sk)
    (hgen : r.msg.gen = m.gen) (htxn : txnAt s r.txn = some t) (hout : out = requesterRsp p lane seq { m with opc := o } f s)
    (hf : f r t m (dropReq m.tid (Claims.took p lane m s)) = u) : out = .next (settle u) :=
  receives_of_arrives hopc h hout (by
    simp only [if_true, reqOf_took, hreq, hsk, hgen, ne_eq, not_true_eq_false, or_self, if_false, txnAt_took, htxn, hf])

/-- Without a live transaction an answer is stale, or acknowledged alone where the TID is one of this device. -/
theorem requesterRsp_of_dead {out : Res} {o : Nat} {f : ReqOut → Txn → FMsg → State → State} (hopc : m.opc = o)
    (h : Claims.Arrives s p lane seq m) (hout : out = requesterRsp p lane seq { m with opc := o } f s) :
    (reqOf s m.tid = none → out = .next (settle (if m.requester = ownNode s then ackTo m (Claims.took p lane m s)
      else stale m (Claims.took p lane m s)))) ∧
    (∀ r, reqOf s m.tid = some r → (r.msg.sk ≠ m.sk ∨ r.msg.gen ≠ m.gen) →
      out = .next (settle (stale m (Claims.took p lane m s)))) := by
  refine ⟨fun hreq => receives_of_arrives hopc h hout ?_, fun r hreq hother => receives_of_arrives hopc h hout ?_⟩
  · simp only [if_true, reqOf_took, hreq, ownNode_took]
  · simp only [if_true, reqOf_took, hreq, if_pos hother]

end

/-! ### What dropping a request, counting and writing bursts leave -/

theorem fabWay_dropReq (t : Txn) (tid : Nat) (s : State) : t.fabWay (dropReq tid s) = t.fabWay s := rfl

theorem wayAt_dropReq (tid k : Nat) (s : State) : wayAt (dropReq tid s) k = wayAt s k := rfl

theorem snpOf_tally (i n : Nat) (s : State) (m : FMsg) : snpOf (tally i n s) m = snpOf s m := by simp only [snpOf, tally_fab]

theorem dropReq_tb (tid : Nat) (s : State) : (dropReq tid s).tb = s.tb := rfl

theorem onWay_tb (k : Nat) (f : Way → Way) (s : State) : (onWay k f s).tb = s.tb := rfl

theorem burstsWritten_tb (k : Nat) (js : List Nat) (s : State) : (burstsWritten k js s).tb = s.tb := by
  unfold burstsWritten
  dsimp only
  split <;> simp only [tally_tb, onCch]

theorem carryHeat_tb (k j : Nat) (s : State) : (carryHeat k j s).tb = s.tb := by
  unfold carryHeat
  split
  · split <;> rfl
  · rfl

/-! ### Answers, case by case (R241, R254, R256, R268) -/

theorem fabricRequesterAnswers : Claims.FabricRequesterAnswers := by
  intro s p lane seq m harr w u
  refine ⟨fun r t hreq hsk hgen htxn => ⟨fun k hopc hmsg hway => ?_, fun hopc hmsg hencl => ?_, fun k hopc hz hway hquar => ?_,
    fun hopc => ?_, fun hopc hcause => ?_, fun hopc hcause => ?_⟩, fun c hc hopc => ?_⟩
  · change execData p lane seq m s = _
    refine requesterRsp_of_live hopc harr hreq hsk hgen htxn rfl ?_
    simp only [if_neg hmsg, fabWay_dropReq, fabWay_took, hway, wayAt_dropReq, wayAt_took]
    rfl
  · change execData p lane seq m s = _
    refine requesterRsp_of_live hopc harr hreq hsk hgen htxn rfl ?_
    simp only [if_pos hmsg, if_neg (not_not_intro hencl)]
    rfl
  · change execGnt p lane seq m s = _
    refine requesterRsp_of_live hopc harr hreq hsk hgen htxn rfl ?_
    simp only [hz, fabWay_dropReq, fabWay_took, hway, wayAt_dropReq, wayAt_took, hquar, Bool.false_eq_true, if_false, carryHeat_tb,
      burstsWritten_tb, onWay_tb, dropReq_tb, took_tb]
    rfl
  · change execAtomRes p lane seq m s = _
    exact requesterRsp_of_live hopc harr hreq hsk hgen htxn rfl rfl
  · change execErr p lane seq m s = _
    refine requesterRsp_of_live hopc harr hreq hsk hgen htxn rfl ?_
    simp only [hcause, Nat.zero_ne_one, OfNat.zero_ne_ofNat, if_false]
    rfl
  · change execErr p lane seq m s = _
    refine requesterRsp_of_live hopc harr hreq hsk hgen htxn rfl ?_
    simp only [hcause, if_true]
    rfl
  · simp only [List.mem_cons, List.not_mem_nil, or_false] at hc
    obtain rfl | rfl | rfl | rfl := hc
    · exact requesterRsp_of_dead (out := execData p lane seq m s) hopc harr rfl
    · exact requesterRsp_of_dead (out := execGnt p lane seq m s) hopc harr rfl
    · exact requesterRsp_of_dead (out := execAtomRes p lane seq m s) hopc harr rfl
    · exact requesterRsp_of_dead (out := execErr p lane seq m s) hopc harr rfl

/-! ### Messages that take no entry (R239, R269) -/

section
variable {s : State} {p lane seq : Nat} {m : FMsg}

theorem plainReq_of_fresh (f : FMsg → State → State) (hfresh : Claims.Fresh s m) (hsrc : m.src % 64 = 0) :
    plainReq m f (Claims.took p lane m s) = f m (Claims.took p lane m s) := by
  simp only [plainReq, aged_took hfresh, hsrc, Bool.false_eq_true, if_false, ne_eq, not_true_eq_false]

/-- A message for another device goes on (R528). -/
theorem receive_of_transit (hp : fpOk s p = true) (hup : (fport s p).carries = true) (hlane : lane < 2)
    (hseq : seq = ((fport s p).rxSeq + 1) % 4096) (hdst : m.dst / 64 ≠ devId s) (free : Bool) (f : FMsg → State → State) :
    receive p lane seq m free f s = .next (transit p lane m (Claims.arrived p lane m s)) := by
  simp only [receive, rxAccept_of_inOrder hp hup hlane hseq, not_true_eq_false, if_false, devId_arrived, if_pos hdst]

/-- A message for another endpoint of this device is discarded (R509). -/
theorem receive_of_endpoint (hp : fpOk s p = true) (hup : (fport s p).carries = true) (hlane : lane < 2)
    (hseq : seq = ((fport s p).rxSeq + 1) % 4096) (hdst : m.dst / 64 = devId s) (hend : m.dst % 64 ≠ 0) (free : Bool)
    (f : FMsg → State → State) :
    receive p lane seq m free f s =
      .next (Claims.left p lane m (tally Ctr.FX_STALE_DROP 1 (Claims.arrived p lane m s))) := by
  simp only [receive, rxAccept_of_inOrder hp hup hlane hseq, not_true_eq_false, if_false, devId_arrived,
    if_neg (not_not_intro hdst), if_pos hend]
  rfl

end

theorem fabricOtherMessages : Claims.FabricOtherMessages := by
  intro s p lane seq m
  refine ⟨fun harr => ?_, fun hp hup hlane hseq hdst => ?_, fun hp hup hlane hseq hdst hend => ?_⟩
  · intro w
    refine ⟨fun hopc => ⟨fun x hx => ?_, fun k hwbs hk => ?_⟩, fun r hopc hr => ⟨fun hhold => ?_, fun x hhold => ?_⟩, fun k hopc hk => ?_,
      fun hopc hfresh hsrc => ⟨fun howner => ?_, fun k howner hk => ?_⟩, fun hopc hfresh hsrc => ?_, fun x hopc hx hfwd hst => ?_⟩
    · change execCmp p lane seq m s = _
      refine receives_of_arrives hopc harr rfl ?_
      simp only [if_true, took_wbs, hx]
      rfl
    · change execCmp p lane seq m s = _
      refine receives_of_arrives hopc harr rfl ?_
      simp only [if_true, took_wbs, hwbs, List.find?_nil, holdOf_took, hk]
      rfl
    · change execAck p lane seq m s = _
      refine receives_of_arrives hopc harr rfl ?_
      simp only [if_true, recOf_took, hr, hhold]
      rfl
    · change execAck p lane seq m s = _
      refine receives_of_arrives hopc harr rfl ?_
      simp only [if_true, recOf_took, hr, hhold]
      rfl
    · change execRls p lane seq m s = _
      refine receives_of_arrives hopc harr rfl ?_
      simp only [if_true, holdOf_took, hk]
      rfl
    · change execEvcE p lane seq m s = _
      refine receives_of_arrives hopc harr rfl ((plainReq_of_fresh _ hfresh hsrc).trans ?_)
      simp only [isOwnerDev_took, howner, Bool.false_eq_true, if_false]
      rfl
    · change execEvcE p lane seq m s = _
      refine receives_of_arrives hopc harr rfl ((plainReq_of_fresh _ hfresh hsrc).trans ?_)
      simp only [isOwnerDev_took, howner, if_true, findWay_took, hk]
      rfl
    · change execFhbDone p lane seq m s = _
      exact receives_of_arrives hopc harr rfl (plainReq_of_fresh _ hfresh hsrc)
    · change execSnpdata p lane seq m s = _
      refine receives_of_arrives hopc harr rfl ?_
      simp only [if_true, snpOf_tally, snpOf_took, hx, hfwd, Bool.false_eq_true, if_false, if_neg hst]
      rfl
  · exact receive_of_transit hp hup hlane hseq hdst true _
  · exact receive_of_endpoint hp hup hlane hseq hdst hend true _

/-- Settles O45: each message is received, and then the live request, or what else the message names, decides the case in which it
acts. -/
theorem fabricAnswers : Obligations.FabricAnswers := ⟨fabricRequesterAnswers, fabricOtherMessages⟩

end Sys2Proof.Machine

/-! SUPPORT. The timers of fabric transactions, and the incarnations of their peers, each in the case in which it acts. -/

namespace Sys2Proof.Machine

open Sys2Proof

/-! ### A message that leaves -/

theorem putOnLink_tb (p lane : Nat) (m : FMsg) (s : State) : (putOnLink p lane m s).tb = s.tb := by
  simp only [putOnLink, emit_tb, tally_tb, onFPort, onFab]

theorem trySend_tb (avoid : Option Nat) (m : FMsg) (lane : Nat) (s : State) : (trySend avoid m lane s).2.tb = s.tb := by
  unfold trySend
  dsimp only
  split
  · simp only [raise_tb, tally_tb]
  · split
    · simp only [raise_tb, tally_tb]
    · split
      · rfl
      · split
        · split <;> simp only [putOnLink_tb, tally_tb]
        · simp only [tally_tb]

theorem sendVia_tb (avoid : Option Nat) (m : FMsg) (lane : Nat) (s : State) : (sendVia avoid m lane s).2.tb = s.tb := by
  have htry := trySend_tb avoid m lane s
  unfold sendVia
  split
  · rfl
  · revert htry
    obtain ⟨out, t⟩ := trySend avoid m lane s
    cases out <;> exact id

section
variable {s : State}

/-! ### What each timer is of (R251, R259, R267, R268, R270, R272, R279) -/

theorem recOf_tid {tid : Nat} {r : HRec} (h : recOf s tid = some r) : r.tid = tid := by
  have hfound := List.find?_some h
  exact beq_iff_eq.mp hfound

/-- A snoop outstanding is of the sector and the holder by which it is found. -/
theorem snps_find_sk_holder {sk dev : Nat} {x : SnpOut}
    (h : s.fab.snps.find? (fun x => x.sk == sk && x.holder == dev && x.opc != Op.snpData) = some x) : x.sk = sk ∧ x.holder = dev := by
  have hfound := List.find?_some h
  simp only [Bool.and_eq_true, beq_iff_eq] at hfound
  obtain ⟨hnames, -⟩ := hfound
  exact hnames

theorem maxReissue_until (t : Nat) (s : State) : maxReissue (until_ t s) = maxReissue s := rfl

theorem exec_fxTimeout_of_request {tid : Nat} {r : ReqOut} (h : reqOf s tid = some r) :
    exec (.fxTimeout tid) s = .next (settle (reqTimeout r s)) := by
  change execFxTimeout tid s = _
  simp only [execFxTimeout, h]

theorem exec_fxTimeout_of_returned {tid : Nat} {w : WbOut} (hreq : reqOf s tid = none)
    (h : s.fab.wbs.find? (·.tid == tid) = some w) : exec (.fxTimeout tid) s = .next (settle (wbTimeout w s)) := by
  change execFxTimeout tid s = _
  simp only [execFxTimeout, hreq, h]

theorem exec_homeResponseTimeout_of_response {tid : Nat} {r : HRec} {a : FMsg} (hr : recOf s tid = some r) (ha : r.resp = some a) :
    exec (.homeResponseTimeout tid) s = .next (settle (respTimeout r a s)) := by
  change execHomeResponseTimeout tid s = _
  simp only [execHomeResponseTimeout, hr, ha]

theorem exec_homeSnoopTimeout_of_snoop {sk dev : Nat} {x : SnpOut}
    (h : s.fab.snps.find? (fun x => x.sk == sk && x.holder == dev && x.opc != Op.snpData) = some x) :
    exec (.homeSnoopTimeout sk dev) s = .next (settle (snpTimeout x s)) := by
  change execHomeSnoopTimeout sk dev s = _
  simp only [execHomeSnoopTimeout, h]

theorem exec_rspPendInterval_of_working {id : Nat} {t : Txn} (ht : txnAt s id = some t) (hfab : t.isFab = true) (hph : t.ph ≠ .ack) :
    exec (.rspPendInterval id) s = .next (settle (tellPend t s)) := by
  change execRspPendInterval id s = _
  simp only [execRspPendInterval, ht, hfab, hph, not_true_eq_false, or_self, if_false]

theorem exec_dirStallTimeout_of_untold {id w : Nat} {t : Txn} (ht : txnAt s id = some t) (hat : t.dirAt = some w)
    (htold : t.dirTold = false) : exec (.dirStallTimeout id) s =
      .next (raise Ev.dirStall 0 0 (onTxn id (fun t => { t with dirTold := true }) (until_ (w + 100000) s))) := by
  change execDirStallTimeout id s = _
  simp only [execDirStallTimeout, stall, ht, hat, htold, Bool.false_eq_true, if_false]

theorem exec_peerIncarnationChange_of_peer {dev inc : Nat} (h : dev ≠ devId s) :
    exec (.peerIncarnationChange dev inc) s = .next (settle (learnIncarn dev inc s)) := if_neg h

theorem exec_fhbWaitTimeout_of_waiting (hwait : s.fab.waiting ≠ []) (htold : s.fab.waitTold = false) : exec .fhbWaitTimeout s =
    .next (raise Ev.fhbWait 0 0 (onFab (fun f => { f with waitTold := true })
      (until_ (s.fab.waitAt + 1000000 * max 1 (fld s Reg.COH_FHB_CFG 15 0)) s))) := by
  change execFhbWaitTimeout s = _
  have hwaits : ¬ (s.fab.waiting.isEmpty = true ∨ s.fab.waitTold = true) := by simp [hwait, htold]
  exact if_neg hwaits

end

/-- Settles O46: each timer finds what it is of; whether reissues last then decides what becomes of it. -/
theorem fabricTimers : Obligations.FabricTimers := by
  refine ⟨fun s tid r hr => ⟨fun hleft => ?_, fun t hlast ht => ?_⟩, fun s tid w => exec_fxTimeout_of_returned,
    fun s tid r a hr ha => ⟨fun hleft => ?_, fun hlast => ?_⟩, fun s sk dev x hx hlast howner => ?_, fun s id t ht hfab hph => ?_,
    fun s id w t => exec_dirStallTimeout_of_untold, fun s dev inc hdev => ⟨fun hnone => ?_, fun old hold hnew => ?_⟩,
    fun s => exec_fhbWaitTimeout_of_waiting⟩
  · rw [exec_fxTimeout_of_request hr]
    simp only [reqTimeout, maxReissue_until, if_pos hleft, sendVia_tb, raise_tb, tally_tb, until__tb, raise_fab, tally_fab, until__fab]
    rfl
  · rw [exec_fxTimeout_of_request hr]
    have ht' : txnAt (fxFail (r.msg.dst / 64) 1 r.msg.tid (dropReq r.msg.tid (until_ (r.at_ + fullTo s) s))) r.txn = some t := ht
    simp only [reqTimeout, maxReissue_until, if_neg (Nat.not_lt.mpr hlast), ht']
    rfl
  · rw [exec_homeResponseTimeout_of_response hr ha]
    obtain rfl := recOf_tid hr
    simp only [respTimeout, maxReissue_until, hleft, if_true]
    rfl
  · rw [exec_homeResponseTimeout_of_response hr ha]
    obtain rfl := recOf_tid hr
    simp only [respTimeout, maxReissue_until, Nat.not_lt.mpr hlast, if_false]
    rfl
  · rw [exec_homeSnoopTimeout_of_snoop hx]
    obtain ⟨rfl, rfl⟩ := snps_find_sk_holder hx
    have howner' : isOwnerDev (until_ (x.at_ + fullTo s) s) x.sk x.holder = false := howner
    simp only [snpTimeout, maxReissue_until, if_neg (Nat.not_lt.mpr hlast), howner', Bool.false_eq_true, if_false]
    rfl
  · rw [exec_rspPendInterval_of_working ht hfab hph]
    rfl
  · rw [exec_peerIncarnationChange_of_peer hdev]
    simp only [learnIncarn, hnone]
  · rw [exec_peerIncarnationChange_of_peer hdev]
    simp only [learnIncarn, hold, if_neg hnew]

end Sys2Proof.Machine

/-! SUPPORT. The journal's own commands: packing, sintering, the walk of a rotation, checkpoints, the head of a stream and the
index, each in the case in which it acts. -/

namespace Sys2Proof.Machine

open Sys2Proof

section
variable {s u : State}

/-! ### Packing and the index (R322, R330) -/

theorem exec_journalPackTimeout_of_waiting {e : WbE} {es : List WbE} (hwb : s.cache.wb = e :: es) :
    exec .journalPackTimeout s = .next (settle (packWb true (until_ (e.at_ + 1000) s))) := by
  change execJournalPackTimeout s = _
  simp only [execJournalPackTimeout, hwb]

theorem exec_indexBucketRebuild_of_bucket {b : Nat} (hb : b < s.med.jrnl.nb) :
    exec (.indexBucketRebuild b) s = .next (raise Ev.jrnlIndexRebuild 0 0 s) := if_pos hb

/-! ### The next page is locked (R334, R343) -/

section
variable {p : Nat}

/-- Below the high watermark and with no full chain, the background rate must not be 0. -/
theorem exec_sinterPage_of_found {ns : Nat} (hon : sintering s = true)
    (hroom : (s.med.jrnl.sinters.filter (!·.rotate)).length < max 1 (fld s Reg.LDG_SINTER_CFG 17 8))
    (hrate : fullRate s = true ∨ 0 < fld s Reg.LDG_SINTER_CFG 7 0)
    (hfound : (if (bucketPages s (fullChains s)).isEmpty = true then headPages s ns
      else bucketPages s (fullChains s)).find? (sinterable s) = some p)
    (hstart : startSinter p false s = some u) :
    exec (.sinterPage ns) s = .next (settle (sinterPump (paceSinter u))) := by
  change execSinterPage ns s = _
  have hpaced : ¬ (¬ fullRate s = true ∧ fld s Reg.LDG_SINTER_CFG 7 0 = 0) :=
    fun ⟨hslow, hzero⟩ => hrate.elim hslow hzero.not_gt
  simp only [execSinterPage, hon, hpaced, hroom.not_ge, hfound, hstart, not_true_eq_false, or_self, if_false]

theorem exec_rotatePageStep_of_owned {r : Rot} (hrot : s.med.jrnl.rot = some r) (hrun : running s = true)
    (hidle : s.med.jrnl.sinters = []) (howned : nextOwned s r.key r.cursor = some p) (hstart : startSinter p true s = some u) :
    exec .rotatePageStep s = .next (settle (sinterPump u)) := by
  change execRotatePageStep s = _
  simp only [execRotatePageStep, hrot, hrun, hidle, howned, hstart, List.any_nil, Bool.false_eq_true, not_true_eq_false, or_self,
    if_false]

end

/-! ### Checkpoints (R340) -/

theorem exec_checkpointTimer_of_begun (hrun : running s = true) (hset : s.med.media.set_.isSome = true)
    (hckpt : s.med.jrnl.ckpt = none) (hmaking : s.med.jrnl.making = none)
    (hstart : startCkpt (until_ (s.med.jrnl.ckptAt + 1000000 * fld s Reg.LDG_JRNL_CFG 30 19) s) = some u) :
    exec .checkpointTimer s = .next (settle u) := by
  change execCheckpointTimer s = _
  have hmade : s.med.media.set_.isNone = false := Option.isNone_eq_false_iff.mpr hset
  simp only [execCheckpointTimer, hrun, hmade, hckpt, hmaking, hstart, Option.isSome_none, Bool.false_eq_true, not_true_eq_false,
    or_self, if_false]

/-! ### The head of a stream (R321, R339) -/

/-- The pages of a stream's slot are forgotten. -/
def dropSlot (ns slot : Nat) (s : State) : State :=
  onMedia (fun m => { m with pages := tblFilter (fun k _ => !(k / 2 ^ 40 == ns && k % 2 ^ 40 / 64 == slot)) m.pages }) s

/-- A slot is deallocated where the controller of its namespace can. -/
def deallocateSlot (ns slot : Nat) (s : State) : State :=
  if (s.med.ports.getD (nsPort s ns) MPort.off).ctl.dsm = true then
    emit (.nvme (nsPort s ns) 0 "DEALLOCATE" ns (256 + 64 * slot % max 1 (mset s).jl)) s
  else s

/-- Nothing lives in the head slot and no page of it is staged: nothing must be carried, and the head moves on. -/
theorem exec_journalHeadAdvance_of_dead {ns : Nat} (hrun : running s = true) (hns : ns < (mset s).n)
    (htail : (streamAt s ns).head < (streamAt s ns).tail) (hlimit : (streamAt s ns).head < headLimit s ns)
    (hdead : liveRecs s ns (streamAt s ns).head = [])
    (hstaged : (outstanding s ns).any (fun p => p.page / 64 == (streamAt s ns).head) = false)
    (hcarry : carrySlot ns [] s = some u) (hleft : liveRecs u ns (streamAt s ns).head = []) :
    exec (.journalHeadAdvance ns) s = .next (settle (onStream ns (fun t => { t with head := t.head + 1 })
      (deallocateSlot ns (streamAt s ns).head (dropSlot ns (streamAt s ns).head u)))) := by
  change execJournalHeadAdvance ns s = _
  simp only [execJournalHeadAdvance, hrun, hns.not_ge, htail.not_ge, hlimit.not_ge, hdead, hstaged, hcarry, hleft, List.all_nil,
    Bool.not_true, Bool.false_eq_true, not_true_eq_false, or_self, if_false, if_true]
  rfl

end

/-- Settles O49: each command by the case in which it acts. -/
theorem journalCommands : Obligations.JournalCommands :=
  ⟨fun _ _ _ => exec_journalPackTimeout_of_waiting, fun _ _ _ _ => exec_sinterPage_of_found,
    fun _ _ _ _ => exec_rotatePageStep_of_owned, fun _ _ => exec_checkpointTimer_of_begun,
    fun _ _ _ => exec_journalHeadAdvance_of_dead, fun _ _ => exec_indexBucketRebuild_of_bucket⟩

end Sys2Proof.Machine

/-! SUPPORT. Register writes that command reserve banks and fabric ports, for one bank or port of the mask. -/

namespace Sys2Proof.Machine

open Sys2Proof

/-! ### The two registers (R578) -/

/-- In a table in its canonical form a write leaves every other register as it reads. -/
theorem regOf_putReg_of_ok {x : Io} {o off : Nat} (w : Word) (hx : x.ok = true) (ho : o ≠ off) :
    regOf (putReg x off w) o = regOf x o := by
  simp only [regOf, putReg, tblGet, tblFind_set_other (tblWf_regs_of_ok hx) ho]

theorem flag_stored_other {s : State} {o off : Nat} (w bit : Nat) (hok : s.ok = true) (ho : o ≠ off) :
    flag (Claims.stored off w s) o bit = flag s o bit := by
  simp only [flag, fld, fldOf, Claims.stored, regOf_putReg_of_ok _ (io_ok_of_ok hok) ho]

section
variable {s : State} {m : Master} {w : Word}

theorem regPut_svcCmd (h : Claims.MayWrite s m Reg.RSV_SVC_CMD w.toNat) : regPut m Reg.RSV_SVC_CMD w s =
    .next (settle (svcCmd w.toNat (Claims.stored Reg.RSV_SVC_CMD w.toNat s))) :=
  regPut_of_mayWrite h (by decide) (by decide) (by decide) (by decide) (Bool.and_eq_false_iff.mpr (.inr (by decide)))
    (by decide) (dataWrite_of_not_table _ _ (by decide))

theorem regPut_linkCmd (h : Claims.MayWrite s m Reg.FAB_LINK_CMD w.toNat) : regPut m Reg.FAB_LINK_CMD w s =
    .next (settle (linkCmd w.toNat (Claims.stored Reg.FAB_LINK_CMD w.toNat s))) :=
  regPut_of_mayWrite h (by decide) (by decide) (by decide) (by decide) (Bool.and_eq_false_iff.mpr (.inr (by decide)))
    (by decide) (dataWrite_of_not_table _ _ (by decide))

end

/-! ### One bank of a mask (R366, R394) -/

section
variable {n : Nat} (hn : n < 4) (s : State)
include hn

theorem svcCmd_discharge : svcCmd (2 ^ n) s = dischargeBank n s := by
  have hmasks : ∀ n < 4, maskBanks (bitsOf (2 ^ n) 3 0) = [n] ∧ maskBanks (bitsOf (2 ^ n) 7 4) = [] := by decide
  obtain ⟨hdischarge, hrecharge⟩ := hmasks n hn
  rw [svcCmd, hdischarge, hrecharge]
  rfl

theorem svcCmd_recharge : svcCmd (16 * 2 ^ n) s = rechargeBank n s := by
  have hmasks : ∀ n < 4, maskBanks (bitsOf (16 * 2 ^ n) 3 0) = [] ∧ maskBanks (bitsOf (16 * 2 ^ n) 7 4) = [n] := by decide
  obtain ⟨hdischarge, hrecharge⟩ := hmasks n hn
  rw [svcCmd, hdischarge, hrecharge]
  rfl

end

section
variable {s : State} {n : Nat}

theorem dischargeBank_of_holding (hst : (bank s n).st = .holding) :
    dischargeBank n s = evalUnsched n (onBank n (fun b => { b with disReq := true }) s) := by
  simp only [dischargeBank, hst]

theorem dischargeBank_of_present (habsent : (bank s n).st ≠ .absent) (hdischarging : (bank s n).st ≠ .discharging)
    (hholding : (bank s n).st ≠ .holding) (hpresent : (bank s n).present = true) :
    dischargeBank n s = evalUnsched n
      (onBank n (fun b => { b with st := .discharging, bleed := true, disAt := some s.tb, disTold := false }) s) := by
  cases hst : (bank s n).st
  case absent => exact absurd hst habsent
  case discharging => exact absurd hst hdischarging
  case holding => exact absurd hst hholding
  all_goals simp only [dischargeBank, hst, hpresent, if_true]

theorem rechargeBank_of_isolated (hst : (bank s n).st = .isolated) (hpresent : (bank s n).present = true)
    (hfault : (bank s n).fault ≠ .present) (hen : bankEn s n = true) :
    rechargeBank n s = onBank n (fun b => { b with st := .measuring, fault := .none }) s :=
  if_pos ⟨hst, hpresent, hfault, hen⟩

end

/-! ### One port of a mask (R517, R534) -/

/-- A function at the positions that meet a condition is that function at each of the positions selected. -/
theorem upTo_if {σ : Type} (k : Nat) (c : Nat → Prop) [DecidablePred c] (f : Nat → σ → σ) (s : σ) :
    upTo k (fun p s => if c p then f p s else s) s = eachIn ((List.range k).filter (decide <| c ·)) f s := by
  simp only [upTo, eachIn, List.foldl_filter, decide_eq_true_eq]

theorem fabPortCount_le (s : State) : fabPortCount s ≤ 4 := by
  unfold fabPortCount
  split <;> decide

/-- The ports below k that a word names from bit i on. -/
def portsOf (k i w : Nat) : List Nat := (List.range k).filter fun p => bitsOf w (i + p) (i + p) = 1

theorem linkCmd_eq (w : Nat) (s : State) :
    let t := eachIn (portsOf (fabPortCount s) 0 w) linkRetrain s
    linkCmd w s = eachIn (portsOf (fabPortCount t) 4 w) linkDown t := by
  simp only [linkCmd, portsOf, upTo_if, Nat.zero_add]

theorem portsOf_one : ∀ n < 4, ∀ k ≤ 4, portsOf k 4 (2 ^ n) = [] ∧ portsOf k 0 (16 * 2 ^ n) = [] ∧
    (n < k → portsOf k 0 (2 ^ n) = [n] ∧ portsOf k 4 (16 * 2 ^ n) = [n]) := by
  decide

section
variable {s : State} {n : Nat}

theorem linkCmd_retrain (hn : n < 4) (hport : n < fabPortCount s) : linkCmd (2 ^ n) s = linkRetrain n s := by
  obtain ⟨-, -, hone⟩ := portsOf_one n hn _ (fabPortCount_le s)
  obtain ⟨hdown, -, -⟩ := portsOf_one n hn _ (fabPortCount_le (linkRetrain n s))
  obtain ⟨hretrain, -⟩ := hone hport
  rw [linkCmd_eq, hretrain]
  exact congrArg (eachIn · linkDown _) hdown

theorem linkCmd_takeDown (hn : n < 4) (hport : n < fabPortCount s) : linkCmd (16 * 2 ^ n) s = linkDown n s := by
  obtain ⟨-, hretrain, hone⟩ := portsOf_one n hn _ (fabPortCount_le s)
  obtain ⟨-, hdown⟩ := hone hport
  rw [linkCmd_eq, hretrain]
  exact congrArg (eachIn · linkDown _) hdown

theorem fpOk_of_lt (hport : n < fabPortCount s) : fpOk s n = true := decide_eq_true hport

theorem linkRetrain_of_carrying (hport : n < fabPortCount s) (hen : flag s Reg.FAB_LINK_CFG n = true)
    (hup : (fport s n).st = .up ∨ (fport s n).st = .replaying) :
    linkRetrain n s = onFPort n (fun x => { x with st := .degrading, episode := none, wide := true }) s := by
  have hcarries : (fport s n).carries = true := by simpa only [FPort.carries, Bool.or_eq_true, beq_iff_eq] using hup
  simp only [linkRetrain, fpOk_of_lt hport, hen, hcarries, not_true_eq_false, or_self, if_false, if_true]

theorem linkRetrain_of_down (hport : n < fabPortCount s) (hen : flag s Reg.FAB_LINK_CFG n = true) (hdown : (fport s n).st = .down) :
    linkRetrain n s = onFPort n (fun x => { x with st := .training, cmdDown := false }) s := by
  have hidle : (fport s n).carries = false := by rw [FPort.carries, hdown]; rfl
  simp only [linkRetrain, fpOk_of_lt hport, hen, hidle, hdown, not_true_eq_false, or_self, Bool.false_eq_true, if_false, if_true]

theorem linkDown_of_lt (hport : n < fabPortCount s) : linkDown n s = settle (fabDown n true s) := if_pos (fpOk_of_lt hport)

end

/-! ### The commands as writes of their registers -/

/-- The word that a command on one bank or port writes. -/
theorem toNat_bit4 : ∀ n < 4, (BitVec.ofNat 32 (Claims.bit4 n).val).toNat = 2 ^ n ∧
    (BitVec.ofNat 32 (16 * (Claims.bit4 n).val)).toNat = 16 * 2 ^ n := by
  decide

section
variable {s : State} {m : Master} {n : Nat} (hn : n < 4)
include hn

theorem exec_svcDischarge_of_mayWrite (h : Claims.MayWrite s m Reg.RSV_SVC_CMD (2 ^ n)) :
    exec (.svcDischarge m (Claims.bit4 n)) s =
      .next (settle (dischargeBank n (Claims.stored Reg.RSV_SVC_CMD (2 ^ n) s))) := by
  obtain ⟨hword, -⟩ := toNat_bit4 n hn
  rw [← hword] at h
  rw [← svcCmd_discharge hn, ← hword]
  exact regPut_svcCmd h

theorem exec_svcRecharge_of_mayWrite (h : Claims.MayWrite s m Reg.RSV_SVC_CMD (16 * 2 ^ n)) :
    exec (.svcRecharge m (Claims.bit4 n)) s =
      .next (settle (rechargeBank n (Claims.stored Reg.RSV_SVC_CMD (16 * 2 ^ n) s))) := by
  obtain ⟨-, hword⟩ := toNat_bit4 n hn
  rw [← hword] at h
  rw [← svcCmd_recharge hn, ← hword]
  exact regPut_svcCmd h

theorem exec_linkRetrain_of_mayWrite (h : Claims.MayWrite s m Reg.FAB_LINK_CMD (2 ^ n)) (hport : n < fabPortCount s) :
    exec (.linkRetrain m (Claims.bit4 n)) s = .next (settle (linkRetrain n (Claims.stored Reg.FAB_LINK_CMD (2 ^ n) s))) := by
  obtain ⟨hword, -⟩ := toNat_bit4 n hn
  rw [← linkCmd_retrain (s := Claims.stored Reg.FAB_LINK_CMD (2 ^ n) s) hn hport]
  rw [← hword] at h ⊢
  exact regPut_linkCmd h

theorem exec_linkTakeDown_of_mayWrite (h : Claims.MayWrite s m Reg.FAB_LINK_CMD (16 * 2 ^ n)) (hport : n < fabPortCount s) :
    exec (.linkTakeDown m (Claims.bit4 n)) s =
      .next (settle (settle (fabDown n true (Claims.stored Reg.FAB_LINK_CMD (16 * 2 ^ n) s)))) := by
  obtain ⟨-, hword⟩ := toNat_bit4 n hn
  rw [← linkDown_of_lt (s := Claims.stored Reg.FAB_LINK_CMD (16 * 2 ^ n) s) hport,
    ← linkCmd_takeDown (s := Claims.stored Reg.FAB_LINK_CMD (16 * 2 ^ n) s) hn hport]
  rw [← hword] at h ⊢
  exact regPut_linkCmd h

end

/-- Settles O28: each command is the owner's write of one bit of its register. The word stored touches no bank, no port and no other
register, so what is assumed of them holds after it as well. -/
theorem bankAndLinkCommands : Obligations.BankAndLinkCommands := by
  refine fun s m n hok hn => ⟨fun hmay => ⟨fun hst => ?_, fun habsent hdis hhold hpresent => ?_⟩,
    fun hmay hst hpresent hfault hen => ?_, fun hmay hport hen => ⟨fun hup => ?_, fun hdown => ?_⟩,
    fun hmay hport => exec_linkTakeDown_of_mayWrite hn hmay hport⟩
  · rw [exec_svcDischarge_of_mayWrite hn hmay, dischargeBank_of_holding (s := Claims.stored _ _ s) hst]
  · rw [exec_svcDischarge_of_mayWrite hn hmay, dischargeBank_of_present (s := Claims.stored _ _ s) habsent hdis hhold hpresent]
    rfl
  · have hother : ∀ n < 4, Reg.RSV_BANK + 8 * n ≠ Reg.RSV_SVC_CMD := by decide
    have hen' := (flag_stored_other (16 * 2 ^ n) 0 hok (hother n hn)).trans hen
    rw [exec_svcRecharge_of_mayWrite hn hmay, rechargeBank_of_isolated (s := Claims.stored _ _ s) hst hpresent hfault hen']
  all_goals
    have hen' := (flag_stored_other (off := Reg.FAB_LINK_CMD) (2 ^ n) n hok (by decide)).trans hen
    rw [exec_linkRetrain_of_mayWrite hn hmay hport]
  · rw [linkRetrain_of_carrying (s := Claims.stored _ _ s) hport hen' hup]
  · rw [linkRetrain_of_down (s := Claims.stored _ _ s) hport hen' hdown]

end Sys2Proof.Machine

/-! SUPPORT. RESERVE_CTL from the owner's mailbox and the faults of the reserve, each in the case in which it acts. -/

namespace Sys2Proof.Machine

open Sys2Proof

/-! ### RESERVE_CTL (R367) -/

section
variable (p banks rsv : Nat) (s : State)

theorem exec_reserveArm : exec (.reserveArm p rsv) s =
    reserveCtl p rsv (fun s => done p 0xC050 [] (settle (rstateNow (hwFld Reg.LDG_CTL 0 0 1 s)))) s := rfl

theorem exec_reserveDisarm : exec (.reserveDisarm p rsv) s =
    reserveCtl p rsv (fun s => done p 0xC050 [] (settle (rstateNow (hwFld Reg.LDG_CTL 0 0 0 s)))) s := rfl

theorem exec_reserveRecharge : exec (.reserveRecharge p banks rsv) s =
    reserveCtl p rsv (fun s => done p 0xC050 [] (eachIn (maskBanks banks) rechargeBank s)) s := rfl

/-- DISCHARGE asks the banks and waits for those that are left. -/
def dischargeAndWait (p banks : Nat) (s : State) : State :=
  let t := settle (eachIn (maskBanks banks) dischargeBank s)
  let left := (maskBanks banks).filter fun n => (bank t n).st == .discharging || (bank t n).disReq
  if left.isEmpty then bgEnd p 0xC050 "SUCCESS" t else onRsv (fun r => { r with waiters := r.waiters ++ [(p, left)] }) t

theorem exec_reserveDischarge : exec (.reserveDischarge p banks rsv) s =
    reserveCtl p rsv (background p 0xC050 (dischargeAndWait p banks)) s := rfl

end

section
variable {s : State} {p : Nat} (hmail : Claims.Mail s p) (howns : Claims.Owns s p)
include hmail howns

/-- With its reserved bits 0 the owner's command acts on the state in which it is counted. -/
theorem reserveCtl_of_owner (f : State → State) : reserveCtl p 0 f s = .next (f (Claims.mailed s)) := by
  refine (mbox_of_owner _ hmail howns).trans ?_
  simp only [ne_eq, not_true_eq_false, if_false]

theorem reserveCtl_reserved {rsv : Nat} (hrsv : rsv ≠ 0) (f : State → State) :
    reserveCtl p rsv f s = .next (mboxDone p 0xC050 "INVALID_INPUT" [] (Claims.mailed s)) := by
  refine (mbox_of_owner _ hmail howns).trans ?_
  simp only [ne_eq, hrsv, not_false_eq_true, if_true, invalid]

/-- On a mailbox without a background command DISCHARGE becomes one: it takes its tracker entry first. -/
theorem exec_reserveDischarge_of_free (banks : Nat) (hfree : bgBusy s p = false) :
    exec (.reserveDischarge p banks 0) s = .next (dischargeAndWait p banks (cmdBegin p 0xC050 (Claims.mailed s))) := by
  have hfree' : bgBusy (Claims.mailed s) p = false := hfree
  rw [exec_reserveDischarge, reserveCtl_of_owner hmail howns, background, hfree']
  rfl

end

theorem reserveCommands : Claims.ReserveCommands := by
  refine fun s p banks hmail howns => ⟨?_, ?_, ?_, fun hfree => ?_, fun rsv hrsv => ?_⟩
  · rw [exec_reserveArm, reserveCtl_of_owner hmail howns]
  · rw [exec_reserveDisarm, reserveCtl_of_owner hmail howns]
  · rw [exec_reserveRecharge, reserveCtl_of_owner hmail howns]
  · rw [exec_reserveDischarge_of_free hmail howns banks hfree]
    simp only [dischargeAndWait, List.isEmpty_iff]
  · simp only [List.forall_mem_cons, List.not_mem_nil, false_imp_iff, implies_true, and_true, exec_reserveArm, exec_reserveDisarm,
      exec_reserveRecharge, exec_reserveDischarge, reserveCtl_reserved hmail howns hrsv]

/-! ### Faults of the reserve (R368) -/

section
variable {s : State} {f : RsvFault}

theorem rsvFault_of_new (h : f ∉ s.rsv.faults) : rsvFault f s =
    settle (rstateNow (raise Ev.rsvFault f.code 0 (onRsv (fun r => { r with faults := f :: r.faults }) s))) := by
  simp only [rsvFault, List.contains_iff_mem, h, if_false]

theorem rsvFault_of_standing (h : f ∈ s.rsv.faults) : rsvFault f s = s := by
  simp only [rsvFault, List.contains_iff_mem, h, if_true]

/-- What the state tells of the end of a fault's condition; of a gate's it tells nothing. -/
def faultGone (s : State) : RsvFault → Bool
  | .adc => decide (s.rsv.adcFails < 3)
  | .gate => true
  | .noBank => !noBank s

theorem exec_rsvFaultClear : exec (.rsvFaultClear f) s =
    if s.rsv.faults.contains f && faultGone s f then
      .next (settle (rstateNow (onRsv (fun r => { r with faults := r.faults.filter (· != f) }) s)))
    else .next s := by
  cases f <;> rfl

theorem exec_rsvFaultClear_of_gone (h : f ∈ s.rsv.faults) (hgone : faultGone s f = true) : exec (.rsvFaultClear f) s =
    .next (settle (rstateNow (onRsv (fun r => { r with faults := r.faults.filter (· != f) }) s))) :=
  exec_rsvFaultClear.trans (if_pos (by simp [h, hgone]))

theorem exec_rsvFaultClear_of_absent (h : f ∉ s.rsv.faults) : exec (.rsvFaultClear f) s = .next s :=
  exec_rsvFaultClear.trans (if_neg (by simp [h]))

theorem exec_rsvGateFault : exec .rsvGateFault s = .next (rsvFault .gate s) := rfl

theorem exec_rsvNoBankFault_of_none (h : noBank s = true) : exec .rsvNoBankFault s = .next (rsvFault .noBank s) := if_pos h

theorem exec_rsvNoBankFault_of_usable (h : noBank s = false) : exec .rsvNoBankFault s = .next s := if_neg (by simp [h])

end

theorem reserveFaults : Claims.ReserveFaults := by
  refine fun s => ⟨fun hnew => ?_, fun hold => ⟨?_, ?_⟩, exec_rsvNoBankFault_of_usable, fun hnew hnone => ?_,
    fun hold husable => ?_, fun hold hpassed => ?_, fun f => exec_rsvFaultClear_of_absent⟩
  · rw [exec_rsvGateFault, rsvFault_of_new hnew]
  · rw [exec_rsvGateFault, rsvFault_of_standing hold]
  · exact exec_rsvFaultClear_of_gone hold rfl
  · rw [exec_rsvNoBankFault_of_none hnone, rsvFault_of_new hnew]
  · exact exec_rsvFaultClear_of_gone hold (by rw [faultGone, husable]; rfl)
  · exact exec_rsvFaultClear_of_gone hold (decide_eq_true hpassed)

/-- Settles O39: the mailbox commands by what `reserveCtl` does for the owner, the faults by whether each stands. -/
theorem reserveControl : Obligations.ReserveControl := ⟨reserveCommands, reserveFaults⟩

end Sys2Proof.Machine

/-! SUPPORT. Reserve banks: what a change of a bank leaves, and the commands on banks, each in the case in which it acts. -/

namespace Sys2Proof.Machine

open Sys2Proof

/-! ### A change of a bank (R360) -/

theorem onBank_onBank (n : Nat) (f g : Bank → Bank) (s : State) :
    onBank n g (onBank n f s) = onBank n (fun b => g (f b)) s := by
  simp only [onBank, onRsv, setAt_setAt]

theorem bankEn_onBank (n m : Nat) (f : Bank → Bank) (s : State) : bankEn (onBank n f s) m = bankEn s m := rfl

/-- Where no DISCHARGE waits, there is none to take out of those that wait. -/
theorem onRsv_waiters_of_none {s : State} (p : Nat × List Nat → Bool) (h : s.rsv.waiters = []) :
    onRsv (fun r => { r with waiters := r.waiters.filter p }) s = s := by
  have hsame : s.rsv.waiters.filter p = s.rsv.waiters := by rw [h, List.filter_nil]
  simp only [onRsv, hsame]

/-! ### Presence and faults (R360, R364) -/

section
variable {s : State} {n : Nat}

theorem exec_bankPresentDebounce_enabled (hn : n < 4) (hst : (bank s n).st = .absent) (hen : bankEn s n = true) :
    exec (.bankPresentDebounce n) s =
      .next (onBank n (fun b => { b with present := true, st := .measuring, fault := .none }) s) := by
  change execBankPresentDebounce n s = _
  simp only [execBankPresentDebounce, hn.not_ge, hst, bankEn_onBank, hen, true_or, and_self, if_true, if_false, onBank_onBank]

theorem exec_bankPresentDebounce_disabled (hn : n < 4) (hst : (bank s n).st = .absent) (hen : bankEn s n = false) :
    exec (.bankPresentDebounce n) s =
      .next (onBank n (fun b => { b with present := true, st := .isolated, fault := .none }) s) := by
  change execBankPresentDebounce n s = _
  simp only [execBankPresentDebounce, hn.not_ge, hst, bankEn_onBank, hen, Bool.false_eq_true, and_false, if_true, if_false,
    onBank_onBank]

/-- A fault other than a withdrawal fits only a bank in use. -/
theorem inUse_of_faultFits {b : Bank} {f : BankFault} (hfits : faultFits b f = true) (hf : f ≠ .present) :
    b.st ≠ .isolated ∧ b.st ≠ .absent := by
  cases f
  case present => exact absurd rfl hf
  case reverse => simp_all [faultFits]
  case overcurrent => simp_all [faultFits]
  case overvolt => simp_all [faultFits]
  all_goals exact absurd hfits Bool.false_ne_true

/-- A fault that fits the bank's state, other than its withdrawal, isolates it. -/
theorem exec_bankFaultIsolate_of_fits {f : BankFault} (hn : n < 4) (hf : f ≠ .present) (hfits : faultFits (bank s n) f = true) :
    exec (.bankFaultIsolate n f) s = .next (settle (isolate n f s)) := by
  change execBankFaultIsolate n f s = _
  obtain ⟨hisolated, habsent⟩ := inUse_of_faultFits hfits hf
  simp only [execBankFaultIsolate, hn.not_ge, hfits, hf, hisolated, habsent, not_true_eq_false, or_self, if_false, bankOn]

/-! ### Measurement and charging (R360 to R362) -/

/-- A bank's capacitance is measured for the first time. -/
def capMeasured (n cap : Nat) (s : State) : State :=
  onBank n (fun b => { b with cap := cap, measAt := some s.tb }) (tally Ctr.RSV_CAP_MEAS 1 s)

/-- The first measurement of a bank reports no change of its capacitance; its value decides between charging and isolation. -/
theorem exec_bankCapMeasure_first (cap : Nat) (hn : n < 4) (hst : (bank s n).st = .measuring) (hnew : (bank s n).measAt = none) :
    exec (.bankCapMeasure n cap) s =
      if cap < 2000 ∨ 250000 < cap then .next (settle (isolate n .capRange (capMeasured n cap s)))
      else .next (settle (onBank n (fun b => { b with st := if b.st = .measuring then .charging else b.st })
        (retarget n (capMeasured n cap s)))) := by
  change execBankCapMeasure n cap s = _
  simp only [execBankCapMeasure, hn.not_ge, hst, hnew, Option.isSome_none, Bool.false_eq_true, false_and, true_or,
    not_true_eq_false, or_self, if_false]
  rfl

theorem exec_bankChargeDone_of_turn (hn : n < 4) (hturn : chargeTurn s n = true) :
    exec (.bankChargeDone n) s = .next (settle (raise Ev.rsvBankReady 0 n (onBank n (fun b => { b with st := .ready }) s))) := by
  change execBankChargeDone n s = _
  simp only [execBankChargeDone, hn.not_ge, hturn, not_true_eq_false, or_self, if_false, bankOn]

theorem exec_bankRechargeThreshold_of_ready (hn : n < 4) (hst : (bank s n).st = .ready) :
    exec (.bankRechargeThreshold n) s = .next (settle (onBank n (fun b => { b with st := .charging }) s)) := by
  change execBankRechargeThreshold n s = _
  simp only [execBankRechargeThreshold, hn.not_ge, hst, ne_eq, not_true_eq_false, or_self, if_false, bankOn]

/-- The bleed of a bank that is not being discharged ends at its target (R362). -/
theorem exec_bankBleedDone_of_bleeding (hbleed : (bank s n).bleed = true) (hst : (bank s n).st ≠ .discharging) :
    exec (.bankBleedDone n) s = .next (settle (onBank n (fun b => { b with bleed := false, mv := min b.mv b.vtgt }) s)) :=
  if_pos ⟨hbleed, hst⟩

/-! ### Service discharge (R366, R367) -/

theorem exec_bankDischargeDone_untold (hn : n < 4) (hst : (bank s n).st = .discharging) (htold : (bank s n).disTold = false) :
    exec (.bankDischargeDone n) s = .next (settle (tellWaiters n (raise Ev.rsvDischargeDone 0 n
      (onBank n (fun b => { b with st := .isolated, fault := .service, bleed := false, disAt := none }) s)))) := by
  change execBankDischargeDone n s = _
  simp only [execBankDischargeDone, hn.not_ge, hst, htold, ne_eq, not_true_eq_false, Bool.false_eq_true, or_self, if_false, bankOn]

/-- A discharge that takes 30 s while no command waits for it is only reported. -/
theorem exec_bankDischargeTimeout_unawaited {t : Nat} (hn : n < 4) (hst : (bank s n).st = .discharging)
    (hat : (bank s n).disAt = some t) (htold : (bank s n).disTold = false) (hnone : s.rsv.waiters = []) :
    exec (.bankDischargeTimeout n) s = .next (settle (raise Ev.rsvDischargeFail 0 n
      (onBank n (fun b => { b with disTold := true }) (until_ (t + 30000000000) s)))) := by
  change execBankDischargeTimeout n s = _
  have hwaits : (raise Ev.rsvDischargeFail 0 n
      (onBank n (fun b => { b with disTold := true }) (until_ (t + 30000000000) s))).rsv.waiters = [] := hnone
  simp only [execBankDischargeTimeout, hn.not_ge, hst, hat, htold, hwaits, onRsv_waiters_of_none _ hwaits, ne_eq, not_true_eq_false,
    Bool.false_eq_true, or_self, if_false, bankOn, List.filter_nil]
  rfl

end

/-- Settles O53: each command by the case in which it acts. -/
theorem bankCommands : Obligations.BankCommands := by
  refine fun s n hn _ => ⟨exec_bankPresentDebounce_enabled hn, exec_bankPresentDebounce_disabled hn, fun hst => ?_, fun hst => ?_,
    fun cap hst hnew hlo hhi => ?_, fun cap hst hnew hout => ?_, exec_bankChargeDone_of_turn hn,
    fun hst => ⟨exec_bankDischargeDone_untold hn hst, fun _ => exec_bankDischargeTimeout_unawaited hn hst⟩,
    exec_bankBleedDone_of_bleeding⟩
  · exact exec_bankFaultIsolate_of_fits hn (by decide) (by rw [faultFits, hst]; rfl)
  · exact ⟨exec_bankFaultIsolate_of_fits hn (by decide) (by rw [faultFits, hst]; rfl),
      exec_bankFaultIsolate_of_fits hn (by decide) (by rw [faultFits, hst]; rfl), exec_bankRechargeThreshold_of_ready hn hst⟩
  · exact (exec_bankCapMeasure_first cap hn hst hnew).trans (if_neg (by omega))
  · exact (exec_bankCapMeasure_first cap hn hst hnew).trans (if_pos hout)

end Sys2Proof.Machine

/-! SUPPORT. Power fails and power that returns, each command in the case in which it acts, and what entering Off leaves. -/

namespace Sys2Proof.Machine

open Sys2Proof

/-! ### Power fails in Run (R33, R369 to R371) -/

section
variable {s : State} (hrun : running s = true)
include hrun

theorem pst_of_running : s.rsv.pst = .run := beq_iff_eq.mp hrun

/-- MAIN_EN stays as it is while the device is neither in Dormant nor in Off. -/
theorem powerLapse_of_running : powerLapse s = s :=
  if_neg (by simp [pst_of_running hrun])

theorem trip_of_running (trigger : Nat) (w : List WireWr) (ms : List WireMsg) :
    trip trigger w ms s = fence trigger true w ms (cutTick s) :=
  if_pos hrun

end

section
variable {s : State}

theorem exec_pwrfailNAssert_of_running (w : List WireWr) (ms : List WireMsg) (hrun : running s = true) :
    exec (.pwrfailNAssert w ms) s = .next (fence 1 true w ms (cutTick (onRsv (fun r => { r with pfLow := true }) s))) := by
  change execPwrfailNAssert w ms s = _
  have hlow : running (onRsv (fun r => { r with pfLow := true }) s) = true := hrun
  rw [execPwrfailNAssert, powerLapse_of_running hlow, trip_of_running hlow]

/-- The bus below VIN_TRIP is a trigger where PF_CFG.TRIP_EN is set. -/
theorem exec_busTrip_of_running (w : List WireWr) (ms : List WireMsg) (hrun : running s = true) :
    exec (.busTrip w ms) s = .next (if flag s Reg.RSV_PF_CFG 8 = true
      then fence 2 true w ms (cutTick (onRsv (fun r => { r with busLow := true }) s))
      else onRsv (fun r => { r with busLow := true }) s) := by
  change execBusTrip w ms s = _
  have hlow : running (onRsv (fun r => { r with busLow := true }) s) = true := hrun
  rw [execBusTrip, powerLapse_of_running hlow, trip_of_running hlow]
  exact (apply_ite Host.Outcome.next _ _ _).symm

/-- RAILS_GOOD falls in Run while MAIN_EN is high: not a commanded power-down (R666). -/
theorem exec_railsGoodFall_of_running (w : List WireWr) (ms : List WireMsg) (hrun : running s = true) (hen : s.rsv.mainEn = true) :
    exec (.railsGoodFall w ms) s = .next (fence 3 true w ms (cutTick (onRsv (fun r => { r with railsGood := false }) s))) := by
  change execRailsGoodFall w ms s = _
  have hlow : running (onRsv (fun r => { r with railsGood := false }) s) = true := hrun
  have hpst : ¬ s.rsv.pst = .startup := by simp [pst_of_running hrun]
  simp only [execRailsGoodFall, onRsv_rsv, hen, hpst, not_true_eq_false, if_false, trip_of_running hlow]

theorem exec_railsGoodFall_of_commanded (w : List WireWr) (ms : List WireMsg) (hoff : s.rsv.mainEn = false) :
    exec (.railsGoodFall w ms) s = .next (onRsv (fun r => { r with railsGood := false }) s) :=
  if_pos (by simp [hoff])

theorem exec_powerFailGlitch_of_running (hrun : running s = true) :
    exec .powerFailGlitch s = .next (raise Ev.rsvPfGlitch 0 0 (tally Ctr.RSV_PF_GLITCH 1 s)) :=
  if_pos hrun

/-! ### The end of Geyser and of Dormant (R377, R379, R381) -/

theorem exec_geyserDrainComplete_of_drained (f : BootFacts) (hpst : s.rsv.pst = .geyser) (hdone : drainedAll s = true)
    (hlive : s.sec.quenched = false) : exec (.geyserDrainComplete f) s = .next (endDrain f s) :=
  if_pos ⟨hpst, .inl ⟨hdone, by simp [hlive]⟩⟩

end

section
variable (s : State)

@[simp] theorem enterOff_pst : (enterOff s).rsv.pst = .off := rfl
@[simp] theorem enterOff_mainEn : (enterOff s).rsv.mainEn = false := rfl
@[simp] theorem enterOff_last : (enterOff s).rsv.last = s.rsv.last := rfl
@[simp] theorem enterOff_oweDorm : (enterOff s).rsv.oweDorm = s.rsv.oweDorm := rfl

end

section
variable {s : State}

/-- A drain whose banks reach V_min ends unfinished, and the next start-up tells it (R377). -/
theorem exec_bankVminReached_in_geyser (hpst : s.rsv.pst = .geyser) (hhold : ∃ b ∈ s.rsv.banks, b.st = .holding) :
    exec .bankVminReached s = .next (onRsv (fun r => { r with oweAbort := true }) (enterOff (endGeyser false s))) := by
  have hany : s.rsv.banks.any (·.st == .holding) = true := by simpa only [List.any_eq_true, beq_iff_eq] using hhold
  exact if_pos ⟨hpst, hany⟩

/-- Dormant whose banks reach V_min is lost, and the next start-up tells it (R381). -/
theorem exec_bankVminReached_in_dormant (hpst : s.rsv.pst = .dormant) :
    exec .bankVminReached s = .next (enterOff (onRsv (fun r => { r with oweDorm := true, last := { r.last with dormLost := true } })
      (endDormant s))) := by
  change execBankVminReached s = _
  simp only [execBankVminReached, hpst, reduceCtorEq, false_and, if_false, if_true]

end

theorem powerFails : Claims.PowerFails := by
  refine ⟨fun s w ms hrun => ⟨exec_pwrfailNAssert_of_running w ms hrun, exec_busTrip_of_running w ms hrun,
      exec_railsGoodFall_of_running w ms hrun, exec_powerFailGlitch_of_running hrun⟩,
    fun s w ms => exec_railsGoodFall_of_commanded w ms, fun s f => exec_geyserDrainComplete_of_drained f,
    fun s => ⟨fun hpst hhold => ⟨_, exec_bankVminReached_in_geyser hpst hhold, ?_⟩,
      fun hpst => ⟨_, exec_bankVminReached_in_dormant hpst, ?_⟩⟩, fun s => rfl⟩
  · simp [endGeyser]
  · simp

/-! ### Power returns (R380, R381, R665) -/

section
variable {s : State}

theorem exec_vauxPowerUp_of_off (hoff : s.mgt.boot.vaux = false) :
    exec .vauxPowerUp s = .next (setMainEn true (onBoot (fun b => { b with vaux := true }) s)) :=
  if_neg (by simp [hoff])

theorem exec_mainPowerReturn_of_unpowered (hvaux : s.mgt.boot.vaux = true) (hpst : s.rsv.pst = .dormant ∨ s.rsv.pst = .off) :
    exec .mainPowerReturn s =
      .next (setMainEn true (onRsv (fun r => { r with pfLow := false, busLow := false, goodAt := s.tb }) s)) :=
  if_pos ⟨hvaux, hpst⟩

theorem exec_mainPowerReturn_of_run (hpst : s.rsv.pst = .run) :
    exec .mainPowerReturn s = .next (onRsv (fun r => { r with pfLow := false, busLow := false, goodAt := s.tb }) s) :=
  if_neg (by simp [hpst])

/-- RAILS_GOOD rises while MAIN_EN is high: a start-up begins in Off and in Dormant alone. -/
theorem exec_railsGoodRise_of_enabled (f : BootFacts) (hvaux : s.mgt.boot.vaux = true) (hen : s.rsv.mainEn = true) :
    let v := onRsv (fun r => { r with railsGood := true }) s
    exec (.railsGoodRise f) s =
      if s.rsv.pst = .off then .next (startUp .cold .mainCycle f v)
      else if s.rsv.pst = .dormant then .next (startUp .cold .mainCycle f (drivePin "DHU_EN" false (endDormant v)))
      else .next v :=
  if_neg (by simp [hvaux, hen])

/-! ### Host links (R370, R613) -/

theorem powerGood_iff : powerGood s = true ↔ s.rsv.pfLow = false ∧ s.rsv.busLow = false := by
  simp only [powerGood, Bool.and_eq_true, Bool.not_eq_true']

theorem not_powerGood_iff : ¬ powerGood s = true ↔ s.rsv.pfLow = true ∨ s.rsv.busLow = true := by
  simp only [powerGood_iff, not_and_or, Bool.not_eq_false]

/-- A start-up that power failures have held goes on 10 ms after main power is good again. -/
theorem exec_hostLinkEnable_of_good (hpst : s.rsv.pst = .startup) (hready : linkReady s = true) (hgood : powerGood s = true) :
    exec .hostLinkEnable s = .next (settle (enableLinks
      (if s.mgt.boot.heldAt.isSome then until_ (s.rsv.goodAt + 10000000) s else s))) := by
  change execHostLinkEnable s = _
  simp only [execHostLinkEnable, hpst, hready, hgood, ne_eq, not_true_eq_false, or_self, if_false]

theorem exec_hostLinkEnable_of_held (hpst : s.rsv.pst = .startup) (hready : linkReady s = true) (hbad : ¬ powerGood s = true) :
    exec .hostLinkEnable s = .next (onBoot (fun b => { b with heldAt := some (b.heldAt.getD s.tb) }) s) := by
  change execHostLinkEnable s = _
  simp only [execHostLinkEnable, hpst, hready, hbad, ne_eq, not_true_eq_false, Bool.false_eq_true, not_false_eq_true, or_self,
    if_false, if_true]

theorem exec_pfHeldTimeout_of_held {t : Nat} (hat : s.mgt.boot.heldAt = some t) (htold : s.mgt.boot.heldTold = false)
    (hbad : ¬ powerGood s = true) : exec .pfHeldTimeout s =
      .next (raise Ev.rsvPfHeld 0 0 (onBoot (fun b => { b with heldTold := true }) (until_ (t + 1000000000) s))) := by
  change execPfHeldTimeout s = _
  simp only [execPfHeldTimeout, hat, htold, hbad, Bool.false_eq_true, or_self, if_false]

end

theorem powerReturns : Claims.PowerReturns := by
  refine ⟨fun s => exec_vauxPowerUp_of_off, fun s => ⟨exec_mainPowerReturn_of_unpowered, exec_mainPowerReturn_of_run⟩,
    fun s f hvaux hen => ⟨fun hpst => ?_, fun hpst => ?_, fun hpst => ?_⟩,
    fun s hpst hready => ⟨fun hpf hbus => ?_, fun hbad => ⟨?_, fun t hat htold => ?_⟩⟩⟩
  · exact (exec_railsGoodRise_of_enabled f hvaux hen).trans (if_pos hpst)
  · exact (exec_railsGoodRise_of_enabled f hvaux hen).trans ((if_neg (by simp [hpst])).trans (if_pos hpst))
  · exact (exec_railsGoodRise_of_enabled f hvaux hen).trans ((if_neg (by simp [hpst])).trans (if_neg (by simp [hpst])))
  · exact exec_hostLinkEnable_of_good hpst hready (powerGood_iff.mpr ⟨hpf, hbus⟩)
  · exact exec_hostLinkEnable_of_held hpst hready (not_powerGood_iff.mpr hbad)
  · exact exec_pfHeldTimeout_of_held hat htold (not_powerGood_iff.mpr hbad)

/-- Settles O51: each command by the case in which it acts. -/
theorem powerTransitions : Obligations.PowerTransitions := ⟨powerFails, powerReturns⟩

end Sys2Proof.Machine

/-! SUPPORT. Retained settings, the restart sweep, rewarm and the end of a calibration, each command in the case in which it acts. -/

namespace Sys2Proof.Machine

open Sys2Proof

/-! ### Retained settings (R603, R605, R606) -/

@[simp] theorem stored_mgt (stage : Option Nat) (s : State) : (Machine.stored stage s).mgt = s.mgt := by
  cases stage
  · simp only [Machine.stored, raise_mgt, tally_mgt]
  · simp only [Machine.stored, bgEnd_mgt, raise_mgt, tally_mgt]

@[simp] theorem layoutStored_mgt (recs : List (Nat × Nat × Nat)) (s : State) : (layoutStored recs s).mgt = s.mgt := by
  simp only [layoutStored]
  split
  · split
    · exact raise_mgt ..
    · rfl
  · rfl

theorem bankSlots_of_mgt {s u : State} (i : Nat) (h : u.mgt = s.mgt) : bankSlots u i = bankSlots s i := by
  simp only [bankSlots, h]

theorem appendSlots_cur (rs : List NvRec) (n : Nvm) : (appendSlots rs n).cur = n.cur := by
  unfold appendSlots
  split <;> rfl

/-- Records are appended to the bank in force, one slot each. -/
theorem bankSlots_appendSlots_length (rs : List NvRec) (s : State) :
    (bankSlots (onNv (appendSlots rs) s) s.mgt.nv.cur).length = (bankSlots s s.mgt.nv.cur).length + rs.length := by
  by_cases hcur : s.mgt.nv.cur = 0
  · simp only [bankSlots, onNv_mgt_nv, appendSlots, hcur, if_true, List.length_append, List.length_map, List.length_range]
  · simp only [bankSlots, onNv_mgt_nv, appendSlots, hcur, if_false, List.length_append, List.length_map, List.length_range]

/-- What a store appends: a record for each setting and its commit. -/
def storeRecs (recs : List (Nat × Nat × Nat)) (s : State) : List NvRec :=
  recs.map (fun r => NvRec.change r.1 r.2.1 r.2.2) ++ [.commit recs.length s.mgt.nv.seq]

/-- A store completes. -/
def storeDone (recs : List (Nat × Nat × Nat)) (stage : Option Nat) (s : State) : State :=
  layoutStored recs (Machine.stored stage (tally Ctr.NV_RECORD (storeRecs recs s).length
    (onNv (fun n => appendSlots (storeRecs recs s) { n with job := none }) s)))

theorem storeDone_mgt (recs : List (Nat × Nat × Nat)) (stage : Option Nat) (s : State) :
    (storeDone recs stage s).mgt = (onNv (fun n => appendSlots (storeRecs recs s) { n with job := none }) s).mgt := by
  rw [storeDone, layoutStored_mgt, stored_mgt, tally_mgt]

theorem bankSlots_storeDone_length (recs : List (Nat × Nat × Nat)) (stage : Option Nat) (s : State) :
    (bankSlots (storeDone recs stage s) (storeDone recs stage s).mgt.nv.cur).length =
      (bankSlots s s.mgt.nv.cur).length + (recs.length + 1) := by
  have hlength : (storeRecs recs s).length = recs.length + 1 := by simp [storeRecs]
  have hcur : (storeDone recs stage s).mgt.nv.cur = s.mgt.nv.cur := by
    rw [storeDone_mgt, onNv_mgt_nv, appendSlots_cur]
  rw [bankSlots_of_mgt _ (storeDone_mgt recs stage s), hcur, ← hlength]
  exact bankSlots_appendSlots_length (storeRecs recs s) (onNv (fun n => { n with job := none }) s)

section
variable {s : State} {recs : List (Nat × Nat × Nat)} {stage : Option Nat}

/-- A bank that the store does not fill is not written anew. -/
theorem exec_nvmWriteCompletion_store (hjob : s.mgt.nv.job = some (.store recs stage))
    (hroom : (bankSlots s s.mgt.nv.cur).length + recs.length + 1 < 4992) :
    exec .nvmWriteCompletion s = .next (storeDone recs stage s) := by
  change execNvmWriteCompletion s = _
  have hlength := bankSlots_storeDone_length recs stage s
  simp only [execNvmWriteCompletion, hjob]
  exact if_neg (show ¬ 4992 ≤ (bankSlots (storeDone recs stage s) (storeDone recs stage s).mgt.nv.cur).length by omega)

theorem exec_nvmWriteCompletion_sinter {image : List (Nat × Nat × Nat)}
    (hjob : s.mgt.nv.job = some (.sinter image (some recs) stage)) :
    exec .nvmWriteCompletion s = .next (layoutStored recs (Machine.stored stage (raise Ev.nvSinter 0 0 (tally Ctr.NV_SINTER 1
      (writeImage image false (onNv (fun n => { n with job := none }) s)))))) := by
  change execNvmWriteCompletion s = _
  simp only [execNvmWriteCompletion, hjob]

theorem exec_nvmWriteCompletion_factory (hjob : s.mgt.nv.job = some .factory) :
    exec .nvmWriteCompletion s = .next (raise Ev.nvFactory 0 0 (onNv (fun n => { n with facDone := true })
      (onCch (fun c => { c with record := none }) (writeImage [] true (onNv (fun n => { n with job := none }) s))))) := by
  change execNvmWriteCompletion s = _
  simp only [execNvmWriteCompletion, hjob]

/-! ### The restart sweep (R386) -/

theorem exec_restartSweepSet_of_sweeping {c : Nat} (hsweep : s.rsv.sweep = true) (hrun : running s = true)
    (hc : c < 2 ^ s.hpt.chBits) :
    let top := 2 ^ (s.hpt.setBits - s.hpt.chBits)
    let ms := fun (r : Rsv) => setAt r.marks c (fun m => min top (m + 1))
    exec (.restartSweepSet c) s = .next (onRsv (fun r => { r with marks := ms r, sweep := (ms r).any (· < top) })
      (tally Ctr.SWEEP_SET 1 (sweepRead (setAtPos s c (s.rsv.marks.getD c 0)) s))) :=
  if_neg (by simp [hsweep, hrun, hc])

/-! ### Rewarm (R388 to R391) -/

/-- The read of a sector that rewarm issues, with the heat it carries. -/
def rewarmTxn (heat sk : Nat) (s : State) : Txn :=
  { Txn.blank with
    pool := .internal, src := .engine, kind := .prefetch heat, tag := 1, sk := sk
    encl := ((rangeOf s (skSo sk)).map (·.encl)).getD 0 }

/-- The range table alone decides the enclave of a rewarm read. -/
theorem rewarmTxn_of_sec {s u : State} (heat sk : Nat) (h : u.sec = s.sec) : rewarmTxn heat sk u = rewarmTxn heat sk s := by
  simp only [rewarmTxn, rangeOf, h]

theorem giveEntry_sec_of_engine {t : Txn} (p : Pool) (s : State) (hsrc : t.src = .engine) : (giveEntry t p s).sec = s.sec := by
  simp only [giveEntry, hsrc, trkPeak, peak_sec, onTxn, onCache_sec]
  split
  · exact tally_sec ..
  · rfl

theorem admitTxn_sec_of_engine {t : Txn} (s : State) (hsrc : t.src = .engine) : (admitTxn t s).2.sec = s.sec := by
  simp only [admitTxn]
  split
  · exact giveEntry_sec_of_engine _ _ hsrc
  · rfl

/-- Sectors admitted one after the other: each has the enclave that it had before the first. -/
theorem eachIn_admitTxn_of_sec {s : State} (heat : Nat) (go : List Nat) {u : State} (h : u.sec = s.sec) :
    eachIn go (fun sk v => (admitTxn (rewarmTxn heat sk s) v).2) u =
      eachIn go (fun sk v => (admitTxn (rewarmTxn heat sk v) v).2) u := by
  induction go generalizing u with
  | nil => rfl
  | cons sk go ih =>
    have hhead : rewarmTxn heat sk u = rewarmTxn heat sk s := rewarmTxn_of_sec heat sk h
    refine (ih ((admitTxn_sec_of_engine u rfl).trans h)).trans ?_
    rw [← hhead]
    rfl

theorem takeStream_sec {self : Bool} {s after : State} {e : SchedEnt} (h : takeStream self s = some (e, after)) :
    after.sec = s.sec := by
  simp only [takeStream, Option.map_eq_some_iff, Prod.mk.injEq] at h
  obtain ⟨_, -, -, rfl⟩ := h
  rfl

theorem takeSched_sec {s after : State} {e : SchedEnt} (h : takeSched s = some (e, after)) : after.sec = s.sec := by
  unfold takeSched at h
  split at h
  · exact nomatch h
  · split at h
    · exact nomatch h
    · cases h
      rfl

theorem nextEntry_sec {s after : State} {e : SchedEnt} (h : nextEntry s = some (e, after)) : after.sec = s.sec := by
  unfold nextEntry at h
  split at h
  next r hsched =>
    cases h
    exact takeSched_sec hsched
  · split at h
    · exact takeStream_sec h
    · split at h
      · exact takeStream_sec h
      · exact nomatch h

/-- Every port that a read of these sectors needs has room. -/
theorem ports_have_room {s : State} {go : List Nat}
    (h : ∀ sk ∈ go, ∀ r ∈ readsFor s sk [0, 1, 2, 3], rewarmRoom s (nsPort s r.1) = true) :
    (go.flatMap fun sk => (readsFor s sk [0, 1, 2, 3]).map fun r => nsPort s r.1).eraseDups.all (rewarmRoom s) = true := by
  simp only [List.all_eq_true, List.mem_eraseDups, List.mem_flatMap, List.mem_map]
  rintro _ ⟨sk, hsk, r, hr, rfl⟩
  exact h sk hsk r hr

theorem paceRewarm_sec (bytes : Nat) (s : State) : (paceRewarm bytes s).sec = s.sec := by
  rw [paceRewarm, onRsv_sec, until__sec]

theorem exec_rewarmRead_of_entry {after : State} {e : SchedEnt} (hrewarm : s.rsv.rewarm = true) (hrun : running s = true)
    (hnext : nextEntry s = some (e, after))
    (hroom : ∀ sk ∈ (entrySectors s e).1, ∀ r ∈ readsFor s sk [0, 1, 2, 3], rewarmRoom s (nsPort s r.1) = true) :
    exec .rewarmRead s = .next (rewarmPump (settle (eachIn (entrySectors s e).1 (fun sk v => (admitTxn (rewarmTxn e.2.2 sk v) v).2)
      (paceRewarm (256 * (entrySectors s e).1.length) (tally Ctr.REWARM_SKIP (entrySectors s e).2 after))))) := by
  change execRewarmRead s = _
  have hsec : (paceRewarm (256 * (entrySectors s e).1.length) (tally Ctr.REWARM_SKIP (entrySectors s e).2 after)).sec = s.sec := by
    rw [paceRewarm_sec, tally_sec, nextEntry_sec hnext]
  rw [← eachIn_admitTxn_of_sec _ _ hsec]
  simp only [execRewarmRead, hrewarm, hrun, hnext, ports_have_room hroom, not_true_eq_false, or_self, if_false, rewarmTxn]

theorem exec_rewarmRead_of_none (hrewarm : s.rsv.rewarm = true) (hrun : running s = true) (hnext : nextEntry s = none) :
    exec .rewarmRead s = .next (rewarmPump s) := by
  change execRewarmRead s = _
  simp only [execRewarmRead, hrewarm, hrun, hnext, not_true_eq_false, or_self, if_false]

/-! ### Calibration (R305) -/

section
variable {c : Cal} (hcal : s.ldg.cal = some c)
include hcal

theorem exec_calWritebackTimeout_of_first (hstep : c.step = 1) :
    exec .calWritebackTimeout s = .next (settle (calFail 3 (until_ (c.since + 10000000000) s))) := by
  change execCalWritebackTimeout s = _
  simp only [execCalWritebackTimeout, hcal, hstep, if_true]

/-- A bandwidth that is not too low is stored, with the power and the ports measured. -/
theorem exec_calDrainDone_of_measured {bw : Nat} (pwr : Nat) (hstep : c.step = 4) (hbw : 1000 ≤ bw) :
    exec (.calDrainDone bw pwr) s = .next (settle (raise Ev.ldgCalDone 0 0 (calEnd 1 (hwFld Reg.LDG_CAL_BW 17 0 (min bw 262143)
      (hwFld Reg.LDG_CAL_PWR 15 0 (min pwr 65535) (hwFld Reg.LDG_CAL_CFG 8 5 (portsOk (testPages s)) (testPages s))))))) := by
  change execCalDrainDone bw pwr s = _
  simp only [execCalDrainDone, hcal, Option.map_some, hstep, hbw.not_gt, ne_eq, not_true_eq_false, if_false]

end

end

/-- Settles O50: each command by the case in which it acts. -/
theorem retainedAndRestartWork : Obligations.RetainedAndRestartWork :=
  ⟨fun _ _ _ => exec_nvmWriteCompletion_store, fun _ _ _ _ => exec_nvmWriteCompletion_sinter,
    fun _ => exec_nvmWriteCompletion_factory, fun _ _ => exec_restartSweepSet_of_sweeping,
    fun _ _ _ => exec_rewarmRead_of_entry, fun _ => exec_rewarmRead_of_none,
    fun _ _ hcal => ⟨exec_calWritebackTimeout_of_first hcal, fun _ pwr => exec_calDrainDone_of_measured hcal pwr⟩⟩

end Sys2Proof.Machine

/-! SUPPORT. What one step answers, and what every run from reset keeps of the telemetry block. -/

namespace Sys2Proof.Machine

open Sys2Proof

-- One proof after the other: side by side they would take the compile past the memory it may use.
set_option Elab.async false

/-- Settles O1: on a queue that is not empty this is how `step` is defined. -/
theorem stepRunsTheFrontCommand : Obligations.StepRunsTheFrontCommand :=
  fun _ _ _ => step_of_front rfl

/-! ### What a step answers -/

/-- A command answers a next state, of the same part and with the same commands waiting. -/
theorem exec_next_frame (c : Instr) (s : State) : ∃ t, exec c s = .next t ∧ t.part = s.part ∧ t.pending = s.pending := by
  obtain ⟨t, ht⟩ := (answers_iff _).mp (exec_answers c s)
  obtain ⟨hpart, hqueue, -⟩ := exec_good c s (Good.self s) ht
  exact ⟨t, ht, hpart, hqueue⟩

theorem step_next_frame (s : State) : ∃ t, step s = .next t ∧ t.part = s.part ∧ t.pending = s.pending.tail := by
  cases hq : s.pending with
  | nil =>
    obtain ⟨hpart, hqueue, -⟩ := idle_good s (Good.self s)
    exact ⟨idle s, step_of_empty hq, hpart, hqueue.trans hq⟩
  | cons c rest =>
    rw [step_of_front hq]
    exact exec_next_frame c { s with pending := rest }

/-- Settles O2: by whether a command waits; what an empty queue does is how `idle` is defined. -/
theorem stepAnswersAndKeepsTheQueue : Obligations.StepAnswersAndKeepsTheQueue := by
  refine ⟨step_next_frame, fun s hempty => ⟨step_of_empty hempty, fun t ht => ?_⟩⟩
  obtain ⟨u, hu, -, hqueue⟩ := step_next_frame s
  rw [Host.Outcome.next.inj (ht.symm.trans hu), hqueue, hempty]
  rfl

/-! ### Runs -/

/-- A run neither faults nor is refused, and keeps the invariant. -/
theorem stepsFrom_keeps_ok (n : Nat) {s : State} (hok : s.ok = true) : ∃ t, stepsFrom n s = .next t ∧ t.ok = true := by
  induction n generalizing s with
  | zero => exact ⟨s, rfl, hok⟩
  | succ n ih =>
    obtain ⟨u, hstep, -⟩ := step_next_frame s
    rw [stepsFrom, hstep]
    exact ih (stepKeepsTheInvariant s u hok hstep)

/-- What holds of every value listed in a table, and of the value of keys that are not listed, holds of every key's value. -/
theorem tblGet_of_all {α : Type} {d : α} {t : Tbl α} (p : α → Prop) (h : ∀ c ∈ t, p c.2) (hd : p d) (k : Nat) : p (tblGet d t k) := by
  induction t with
  | nil => exact hd
  | cons c t ih =>
    have hlisted := h c (by simp)
    have hrest := ih fun c hc => h c (by simp [hc])
    rw [tblGet, tblFind]
    split
    · exact hlisted
    · split
      · exact hd
      · exact hrest

/-- A counter of a state that is `ok` has 48 bits (R643). -/
theorem counter_lt_of_countersOk {t : Tbl Nat} (h : countersOk t = true) (i : Nat) : tblGet 0 t i < 2 ^ 48 := by
  simp only [countersOk, Bool.and_eq_true, List.all_eq_true, decide_eq_true_eq] at h
  exact tblGet_of_all (· < 2 ^ 48) h.2 (by decide) i

/-- A BISnp among the messages that the part may send is BISnpInv or BISnpData (R215). -/
theorem bisnp_kind_of_outOk {l : List Out} (h : outOk l = true) {p a : Nat} {k : String} (hmem : Out.bisnp p a k ∈ l) :
    k = "BISnpInv" ∨ k = "BISnpData" := by
  have hallowed := List.all_eq_true.mp h _ hmem
  simpa only [Out.allowed, Bool.or_eq_true, beq_iff_eq] using hallowed

/-- Settles O5: the state after reset is `ok` whatever waits, a run keeps that, and `Io.ok` names each of the bounds. -/
theorem runsStayWithinTheTelemetryBounds : Obligations.RunsStayWithinTheTelemetryBounds := by
  intro n cs
  obtain ⟨t, hrun, hok⟩ := stepsFrom_keeps_ok n ((ok_withPending cs State.reset).trans reset_ok)
  have hio := io_ok_of_ok hok
  simp only [Io.ok, queueOk, Bool.and_eq_true, decide_eq_true_eq] at hio
  obtain ⟨⟨⟨⟨⟨hlen, hnonCrit⟩, -⟩, hcounters⟩, hsamples⟩, hout, -⟩ := hio
  exact ⟨t, hrun, hlen, hnonCrit, counter_lt_of_countersOk hcounters, hsamples, fun _ _ _ => bisnp_kind_of_outOk hout⟩

end Sys2Proof.Machine

/-! SUPPORT. Flits, replay episodes and the states of a fabric link, each command in the case in which it acts. -/

namespace Sys2Proof.Machine

open Sys2Proof

-- One proof after the other: side by side they would take the compile past the memory it may use.
set_option Elab.async false

/-! ### Flits of a link that carries, and of one that does not (R505, R506, R511, R514) -/

section
variable {s : State} {p : Nat} (hp : fpOk s p = true)
include hp

theorem exec_idleFlit_of_carrying {lane : Nat} (ack : Nat) (vc : VC) (n : Nat) (hup : (fport s p).carries = true) (hlane : lane < 2) :
    exec (.idleFlit p ack vc lane n) s = .next (settle (fabPump (onFPort p (fun x => { x with
      credits := setAt x.credits (vcl vc lane) (fun c => min (grantOf (vcl vc lane)) (c + n)) }) (ackFlits p ack s)))) := by
  change execIdleFlit p ack vc lane n s = _
  simp only [execIdleFlit, hp, hup, hlane.not_ge, not_true_eq_false, or_self, if_false]

theorem exec_flitFailed_of_carrying (hup : (fport s p).carries = true) (hquiet : (fport s p).nakking = false) :
    exec (.flitFailed p false false) s = .next (settle (nakked p (fun s => emit (.link p "NAK" [(fport s p).rxSeq])
      (tally Ctr.FAB_NAK 1 s)) (onFPort p (fun x => { x with nakking := true }) s))) := by
  change execFlitFailed p false false s = _
  simp only [execFlitFailed, hp, hup, hquiet, not_true_eq_false, or_self, Bool.false_and, Bool.false_eq_true, if_false]

theorem exec_nak_of_carrying (ack : Nat) (hup : (fport s p).carries = true) :
    exec (.nak p ack) s = .next (settle (nakked p (resend p) (ackFlits p ack s))) := by
  change execNak p ack s = _
  simp only [execNak, hp, hup, not_true_eq_false, or_self, if_false]

theorem exec_fabLinkDown_of_carrying (hup : (fport s p).carries = true) :
    exec (.fabLinkDown p) s = .next (settle (fabDown p false s)) :=
  if_pos ⟨hp, .inl hup⟩

end

section
variable {s : State} {p : Nat} (hdown : (fport s p).carries = false)
include hdown

theorem exec_idleFlit_of_silent (ack : Nat) (vc : VC) (lane n : Nat) : exec (.idleFlit p ack vc lane n) s = .next s :=
  if_pos (by simp [hdown])

theorem exec_nak_of_silent (ack : Nat) : exec (.nak p ack) s = .next s :=
  if_pos (by simp [hdown])

end

/-! ### The replay budget (R515) -/

section
variable {s : State} {p : Nat}

theorem nakked_of_within (f : State → State) (h : overBudget (openEpisode p s) p = false) : nakked p f s = f (openEpisode p s) :=
  if_neg (by simp [h])

theorem nakked_of_exceeded (f : State → State) (h : overBudget (openEpisode p s) p = true) :
    nakked p f s = degrade p (openEpisode p s) :=
  if_pos h

section
variable {e : Episode} (he : (fport s p).episode = some e)
include he

theorem exec_replayEpisodeEnd_of_quiet (h : e.last + 2000 ≤ e.start + 1000 * clampTo 2 20 (fld s Reg.FAB_REPLAY_CFG 8 4)) :
    exec (.replayEpisodeEnd p) s = .next (settle (fabPump (onFPort p (fun x => { x with
      episode := none, st := if x.st = .replaying then .up else x.st }) (until_ (e.last + 2000) s)))) := by
  change execReplayEpisodeEnd p s = _
  simp only [execReplayEpisodeEnd, he, h.not_gt, if_false]

theorem exec_replayEpisodeEnd_of_late (h : e.start + 1000 * clampTo 2 20 (fld s Reg.FAB_REPLAY_CFG 8 4) < e.last + 2000) :
    exec (.replayEpisodeEnd p) s =
      .next (settle (degrade p (until_ (e.start + 1000 * clampTo 2 20 (fld s Reg.FAB_REPLAY_CFG 8 4)) s))) := by
  change execReplayEpisodeEnd p s = _
  simp only [execReplayEpisodeEnd, he, h, if_true]

end

/-! ### Degraded links, links that train, and messages without a port (R511, R516, R517) -/

/-- The link is up at width w, with the flits up to the peer's ACK gone from the replay buffer, fresh credits, and the flits kept back
released. -/
def degradedUp (p ack w : Nat) (grants : List Nat) (s : State) : State :=
  let s := onFPort p (fun x => { x with st := .up, width := w, wide := false, nakking := false, episode := none }) (ackFlits p ack s)
  onFPort p (fun x => { x with
    credits := freshCredits x grants, kept := List.replicate 8 0
    rxFlits := (List.range 8).map fun i => x.rxFlits.getD i 0 - x.kept.getD i 0 }) s

/-- A retrain that may widen the link ends at the width of its lanes, where the configuration allows that. -/
theorem endDegrade_of_wide {w : Nat} {lanes : List Bool} (ack : Nat) (grants : List Nat) (hlanes : widest lanes = some w)
    (hwide : (fport s p).wide = true) (hmin : w ≤ min 2 (fld s Reg.FAB_LINK_CFG 5 4)) :
    endDegrade p ack lanes grants s = fabPump (resend p (sendGrants p (if w = 0 then degradedUp p ack w grants s
      else raise Ev.fabLaneDegraded w p (degradedUp p ack w grants s)))) := by
  simp only [endDegrade, hlanes, hwide, if_true, hmin.not_gt, if_false, degradedUp]

theorem exec_laneDegrade_of_degrading (ack : Nat) (lanes : List Bool) (grants : List Nat) (hp : fpOk s p = true)
    (hst : (fport s p).st = .degrading) (he : (fport s p).episode = none) :
    exec (.laneDegrade p ack lanes grants) s = .next (settle (endDegrade p ack lanes grants s)) := by
  change execLaneDegrade p ack lanes grants s = _
  simp only [execLaneDegrade, hp, he, hst, not_true_eq_false, if_false, if_true]

theorem exec_fabLinkUp_of_training (w : Fin 3) (grants : List Nat) (hp : fpOk s p = true) (hst : (fport s p).st = .training)
    (hrun : s.rsv.pst = .run) :
    let v := onFPort p (fun x => { FPort.off with
      st := .up, width := w.val, credits := freshCredits FPort.off grants, lastDegrade := x.lastDegrade }) s
    exec (.fabLinkUp p w grants) s = .next (settle (fabPump (sendHello p (sendGrants p
      (emit (.link p "REPORT_UP" [s.fab.serial, p]) (raise Ev.fabLinkUp 0 p v)))))) := by
  change execFabLinkUp p w grants s = _
  have hgo : ¬ (¬ fpOk s p ∨ (fport s p).st ≠ .training ∨ s.rsv.pst = .geyser ∨ s.rsv.pst = .fence) := by simp [hp, hst, hrun]
  exact if_neg hgo

theorem exec_routeHoldTimeout_of_portless {i : Nat} {q : Queued} (hq : s.fab.queue[i]? = some q)
    (hports : routePorts s (route? s (q.msg.dst / 64)) q.lane = []) :
    exec (.routeHoldTimeout i) s = .next (settle (leftQueue q (tally Ctr.FAB_HOLD_DROP 1
      (onFab (fun f => { f with queue := f.queue.eraseIdx i }) (until_ (q.since + 1000 * fld s Reg.FAB_ROUTE_CFG 15 0) s))))) := by
  change execRouteHoldTimeout i s = _
  simp only [execRouteHoldTimeout, hq, hports, List.isEmpty_nil, not_true_eq_false, if_false]

end

/-- Settles O55: each command by what the link does, a NAK also by whether the episode that it opens or continues is within the
budget. -/
theorem fabricLinkStates : Obligations.FabricLinkStates := by
  refine ⟨fun s p ack lane n vc hp => ⟨fun hup hlane => ⟨exec_idleFlit_of_carrying hp ack vc n hup hlane, fun hquiet hin => ?_,
      ⟨fun hin => ?_, fun hover => ?_⟩, exec_fabLinkDown_of_carrying hp hup⟩,
    fun hdown => ⟨exec_idleFlit_of_silent hdown ack vc lane n, exec_nak_of_silent hdown ack⟩⟩,
    fun s p e he => ⟨exec_replayEpisodeEnd_of_quiet he, exec_replayEpisodeEnd_of_late he⟩,
    fun s p ack w lanes grants hp hst he hlanes hwide hmin => ?_,
    fun s p w grants hp hst hrun => exec_fabLinkUp_of_training w grants hp hst hrun,
    fun s i q hq hports => exec_routeHoldTimeout_of_portless hq hports⟩
  · rw [exec_flitFailed_of_carrying hp hup hquiet, nakked_of_within _ hin]
  · rw [exec_nak_of_carrying hp ack hup, nakked_of_within _ hin]
  · rw [exec_nak_of_carrying hp ack hup, nakked_of_exceeded _ hover]
  · rw [exec_laneDegrade_of_degrading ack lanes grants hp hst he, endDegrade_of_wide ack grants hlanes hwide hmin]
    rfl

end Sys2Proof.Machine

/-! SUPPORT. Neighbours, synchronisation and the fabric manager: what an election and a change of LOCKED leave, and each command in the
case in which it acts. -/

namespace Sys2Proof.Machine

open Sys2Proof

-- One proof after the other: side by side they would take the compile past the memory it may use.
set_option Elab.async false

/-! ### What an election and the choice of a parent leave -/

section
variable (s : State)

theorem vacateIf_fab (m : Master) : (vacateIf m s).fab = s.fab := by
  unfold vacateIf vacate setOwner
  split
  · split
    · exact onOwn_fab _ s
    · simp only [raise_fab, tally_fab, onNv_fab, onOwn_fab]
  · rfl

theorem devId_setFm (n : Option Fm) : devId (setFm n s) = devId s := by
  unfold setFm
  dsimp only
  split
  · simp only [devId, vacateIf_fab, onFab_fab]
  · rfl

theorem devId_elect : devId (elect s) = devId s := by
  unfold elect
  dsimp only
  split
  · rfl
  · split
    · exact devId_setFm _ none
    · rfl

theorem devId_chooseParent : devId (chooseParent s) = devId s := by
  unfold chooseParent
  dsimp only
  split
  · rfl
  · split
    · rfl
    · split
      · split <;> rfl
      · rfl

end

/-! ### LOCKED and the time base (R531) -/

section
variable (s : State)

theorem setLocked_fab (b : Bool) : (setLocked b s).fab = { s.fab with locked := b } := by
  unfold setLocked
  split
  next h => rw [← h]
  next => rfl

theorem setLocked_tb (b : Bool) : (setLocked b s).tb = s.tb := by
  unfold setLocked
  split <;> rfl

theorem setLocked_lost (h : s.fab.locked = true) :
    setLocked false s = raise Ev.fabSyncLost 0 0 (onFab (fun f => { f with locked := false }) s) :=
  if_neg (by simp [h])

/-- The time that an answer of SYNC leaves: a device behind by more than 1 µs steps forward. -/
def syncedTb (off : Int) (s : State) : Nat := if 1000 < off then s.tb + off.toNat else s.tb

theorem applySync_frame (off : Int) : (applySync off s).tb = syncedTb off s ∧
    (applySync off s).fab = { s.fab with
      offset := off, locked := decide (-16 ≤ off) && decide (off ≤ 16), lastSync := syncedTb off s } := by
  simp only [applySync, setLocked_tb, setLocked_fab, syncedTb]
  split <;> simp

end

/-! ### Neighbours (R518, R519, R530, R531) -/

section
variable {s : State} {p : Nat} (hp : fpOk s p = true)
include hp

theorem exec_fecInterval_of_port (n : Nat) :
    let v := rcCount (Reg.FAB_ERR_CNT + 4 * p) 15 0 n (tally Ctr.FAB_FEC_CORR n s)
    exec (.fecInterval p n) s =
      .next (if fld v Reg.FAB_FEC_CFG 15 0 < n then raiseAtMost 1000000000 p Ev.fabFecHigh n p v else v) :=
  if_neg (by simp [hp])

section
variable (hup : (fport s p).carries = true)
include hup

theorem exec_helloTimer_of_carrying : exec (.helloTimer p) s = .next (sendHello p (until_ ((fport s p).helloAt + 100000) s)) :=
  if_neg (by simp [hp, hup])

/-- The candidate of a HELLO, one hop further (R521). -/
def heardCand (h : Hello) (s : State) : Option Cand :=
  h.best.bind fun (b : Nat × Nat × Nat × Nat) =>
    if b.2.1 < 16 ∧ b.1 ≠ 0 then some (Cand.mk b.1 b.2.2.1 b.2.2.2 (b.2.1 + 1) s.tb) else none

/-- The neighbour that a HELLO describes. -/
def heardPeer (h : Hello) (s : State) : Peer := ⟨h.serial, h.id, h.idValid, h.port, h.incarn, h.locked, h.fmHops, heardCand h s⟩

theorem exec_hello_of_first {h : Hello} (hvalid : h.idValid = true) (hid : h.id ≠ devId s) (hnew : (fport s p).peer = none) :
    exec (.hello p h) s = .next (settle (learnIncarn h.id h.incarn
      (chooseParent (elect (onFPort p (fun x => { x with peer := some (heardPeer h s) }) s))))) := by
  have hlive : ¬ (¬ fpOk s p ∨ ¬ (fport s p).carries) := by simp [hp, hup]
  have hgo : ¬ (¬ h.idValid ∨ h.id = devId (chooseParent (elect (onFPort p (fun x => { x with peer := some (heardPeer h s) }) s)))) := by
    rw [devId_chooseParent, devId_elect]
    exact not_or.mpr ⟨not_not.mpr hvalid, hid⟩
  have hold : ¬ (((fport s p).peer.map fun o => o.serial != h.serial).getD false) := by simp [hnew]
  exact (if_neg hlive).trans ((if_neg hgo).trans (if_neg hold))

theorem exec_sync_ask (t1 : Nat) : exec (.sync p (.ask t1)) s = .next (emit (.link p "SYNC" [t1, s.tb, s.tb]) s) :=
  if_neg (by simp [hp, hup])

theorem exec_sync_answer_of_child (t1 t2 t3 : Nat) (hparent : s.fab.parent = some p) (hchild : s.fab.isFm = false)
    (hsync : flag s Reg.FAB_SYNC_CFG 0 = true) : exec (.sync p (.answer t1 t2 t3)) s =
      .next (applySync ((((t2 : Int) - t1) - ((s.tb : Int) - t3)) / 2) s) := by
  change execSync p (.answer t1 t2 t3) s = _
  simp only [execSync, hp, hup, hparent, hchild, hsync, not_true_eq_false, or_self, Bool.false_eq_true, not_false_eq_true, and_self,
    if_false, if_true]

end
end

section
variable {s : State}

theorem exec_syncExchangeTimer_of_child {p : Nat} (hparent : s.fab.parent = some p) (hup : (fport s p).carries = true)
    (hsync : flag s Reg.FAB_SYNC_CFG 0 = true) (hchild : s.fab.isFm = false) :
    let t := until_ (s.fab.syncAt + 1000 * clampTo 10 500 (fld s Reg.FAB_SYNC_CFG 9 1)) s
    exec .syncExchangeTimer s = .next (emit (.link p "SYNC" [t.tb]) (onFab (fun f => { f with syncAt := t.tb }) t)) := by
  change execSyncExchangeTimer s = _
  simp only [execSyncExchangeTimer, hparent, hup, hsync, hchild, Bool.false_eq_true, not_false_eq_true, and_self, if_true]

theorem exec_syncHoldoverExpire_of_child (hlocked : s.fab.locked = true) (hchild : s.fab.isFm = false) :
    exec .syncHoldoverExpire s = .next (raise Ev.fabSyncLost 0 0
      (onFab (fun f => { f with locked := false }) (until_ (s.fab.lastSync + 10000000) s))) := by
  change execSyncHoldoverExpire s = _
  simp only [execSyncHoldoverExpire, hlocked, hchild, Bool.false_eq_true, not_false_eq_true, and_self, if_true]
  rw [setLocked_lost (until_ _ s) hlocked]

end

theorem fabricNeighbours : Claims.FabricNeighbours := by
  refine ⟨fun s p hp hup => ⟨exec_helloTimer_of_carrying hp hup, fun h hvalid hid hnew => exec_hello_of_first hp hup hvalid hid hnew,
      exec_sync_ask hp hup, fun t1 t2 t3 hparent hchild hsync => ?_⟩,
    fun s p hparent hup hsync hchild => exec_syncExchangeTimer_of_child hparent hup hsync hchild,
    fun s hlocked hchild => exec_syncHoldoverExpire_of_child hlocked hchild,
    fun s p n hp => exec_fecInterval_of_port hp n⟩
  obtain ⟨htb, hfab⟩ := applySync_frame s ((((t2 : Int) - t1) - ((s.tb : Int) - t3)) / 2)
  refine ⟨_, exec_sync_answer_of_child hp hup t1 t2 t3 hparent hchild hsync, ?_⟩
  rw [htb, hfab]
  exact ⟨rfl, rfl, rfl, rfl⟩

/-! ### The fabric manager (R521 to R525) -/

section
variable {s : State}

theorem exec_fmCandidateExpire_of_candidate {p : Nat} {q : Peer} {c : Cand} (hpeer : (fport s p).peer = some q) (hcand : q.cand = some c) :
    exec (.fmCandidateExpire p) s = .next (elect (onFPort p (fun x => { x with
      peer := x.peer.map (fun q => { q with cand := none }) }) (until_ (c.at_ + 10000000) s))) := by
  change execFmCandidateExpire p s = _
  simp only [execFmCandidateExpire, hpeer, Option.bind_some, hcand]

theorem exec_fmElected_of_best {t : Nat} (hbest : s.fab.bestSince = some t) (hfm : s.fab.isFm = false) (hrun : running s = true) :
    let v := until_ (t + 5000000) s
    let v := setFm (some ⟨devId v, fld v Reg.MGT_FAB_PRI 7 0, v.fab.serial, 0, v.tb⟩) v
    let v := onFab (fun f => { f with isFm := true, parent := none, offset := 0 }) v
    exec .fmElected s = .next (beacon (setLocked true (raise Ev.fabFmElected (dataPeer (devId v) 0 0) 0 v))) := by
  change execFmElected s = _
  simp only [execFmElected, hbest, hfm, hrun, Bool.false_eq_true, not_true_eq_false, or_self, if_false]

theorem exec_fmLost_of_known {f : Fm} (hknown : s.fab.fm = some f) (hfm : s.fab.isFm = false) :
    exec .fmLost s = .next (elect (raise Ev.fabFmLost (dataPeer f.id 0 0) 0 (setFm none (until_ (f.beaconAt + 10000000) s)))) := by
  change execFmLost s = _
  simp only [execFmLost, hknown, hfm, Bool.false_eq_true, if_false]

theorem exec_fmcResendTimeout_of_unacked {tag : Nat} {m : FmcOut} (hout : s.fab.fmcOut.find? (·.tag == tag) = some m) :
    let tb := max s.tb (m.at_ + 10000000)
    exec (.fmcResendTimeout tag) s = .next (emit (.link 0 "FMC" [tag, m.dev]) { s with
      tb := tb, fab := { s.fab with fmcOut := s.fab.fmcOut.map (fun x => if x.tag = tag then { x with at_ := tb } else x) } }) := by
  change execFmcResendTimeout tag s = _
  simp only [execFmcResendTimeout, hout]
  rfl

section
variable (hfm : s.fab.isFm = true) (hrun : running s = true)
include hfm hrun

theorem exec_fmBeaconTimer_of_manager : exec .fmBeaconTimer s = .next (beacon (until_ (s.fab.beaconAt + 1000000) s)) :=
  if_pos ⟨hfm, hrun⟩

theorem exec_fmRouteRecompute_own (dst : Nat) {e : Nat} (hfit : routeFit e = true) :
    exec (.fmRouteRecompute [(devId s, .route dst e)]) s = .next (settle (fabPump (putRoute dst e s))) := by
  change execFmRouteRecompute _ s = _
  simp only [execFmRouteRecompute, hfm, hrun, not_true_eq_false, or_self, if_false, eachIn, List.foldl, if_true, applyOwn, hfit]

theorem exec_fmRouteRecompute_other {dev : Nat} (dst : Nat) {e : Nat} (hdev : dev ≠ devId s) (hfit : routeFit e = true) :
    exec (.fmRouteRecompute [(dev, .route dst e)]) s =
      .next (settle (fabPump (emit (.link 0 "FMC" [s.fab.fmcTag, dev, dst, e]) (onFab (fun f => { f with
        fmcTag := s.fab.fmcTag + 1, fmcOut := f.fmcOut ++ [⟨s.fab.fmcTag, dev, .route dst e, s.tb⟩] }) s)))) := by
  change execFmRouteRecompute _ s = _
  simp only [execFmRouteRecompute, hfm, hrun, not_true_eq_false, or_self, if_false, eachIn, List.foldl, hdev, hfit, List.cons_append,
    List.nil_append]

end

section
variable {p : Nat} (hp : fpOk s p = true) (hup : (fport s p).carries = true) (hrun : running s = true)
include hp hup hrun

theorem exec_fmcMessage_of_full (src tag : Nat) (m : Fmc) :
    exec (.fmcMessage p src tag true m) s = .next (raise Ev.fabFmcDrop 0 p (tally Ctr.FAB_FMC_DROP 1 s)) := by
  change execFmcMessage p src tag true m s = _
  simp only [execFmcMessage, hp, hup, hrun, true_or, not_true_eq_false, or_self, if_false, if_true]

theorem exec_fmcMessage_of_room (src tag : Nat) (m : Fmc) :
    let v := tally Ctr.FAB_FMC_RX 1 s
    exec (.fmcMessage p src tag false m) s =
      .next (applyFmc p src m (if m.acked then emit (.link p "FMC_ACK" [tag, src]) v else v)) := by
  change execFmcMessage p src tag false m s = _
  simp only [execFmcMessage, hp, hup, hrun, true_or, not_true_eq_false, or_self, Bool.false_eq_true, if_false]

end

end

theorem fabricManager : Claims.FabricManager :=
  ⟨fun _ _ _ _ => exec_fmCandidateExpire_of_candidate,
    fun _ _ => exec_fmElected_of_best,
    fun _ _ => exec_fmLost_of_known,
    fun _ hfm hrun => ⟨exec_fmBeaconTimer_of_manager hfm hrun, fun dst _ => exec_fmRouteRecompute_own hfm hrun dst,
      fun _ dst _ => exec_fmRouteRecompute_other hfm hrun dst⟩,
    fun _ _ src tag m hp hup hrun => ⟨exec_fmcMessage_of_full hp hup hrun src tag m, exec_fmcMessage_of_room hp hup hrun src tag m⟩,
    fun _ _ _ => exec_fmcResendTimeout_of_unacked⟩

/-- Settles O56: each command by its case; what a HELLO says is kept before the device's own ID is asked, and neither the election nor the
choice of a parent changes that ID. -/
theorem fabricManagement : Obligations.FabricManagement := ⟨fabricNeighbours, fabricManager⟩

end Sys2Proof.Machine

/-! SUPPORT. Writes of registers that command or lock something: the owner's, and the device's own write of FW_KEY_REVOKE. -/

namespace Sys2Proof.Machine

open Sys2Proof

-- One proof after the other: side by side they would take the compile past the memory it may use.
set_option Elab.async false

/-! ### Plain registers (R578) -/

/-- An aligned word of the active window past the page's header that only the owner may write, no figure of a calibration and no
entry of a table. -/
def plainReg (off : Nat) : Bool :=
  regThere off && decide (off < 0x400000) && off % 4 == 0 && !freeReg off && decide (0x40 ≤ off % 4096) &&
    !([Reg.LDG_CAL_BW, Reg.LDG_CAL_PWR, Reg.LDG_CAL_CFG].contains off) && !tableRegs.contains off

/-- The owner's write of a word n to a plain register: stored, then what `onWrite` says of the register. -/
theorem regPut_of_plainReg {s : State} {m : Master} {off n : Nat} {w : Word} (hw : w.toNat = n) (h : Claims.MayWrite s m off n)
    (hplain : plainReg off = true) :
    regPut m off w s = .next (settle (onWrite m off (regOf s.io off).toNat (newWord s.part off (regOf s.io off).toNat n) n
      (Claims.stored off n s))) := by
  subst hw
  simp only [plainReg, Bool.and_eq_true, Bool.not_eq_true', decide_eq_true_eq, beq_iff_eq] at hplain
  obtain ⟨⟨⟨⟨⟨⟨hthere, hlt⟩, hal⟩, hfree⟩, hpage⟩, hfigure⟩, htable⟩ := hplain
  exact regPut_of_mayWrite h hthere hlt hal hfree (Bool.and_eq_false_iff.mpr (.inr hfigure)) hpage
    (dataWrite_of_not_table _ _ (by simpa using htable))

/-! ### Locks (R563, R566, R583) -/

/-- Writing 1 to an LK bit sets it. -/
theorem bitsOf_newWord_lock {off : Nat} (part : Part) (old : Nat) (hlk : lkBits off = 1) (hctl : off % 4096 ≠ 4) (hsmpl : off % 4096 ≠ 16) :
    bitsOf (newWord part off old 1) 0 0 = 1 := by
  simp only [newWord, if_neg hctl, if_neg hsmpl, hlk, Nat.and_self]
  simp [bitsOf]

theorem fld_stored_lock {s : State} {off : Nat} (hok : s.ok = true) (hlk : lkBits off = 1) (hctl : off % 4096 ≠ 4)
    (hsmpl : off % 4096 ≠ 16) : fld (Claims.stored off 1 s) off 0 0 = 1 :=
  (fld_stored_same off 1 0 hok (by decide)).trans (bitsOf_newWord_lock s.part _ hlk hctl hsmpl)

section
variable {s : State} {m : Master}

theorem exec_assignLockSet_of_mayWrite (h : Claims.MayWrite s m Reg.SEC_ASSIGN_LOCK 1) :
    exec (.assignLockSet m) s = .next (settle (Claims.stored Reg.SEC_ASSIGN_LOCK 1 s)) :=
  regPut_of_plainReg (w := 1) rfl h (by decide)

theorem exec_debugLock_of_mayWrite (h : Claims.MayWrite s m Reg.SEC_DEBUG_CTL 1) :
    exec (.debugLock m) s = .next (settle (Claims.stored Reg.SEC_DEBUG_CTL 1 s)) :=
  regPut_of_plainReg (w := 1) rfl h (by decide)

/-- A page's lock is a register that only the owner may write, and no figure of a calibration. -/
theorem pageLock_facts {off : Nat} (hoff : off < 0x400000) : pageOf off + 12 < 0x400000 ∧ (pageOf off + 12) % 4096 = 12 ∧
    freeReg (pageOf off + 12) = false ∧ calGuard s (pageOf off + 12) = false := by
  have hpage : (pageOf off + 12) % 4096 = 12 := by
    unfold pageOf
    omega
  refine ⟨by unfold pageOf; omega, hpage, ?_, Bool.and_eq_false_iff.mpr (.inr ?_)⟩
  all_goals
    simp only [freeReg, List.contains_eq_mem, List.mem_cons, List.not_mem_nil, or_false, decide_eq_false_iff_not]
    rintro (h | h | h) <;> (rw [h] at hpage; revert hpage; decide)

theorem storeWord_of_header {off : Nat} (old w : Nat) (h : off % 4096 < 0x40) :
    storeWord m off old w s = (false, onIo (fun io => putReg io off (BitVec.ofNat 32 (newWord s.part off old w))) s) := by
  unfold storeWord
  simp only [if_pos h]

/-- The registers of a page's header are stored and command nothing. -/
theorem exec_pgLockSet_of_mayWrite {off : Nat} (hoff : off < 0x400000) (hthere : regThere (pageOf off + 12) = true)
    (h : Claims.MayWrite s m (pageOf off + 12) 1) :
    exec (.pgLockSet m off) s = .next (Claims.stored (pageOf off + 12) 1 s) := by
  obtain ⟨hlt, hpage, hfree, hcal⟩ := pageLock_facts (s := s) hoff
  have hheader : (pageOf off + 12) % 4096 < 0x40 := by omega
  have hone : (1 : Word).toNat = 1 := rfl
  change regPut m (pageOf off + 12) 1 s = _
  rw [regPut_eq_storeWord (hone.symm ▸ h) hthere hlt (by omega) hfree hcal, hone, storeWord_of_header _ _ hheader, onIo, Claims.stored]

end

/-! ### FW_KEY_REVOKE (R561, R577) -/

/-- The device's own write of a plain register that no page locks: stored, then what `onWrite` says of the register. -/
theorem deviceWrite_of_plainReg {s : State} {off w : Nat} (hplain : plainReg off = true) (habs : absentReg s.part off = false)
    (hlock : lockable off = false) (hrsv : hitsRsv off (regOf s.io off).toNat w = false) :
    deviceWrite off w s = settle (onWrite (asMaster none s) off (regOf s.io off).toNat
      (newWord s.part off (regOf s.io off).toNat w) w (Claims.stored off w s)) := by
  simp only [plainReg, Bool.and_eq_true, Bool.not_eq_true', decide_eq_true_eq, beq_iff_eq] at hplain
  obtain ⟨⟨⟨⟨⟨⟨hthere, -⟩, -⟩, hfree⟩, hpage⟩, hfigure⟩, htable⟩ := hplain
  have hcal : calGuard s off = false := Bool.and_eq_false_iff.mpr (.inr hfigure)
  have hdata := dataWrite_of_not_table (newWord s.part off (regOf s.io off).toNat w) s (by simpa using htable)
  simp only [deviceWrite, hfree, writeWord, hthere, habs, hlock, tellRsv_of_no_hit hrsv, hcal, storeWord_of_register hpage hdata,
    Bool.false_eq_true, not_true_eq_false, false_and, and_false, if_false]
  rfl

theorem absentReg_fwKeyRevoke (part : Part) : absentReg part Reg.SEC_FW_KEY_REVOKE = false := by
  cases part <;> decide

/-- The keys that a word revokes: those that it names, below the one that verified the running MCF, which are not revoked yet. -/
def keysRevoked (w : Nat) (s : State) : List Nat :=
  (List.range 4).filter fun k => w / 2 ^ k % 2 == 1 && decide (k < s.mgt.boot.keyUsed) && !s.sec.revoked.contains k

theorem keyRevoke_of_mcf {s : State} (w : Nat) (hmcf : s.mgt.boot.mcf ≠ none) :
    keyRevoke w s = onSec (fun x => { x with revoked := x.revoked ++ keysRevoked w s }) s := by
  have hsome : ¬ s.mgt.boot.mcf.isNone := by rwa [Option.isNone_iff_eq_none]
  simp only [keyRevoke, if_neg hsome, keysRevoked, bitsOf, Nat.add_sub_cancel_left, Nat.pow_one]

/-- Settles O29: each lock is the owner's write of 1 to an LK bit; FW_KEY_REVOKE is the device's own write, and the word stored leaves the
boot record and the keys revoked as they are. -/
theorem locksAndKeys : Obligations.LocksAndKeys := by
  refine ⟨fun s m hok hmay => ⟨exec_assignLockSet_of_mayWrite hmay, fld_stored_lock hok (by decide) (by decide) (by decide)⟩,
    fun s m hok hmay => ⟨exec_debugLock_of_mayWrite hmay, fld_stored_lock hok (by decide) (by decide) (by decide)⟩,
    fun s m off hok hoff hthere hmay => ⟨exec_pgLockSet_of_mayWrite hoff hthere hmay, ?_⟩, fun s keys hrsv hmcf => ?_⟩
  · obtain ⟨-, hpage, -⟩ := pageLock_facts (s := s) hoff
    exact fld_stored_lock hok (if_pos (.inr (.inr hpage))) (by omega) (by omega)
  · refine congrArg Host.Outcome.next ((deviceWrite_of_plainReg (by decide) (absentReg_fwKeyRevoke s.part) (by decide) hrsv).trans ?_)
    exact congrArg settle (keyRevoke_of_mcf (s := Claims.stored _ _ s) keys.val hmcf)

end Sys2Proof.Machine

/-! SUPPORT. CFG_CMD, RESET_CMD and Q_CMD: what each command of the register does, and each command of the owner as its write. -/

namespace Sys2Proof.Machine

open Sys2Proof

-- One proof after the other: side by side they would take the compile past the memory it may use.
set_option Elab.async false

/-! ### What follows the write of each register -/

section
variable (m : Master) (old new w : Nat) (s : State)

theorem onWrite_cfgCmd : onWrite m Reg.MGT_CFG_CMD old new w s = cfgCmd m w s := rfl

theorem onWrite_resetCmd : onWrite m Reg.MGT_RESET_CMD old new w s = resetCmd w s := rfl

theorem onWrite_queueCmd : onWrite m Reg.EVT_Q_CMD old new w s = queueCmd w s := rfl

end

/-! ### CFG_CMD (R603, R606) -/

section
variable {s : State} {m : Master}

theorem cfgStore_of_free (h : s.mgt.nv.job = none) :
    cfgStore s = startStore (nvDiffs (onNv (fun n => { n with armed := none }) s)) none (onNv (fun n => { n with armed := none }) s) := by
  have hfree : ¬ nvBusy (onNv (fun n => { n with armed := none }) s) := by simp [nvBusy, h]
  exact if_neg hfree

theorem cfgCmd_store : cfgCmd m 1 s = onNv (fun n => { n with armed := none }) (cfgStore s) := rfl

theorem cfgCmd_factory : cfgCmd m 2 s = cfgFactory m s := rfl

theorem cfgFactory_of_unarmed (h : s.mgt.nv.armed = none) :
    cfgFactory m s = onNv (fun n => { n with armed := some (m, s.tb) }) s := by
  simp only [cfgFactory, h]

theorem cfgFactory_of_armed {t : Nat} (h : s.mgt.nv.armed = some (m, t)) (hin : s.tb ≤ t + 1000000000) (hjob : s.mgt.nv.job = none) :
    cfgFactory m s = onNv (fun n => { n with armed := none, job := some .factory }) s := by
  have hfree : nvBusy s = false := by rw [nvBusy, hjob]; rfl
  simp only [cfgFactory, h, hin, hfree, and_self, if_true, Bool.false_eq_true, if_false]

theorem exec_cfgStore_of_mayWrite (h : Claims.MayWrite s m Reg.MGT_CFG_CMD 1) :
    exec (.cfgStore m) s = .next (settle (onNv (fun n => { n with armed := none }) (cfgStore (Claims.stored Reg.MGT_CFG_CMD 1 s)))) := by
  change regPut m Reg.MGT_CFG_CMD 1 s = _
  rw [regPut_of_plainReg (n := 1) rfl h (by decide), onWrite_cfgCmd, cfgCmd_store]

theorem exec_cfgFactory_of_mayWrite (h : Claims.MayWrite s m Reg.MGT_CFG_CMD 2) :
    exec (.cfgFactory m) s = .next (settle (cfgFactory m (Claims.stored Reg.MGT_CFG_CMD 2 s))) := by
  change regPut m Reg.MGT_CFG_CMD 2 s = _
  rw [regPut_of_plainReg (n := 2) rfl h (by decide), onWrite_cfgCmd, cfgCmd_factory]

theorem exec_factoryArmExpire_of_armed {o : Master} {t : Nat} (h : s.mgt.nv.armed = some (o, t)) :
    exec .factoryArmExpire s = .next (onNv (fun n => { n with armed := none }) (until_ (t + 1000000000) s)) := by
  change execFactoryArmExpire s = _
  simp only [execFactoryArmExpire, h]

end

/-! ### RESET_CMD (R616, R618, R627) -/

section
variable {s : State}

/-- The word of a Warm reset. -/
def warmWord (noRelease : Bool) : Nat := if noRelease then 0x57520005 else 0x57520001

theorem resetCmd_warm (noRelease : Bool) (hrun : running s = true) (hdrain : s.mgt.boot.drain = none) :
    resetCmd (warmWord noRelease) s = warmReset noRelease s := by
  have hword : ∀ nr, bitsOf (warmWord nr) 31 16 = 0x5752 ∧ bitsOf (warmWord nr) 1 0 = 1 ∧ (bitsOf (warmWord nr) 2 2 == 1) = nr := by
    decide
  obtain ⟨hkey, hcmd, hnr⟩ := hword noRelease
  simp [resetCmd, hkey, hcmd, hnr, hrun, hdrain]

theorem warmReset_of_unreleased (noRelease : Bool) (h : s.mgt.boot.release = none) :
    warmReset noRelease s = if noRelease = true ∨ remoteLeft s = false then resetDrain .warmCmd s else releasePump (startRelease s) := by
  simp [warmReset, h]

theorem resetCmd_block (b : Fin 16) (hdrain : s.mgt.boot.drain = none) :
    resetCmd (0x57520002 + 16 * b.val) s = (blockReset b.val s).getD (resetRefused s) := by
  have hword : ∀ b : Fin 16, bitsOf (0x57520002 + 16 * b.val) 31 16 = 0x5752 ∧ bitsOf (0x57520002 + 16 * b.val) 1 0 = 2 ∧
      bitsOf (0x57520002 + 16 * b.val) 7 4 = b.val := by
    decide
  obtain ⟨hkey, hcmd, hblk⟩ := hword b
  simp [resetCmd, hkey, hcmd, hblk, hdrain]

section
variable (hrun : running s = true)
include hrun

theorem no_drain_of_running : ¬ (s.rsv.pst = .fence ∨ s.rsv.pst = .geyser) := by simp [pst_of_running hrun]

theorem blockReset_plc : blockReset 11 s = some (settle (raise Ev.resetDone 2 0 (resetPlc s))) :=
  (if_neg (no_drain_of_running hrun)).trans (if_pos rfl)

theorem blockReset_evt : blockReset 3 s = some (raise Ev.resetDone 2 0 (resetEvt s)) :=
  (if_neg (no_drain_of_running hrun)).trans ((if_neg (by decide)).trans (if_pos rfl))

theorem blockReset_fab : blockReset 15 s = some (settle (raise Ev.resetDone 2 0 (resetFab s))) :=
  (if_neg (no_drain_of_running hrun)).trans ((if_neg (by decide)).trans ((if_neg (by decide)).trans (if_pos rfl)))

end

theorem exec_warmReset_of_mayWrite {m : Master} (noRelease : Bool) (h : Claims.MayWrite s m Reg.MGT_RESET_CMD (warmWord noRelease)) :
    exec (.warmReset m noRelease) s =
      .next (settle (resetCmd (warmWord noRelease) (Claims.stored Reg.MGT_RESET_CMD (warmWord noRelease) s))) :=
  regPut_of_plainReg (w := if noRelease then 0x57520005 else 0x57520001) (by cases noRelease <;> rfl) h (by decide)

theorem exec_blockReset_of_mayWrite {m : Master} (b : Fin 16) (h : Claims.MayWrite s m Reg.MGT_RESET_CMD (0x57520002 + 16 * b.val)) :
    exec (.blockReset m b) s =
      .next (settle (resetCmd (0x57520002 + 16 * b.val) (Claims.stored Reg.MGT_RESET_CMD (0x57520002 + 16 * b.val) s))) := by
  have hword : ∀ b : Fin 16, (BitVec.ofNat 32 (0x57520002 + 16 * b.val)).toNat = 0x57520002 + 16 * b.val := by decide
  exact regPut_of_plainReg (hword b) h (by decide)

end

/-- Settles O31: each command is the owner's write of its register. The word stored touches neither the NVM, the boot record nor the power
state, so what is assumed of them holds after it as well. -/
theorem configurationAndResetCommands : Obligations.ConfigurationAndResetCommands := by
  refine fun s m => ⟨fun hmay hjob => ?_, fun hmay => ⟨fun harmed => ?_, fun t harmed hin hjob => ?_⟩,
    fun o t => exec_factoryArmExpire_of_armed, fun nr hmay hrun hdrain hrel => ?_, fun b hmay hrun hdrain => ?_⟩
  · rw [exec_cfgStore_of_mayWrite hmay, cfgStore_of_free (s := Claims.stored _ 1 s) hjob]
  · rw [exec_cfgFactory_of_mayWrite hmay, cfgFactory_of_unarmed (s := Claims.stored _ 2 s) harmed]
    rfl
  · rw [exec_cfgFactory_of_mayWrite hmay, cfgFactory_of_armed (s := Claims.stored _ 2 s) harmed hin hjob]
  · rw [exec_warmReset_of_mayWrite nr hmay, resetCmd_warm (s := Claims.stored _ _ s) nr hrun hdrain,
      warmReset_of_unreleased (s := Claims.stored _ _ s) nr hrel]
    rfl
  · rw [exec_blockReset_of_mayWrite b hmay, resetCmd_block (s := Claims.stored _ _ s) b hdrain]
    refine ⟨fun hb => ?_, fun hb => ?_, fun hb => ?_⟩
    · rw [hb, blockReset_plc (s := Claims.stored _ _ s) hrun, Option.getD_some]
    · rw [hb, blockReset_evt (s := Claims.stored _ _ s) hrun, Option.getD_some]
    · rw [hb, blockReset_fab (s := Claims.stored _ _ s) hrun, Option.getD_some]

/-! ### Q_CMD (R637) -/

section
variable {s : State} {m : Master}

theorem queueCmd_mark : queueCmd 1 s = onIo qMark s := rfl

theorem queueCmd_rewind : queueCmd 2 s = onIo qRewind s := rfl

theorem queueCmd_release : queueCmd 3 s = onIo (qRelease (env s) (regOf s.io Reg.EVT_Q_SEQ).toNat) s := rfl

theorem queueCmd_releaseRead : queueCmd 4 s = onIo (qReleaseRead (env s)) s := rfl

theorem qRelease_of_mem {v : IoEnv} {x : Io} {e : QEntry} (h : e ∈ x.q) :
    qRelease v e.seq x = lossTry v { x with q := x.q.filter (fun y => y.seq != e.seq) } :=
  if_pos (List.any_eq_true.mpr ⟨e, h, beq_self_eq_true e.seq⟩)

/-- The owner's write of a command n to Q_CMD. -/
theorem regPut_queueCmd {n : Nat} {w : Word} (hw : w.toNat = n) (h : Claims.MayWrite s m Reg.EVT_Q_CMD n) :
    regPut m Reg.EVT_Q_CMD w s = .next (settle (queueCmd n (Claims.stored Reg.EVT_Q_CMD n s))) := by
  rw [regPut_of_plainReg hw h (by decide), onWrite_queueCmd]

theorem exec_mark_of_mayWrite (h : Claims.MayWrite s m Reg.EVT_Q_CMD 1) :
    exec (.mark m) s = .next (settle (onIo qMark (Claims.stored Reg.EVT_Q_CMD 1 s))) := by
  change regPut m Reg.EVT_Q_CMD 1 s = _
  rw [regPut_queueCmd (n := 1) rfl h, queueCmd_mark]

theorem exec_rewind_of_mayWrite (h : Claims.MayWrite s m Reg.EVT_Q_CMD 2) :
    exec (.rewind m) s = .next (settle (onIo qRewind (Claims.stored Reg.EVT_Q_CMD 2 s))) := by
  change regPut m Reg.EVT_Q_CMD 2 s = _
  rw [regPut_queueCmd (n := 2) rfl h, queueCmd_rewind]

/-- The write of Q_CMD leaves Q_SEQ, which RELEASE reads. -/
theorem exec_release_of_mayWrite (hok : s.ok = true) (h : Claims.MayWrite s m Reg.EVT_Q_CMD 3) :
    exec (.release m) s = .next (settle (onIo (qRelease (env s) (regOf s.io Reg.EVT_Q_SEQ).toNat) (Claims.stored Reg.EVT_Q_CMD 3 s))) := by
  have hseq : regOf (Claims.stored Reg.EVT_Q_CMD 3 s).io Reg.EVT_Q_SEQ = regOf s.io Reg.EVT_Q_SEQ :=
    regOf_putReg_of_ok _ (io_ok_of_ok hok) (by decide)
  change regPut m Reg.EVT_Q_CMD 3 s = _
  rw [regPut_queueCmd (n := 3) rfl h, queueCmd_release, hseq]
  rfl

theorem exec_releaseAllRead_of_mayWrite (h : Claims.MayWrite s m Reg.EVT_Q_CMD 4) :
    exec (.releaseAllRead m) s = .next (settle (onIo (qReleaseRead (env s)) (Claims.stored Reg.EVT_Q_CMD 4 s))) := by
  change regPut m Reg.EVT_Q_CMD 4 s = _
  rw [regPut_queueCmd (n := 4) rfl h, queueCmd_releaseRead]
  rfl

end

/-- Settles O32: each command is the owner's write of its number to Q_CMD. The word stored leaves the queue, the mark set and Q_SEQ as they
are. -/
theorem queueCommands : Obligations.QueueCommands := by
  refine fun s m hok => ⟨exec_mark_of_mayWrite, exec_rewind_of_mayWrite, fun e he hseq hmay => ?_, exec_releaseAllRead_of_mayWrite⟩
  have hmem : e ∈ (Claims.stored Reg.EVT_Q_CMD 3 s).io.q := he
  rw [exec_release_of_mayWrite hok hmay, ← hseq, onIo, qRelease_of_mem hmem]
  rfl

end Sys2Proof.Machine

/-! SUPPORT. The sideband target: register transactions, common command codes and interrupts, while it answers. -/

namespace Sys2Proof.Machine

open Sys2Proof

-- One proof after the other: side by side they would take the compile past the memory it may use.
set_option Elab.async false

/-! ### Register transactions of the sideband (R595) -/

theorem sbOn_of_powered {s : State} (hvaux : s.mgt.boot.vaux = true) (hoff : s.rsv.pst ≠ .off) (hdorm : s.rsv.pst ≠ .dormant) :
    sbOn s = true := by
  simp [sbOn, reaches, hvaux, hoff, hdorm]

section
variable {s : State} (hon : sbOn s = true)
include hon

section
variable {off : Nat} (hoff : sbOffset off = true)
include hoff

theorem exec_i3cWrite_of_aligned (w : Word) : exec (.i3cWrite off w none) s =
    .next (onI3c (fun x => { x with lastWrDisc := (regWrite .sb off 4 w.toNat (tally Ctr.I3C_XACT 1 s)).1 })
      (regWrite .sb off 4 w.toNat (tally Ctr.I3C_XACT 1 s)).2) := by
  change execI3cWrite off w none s = _
  simp only [execI3cWrite, hon, hoff, not_true_eq_false, if_false, if_true, Option.or_none]

theorem exec_i3cRead_of_aligned : exec (.i3cRead off none) s =
    .next (clearStatus (emit (.i3c [sbStatus (readAt .sb off 4 (tally Ctr.I3C_XACT 1 s))]) (readAt .sb off 4 (tally Ctr.I3C_XACT 1 s)))) := by
  change execI3cRead off none s = _
  simp only [execI3cRead, hon, hoff, not_true_eq_false, if_false, if_true, Option.or_none]

end

omit hon in
theorem sbStatus_tally (i n : Nat) : sbStatus (tally i n s) = sbStatus s := by
  unfold sbStatus
  rw [tally_mgt]

theorem exec_i3cStatus_ok : exec (.i3cStatus none) s =
    .next (clearStatus (emit (.i3c [sbStatus (tally Ctr.I3C_XACT 1 s)]) (tally Ctr.I3C_XACT 1 s))) := by
  rw [sbStatus_tally]
  exact if_neg (not_not.mpr hon)

theorem exec_i3cStatus_proto : exec (.i3cStatus (some .proto)) s = .next (sbBad .proto s) :=
  if_neg (not_not.mpr hon)

/-! ### Common command codes (R596) -/

theorem exec_entdaa_of_unaddressed (a : Fin 128) (h : s.mgt.i3c.daddr = 0) : exec (.entdaa a) s = .next (setDaddr a.val s) :=
  congrArg Host.Outcome.next (if_pos (by simp [hon, h]))

omit hon in
theorem exec_entdaa_of_addressed (a : Fin 128) (h : s.mgt.i3c.daddr ≠ 0) : exec (.entdaa a) s = .next s :=
  congrArg Host.Outcome.next (if_neg (by simp [h]))

theorem exec_setdasa_of_unaddressed {stat : Fin 128} (a : Fin 128) (h : s.mgt.i3c.daddr = 0) (hstat : stat.val = fld s Reg.MGT_I3C_CFG 6 0) :
    exec (.setdasa stat a) s = .next (setDaddr a.val s) :=
  congrArg Host.Outcome.next (if_pos (by simp [hon, h, hstat]))

theorem exec_setnewda_of_addressed {old : Fin 128} (a : Fin 128) (h : s.mgt.i3c.daddr = old.val) (hold : old.val ≠ 0) :
    exec (.setnewda old a) s = .next (setDaddr a.val s) :=
  congrArg Host.Outcome.next (if_pos (by simpa [hon, h] using hold))

theorem exec_rstdaa_of_on : exec .rstdaa s = .next (setDaddr 0 s) :=
  congrArg Host.Outcome.next (if_pos hon)

section
variable {e : Nat} (he : e % 2 = 1)
include he

theorem exec_enec_of_bit : exec (.enec e) s = .next (onI3c (fun x => { x with enec := true }) s) :=
  congrArg Host.Outcome.next (if_pos (by simp [hon, he]))

theorem exec_disec_of_bit : exec (.disec e) s = .next (onI3c (fun x => { x with enec := false }) s) :=
  congrArg Host.Outcome.next (if_pos (by simp [hon, he]))

end

omit hon in
theorem exec_enec_disec_of_other {e : Nat} (he : e % 2 = 0) : exec (.enec e) s = .next s ∧ exec (.disec e) s = .next s :=
  ⟨congrArg Host.Outcome.next (if_neg (by simp [he])), congrArg Host.Outcome.next (if_neg (by simp [he]))⟩

theorem getCcc_of_on (code len : Nat) :
    getCcc code len s = .next (emit (.i3c ((List.range len).map fun i => Config.i3cByte code i % 256)) s) :=
  congrArg Host.Outcome.next (if_pos hon)

theorem exec_getstatus_of_on : exec .getstatus s =
    .next (emit (.i3c [Config.freeValue s.freeCtr % 256, Config.freeValue s.freeCtr / 256 % 256]) { s with freeCtr := s.freeCtr + 1 }) :=
  if_pos hon

theorem exec_rstact_of_on (a : Nat) : exec (.rstact a) s = .next (onI3c (fun x => { x with rstact := a }) s) :=
  congrArg Host.Outcome.next (if_pos hon)

theorem exec_ibiSend_of_waiting {sev : Nat} (hibi : s.io.ibi = some sev) (henec : s.mgt.i3c.enec = true) :
    exec .ibiSend s = .next (emit (.ibi sev) (onIo (fun io => { io with ibi := none }) s)) := by
  change execIbiSend s = _
  simp only [execIbiSend, hibi, hon, henec, Bool.and_self, if_true]

end

/-- Settles O59: each command while the target answers, an address code also by whether the target has an address. -/
theorem sidebandCommands : Obligations.SidebandCommands := by
  intro s hvaux hoff hdorm
  have hon := sbOn_of_powered hvaux hoff hdorm
  refine ⟨fun off w hlt hal => ?_, exec_i3cStatus_ok hon, exec_i3cStatus_proto hon,
    fun a => ⟨fun h => ⟨exec_entdaa_of_unaddressed hon a h, fun k => exec_setdasa_of_unaddressed hon a h⟩,
      fun k h hk => ⟨exec_setnewda_of_addressed hon a h hk, exec_entdaa_of_addressed a (h.trans_ne hk)⟩⟩,
    exec_rstdaa_of_on hon, fun e he => ⟨exec_enec_of_bit hon he, exec_disec_of_bit hon he⟩, fun e => exec_enec_disec_of_other,
    ⟨getCcc_of_on hon 0 6, getCcc_of_on hon 1 1, getCcc_of_on hon 2 1, getCcc_of_on hon 3 2⟩,
    exec_getstatus_of_on hon, exec_rstact_of_on hon, fun sev => exec_ibiSend_of_waiting hon⟩
  have hword : sbOffset off = true := by simp [sbOffset, hlt, hal]
  exact ⟨exec_i3cWrite_of_aligned hon hword w, exec_i3cRead_of_aligned hon hword⟩

end Sys2Proof.Machine

/-! SUPPORT. SPDM requests, sessions and IDE streams, each in the case in which it acts. -/

namespace Sys2Proof.Machine

open Sys2Proof

-- One proof after the other: side by side they would take the compile past the memory it may use.
set_option Elab.async false

/-! ### Requests that change nothing (R545, R556, R557) -/

section
variable {s : State} {p : Nat} (hserves : serves s p = true)
include hserves

theorem spdmPlain_of_serves (kind : String) (l : List Nat) : spdmPlain p kind l s = .next (emit (.doe p kind l) s) :=
  if_pos hserves

theorem spdm_of_ready (f : State → State) (hready : s.sec.ready = true) : spdm p f s = .next (f s) :=
  (if_neg (not_not.mpr hserves)).trans (if_neg (not_not.mpr hready))

theorem spdm_of_unready (f : State → State) (hready : s.sec.ready = false) :
    spdm p f s = .next (emit (.doe p "ERROR_RESPONSE_NOT_READY" []) s) :=
  (if_neg (not_not.mpr hserves)).trans (if_pos (by simp [hready]))

section
variable (hready : s.sec.ready = true)
include hready

theorem exec_getCertificate_slot0 : exec (.getCertificate p 0) s = .next (emit (.doe p "CERTIFICATE" (chain s)) s) := by
  change execGetCertificate p 0 s = _
  exact spdm_of_ready hserves _ hready

theorem exec_challenge_slot0 (nonce : Nat) : exec (.challenge p 0 nonce) s = .next (emit (.doe p "CHALLENGE_AUTH" [nonce]) s) := by
  change execChallenge p 0 nonce s = _
  exact spdm_of_ready hserves _ hready

theorem exec_getCertificate_other {slot : Nat} (hslot : slot ≠ 0) :
    exec (.getCertificate p slot) s = .next (emit (.doe p "ERROR_INVALID_REQUEST" []) s) := by
  change execGetCertificate p slot s = _
  rw [execGetCertificate, spdm_of_ready hserves _ hready, if_neg hslot, doe]

theorem exec_challenge_other {slot : Nat} (nonce : Nat) (hslot : slot ≠ 0) :
    exec (.challenge p slot nonce) s = .next (emit (.doe p "ERROR_INVALID_REQUEST" []) s) := by
  change execChallenge p slot nonce s = _
  rw [execChallenge, spdm_of_ready hserves _ hready, if_neg hslot, doe]

theorem exec_getMeasurements_one {idx : Nat} (hlo : 1 ≤ idx) (hhi : idx ≤ 5) :
    exec (.getMeasurements p idx) s = .next (emit (.doe p "MEASUREMENTS" (measured s idx)) s) := by
  change execGetMeasurements p idx s = _
  rw [execGetMeasurements, spdm_of_ready hserves _ hready, if_neg (by omega), if_pos ⟨hlo, hhi⟩, doe]

theorem exec_getMeasurements_all : exec (.getMeasurements p 255) s =
    .next (emit (.doe p "MEASUREMENTS" ([1, 2, 3, 4, 5].flatMap (measured s))) s) := by
  change execGetMeasurements p 255 s = _
  rw [execGetMeasurements, spdm_of_ready hserves _ hready, if_pos rfl, doe]

end
end

theorem measured_all (s : State) : [1, 2, 3, 4, 5].flatMap (measured s) =
    measured s 1 ++ measured s 2 ++ measured s 3 ++ measured s 4 ++ measured s 5 := by
  simp only [List.flatMap_cons, List.flatMap_nil, List.append_nil, List.append_assoc]

theorem spdmReports : Claims.SpdmReports := by
  refine fun s p hserves => ⟨spdmPlain_of_serves hserves _ _, spdmPlain_of_serves hserves _ _, spdmPlain_of_serves hserves _ _,
    fun hready => ⟨spdm_of_ready hserves _ hready,
      fun nonce => ⟨exec_getCertificate_slot0 hserves hready, exec_challenge_slot0 hserves hready nonce⟩,
      fun slot nonce hslot => ⟨exec_getCertificate_other hserves hready hslot, exec_challenge_other hserves hready nonce hslot⟩,
      fun idx hlo hhi => exec_getMeasurements_one hserves hready hlo hhi, ?_⟩,
    fun hready => ?_⟩
  · rw [exec_getMeasurements_all hserves hready, measured_all]
  · simp only [List.forall_mem_cons]
    exact ⟨show execGetDigests p s = _ from spdm_of_unready hserves _ hready,
      show execGetCertificate p 0 s = _ from spdm_of_unready hserves _ hready,
      show execChallenge p 0 0 s = _ from spdm_of_unready hserves _ hready,
      show execGetMeasurements p 1 s = _ from spdm_of_unready hserves _ hready,
      show execKeyExchange p s = _ from spdm_of_unready hserves _ hready, List.forall_mem_nil _⟩

/-! ### Sessions (R538, R556, R558) -/

section
variable {s : State} {p id : Nat}

theorem inSession_of_found {x : Session} (f : Session → State → State)
    (h : s.sec.sessions.find? (fun x => x.id == id && x.port == p) = some x) : inSession p id f s = f x s := by
  simp only [inSession, h]

theorem inSession_of_none (f : Session → State → State)
    (h : s.sec.sessions.find? (fun x => x.id == id && x.port == p) = none) :
    inSession p id f s = emit (.doe p "ERROR_INVALID_SESSION" [id]) s := by
  simp only [inSession, h, doe]

section
variable (hserves : serves s p = true) (hready : s.sec.ready = true)
include hserves hready

/-- A new session of the port with its secrets newly drawn. -/
def sessionOpened (p : Nat) (s : State) : State := { s with
  sec := { s.sec with
    draws := s.sec.draws + 1, gens := s.sec.gens + 1, nextSession := s.sec.nextSession + 1
    sessions := s.sec.sessions ++ [⟨s.sec.nextSession, p, false, 0, s.sec.draws, 0⟩] } }

theorem exec_keyExchange_of_room (h : s.sec.sessions.length < 8) : exec (.keyExchange p) s =
    .next (emit (.doe p "KEY_EXCHANGE_RSP" [s.sec.nextSession]) (tally Ctr.SEC_SPDM_SESSION 1 (sessionOpened p s))) := by
  change execKeyExchange p s = _
  rw [execKeyExchange, spdm_of_ready hserves _ hready, if_neg h.not_ge]
  rfl

theorem exec_keyExchange_of_full (h : 8 ≤ s.sec.sessions.length) : exec (.keyExchange p) s = .next (emit (.doe p "ERROR_BUSY" []) s) := by
  change execKeyExchange p s = _
  rw [execKeyExchange, spdm_of_ready hserves _ hready, if_pos h, doe]

/-- A request within a session of the port. -/
theorem session_of_found {x : Session} (f : Session → State → State)
    (h : s.sec.sessions.find? (fun x => x.id == id && x.port == p) = some x) : spdm p (inSession p id f) s = .next (f x s) := by
  rw [spdm_of_ready hserves _ hready, inSession_of_found f h]

/-- A request within a session that the port does not have. -/
theorem session_of_none (f : Session → State → State)
    (h : s.sec.sessions.find? (fun x => x.id == id && x.port == p) = none) :
    spdm p (inSession p id f) s = .next (emit (.doe p "ERROR_INVALID_SESSION" [id]) s) := by
  rw [spdm_of_ready hserves _ hready, inSession_of_none f h]

section
variable {x : Session} (hfound : s.sec.sessions.find? (fun x => x.id == id && x.port == p) = some x)
include hfound

theorem exec_finish_right : exec (.finish p id true) s =
    .next (emit (.doe p "FINISH_RSP" [id]) (onSession id (fun y => { y with established := true }) s)) :=
  session_of_found hserves hready _ hfound

theorem exec_finish_wrong : exec (.finish p id false) s = .next (emit (.doe p "ERROR_DECRYPT" [id]) s) :=
  session_of_found hserves hready _ hfound

theorem exec_endSession_of_found : exec (.endSession p id) s = .next (emit (.doe p "END_SESSION_ACK" [id])
    (onSec (fun y => { y with sessions := y.sessions.filter (·.id != id) }) s)) :=
  session_of_found hserves hready _ hfound

variable (hest : x.established = true)
include hest

theorem exec_heartbeat_of_established : exec (.heartbeat p id) s = .next (emit (.doe p "HEARTBEAT_ACK" [id]) s) :=
  (session_of_found hserves hready _ hfound).trans (by simp only [hest, if_true, doe])

theorem exec_keyUpdate_of_established : exec (.keyUpdate p id) s =
    .next (emit (.doe p "KEY_UPDATE_ACK" [id]) (onSession id (fun y => { y with updates := y.updates + 1 }) s)) :=
  (session_of_found hserves hready _ hfound).trans (congrArg Host.Outcome.next (if_pos hest))

end

/-! ### IDE streams (R106, R107) -/

/-- The stream of a port is established with keys newly drawn. -/
def streamKeyed (p : Nat) (mem : Bool) (x : Stream) (s : State) : State :=
  onSec (fun y => if mem then { y with ideMem := tblPut y.ideMem p x } else { y with ideIo := tblPut y.ideIo p x }) (drawKey s).2

theorem exec_ideKm_outside (mem skid : Bool) : exec (.ideKm p mem skid none) s =
    .next (emit (.doe p "IDE_KM_ACK" []) (streamKeyed p mem ⟨true, false, skid && mem, s.sec.draws⟩ s)) := by
  change execIdeKm p mem skid none s = _
  exact spdm_of_ready hserves _ hready

theorem exec_ideKm_within (mem skid : Bool) (h : ∃ x ∈ s.sec.sessions, x.id = id ∧ x.port = p ∧ x.established = true) :
    exec (.ideKm p mem skid (some id)) s =
      .next (emit (.doe p "IDE_KM_ACK" []) (streamKeyed p mem ⟨true, true, skid && mem, s.sec.draws⟩ s)) := by
  have hknown : (s.sec.sessions.any fun x => x.id == id && x.port == p && x.established) = true := by
    simpa [List.any_eq_true, and_assoc] using h
  change execIdeKm p mem skid (some id) s = _
  rw [execIdeKm, spdm_of_ready hserves _ hready]
  simp only [Option.map_some, hknown]
  rfl

end
end

theorem spdmSessions : Claims.SpdmSessions := by
  refine fun s p id hserves hready => ⟨exec_keyExchange_of_room hserves hready, exec_keyExchange_of_full hserves hready,
    fun x hfound => ⟨exec_finish_right hserves hready hfound, exec_finish_wrong hserves hready hfound,
      fun hest => ⟨exec_heartbeat_of_established hserves hready hfound hest, exec_keyUpdate_of_established hserves hready hfound hest⟩,
      exec_endSession_of_found hserves hready hfound⟩,
    fun hnone => ?_, fun skid => ⟨?_, ?_, fun hin => ?_⟩⟩
  · simp only [List.forall_mem_cons]
    exact ⟨show execFinish p id true s = _ from session_of_none hserves hready _ hnone,
      show execHeartbeat p id s = _ from session_of_none hserves hready _ hnone,
      show execKeyUpdate p id s = _ from session_of_none hserves hready _ hnone,
      show execEndSession p id s = _ from session_of_none hserves hready _ hnone, List.forall_mem_nil _⟩
  · rw [exec_ideKm_outside hserves hready true skid, Bool.and_true]
    rfl
  · rw [exec_ideKm_outside hserves hready false skid, Bool.and_false]
    rfl
  · rw [exec_ideKm_within hserves hready true skid hin, Bool.and_true]
    rfl

/-- Settles O58: each request by whether the DRBG is ready, one within a session also by whether the port has that session. -/
theorem spdmCommands : Obligations.SpdmCommands := ⟨spdmReports, spdmSessions⟩

end Sys2Proof.Machine

/-! SUPPORT. Ownership: the path of a write that every master may make, what a change of owner does, and each command in the case in
which it acts. -/

namespace Sys2Proof.Machine

open Sys2Proof

-- One proof after the other: side by side they would take the compile past the memory it may use.
set_option Elab.async false

/-! ### Registers above one that is written -/

/-- Deleting a key leaves what every greater key finds, whatever the order of the table. -/
theorem tblFind_del_above {α : Type} (t : Tbl α) {k j : Nat} (h : k < j) : tblFind (tblDel t k) j = tblFind t j := by
  induction t with
  | nil => rfl
  | cons c t ih =>
    simp only [tblDel]
    split
    · rfl
    · split
      next hik => simp only [tblFind, hik, if_neg h.ne, if_neg h.not_gt]
      next => simp only [tblFind, ih]

theorem tblFind_set_above {α : Type} [DecidableEq α] (d : α) (t : Tbl α) {k j : Nat} (v : α) (h : k < j) :
    tblFind (tblSet d t k v) j = tblFind t j := by
  unfold tblSet
  split
  · exact tblFind_del_above t h
  · exact tblFind_put_other t v h.ne'

theorem regOf_putReg_above (x : Io) {off j : Nat} (w : Word) (h : off < j) : regOf (putReg x off w) j = regOf x j := by
  simp only [regOf, putReg, tblGet, tblFind_set_above _ _ _ h]

/-! ### The reserved bits that the -EX keeps (R6) -/

section
variable (off w : Nat) (s : State)

theorem keepRsv_io : ∃ x : Io, keepRsv off w s = { s with io := x } ∧ x.assign = s.io.assign ∧ ∀ j, off < j → regOf x j = regOf s.io j := by
  unfold keepRsv
  split
  · exact ⟨_, rfl, rfl, fun _ => regOf_putReg_above _ _⟩
  · exact ⟨s.io, rfl, rfl, fun _ _ => rfl⟩

@[simp] theorem keepRsv_mgt : (keepRsv off w s).mgt = s.mgt := by
  obtain ⟨x, hx, -⟩ := keepRsv_io off w s
  rw [hx]

@[simp] theorem keepRsv_tb : (keepRsv off w s).tb = s.tb := by
  obtain ⟨x, hx, -⟩ := keepRsv_io off w s
  rw [hx]

@[simp] theorem ownLive_keepRsv : ownLive (keepRsv off w s) = ownLive s := by
  obtain ⟨x, hx, -⟩ := keepRsv_io off w s
  rw [hx]
  rfl

@[simp] theorem isOwner_keepRsv (m : Master) : isOwner (keepRsv off w s) m = isOwner s m := by
  rw [isOwner, keepRsv_mgt, isOwner]

theorem keepRsv_of_production (h : s.part ≠ .ex) : keepRsv off w s = s := if_neg h

variable {off} (hoff : off < Reg.MGT_OWN_CFG)
include hoff

/-- OWN_CFG stands above the registers of ownership commands. -/
theorem ownCfg_keepRsv (hi lo : Nat) : fld (keepRsv off w s) Reg.MGT_OWN_CFG hi lo = fld s Reg.MGT_OWN_CFG hi lo := by
  obtain ⟨x, hx, -, hregs⟩ := keepRsv_io off w s
  rw [hx, fld, fld, fldOf, fldOf, hregs _ hoff]

theorem mayOwn_keepRsv (m : Master) : mayOwn (keepRsv off w s) m = mayOwn s m := by
  have hassign : (keepRsv off w s).io.assign = s.io.assign := by
    obtain ⟨x, hx, hassign, -⟩ := keepRsv_io off w s
    rw [hx]
    exact hassign
  simp only [mayOwn, ownCfg_keepRsv w s hoff, assignWord, hassign]

end

/-! ### The path of a write that every master may make (R578) -/

theorem freeReg_facts : ∀ off ∈ [Reg.MGT_OWN_CLAIM, Reg.MGT_OWN_HB, Reg.MGT_OWN_YIELD],
    off < 0x400000 ∧ off % 4 = 0 ∧ freeReg off = true ∧ ∀ part, absentReg part off = false := by
  have hparts : ∀ off ∈ [Reg.MGT_OWN_CLAIM, Reg.MGT_OWN_HB, Reg.MGT_OWN_YIELD],
      absentReg .px off = false ∧ absentReg .pm off = false ∧ absentReg .ex off = false := by decide
  intro off hoff
  obtain ⟨hpx, hpm, hex⟩ := hparts off hoff
  have hplain : ∀ off ∈ [Reg.MGT_OWN_CLAIM, Reg.MGT_OWN_HB, Reg.MGT_OWN_YIELD],
      off < 0x400000 ∧ off % 4 = 0 ∧ freeReg off = true := by decide
  obtain ⟨hlt, hal, hfree⟩ := hplain off hoff
  exact ⟨hlt, hal, hfree, fun part => by cases part <;> assumption⟩

section
variable {s : State} {m : Master} {w : Word} (hreach : reaches s m = true) (hnv : s.mgt.boot.nvDone = true)
include hreach hnv

theorem regPut_of_free {off : Nat} (hoff : off ∈ [Reg.MGT_OWN_CLAIM, Reg.MGT_OWN_HB, Reg.MGT_OWN_YIELD]) :
    regPut m off w s = .next (freeWrite m off w.toNat s) := by
  obtain ⟨hlt, hal, hfree, habs⟩ := freeReg_facts off hoff
  have hfit : off + 4 ≤ 0x800000 := by omega
  have hwords : wordsOf off 4 w.toNat = some [(off, w.toNat)] := by
    simp [wordsOf, hal, Nat.not_le.mpr hlt, Nat.mod_eq_of_lt w.isLt]
  have hreg : regWrite m off 4 w.toNat s = (false, freeWrite m off w.toNat s) := by
    simp [regWrite, hnv, hwords, presentWords, habs, arbWrite, hfree, eachIn]
  rw [regPut, regCmd, hreach, decide_eq_true hfit, hreg, Bool.and_self, if_pos rfl]

theorem exec_ownClaim_of_whole (hwhole : hitsRsv Reg.MGT_OWN_CLAIM (regOf s.io Reg.MGT_OWN_CLAIM).toNat w.toNat = false) :
    exec (.ownClaim m w) s = .next (ownClaim m w.toNat (keepRsv Reg.MGT_OWN_CLAIM w.toNat s)) := by
  change regPut m Reg.MGT_OWN_CLAIM w s = _
  rw [regPut_of_free hreach hnv (by decide), freeWrite, tellRsv_of_no_hit hwhole]
  rfl

theorem exec_ownHb_of_whole (hwhole : hitsRsv Reg.MGT_OWN_HB (regOf s.io Reg.MGT_OWN_HB).toNat w.toNat = false) :
    exec (.ownHb m w) s = .next (ownHb m (keepRsv Reg.MGT_OWN_HB w.toNat s)) := by
  change regPut m Reg.MGT_OWN_HB w s = _
  rw [regPut_of_free hreach hnv (by decide), freeWrite, tellRsv_of_no_hit hwhole]
  rfl

theorem exec_ownYield_of_whole (hwhole : hitsRsv Reg.MGT_OWN_YIELD (regOf s.io Reg.MGT_OWN_YIELD).toNat w.toNat = false) :
    exec (.ownYield m w) s = .next (ownYield m w.toNat (keepRsv Reg.MGT_OWN_YIELD w.toNat s)) := by
  change regPut m Reg.MGT_OWN_YIELD w s = _
  rw [regPut_of_free hreach hnv (by decide), freeWrite, tellRsv_of_no_hit hwhole]
  rfl

end

/-! ### A change of owner (R588) -/

section
variable {s : State} {o : Option Master} (prio : Nat)

theorem setOwner_of_changed (h : s.mgt.own.owner ≠ o) :
    setOwner o prio s = raise Ev.mgtOwnerChange (ownBits o) 0 (tally Ctr.MGT_OWNER_CHANGE 1 (onNv (fun n => { n with armed := none })
      (onOwn (fun w => { w with owner := o, prio := prio, handover := none, hbAt := s.tb, changes := (w.changes + 1) % 64 }) s))) :=
  if_neg h

theorem raise_tally_frame (i n : Nat) (e : Ev) (d u : Nat) (t : State) :
    ∃ x : Io, Tele t.io x ∧ raise e d u (tally i n t) = { t with io := x } := by
  refine ⟨(raise e d u (tally i n t)).io, (tally_tele i n t).trans (raise_tele e d u _), ?_⟩
  rw [raise_eq, tally_eq]

/-- A change is counted and reported, starts the new owner's heartbeat age, closes a handover and clears an arm of FACTORY. -/
theorem setOwner_frame (h : s.mgt.own.owner ≠ o) : ∃ x : Io, Tele s.io x ∧ setOwner o prio s = { s with
    io := x
    mgt := { s.mgt with
      own := { s.mgt.own with
        owner := o, prio := prio, handover := none, hbAt := s.tb, changes := (s.mgt.own.changes + 1) % 64 }
      nv := { s.mgt.nv with armed := none } } } := by
  rw [setOwner_of_changed prio h]
  obtain ⟨x, htele, hx⟩ := raise_tally_frame Ctr.MGT_OWNER_CHANGE 1 Ev.mgtOwnerChange (ownBits o) 0 (onNv (fun n => { n with armed := none })
    (onOwn (fun w => { w with owner := o, prio := prio, handover := none, hbAt := s.tb, changes := (w.changes + 1) % 64 }) s))
  exact ⟨x, htele, hx⟩

end

section
variable (s : State)

/-- Ownership that becomes vacant leaves no owner and no handover. -/
theorem vacate_own : (vacate s).mgt.own.owner = none ∧ (vacate s).mgt.own.handover = none := by
  unfold vacate
  by_cases h : s.mgt.own.owner = none
  · rw [setOwner, if_pos h]
    exact ⟨h, rfl⟩
  · obtain ⟨x, -, hx⟩ := setOwner_frame 0 h
    rw [hx]
    exact ⟨rfl, rfl⟩

theorem vacate_tb : (vacate s).tb = s.tb := by
  unfold vacate
  by_cases h : s.mgt.own.owner = none
  · rw [setOwner, if_pos h, onOwn_tb]
  · obtain ⟨x, -, hx⟩ := setOwner_frame 0 h
    rw [hx]

end

/-! ### Claims, heartbeats and yields (R587 to R590) -/

section
variable {s : State} {m : Master} {w : Nat}

section
variable (hid : w % 8 = m.id) (hprio : 0 < w / 256 % 256) (hallow : mayOwn s m = true) (hhand : s.mgt.own.handover = none)
include hid hprio hallow hhand

/-- What a claim under its own master ID, with a priority and leave to own, turns on while no handover is open. -/
theorem claimOk_eq : claimOk m (bitsOf w 2 0) (bitsOf w 15 8) s = match s.mgt.own.owner with
    | none => true
    | some o => o == m || (flag s Reg.MGT_OWN_CFG 6 && outranks m o (bitsOf w 15 8) s.mgt.own.prio) := by
  have hid' : (bitsOf w 2 0 == m.id) = true := by simpa [bitsOf] using hid
  have hprio' : (bitsOf w 15 8 != 0) = true := bne_iff_ne.mpr hprio.ne'
  simp only [claimOk, hid', hprio', hallow, hhand, Bool.true_and]
  cases s.mgt.own.owner <;> rfl

theorem ownClaim_of_vacant (hlive : ownLive s = true) (hvacant : s.mgt.own.owner = none) : ownClaim m w s = setOwner (some m) (w / 256 % 256) s := by
  have hok := claimOk_eq hid hprio hallow hhand
  rw [hvacant] at hok
  exact (if_neg (not_not.mpr hlive)).trans (if_pos hok)

theorem ownClaim_of_outranked (hlive : ownLive s = true) {o : Master} (howner : s.mgt.own.owner = some o) (hother : o ≠ m)
    (hfixed : flag s Reg.MGT_OWN_CFG 6 = false) : ownClaim m w s = ownRefuse s := by
  have hok := claimOk_eq hid hprio hallow hhand
  rw [howner] at hok
  have hrefused : ¬ claimOk m (bitsOf w 2 0) (bitsOf w 15 8) s := by simp [hok, hother, hfixed]
  exact (if_neg (not_not.mpr hlive)).trans (if_neg hrefused)

end

section
variable (hlive : ownLive s = true)
include hlive

section
variable (howner : isOwner s m = true)
include howner

theorem ownHb_of_owner : ownHb m s = onOwn (fun o => { o with hbAt := s.tb }) s :=
  if_pos (by simp [hlive, howner])

theorem ownYield_of_vacating (hbit : w / 8 % 2 = 1) : ownYield m w s = vacate s :=
  (if_neg (not_not.mpr hlive)).trans ((if_neg (not_not.mpr howner)).trans (if_pos hbit))

theorem ownYield_of_named {h : Master} (hbit : w / 8 % 2 = 0) (hname : masterOf (w % 8) = some h) (hother : h ≠ m)
    (hallow : mayOwn s h = true) : ownYield m w s = onOwn (fun o => { o with handover := some (h, s.tb) }) s := by
  have hbits : bitsOf w 3 3 = 0 := hbit
  have hname' : masterOf (bitsOf w 2 0) = some h := by simpa [bitsOf] using hname
  simp only [ownYield, hlive, howner, hbits, hname', hother, hallow, not_true_eq_false, if_false, Nat.zero_ne_one, ne_eq,
    not_false_eq_true, and_self, if_true]

end

theorem exec_ownerLapse_of_owned (howned : s.mgt.own.owner ≠ none) :
    exec .ownerLapse s = .next (raise Ev.mgtOwnerLapse 0 0 (vacate (until_ (s.mgt.own.hbAt + 300000000) s))) := by
  have hsome : s.mgt.own.owner.isSome = true := Option.isSome_iff_ne_none.mpr howned
  exact if_pos (by rw [hlive, hsome]; rfl)

theorem exec_handoverTimeout_of_open {h : Master} {t : Nat} (hopen : s.mgt.own.handover = some (h, t)) :
    exec .handoverTimeout s = .next (raise Ev.mgtHandoverFail 0 0 (vacate (until_ (t + 10000000) s))) := by
  change execHandoverTimeout s = _
  simp only [execHandoverTimeout, hopen, hlive, if_true]

end

end

/-- Settles O30: each command is a write that every master may make, or a time limit. What the -EX keeps of a word's reserved bits lies in
the register written, below OWN_CFG, so it decides nothing. -/
theorem ownershipCommands : Obligations.OwnershipCommands := by
  intro s m w hreach hnv hpst
  have hlive : ownLive s = true := by simpa [ownLive] using hpst
  have hlive' (off : Nat) : ownLive (keepRsv off w.toNat s) = true := (ownLive_keepRsv ..).trans hlive
  refine ⟨fun hwhole hid hprio hallow => ⟨fun hvacant hhand => ?_, fun o howner hother hhand hfixed => ?_⟩,
    fun howner => ⟨fun hwhole => ?_, fun hwhole hbit => ?_, fun h hwhole hbit hname hother hallow => ?_⟩,
    fun howned => ?_, fun h a hopen => ?_⟩
  · have hallow' := (mayOwn_keepRsv (off := Reg.MGT_OWN_CLAIM) w.toNat s (by decide) m).trans hallow
    obtain ⟨x, hx, -⟩ := keepRsv_io Reg.MGT_OWN_CLAIM w.toNat s
    have hnone : (keepRsv Reg.MGT_OWN_CLAIM w.toNat s).mgt.own.owner = none := by rw [keepRsv_mgt, hvacant]
    have hchange : (keepRsv Reg.MGT_OWN_CLAIM w.toNat s).mgt.own.owner ≠ some m := by rw [hnone]; exact nofun
    obtain ⟨y, htele, hy⟩ := setOwner_frame (w.toNat / 256 % 256) hchange
    refine ⟨_, (exec_ownClaim_of_whole hreach hnv hwhole).trans
      (congrArg _ ((ownClaim_of_vacant hid hprio hallow' (by rw [keepRsv_mgt, hhand]) (hlive' _) hnone).trans hy)), ?_⟩
    rw [hx]
    refine ⟨rfl, rfl, rfl, rfl, rfl, fun hio hprod => ?_⟩
    rw [keepRsv_of_production _ _ _ hprod] at htele
    exact htele.quiet hio
  · have hallow' := (mayOwn_keepRsv (off := Reg.MGT_OWN_CLAIM) w.toNat s (by decide) m).trans hallow
    have hfixed' : flag (keepRsv Reg.MGT_OWN_CLAIM w.toNat s) Reg.MGT_OWN_CFG 6 = false := by
      rw [flag, ownCfg_keepRsv w.toNat s (by decide)]
      exact hfixed
    rw [exec_ownClaim_of_whole hreach hnv hwhole, ownClaim_of_outranked hid hprio hallow' (by rw [keepRsv_mgt, hhand])
      (hlive' _) (by rw [keepRsv_mgt, howner]) hother hfixed', ownRefuse]
  · rw [exec_ownHb_of_whole hreach hnv hwhole, ownHb_of_owner (hlive' _) ((isOwner_keepRsv ..).trans howner), keepRsv_tb]
  · refine ⟨_, exec_ownYield_of_whole hreach hnv hwhole, ?_⟩
    rw [ownYield_of_vacating (hlive' _) ((isOwner_keepRsv ..).trans howner) hbit]
    exact vacate_own _
  · rw [exec_ownYield_of_whole hreach hnv hwhole, ownYield_of_named (hlive' _) ((isOwner_keepRsv ..).trans howner) hbit hname hother
      ((mayOwn_keepRsv w.toNat s (by decide) h).trans hallow), keepRsv_tb]
  · obtain ⟨hnone, -⟩ := vacate_own (until_ (s.mgt.own.hbAt + 300000000) s)
    refine ⟨_, exec_ownerLapse_of_owned hlive howned, ?_, ?_⟩
    · rw [raise_mgt, hnone]
    · rw [raise_tb, vacate_tb]
      rfl
  · obtain ⟨hnone, hclosed⟩ := vacate_own (until_ (a + 10000000) s)
    refine ⟨_, exec_handoverTimeout_of_open hlive hopen, ?_, ?_, ?_⟩
    · rw [raise_mgt, hnone]
    · rw [raise_mgt, hclosed]
    · rw [raise_tb, vacate_tb]
      rfl

end Sys2Proof.Machine

/-! SUPPORT. KEY_ESCROW and the commands of an SPDM session: what counting leaves of the assignment table, the trailer, and each command
in the case in which it acts. -/

namespace Sys2Proof.Machine

open Sys2Proof

-- One proof after the other: side by side they would take the compile past the memory it may use.
set_option Elab.async false

/-! ### The assignment table under telemetry -/

/-- SEC.ASSIGN and the enclave sets are in y as they are in x. -/
structure SameAssign (x y : Io) : Prop where
  assign_eq : y.assign = x.assign
  eset_eq : y.eset = x.eset

theorem SameAssign.refl (x : Io) : SameAssign x x := ⟨rfl, rfl⟩

theorem SameAssign.trans {x y z : Io} (h : SameAssign x y) (k : SameAssign y z) : SameAssign x z :=
  ⟨k.assign_eq.trans h.assign_eq, k.eset_eq.trans h.eset_eq⟩

/-- A step that changes other fields, before another. -/
theorem SameAssign.pre {x y z : Io} (k : SameAssign y z) (h : y.assign = x.assign) (h2 : y.eset = x.eset) : SameAssign x z :=
  (SameAssign.mk h h2).trans k

theorem SameAssign.assignWord_eq {x y : Io} (h : SameAssign x y) (i : Nat) : assignWord y i = assignWord x i := by
  rw [assignWord, h.assign_eq, assignWord]

theorem SameAssign.inSet_eq {x y : Io} (h : SameAssign x y) (n e : Nat) : inSet y n e = inSet x n e := by
  simp only [inSet, h.eset_eq]

theorem sameAssign_fold {α : Type} (f : Io → α → Io) (l : List α) (x : Io) (h : ∀ y a, SameAssign y (f y a)) :
    SameAssign x (l.foldl f x) := by
  induction l generalizing x with
  | nil => exact .refl x
  | cons a l ih => exact (h x a).trans (ih _)

theorem rcAdd_sameAssign (off hi lo n : Nat) (x : Io) : SameAssign x (rcAdd off hi lo n x) := by
  have hpage (y : Io) (page bit : Nat) : SameAssign y (setPgSts y page bit) := by
    unfold setPgSts
    split
    · exact .refl y
    · dsimp only
      split <;> exact ⟨rfl, rfl⟩
  unfold rcAdd
  split
  · exact .refl x
  · dsimp only
    split
    · exact (hpage ..).pre rfl rfl
    · exact ⟨rfl, rfl⟩

theorem count_sameAssign (i n : Nat) (x : Io) : SameAssign x (count i n x) := by
  have hsamp : SameAssign x (sampCount i n x) := by
    unfold sampCount
    split
    · dsimp only
      split <;> exact ⟨rfl, rfl⟩
    · exact .refl x
  unfold count
  split
  · dsimp only
    split
    · exact hsamp.trans ⟨rfl, rfl⟩
    · exact hsamp.trans ((rcAdd_sameAssign ..).pre rfl rfl)
  · exact .refl x

theorem signal_sameAssign (v : IoEnv) (p n e : Nat) (x : Io) : SameAssign x (signal v p n e x) := by
  have hsend (w : Vec) : SameAssign x (sendVec v p n w x) := (count_sameAssign ..).pre rfl rfl
  unfold signal
  split
  · exact .refl x
  · dsimp only
    split
    · exact ⟨rfl, rfl⟩
    · split
      · exact hsend _
      · split
        · exact hsend _
        · exact ⟨rfl, rfl⟩

theorem signalPorts_sameAssign (v : IoEnv) (ports n e : Nat) (x : Io) : SameAssign x (signalPorts v ports n e x) := by
  refine sameAssign_fold _ _ _ fun y p => ?_
  split
  · exact signal_sameAssign ..
  · exact .refl y

theorem route_sameAssign (v : IoEnv) (code : Nat) (sev : Sev) (encl : Nat) (x : Io) : SameAssign x (route v code sev encl x) := by
  unfold route
  extract_lets m io
  have hio : SameAssign x io := by
    unfold io
    split
    · exact signalPorts_sameAssign ..
    · exact .refl x
  split
  · exact hio.trans ⟨rfl, rfl⟩
  · exact hio

theorem qStore_sameAssign (v : IoEnv) (e : Ev) (d u n : Nat) (x : Io) : SameAssign x (qStore v e d u n x) :=
  (route_sameAssign ..).pre rfl rfl

theorem qDisplace_sameAssign (q : QEntry) (x : Io) : SameAssign x (qDisplace q x) := by
  have hcount : SameAssign x (count Ctr.EVT_DISPLACED 1 (rcAdd Reg.EVT_DROP 31 24 1 { x with q := qDrop x.q q.seq })) :=
    ((rcAdd_sameAssign ..).trans (count_sameAssign ..)).pre rfl rfl
  unfold qDisplace
  dsimp only
  split
  · exact hcount.trans ⟨rfl, rfl⟩
  · exact hcount

theorem qLose_sameAssign (e : Ev) (x : Io) : SameAssign x (qLose e x) := by
  have hdrop (hi lo : Nat) : SameAssign x (rcAdd Reg.EVT_DROP hi lo 1 (count Ctr.EVT_DROP 1 x)) :=
    (count_sameAssign ..).trans (rcAdd_sameAssign ..)
  unfold qLose
  dsimp only
  split
  · exact (hdrop 7 0).trans ⟨rfl, rfl⟩
  · exact (hdrop 15 8).trans ⟨rfl, rfl⟩
  · exact (hdrop 23 16).trans ⟨rfl, rfl⟩
  · exact count_sameAssign ..

/-- An event that is not Critical, as every event is that EVT itself owes. -/
theorem arrive_sameAssign (v : IoEnv) {e : Ev} (d u n : Nat) (x : Io) (h : e.sev ≠ .critical) : SameAssign x (arrive v e d u n x) := by
  have hplace (y : Io) : SameAssign y (arriveNonCrit v e d u n y) := by
    unfold arriveNonCrit
    split
    · exact qStore_sameAssign ..
    · split
      · exact (qDisplace_sameAssign ..).trans (qStore_sameAssign ..)
      · exact qLose_sameAssign ..
  unfold arrive
  split
  · contradiction
  all_goals exact (count_sameAssign ..).trans (hplace _)

theorem flush_sameAssign (v : IoEnv) (x : Io) : SameAssign x (flush v x) := by
  have hround (y : Io) : SameAssign y (dueRound v y) := by
    refine (sameAssign_fold _ y.due { y with due := [] } fun z d => ?_).pre rfl rfl
    split
    · exact arrive_sameAssign _ _ _ _ _ (by decide)
    · dsimp only
      split
      · exact signalPorts_sameAssign ..
      · exact (signalPorts_sameAssign ..).trans ((arrive_sameAssign _ _ _ _ _ (by decide)).pre rfl rfl)
  have hloss (y : Io) : SameAssign y (lossTry v y) := by
    unfold lossTry
    split
    · exact ((count_sameAssign ..).trans (qStore_sameAssign ..)).pre rfl rfl
    · exact .refl y
  exact (((hround x).trans (hround _)).trans (hround _)).trans (hloss _)

theorem tally_sameAssign (i n : Nat) (s : State) : SameAssign s.io (tally i n s).io := by
  rw [tally_io]
  exact (count_sameAssign ..).trans (flush_sameAssign ..)

/-! ### The trailer of a command (R551, R558) -/

theorem trailed_mailed {s : State} {p : Nat} {tr : Trailer} (h : Claims.Trailed s p tr) : Claims.Trailed (Claims.mailed s) p tr := by
  simp only [Claims.Trailed, bindingNames, bindingOf, Claims.mailed, tally_sec]
  exact h

theorem takeTrailer_of_trailed {s : State} {p : Nat} {tr : Trailer} (h : Claims.Trailed s p tr) :
    takeTrailer p tr s = (some tr.encl, Claims.trailed tr s) := by
  obtain ⟨hmac, ⟨x, hx, hid, hport, hest, hseq⟩, hbind⟩ := h
  have hany : s.sec.sessions.any (fun x => x.id == tr.session && x.port == p && x.established && decide (x.lastSeq < tr.seq)) = true :=
    List.any_eq_true.mpr ⟨x, hx, by simp [hid, hport, hest, hseq]⟩
  have hok : trailerOk s p tr = true := by rw [trailerOk, hmac, hany, Bool.and_self]
  exact (if_pos hok).trans (if_pos hbind)

theorem takeTrailer_of_badMac {p : Nat} {tr : Trailer} (s : State) (h : tr.macOk = false) :
    takeTrailer p tr s = (none, raise Ev.spdmAuthFail 0 p (tally Ctr.SEC_AUTH_FAIL 1 s)) :=
  if_neg (by simp [trailerOk, h])

theorem keyCmd_of_trailed {s : State} {p : Nat} {tr : Trailer} (opc : Nat) (f : State → State) (h : Claims.Trailed s p tr)
    (hready : s.sec.ready = true) : keyCmd p opc tr f s = f (Claims.trailed tr s) := by
  rw [keyCmd, takeTrailer_of_trailed h]
  exact if_pos hready

theorem keyCmd_of_badMac {p : Nat} {tr : Trailer} (opc : Nat) (f : State → State) (s : State) (h : tr.macOk = false) :
    keyCmd p opc tr f s = mboxDone p opc "ENCLAVE_DENIED" [] (raise Ev.spdmAuthFail 0 p (tally Ctr.SEC_AUTH_FAIL 1 s)) := by
  rw [keyCmd, takeTrailer_of_badMac s h]

/-! ### What the counted and authenticated state keeps -/

section
variable (s : State) (tr : Trailer)

/-- Counting changes telemetry, the trailer its session's SEQ. -/
theorem trailed_mailed_eq : ∃ x : Io, SameAssign s.io x ∧ Claims.trailed tr (Claims.mailed s) = { s with
    io := x
    sec := { s.sec with
      sessions := s.sec.sessions.map fun y => if y.id = tr.session then { y with lastSeq := tr.seq } else y } } := by
  obtain ⟨x, hassign, hx⟩ : ∃ x : Io, SameAssign s.io x ∧ Claims.mailed s = { s with io := x } :=
    ⟨(tally Ctr.HPT_MBOX_CMD 1 s).io, tally_sameAssign _ _ s, tally_eq _ _ s⟩
  rw [hx]
  exact ⟨x, hassign, rfl⟩

@[simp] theorem trailed_mailed_mgt : (Claims.trailed tr (Claims.mailed s)).mgt = s.mgt := by
  obtain ⟨x, -, hx⟩ := trailed_mailed_eq s tr
  rw [hx]

@[simp] theorem trailed_mailed_med : (Claims.trailed tr (Claims.mailed s)).med = s.med := by
  obtain ⟨x, -, hx⟩ := trailed_mailed_eq s tr
  rw [hx]

@[simp] theorem trailed_mailed_tb : (Claims.trailed tr (Claims.mailed s)).tb = s.tb := by
  obtain ⟨x, -, hx⟩ := trailed_mailed_eq s tr
  rw [hx]

@[simp] theorem trailed_mailed_sec : (Claims.trailed tr (Claims.mailed s)).sec = { s.sec with
    sessions := s.sec.sessions.map fun y => if y.id = tr.session then { y with lastSeq := tr.seq } else y } := by
  obtain ⟨x, -, hx⟩ := trailed_mailed_eq s tr
  rw [hx]

@[simp] theorem portCount_trailed_mailed : portCount (Claims.trailed tr (Claims.mailed s)) = portCount s := by
  obtain ⟨x, -, hx⟩ := trailed_mailed_eq s tr
  rw [hx]
  rfl

@[simp] theorem opRuns_trailed_mailed (p opc : Nat) : opRuns (Claims.trailed tr (Claims.mailed s)) p opc = opRuns s p opc := by
  obtain ⟨x, -, hx⟩ := trailed_mailed_eq s tr
  rw [hx]
  rfl

@[simp] theorem enclaveBusy_trailed_mailed (p opc id : Nat) :
    enclaveBusy (Claims.trailed tr (Claims.mailed s)) p opc id = enclaveBusy s p opc id := by
  obtain ⟨x, -, hx⟩ := trailed_mailed_eq s tr
  rw [hx]
  rfl

@[simp] theorem areaEscrow_trailed_mailed : areaEscrow (Claims.trailed tr (Claims.mailed s)) = areaEscrow s := by
  obtain ⟨x, -, hx⟩ := trailed_mailed_eq s tr
  rw [hx]
  rfl

@[simp] theorem newRanges_trailed_mailed (id : Nat) (rs : List (Nat × Nat)) :
    newRanges (Claims.trailed tr (Claims.mailed s)) id rs = newRanges s id rs := by
  obtain ⟨x, -, hx⟩ := trailed_mailed_eq s tr
  rw [hx]
  rfl

theorem trailed_mailed_sameAssign : SameAssign s.io (Claims.trailed tr (Claims.mailed s)).io := by
  obtain ⟨x, hassign, hx⟩ := trailed_mailed_eq s tr
  rw [hx]
  exact hassign

/-- Enclave bindings turn on the assignment of their port. -/
@[simp] theorem mayBind_trailed_mailed (id : Nat) (b : Nat × Nat) : mayBind (Claims.trailed tr (Claims.mailed s)) id b = mayBind s id b := by
  have h := trailed_mailed_sameAssign s tr
  simp only [mayBind, h.assignWord_eq, h.inSet_eq, portCount_trailed_mailed, trailed_mailed_sec]

end

/-- The members depend on the labels found alone. -/
theorem members_of_med {s u : State} (h : u.med = s.med) : members u = members s := by
  simp only [members, memberLabels, foundAll, h]

/-! ### Mailbox commands of the owner -/

@[simp] theorem mboxDone_sec (p opc : Nat) (status : String) (payload : List Byte) (s : State) :
    (mboxDone p opc status payload s).sec = s.sec := by
  unfold mboxDone
  split <;> rfl

theorem giveEntry_mgt_of_mbox {t : Txn} {n : Nat} (p : Pool) (s : State) (hsrc : t.src = .mbox n) : (giveEntry t p s).mgt = s.mgt := by
  simp only [giveEntry, hsrc, trkPeak, peak_mgt, onTxn, onCache_mgt]
  split
  · exact tally_mgt ..
  · rfl

/-- The entry of a background command leaves boot, retained settings and ownership. -/
@[simp] theorem cmdBegin_mgt (p opc : Nat) (s : State) : (cmdBegin p opc s).mgt = s.mgt := by
  unfold cmdBegin
  split
  · simp only [admitTxn]
    split
    · exact giveEntry_mgt_of_mbox _ _ rfl
    · rfl
  · rfl

section
variable {s : State} {p : Nat} {tr : Trailer} (howns : Claims.Owns s p)
include howns

/-- In Tamper-Lock the owner's mailbox takes the commands of start-up (R559). -/
theorem mbox_of_lockedOk {opc : Nat} {owner : Bool} (f : State → State) (hserves : serves s p = true) (hmode : s.mgt.boot.mode ≠ 2)
    (hopc : lockedOk opc = true) : mbox p opc owner f s = .next (f (Claims.mailed s)) := by
  obtain ⟨howner, hhand⟩ := howns
  have hdeny : mboxDeny p opc owner (tally Ctr.HPT_MBOX_CMD 1 s) = none := by
    simp [mboxDeny, hmode, hopc, hhand, isOwner, beq_iff_eq.mp howner]
  simp [mbox, hserves, hdeny, Claims.mailed]

variable (hmail : Claims.Mail s p)
include hmail

theorem mbox_keyCmd_of_trailed {opc : Nat} (f : State → State) (htr : Claims.Trailed s p tr) (hready : s.sec.ready = true) :
    mbox p opc true (keyCmd p opc tr f) s = .next (f (Claims.trailed tr (Claims.mailed s))) := by
  have hready' : (Claims.mailed s).sec.ready = true := by rw [Claims.mailed, tally_sec, hready]
  rw [mbox_of_owner _ hmail howns, keyCmd_of_trailed opc f (trailed_mailed htr) hready']

/-! ### Enclaves (R552 to R554) -/

theorem exec_enclaveCreate_of_fresh {id : Nat} {ranges binds rs : List (Nat × Nat)} (htr : Claims.Trailed s p tr) (hready : s.sec.ready = true)
    (hlo : 0 < id) (hhi : id < 1024) (hranges : ranges.length ≤ 16) (hbinds : binds.length ≤ 16)
    (hfree : enclaveBusy s p Mb.create id = false) (hnew : newRanges s id ranges = .ok rs) (hmay : ∀ b ∈ binds, mayBind s id b = true) :
    let u := enclaveKey id (Claims.trailed tr (Claims.mailed s))
    let u := onSec (fun x => { x with
      ranges := ((freeRanges u rs.length).zip rs).foldl (fun t e => tblPut t e.1 ⟨e.2.1, e.2.2, id, .creating⟩) x.ranges }) u
    exec (.enclaveCreate p id ranges binds 0 tr) s = .next (enclaveOp p Mb.create id id
      (rs.map fun r => (16 * r.1, 16 * (r.2 + 1))) (binds.map fun b => 4 * b.1 + b.2) u) := by
  have hvalid : ¬ (id = 0 ∨ 1023 < id ∨ 16 < ranges.length ∨ 16 < binds.length ∨ 0 ≠ 0) := by omega
  change execEnclaveCreate p id ranges binds 0 tr s = _
  have hall : binds.all (mayBind (Claims.trailed tr (Claims.mailed s)) id) = true := by
    rw [List.all_eq_true]
    exact fun b hb => (mayBind_trailed_mailed ..).trans (hmay b hb)
  rw [execEnclaveCreate, mbox_keyCmd_of_trailed howns hmail _ htr hready, if_neg hvalid, enclaveBusy_trailed_mailed, hfree,
    if_neg Bool.false_ne_true, newRanges_trailed_mailed, hnew]
  exact congrArg _ (if_neg (not_not.mpr hall))

theorem exec_enclaveDestroy_of_idle {id : Nat} (htr : Claims.Trailed s p tr) (hlo : 0 < id) (hhi : id < 1024)
    (hfree : enclaveBusy s p Mb.destroy id = false) (hany : s.sec.ranges.any (·.2.encl == id) = true) :
    exec (.enclaveDestroy p id 0 tr) s = .next (enclaveOp p Mb.destroy id 0
      ((s.sec.ranges.filter (·.2.encl == id)).map fun r => (16 * r.2.base, 16 * (r.2.last + 1))) []
      (onRanges id (fun r => some { r with st := .destroying })
        (onSec (fun x => { x with binds := tblFilter (fun _ e => e != id) x.binds }) (Claims.trailed tr (Claims.mailed s))))) := by
  have hvalid : ¬ (id = 0 ∨ 1023 < id ∨ 0 ≠ 0) := by omega
  have hmine : (s.sec.ranges.filter (·.2.encl == id)).isEmpty = false := by
    obtain ⟨r, hr, hid⟩ := List.any_eq_true.mp hany
    exact List.isEmpty_eq_false_iff.mpr (List.ne_nil_of_mem (List.mem_filter.mpr ⟨hr, hid⟩))
  change execEnclaveDestroy p id 0 tr s = _
  rw [execEnclaveDestroy, mbox_of_owner _ hmail howns, takeTrailer_of_trailed (trailed_mailed htr)]
  simp only [trailed_mailed_sec, hmine, hfree, enclaveBusy_trailed_mailed, if_neg hvalid, Bool.false_eq_true, false_and, if_false]

/-! ### Media keys and the assignment table (R343, R564) -/

theorem exec_keyRotate_of_idle {k : Nat} {x : MediaKey} (htr : Claims.Trailed s p tr) (hready : s.sec.ready = true)
    (hrot : s.med.jrnl.rot = none) (hidle : opRuns s p 0xC033 = false) (hkey : tblFind s.sec.media k = some x) :
    let g := (x.gen + 1) % 16
    let u := onJrnl (fun j => { j with rot := some ⟨k, x.gen, g, 0, false⟩ }) (onSec (fun y => { y with
      draws := y.draws + 1, gens := y.gens + 1, media := tblPut y.media k ⟨g, s.sec.draws, some (x.gen, x.tok)⟩ })
        (Claims.trailed tr (Claims.mailed s)))
    exec (.keyRotate p k tr) s = .next (awaitArea p 0xC033 k (writeArea (areaEscrow u) u).2) := by
  change execKeyRotate p k tr s = _
  rw [execKeyRotate, mbox_keyCmd_of_trailed howns hmail _ htr hready]
  obtain ⟨y, -, hy⟩ := trailed_mailed_eq s tr
  simp only [trailed_mailed_med, hrot, opRuns_trailed_mailed, hidle, trailed_mailed_sec, hkey, Option.isSome_none, Bool.false_eq_true,
    or_self, if_false]
  rw [hy]
  rfl

theorem exec_assignStage_of_room {items : List (Nat × Nat × Nat)} (htr : Claims.Trailed s p tr) (hne : items ≠ []) (hlen : items.length ≤ 64)
    (hitems : ∀ i ∈ items, (stageItem i).isSome = true) (hjob : s.mgt.nv.job = none)
    (hroom : (bankSlots s s.mgt.nv.cur).length + items.length + 1 ≤ 6656)
    (hmanaged : ∃ q, q < portCount s ∧ nvGet ((items.filterMap stageItem).foldl
      (fun t r => nvRecord t (.change r.1 r.2.1 r.2.2)) (nvStored s)) (NvT.assign + q) % 4 = 0) :
    exec (.assignStage p items 0 tr) s = .next (onNv (fun n => { n with job := some (.store (items.filterMap stageItem) (some p)) })
      (cmdBegin p 0xC034 (Claims.trailed tr (Claims.mailed s)))) := by
  have hrecs : (items.filterMap stageItem).length = items.length := List.filterMap_length_eq_length.mpr hitems
  have hstored : nvStored (Claims.trailed tr (Claims.mailed s)) = nvStored s := by
    simp only [nvStored, bankSlots, trailed_mailed_mgt]
  have hany : ((List.range (portCount s)).any fun q => nvGet ((items.filterMap stageItem).foldl
      (fun t r => nvRecord t (.change r.1 r.2.1 r.2.2)) (nvStored s)) (NvT.assign + q) % 4 == 0) = true := by
    obtain ⟨q, hq, hopen⟩ := hmanaged
    exact List.any_eq_true.mpr ⟨q, List.mem_range.mpr hq, beq_iff_eq.mpr hopen⟩
  have hslots : bankSlots (cmdBegin p 0xC034 (Claims.trailed tr (Claims.mailed s))) s.mgt.nv.cur = bankSlots s s.mgt.nv.cur :=
    bankSlots_of_mgt _ (by rw [cmdBegin_mgt, trailed_mailed_mgt])
  change execAssignStage p items 0 tr s = _
  rw [execAssignStage, mbox_of_owner _ hmail howns, takeTrailer_of_trailed (trailed_mailed htr)]
  simp only [hstored, portCount_trailed_mailed, hany, hrecs, List.isEmpty_eq_false_iff.mpr hne, Nat.not_lt.mpr hlen, ne_eq, not_true_eq_false,
    Bool.false_eq_true, or_self, if_false, nvBusy, trailed_mailed_mgt, hjob, Option.isSome_none]
  simp only [startStore, cmdBegin_mgt, trailed_mailed_mgt, hslots, hrecs, if_pos hroom]

end

theorem exec_denied_of_badMac {s : State} {p : Nat} {tr : Trailer} (id : Nat) (hmail : Claims.Mail s p) (howns : Claims.Owns s p)
    (hmac : tr.macOk = false) :
    ∀ c ∈ [Instr.enclaveCreate p id [] [] 0 tr, .enclaveDestroy p id 0 tr, .keyRotate p id tr, .assignStage p [] 0 tr],
      ∃ o, exec c s = .next (mboxDone p o "ENCLAVE_DENIED" [] (raise Ev.spdmAuthFail 0 p (tally Ctr.SEC_AUTH_FAIL 1 (Claims.mailed s)))) := by
  have hkey (opc : Nat) (f : State → State) : mbox p opc true (keyCmd p opc tr f) s = .next (mboxDone p opc "ENCLAVE_DENIED" []
      (raise Ev.spdmAuthFail 0 p (tally Ctr.SEC_AUTH_FAIL 1 (Claims.mailed s)))) := by
    rw [mbox_of_owner _ hmail howns, keyCmd_of_badMac opc f _ hmac]
  simp only [List.forall_mem_cons]
  refine ⟨⟨Mb.create, ?_⟩, ⟨Mb.destroy, ?_⟩, ⟨0xC033, ?_⟩, ⟨0xC034, ?_⟩, List.forall_mem_nil _⟩
  · change execEnclaveCreate p id [] [] 0 tr s = _
    rw [execEnclaveCreate, hkey]
  · change execEnclaveDestroy p id 0 tr s = _
    rw [execEnclaveDestroy, mbox_of_owner _ hmail howns, takeTrailer_of_badMac _ hmac]
  · change execKeyRotate p id tr s = _
    rw [execKeyRotate, hkey]
  · change execAssignStage p [] 0 tr s = _
    rw [execAssignStage, mbox_of_owner _ hmail howns, takeTrailer_of_badMac _ hmac]

theorem sessionCommands : Claims.SessionCommands := by
  intro s p id tr hmail howns
  exact ⟨fun htr hlo hhi => ⟨fun ranges binds rs hready hranges hbinds hfree hnew hmay =>
      exec_enclaveCreate_of_fresh howns hmail htr hready hlo hhi hranges hbinds hfree hnew hmay,
      fun hfree hany => exec_enclaveDestroy_of_idle howns hmail htr hlo hhi hfree hany⟩,
    fun k x htr hready hrot hidle hkey => exec_keyRotate_of_idle howns hmail htr hready hrot hidle hkey,
    fun items htr hne hlen hitems hjob hroom hmanaged =>
      exec_assignStage_of_room howns hmail htr hne hlen hitems hjob hroom hmanaged,
    fun hmac => exec_denied_of_badMac id hmail howns hmac⟩

/-! ### KEY_ESCROW (R543, R559, R560) -/

section
variable {s : State} {p key : Nat}

/-- The recorded key takes the area in force. -/
theorem unlockWith_of_match {a : Area} (hmembers : members s ≠ []) (harea : s.sec.area = some a) (hkey : a.escrow = key) :
    let v := cmdBegin p 0xC030 s
    unlockWith p key s = settle (bootPump (writeArea key { v with
      sec := { v.sec with
        draws := v.sec.draws + 1, gens := v.sec.gens + 1, root := some v.sec.draws, media := a.keys, ranges := a.ranges
        areaQ := [], areaA := [], areaB := [], unlock := some p } }).2) := by
  subst hkey
  simp only [unlockWith, List.isEmpty_eq_false_iff.mpr hmembers, harea, Bool.false_eq_true, if_false, ne_eq, not_true_eq_false, drawKey, onSec]

theorem unlockWith_of_mismatch {a : Area} (hmembers : members s ≠ []) (harea : s.sec.area = some a) (hkey : a.escrow ≠ key) :
    unlockWith p key s = escrowMismatch p s := by
  simp only [unlockWith, List.isEmpty_eq_false_iff.mpr hmembers, harea, Bool.false_eq_true, if_false, if_pos hkey]

@[simp] theorem escrowMismatch_sec : (escrowMismatch p s).sec = s.sec := by
  simp only [escrowMismatch, mboxDone_sec, raise_sec, onNv_sec]

/-- The fourth mismatch in succession begins a wait of 10 s, the fifth one of 20 s. -/
theorem escrowMismatch_nv : (escrowMismatch p s).mgt.nv = { s.mgt.nv with
    escFails := s.mgt.nv.escFails + 1
    escUntil := if s.mgt.nv.escFails < 3 then s.mgt.nv.escUntil
      else s.tb + 1000000000 * min 3600 (10 * 2 ^ (min 16 (s.mgt.nv.escFails - 3))) } := by
  have hcount : s.mgt.nv.escFails + 1 < 4 ↔ s.mgt.nv.escFails < 3 := Nat.succ_lt_succ_iff
  have hpast : s.mgt.nv.escFails + 1 - 4 = s.mgt.nv.escFails - 3 := Nat.succ_sub_succ _ 3
  simp only [escrowMismatch, mboxDone_mgt, raise_mgt, onNv_mgt_nv, hcount, hpast]

end

theorem exec_keyEscrowUnlock_of_ready {s : State} {p key : Nat} {tr : Trailer} (hserves : serves s p = true) (hmode : s.mgt.boot.mode ≠ 2)
    (howns : Claims.Owns s p) (hio : ioSecured s p = true) (htr : Claims.Trailed s p tr) (hlock : s.sec.lock ≠ 0) (hready : s.sec.ready = true)
    (hmedia : s.mgt.boot.mediaDone = true) (hwait : s.mgt.nv.escUntil ≤ s.tb) (hidle : s.sec.unlock = none) :
    exec (.keyEscrowUnlock p key [] tr) s =
      .next (unlockWith p key (onSec (fun x => { x with asserted := [] }) (Claims.trailed tr (Claims.mailed s)))) := by
  have hio' : ioSecured (Claims.mailed s) p = true := by
    rw [ioSecured, Claims.mailed, tally_sec]
    exact hio
  change execKeyEscrowUnlock p key [] tr s = _
  rw [execKeyEscrowUnlock, mbox_of_lockedOk howns _ hserves hmode (by decide), takeTrailer_of_trailed (trailed_mailed htr)]
  simp only [hio', onSec_sec, onSec_mgt, onSec_tb, trailed_mailed_sec, trailed_mailed_mgt, trailed_mailed_tb, hlock, hready, hmedia, hidle,
    Nat.not_lt.mpr hwait, List.isEmpty_nil, Option.isSome_none, Bool.false_eq_true, not_true_eq_false, or_self, if_false]

theorem exec_keyEscrowChange_of_match {s : State} {p key new : Nat} {tr : Trailer} (hmail : Claims.Mail s p) (howns : Claims.Owns s p)
    (hio : ioSecured s p = true) (htr : Claims.Trailed s p tr) (hready : s.sec.ready = true) (hwait : s.mgt.nv.escUntil ≤ s.tb)
    (hidle : opRuns s p 0xC030 = false) (harea : s.sec.area.isSome = true) (hkey : areaEscrow s = key) :
    exec (.keyEscrowChange p key new tr) s =
      .next (awaitArea p 0xC030 0 (writeArea new (escrowOk (Claims.trailed tr (Claims.mailed s)))).2) := by
  have hio' : ioSecured (Claims.mailed s) p = true := by
    rw [ioSecured, Claims.mailed, tally_sec]
    exact hio
  have hready' : (Claims.mailed s).sec.ready = true := by rw [Claims.mailed, tally_sec, hready]
  have hsome : s.sec.area.isNone = false := by rw [Option.isNone_eq_false_iff, harea]
  obtain ⟨-, -, hlock⟩ := id hmail
  change execKeyEscrowChange p key new tr s = _
  rw [execKeyEscrowChange, mbox_of_owner _ hmail howns]
  simp only [hio', keyCmd_of_trailed _ _ (trailed_mailed htr) hready', trailed_mailed_sec, trailed_mailed_mgt, trailed_mailed_tb, hlock,
    opRuns_trailed_mailed, hidle, hsome, areaEscrow_trailed_mailed, hkey, Nat.not_lt.mpr hwait, ne_eq, Bool.false_eq_true,
    not_true_eq_false, or_self, if_false]

/-- The write of the area that an UNLOCK waits for is complete. -/
theorem unlockStep_of_written {s : State} {p : Nat} (hunlock : s.sec.unlock = some p) (hdone : s.sec.areaQ = []) :
    unlockStep s = leaveLock (raise Ev.escrowUnlock 0 p (bgEnd p 0xC030 "SUCCESS" { s with
      sec := { s.sec with unlock := none }, mgt := { s.mgt with nv := { s.mgt.nv with escFails := 0, escUntil := 0 } } })) := by
  simp only [unlockStep, hunlock, hdone, List.isEmpty_nil, not_true_eq_false, if_false, bgEnd, escrowOk, onNv, onSec]

theorem keyEscrow : Claims.KeyEscrow := by
  refine ⟨fun s p key tr a hserves hmode howns hio htr hlock hready hmedia hwait hidle hmembers harea => ?_,
    fun s p => unlockStep_of_written,
    fun s p key new tr hmail howns hio htr hready hwait hidle harea hkey =>
      exec_keyEscrowChange_of_match hmail howns hio htr hready hwait hidle harea hkey,
    fun s hwait => ?_⟩
  · have hexec := exec_keyEscrowUnlock_of_ready (key := key) hserves hmode howns hio htr hlock hready hmedia hwait hidle
    have hmembers' : members (onSec (fun x => { x with asserted := [] }) (Claims.trailed tr (Claims.mailed s))) ≠ [] := by
      rwa [members_of_med (s := s) (by rw [onSec_med, trailed_mailed_med])]
    have harea' : (onSec (fun x => { x with asserted := [] }) (Claims.trailed tr (Claims.mailed s))).sec.area = some a := by
      rw [onSec_sec, trailed_mailed_sec, ← harea]
    refine ⟨fun hkey => ?_, fun hkey => ⟨_, hexec, ?_⟩⟩
    · rw [hexec, unlockWith_of_match hmembers' harea' hkey]
    · rw [unlockWith_of_mismatch hmembers' harea' hkey, escrowMismatch_sec, escrowMismatch_nv]
      simp only [onSec_sec, onSec_mgt, onSec_tb, trailed_mailed_sec, trailed_mailed_mgt, trailed_mailed_tb, and_self]
  · change execEscrowWaitExpire s = _
    rw [execEscrowWaitExpire, if_pos hwait, until_, Nat.max_eq_right hwait.le]

/-- Settles O40: the escrow by whether the key is the one recorded, the session's commands by whether the trailer authenticates. -/
theorem keysAndSessions : Obligations.KeysAndSessions := ⟨keyEscrow, sessionCommands⟩

end Sys2Proof.Machine
